-- ==== Sys2Proof/Word.lean ====
section
/-! DEFINITION. The word types of the device: bytes, 32-bit register words (R536) and 64-bit packet words (R323). Fields are
read out of them as natural numbers (Machine/Bits.lean). -/

namespace Sys2Proof

/-- A byte of memory or of a payload. -/
abbrev Byte := BitVec 8

/-- A register word (R536). -/
abbrev Word := BitVec 32

/-- A header word of a packet, or a 64-bit register (R323, R537). -/
abbrev DWord := BitVec 64

end Sys2Proof
end

