-- ==== Sys2Proof/Syntax.lean ====
section
/-! DEFINITION. The commands the block takes: packets that arrive on its ports, register writes on its three paths, CXL
requests and mailbox commands, sideband messages, pin events and the expiries and completions that the table of operations
lists as steps. One constructor of Instr per row of spec/opcode_table.json. The table gives no operand bits; the operands
are the packet, register and reading definitions of the rules (log entry 1). -/

namespace Sys2Proof

/-- A Swiette packet: the four header words of R323, the payload and, where STREAM_EN is 1, the 16-byte stream tag. -/
structure Packet where
  route : DWord
  xact : DWord
  addr : DWord
  op : DWord
  payload : List Byte
  tag : List Byte
  deriving DecidableEq, Repr

/-- The path a register access comes by (R528): CXL MMIO of the manager's logical device; an MGT packet with its SRC, its
SUBSCRIBER, its arrival port, whether it came by the chain relay (DEST 0xFFE); the firmware's internal port. -/
inductive Path where
  | mmio
  | mgt (node sub port : Nat) (relay : Bool)
  | fw
  deriving DecidableEq, Repr

/-- A CXL.mem request (R233, R513): logical device, host DPA, the MetaField/MetaValue state, byte enables of a partial
write, data, host tag. -/
structure CxlMem where
  ld : Nat
  hpa : Nat
  meta0 : Bool
  metaValue : Nat
  snp : Nat
  tag : Nat
  partialWr : Bool
  enables : Nat
  data : List Byte
  deriving DecidableEq, Repr

/-- A host's back-invalidate response (R233). -/
inductive BiRsp where
  | rspI | rspS | rspE
  deriving DecidableEq, Repr

/-- A flit as received: its 256 bytes (R290). -/
structure Flit where
  bytes : List Byte
  deriving DecidableEq, Repr

/-- A link control block as received: its 256 bytes (R309). -/
structure Lcb where
  bytes : List Byte
  deriving DecidableEq, Repr

/-- An SPDM request (R461): its transport (0 MCTP over I3C, 1 CXL DOE), the secured session it came in once its record has
verified, the fields that follow its code, in the order of DSP0274 (log entry 21), a vendor-defined request as R470 lays it out,
the certificate chain its sender authenticates with (empty without mutual authentication). -/
structure SpdmMsg where
  via : Nat
  session : Option Nat
  bytes : List Byte
  chain : List Byte
  deriving DecidableEq, Repr

/-- What the board gives at a cold start: the straps (R563), what has been written to the serial flash from outside since the last
start (byte address, value), the stacks that do not complete initialisation (bit n: stack n, R281), and the CXL link's width,
speed and 68-byte flit mode where the link comes up (R497). -/
structure BoardInputs where
  chainHead : Bool
  chainPort : Nat
  testMode : Bool
  flash : List (Nat × Byte)
  badStacks : Nat
  cxl : Option (Nat × Nat × Bool)
  deriving DecidableEq, Repr

/-- A mailbox command (R514, R519): the logical device whose mailbox it came by (16: the FM-owned LD), its input fields as numbers in the
order of CXL 3.1, and its data bytes where it has some. -/
structure Mailbox where
  ld : Nat
  args : List Nat
  data : List Byte
  deriving DecidableEq, Repr

/-- An HDM decoder as a host programs it (R515 to R517): base and size in HPA space, interleave ways and granularity in bytes, the DPA
it begins at (DPA Skip included), BI (HDM-DB), lock on commit. -/
structure HdmDecoder where
  base : Nat
  size : Nat
  ways : Nat
  gran : Nat
  dpa : Nat
  bi : Bool
  lock : Bool
  deriving DecidableEq, Repr

/-- The commands of the block: one constructor per row of the table of operations and events, in the table's order. Each
docstring gives the row's mnemonic, its rule and its summary. -/
inductive Instr where
  /-- READ (R19): A READ request is admitted, translated and checked, and answered with RLEN bytes and the poison mask. -/
  | read (port : Nat) (p : Packet)
  /-- WRITE (R19): A WRITE request is admitted, translated and checked, and its payload is committed to the stack controller. -/
  | write (port : Nat) (p : Packet)
  /-- WRITE_MASKED (R19): A WRITE_MASKED request writes the enabled bytes of its data at OFFSET. -/
  | writeMasked (port : Nat) (p : Packet)
  /-- SEQ_GAP_TIMEOUT (R48): An ORDERED request's gap timer expires: missing numbers are declared lost, C advances and the ORDERED request is answered ABORTED. -/
  | seqGapTimeout (node seq : Nat)
  /-- SEQ_ENTRY_WINDOW_END (R45): GAP_TMO after a per-source entry started passes, and stragglers are no longer answered ABORTED. -/
  | seqEntryWindowEnd (node : Nat)
  /-- ORDERED_START (R46): A waiting ORDERED or overlapping request starts once every lower-numbered request it waits on has committed. -/
  | orderedStart (node seq : Nat)
  /-- PTN_ENTRY_WRITE (R21): A write to a partition entry register is accepted, validating or moving the entry, or rejected. -/
  | ptnEntryWrite (a : Path) (entry reg : Nat) (v : Word)
  /-- PTN_GNT_WRITE (R32): A write to a share grant is accepted or rejected under the grant conditions. -/
  | ptnGntWrite (a : Path) (k : Nat) (v : Word)
  /-- PTN_SUB_QSC_WRITE (R26): A write to PTN_SUB_QSC starts or ends the quiesce of subscribers. -/
  | ptnSubQscWrite (a : Path) (v : DWord)
  /-- QUIESCE_COMPLETE (R27): The last admitted request of a quiesced subscriber leaves the chip and its PTN_SUB_QSD bit becomes 1. -/
  | quiesceComplete (sub : Nat)
  /-- PTN_INIT (R30): A write to PTN_INIT starts a FILL of a whole partition entry, or is rejected. -/
  | ptnInit (a : Path) (v : Word)
  /-- PTN_INIT_DONE (R30): The PTN_INIT fill completes, INITIALISED is set and DONE is shown. -/
  | ptnInitDone
  /-- PTN_INIT_STOP (R30): A running PTN_INIT fill stops at its next chunk after its entry is moved, resized or freed, or a block reset, and STOPPED is set. -/
  | ptnInitStop
  /-- KW_LOAD (R60): KTU_KW_CMD.LOAD copies the selected keyway descriptor into KTU_KW_DATA0-7. -/
  | kwLoad (a : Path)
  /-- KW_STORE (R61): KTU_KW_CMD.STORE replaces the selected descriptor if accepted and cancels its running walks. -/
  | kwStore (a : Path)
  /-- KTU_LD_KEYWAY_WRITE (R63): A write changes the keyway binding of a CXL logical device if that device is quiesced. -/
  | ktuLdKeywayWrite (a : Path) (n : Nat) (v : Word)
  /-- WALK_FETCH_COMPLETE (R72): A walker read of the host range table returns, and the walk reads further, installs entries, or ends on a malformed or failed read. -/
  | walkFetchComplete (walk : Nat) (ok : Bool) (data : List Byte)
  /-- WALK_FETCH_TIMEOUT (R73): A walk read is unanswered for WALK_TMO, the walk ends and its waiting requests are answered RETRY. -/
  | walkFetchTimeout (walk : Nat)
  /-- MISS_DEQUEUE (R71): A queued miss resumes when its keyway's walk ends or a walk becomes free, and looks up the cache again. -/
  | missDequeue (miss : Nat)
  /-- CHUNK_TRANSLATE_RETRY (R68): A ward chunk whose translation stopped waits out its back-off and is translated again. -/
  | chunkTranslateRetry (op chunk : Nat)
  /-- CHUNK_TRANSLATE_ABORT (R68): A chunk's translations keep failing for 10 ms, and its operation ends ABORTED. -/
  | chunkTranslateAbort (op chunk : Nat)
  /-- KTU_INV_CMD (R74): A write to KTU_INV_CMD starts an invalidation of range-cache entries of the given scope. -/
  | ktuInvCmd (a : Path) (v : Word)
  /-- INV_DONE (R75): An invalidation's entries are removed and all work that translated through them has ended, so INV_DONE is reported and a NOTIFY is sent if started by MGT_WRITE. -/
  | invDone
  /-- FLT_RING_TAIL_WRITE (R84): A write to FLT_RING_TAIL advances the manager's read index or is rejected. -/
  | fltRingTailWrite (a : Path) (v : Word)
  /-- FLT_RING_CTRL_WRITE (R86): A write to FLT_RING_CTRL changes ENABLE or the ring size, resetting HEAD and TAIL, or is rejected. -/
  | fltRingCtrlWrite (a : Path) (v : Word)
  /-- FILL (R107): A FILL request is admitted to the dispatcher and sets its range to the repeated pattern. -/
  | fill (port : Nat) (p : Packet)
  /-- COPY (R108): A COPY request is admitted and copies its source range to its destination range on this chip. -/
  | copy (port : Nat) (p : Packet)
  /-- COPY_REMOTE (R109): A COPY_REMOTE request is admitted and copies its local source to another chip as WRITEs. -/
  | copyRemote (port : Nat) (p : Packet)
  /-- COMPARE (R113): A COMPARE request is admitted and compares two ranges or one range against a pattern. -/
  | compare (port : Nat) (p : Packet)
  /-- REDUCE (R115): A REDUCE request is admitted and reduces up to 16 source ranges into a destination. -/
  | reduce (port : Nat) (p : Packet)
  /-- GATHER_REDUCE (R116): A GATHER_REDUCE request is admitted and reduces indexed table rows into bags. -/
  | gatherReduce (port : Nat) (p : Packet)
  /-- ATOMIC (R119): An ATOMIC request applies its function to the target and returns the old value. -/
  | atomic (port : Nat) (p : Packet)
  /-- COL_REDUCE (R121): A COL_REDUCE request at the root starts a tree reduction over a multicast group. -/
  | colReduce (port : Nat) (p : Packet)
  /-- CHUNK_ISSUE (R90): The dispatcher issues a chunk of an admitted operation to its engines once latch wait, shaper and planner allow. -/
  | chunkIssue (op chunk engine : Nat)
  /-- CHUNK_COMPLETE (R90): A chunk finishes on its engines, and the operation completes, signals DONE_LATCH and answers if it was the last. -/
  | chunkComplete (op chunk : Nat)
  /-- REMOTE_WRITE_RESPONSE (R111): A response to a COPY_REMOTE WRITE arrives and the operation continues, resends, or ends. -/
  | remoteWriteResponse (port : Nat) (p : Packet)
  /-- REMOTE_WRITE_RESEND (R111): A remote WRITE answered RETRY is sent again as a new request after its back-off hint. -/
  | remoteWriteResend (op idx : Nat)
  /-- REMOTE_WRITE_TIMEOUT (R111): A remote WRITE is unanswered for 10 ms and the COPY_REMOTE ends ABORTED with REMOTE_FAIL. -/
  | remoteWriteTimeout (op idx : Nat)
  /-- COL_DESCRIPTOR (R122): A member receives a COL_REDUCE descriptor on the COL channels and reduces its own range. -/
  | colDescriptor (port : Nat) (p : Packet)
  /-- COL_PARTIAL (R122): A member receives FP32 partials from a child and merges them, forwarding or answering when complete. -/
  | colPartial (port : Nat) (p : Packet)
  /-- COL_TIMEOUT (R123): A parent has not heard from a child within COL_TMO and the COL_REDUCE ends ABORTED. -/
  | colTimeout (merge child : Nat)
  /-- WARD_WAIT_TIMEOUT (R124): A ward operation waiting on WAIT_LATCH reaches WAIT_TMO and ends ABORTED. -/
  | wardWaitTimeout (op : Nat)
  /-- QUANTUM_EXPIRY (R128): A context has held an engine for QUANTUM while another waits, so the engine finishes its chunk, clears scratch and switches context. -/
  | quantumExpiry (engine : Nat)
  /-- WRD_CTX_WRITE (R127): A write to WRD_CTX_n sets or clears a context, aborting its admitted operations when VALID is cleared. -/
  | wrdCtxWrite (a : Path) (n : Nat) (v : Word)
  /-- ENGINE_FAULT (R136): A ward engine leaves service on an internal error. -/
  | engineFault (engine : Nat)
  /-- KV_APPEND (R145): A KV_APPEND request quantises and writes new tokens into the layer's KV blocks. -/
  | kvAppend (port : Nat) (p : Packet)
  /-- ATTEND (R156): An ATTEND request streams the KV cache and returns one attention partial per query. -/
  | attend (port : Nat) (p : Packet)
  /-- ATTEND_MERGE_DESCEND (R169): A member receives an ATTEND_MERGE DESCEND, checks it and computes its own partial and forwards it down the tree. -/
  | attendMergeDescend (port : Nat) (p : Packet)
  /-- ATTEND_MERGE_PARTIAL (R168): A node receives a PARTIAL packet from a child and merges the child's partial when complete. -/
  | attendMergePartial (port : Nat) (p : Packet)
  /-- MERGE_TIMEOUT (R171): A node has not received a child's partial within COL_TMO and merges without it, STATUS ABORTED. -/
  | mergeTimeout (merge child : Nat)
  /-- LATCH_ADD (R185): A LATCH_ADD is applied in order after its segment, then waiters are examined and released. -/
  | latchAdd (port : Nat) (p : Packet)
  /-- LATCH_SUB (R189): A LATCH_SUB lowers the count or is refused below zero. -/
  | latchSub (port : Nat) (p : Packet)
  /-- LATCH_WAIT (R190): A LATCH_WAIT is satisfied on arrival or parks in the wait table. -/
  | latchWait (port : Nat) (p : Packet)
  /-- LATCH_READ (R184): A LATCH_READ returns the current count. -/
  | latchRead (port : Nat) (p : Packet)
  /-- LATCH_SET (R182): A LATCH_SET from the manager node sets the count and examines waiters. -/
  | latchSet (port : Nat) (p : Packet)
  /-- LATCH_WAIT_TIMEOUT (R193): A parked LATCH_WAIT reaches its timeout and is answered TIMEOUT. -/
  | latchWaitTimeout (wait : Nat)
  /-- DEADLOCK_TEST (R197): Every 100 us the deadlock detector tests its three conditions and raises DEADLOCK with a snapshot when all hold. -/
  | deadlockTest
  /-- LCH_ACC_READ (R200): LCH_ACC_CMD.READ copies the selected latch count into LCH_ACC_VALUE. -/
  | lchAccRead (a : Path)
  /-- LCH_ACC_SET (R200): LCH_ACC_CMD.SET sets the selected latch count as a LATCH_SET. -/
  | lchAccSet (a : Path)
  /-- SNAPSHOT_RELEASE (R198): Writing 1 to LCH_DL_STAT.SNAP_VALID releases the deadlock snapshot. -/
  | snapshotRelease (a : Path)
  /-- LCH_GRP_WRITE (R180): A write to a latch group sets or changes it, and clearing VALID zeroes its counts and aborts its waits. -/
  | lchGrpWrite (a : Path) (off : Nat) (v : Word)
  /-- RD_SHARED (R217): An agent's RD_SHARED is served by the home with snoops as the directory state requires. -/
  | rdShared (port : Nat) (p : Packet)
  /-- RD_OWN (R217): An agent's RD_OWN obtains the line exclusively, invalidating other holders. -/
  | rdOwn (port : Nat) (p : Packet)
  /-- UPGRADE (R217): An UPGRADE from an S or F holder obtains ownership, or is served as RD_OWN. -/
  | upgrade (port : Nat) (p : Packet)
  /-- RD_CUR (R217): An RD_CUR returns a current snapshot of the line without caching it. -/
  | rdCur (port : Nat) (p : Packet)
  /-- WB_DIRTY (R220): A WB_DIRTY writes back an M line and frees its entry, or completes a crossed snoop. -/
  | wbDirty (port : Nat) (p : Packet)
  /-- EVICT_CLEAN (R217): An EVICT_CLEAN removes the sender from the line's directory entry. -/
  | evictClean (port : Nat) (p : Packet)
  /-- SNOOP_RESPONSE (R213): A snoop response arrives at the home, which writes dirty data and completes the transaction or victim eviction when all are in. -/
  | snoopResponse (port : Nat) (p : Packet)
  /-- COMP_ACK (R219): A COMP_ACK arrives, the entry is unpinned and pending requests for the line are served. -/
  | compAck (port : Nat) (p : Packet)
  /-- SNOOP_TIMEOUT (R223): A snoop is unanswered for SNP_TMO and is recorded while the home keeps waiting. -/
  | snoopTimeout (line agent : Nat)
  /-- DIR_AGENT_WRITE (R204): A write to an agent slot sets or changes it, or is rejected while the directory names the agent. -/
  | dirAgentWrite (a : Path) (slot : Nat) (v : Word)
  /-- DIR_FENCE (R228): DIR_FENCE_CMD with GO fences an agent and starts the fence walk that poisons and releases its lines. -/
  | dirFence (a : Path) (agent : Nat)
  /-- DIR_FENCE_DONE (R228): The fence walk ends, DONE and FENCE_DONE are set and LINES_POISONED is recorded. -/
  | dirFenceDone (agent : Nat)
  /-- DIR_UNFENCE (R230): DIR_FENCE_CMD with UNFENCE lifts an agent's fence, after any running walk ends. -/
  | dirUnfence (a : Path) (agent : Nat)
  /-- DIR_FLUSH (R231): DIR_FLUSH_CMD.GO starts recalling every line held in a PPA range. -/
  | dirFlush (a : Path)
  /-- DIR_FLUSH_DONE (R231): The last line of a flush is freed and FLUSH_DONE is set. -/
  | dirFlushDone
  /-- CXL_MEM_RD (R233): A CXL MemRd is served as a plain read or as RD_SHARED, RD_OWN or RD_CUR by its MetaValue. -/
  | cxlMemRd (r : CxlMem)
  /-- CXL_MEM_RD_DATA (R233): A CXL MemRdData is served as RD_SHARED with grant A or S. -/
  | cxlMemRdData (r : CxlMem)
  /-- CXL_MEM_INV (R233): A CXL MemInv is served as UPGRADE or EVICT_CLEAN by its MetaValue. -/
  | cxlMemInv (r : CxlMem)
  /-- CXL_MEM_WR (R233): A CXL MemWr or MemWrPtl is served as a plain write or a WB_DIRTY. -/
  | cxlMemWr (r : CxlMem)
  /-- CXL_BI_RSP (R233): A host's back-invalidate response arrives and is taken as the matching snoop response. -/
  | cxlBiRsp (ld : Nat) (line : Nat) (rsp : BiRsp)
  /-- CXL_BI_CONFLICT (R233): A host's BIConflict is answered with BIConflictAck. -/
  | cxlBiConflict (ld : Nat) (line : Nat)
  /-- CXL_HOLD_RELEASE (R366): A held CXL request is released when both peak buckets of its logical device leave deficit. -/
  | cxlHoldRelease (ld : Nat)
  /-- SC_CH_QSC_WRITE (R244): A write to SC_CH_QSC quiesces or releases stack channels. -/
  | scChQscWrite (a : Path) (stack : Nat) (v : Word)
  /-- CHANNEL_QUIESCE_DONE (R244): A quiesced channel becomes idle and its SC_CH_QSD bit reads 1. -/
  | channelQuiesceDone (stack ch : Nat)
  /-- SC_TIMING_WRITE (R243): A write to SC_DLY or SC_TIM registers is accepted only while the channels are quiesced. -/
  | scTimingWrite (a : Path) (stack off : Nat) (v : Word)
  /-- ARBITER_GRANT (R255): Each cycle the stack-gate arbiter grants one eligible access by lottery or by starvation rule. -/
  | arbiterGrant (stack : Nat)
  /-- SECTOR_COMMAND_ISSUE (R247): The stack controller issues the next sector read or write command to a pseudo-channel. -/
  | sectorCommandIssue (stack ch pc : Nat)
  /-- REFRESH_DUE (R260): A bank's per-bank refresh interval expires and its refresh is issued or postponed. -/
  | refreshDue (stack ch pc bank : Nat)
  /-- SECTOR_READ_COMPLETE (R267): A sector read returns and is decoded as CLEAN, CORRECTED, POISONED or UNCORRECTABLE and handled. -/
  | sectorReadComplete (requester ppa : Nat) (flips : List (Nat × Nat))
  /-- SCRUB_READ (R270): The scrubber reads the next sector of an initialised partition or spare in use. -/
  | scrubRead (stack : Nat)
  /-- CE_BUCKET_LEAK (R274): The correctable-error leaky bucket loses LEAK counts each second. -/
  | ceBucketLeak (stack : Nat)
  /-- RETIREMENT_COPY_DONE (R277): The spare's sectors have committed, the remap is installed, the lock released and BLOCK_RETIRED recorded. -/
  | retirementCopyDone (stack granule : Nat)
  /-- RETIREMENT_LOG (R280): Firmware appends a retirement to the flash log area. -/
  | retirementLog (stack granule : Nat)
  /-- SC_OFFLINE (R281): A write of SC_CTRL.OFFLINE fails the stack. -/
  | scOffline (a : Path) (stack : Nat) (v : Word)
  /-- STACK_FAULT (R281): A stack reports an internal failure or stops answering, and enters FAILED. -/
  | stackFault (stack : Nat)
  /-- STACK_TEMP_SAMPLE (R284): Every 100 us the controller reads its stack temperature and sets or clears HOT. -/
  | stackTempSample (stack temp : Nat)
  /-- FLIT_SLOT (R289): A flit slot comes due on a port and a flit, idle flit, replayed flit or link control block is sent. -/
  | flitSlot (port : Nat)
  /-- FLIT_RECEIVE (R295): A flit arrives and is classified good, gap, duplicate or bad, and its trailer is processed. -/
  | flitReceive (port : Nat) (f : Flit)
  /-- REPLAY_TIMEOUT (R298): No acknowledgement advances for REPLAY_TMO and the sender replays from the oldest unacknowledged flit. -/
  | replayTimeout (port : Nat)
  /-- HELLO (R309): A HELLO message is received in a link control block during bring-up. -/
  | hello (port : Nat) (f : Lcb)
  /-- IDENTITY (R466): A piece of the peer's certificate chain is received in an IDENTITY message. -/
  | identity (port : Nat) (f : Lcb)
  /-- KEY_SHARE (R466): A peer's signed X25519 key share is received and verified. -/
  | keyShare (port : Nat) (f : Lcb)
  /-- KEY_CONFIRM (R467): A peer's key confirmation is received and checked, completing authentication. -/
  | keyConfirm (port : Nat) (f : Lcb)
  /-- RETRAIN (R312): A RETRAIN message is received and the port retrains to the negotiated width and speed. -/
  | retrain (port : Nat) (f : Lcb)
  /-- REKEY_SHARE (R317): A peer's rekey share is received under the current key phase. -/
  | rekeyShare (port : Nat) (f : Lcb)
  /-- REKEY_CONFIRM (R317): A peer's rekey confirmation is received and the key phase flips. -/
  | rekeyConfirm (port : Nat) (f : Lcb)
  /-- SWP_RETRAIN_WRITE (R310): A write of SWP_CTRL.RETRAIN or a change of TGT_WIDTH or TGT_SPEED starts a retrain. -/
  | swpRetrainWrite (a : Path) (port : Nat) (v : Word)
  /-- RETRAIN_COMPLETE (R312): The retraining lanes reach ACTIVE and replay resumes from the peer's E. Width and speed are the codes of
  SWP_STAT (R321). -/
  | retrainComplete (port width speed : Nat)
  /-- RETRAIN_TIMEOUT (R312): A retrain does not reach ACTIVE within 20 us and is tried again, or the port goes DOWN. -/
  | retrainTimeout (port : Nat)
  /-- BRINGUP_ATTEMPT (R320): The bring-up interval of a DOWN port elapses and, with a signal on the lanes, training starts. -/
  | bringupAttempt (port : Nat)
  /-- LANES_TRAINED (R320): Lanes train and HELLOs are exchanged, and the port moves to AUTH. Width and speed are the codes of
  SWP_STAT (R321). -/
  | lanesTrained (port width speed : Nat)
  /-- TRAINING_TIMEOUT (R320): No lane trains within 2 ms and the port returns to DOWN. -/
  | trainingTimeout (port : Nat)
  /-- AUTH_TIMEOUT (R320): Authentication does not complete within 5 ms and the port goes DOWN with AUTH_FAIL. -/
  | authTimeout (port : Nat)
  /-- REKEY_START (R317): A direction reaches REKEY_S seconds or 2^32 packets under its key and a rekey begins. -/
  | rekeyStart (port : Nat)
  /-- REKEY_TIMEOUT (R319): A rekey has not completed 100 ms after it started, REKEY_FAIL is recorded and it restarts. -/
  | rekeyTimeout (port : Nat)
  /-- TRANSIT_FORWARD (R340): A packet not for this chip is checked and forwarded from ingress to egress, or dropped. -/
  | transitForward (port : Nat) (p : Packet)
  /-- ROUTE_UPDATE (R338): A ROUTE_UPDATE packet invalidates, writes, commits and flips a route table version. -/
  | routeUpdate (port : Nat) (p : Packet)
  /-- RTB_COMMIT (R336): RTB_TBL_CMD.COMMIT checks a route table version and validates it or records ROUTE_REJECT. -/
  | rtbCommit (a : Path) (version : Nat)
  /-- RTB_INVALIDATE (R337): RTB_TBL_CMD.INVALIDATE invalidates a route table version if it is drained. -/
  | rtbInvalidate (a : Path) (version : Nat)
  /-- RTB_FLIP (R337): RTB_TBL_CMD.FLIP sets INJ_EPOCH to a valid version. -/
  | rtbFlip (a : Path) (version : Nat)
  /-- RTB_MC_WRITE (R344): A write to a multicast group entry sets it VALID or is rejected with MC_REJECT. -/
  | rtbMcWrite (a : Path) (off : Nat) (v : Word)
  /-- FENCE (R349): A FENCE packet or RTB_FENCE_CMD fences a node: its packets are dropped, its entry emptied and its agents fenced. -/
  | fence (port : Nat) (p : Packet)
  /-- UNFENCE (R350): A FENCE with UNFENCE or RTB_FENCE_CMD UNFENCE lifts a node's fence. -/
  | unfence (port : Nat) (p : Packet)
  /-- ENUM_START (R352): RTB_ENUM_CTRL.START makes the chain head start enumeration. -/
  | enumStart (a : Path)
  /-- ENUM_ASSIGN (R352): An ENUM ASSIGN is received: a unit without an ID takes it and forwards, or a unit with one answers or reports CONFLICT. -/
  | enumAssign (port : Nat) (p : Packet)
  /-- ENUM_ASSIGN_RESPONSE (R352): A downstream ASSIGN response arrives and the unit answers upstream with LAST_ID. -/
  | enumAssignResponse (port : Nat) (p : Packet)
  /-- ENUM_PORT_TIMEOUT (R352): The chain port does not become ACTIVE within 100 ms and the unit answers with its own ID as DONE. -/
  | enumPortTimeout
  /-- RTB_NODE_WRITE (R354): A write to RTB_NODE sets the node ID or pair ID, or is rejected. -/
  | rtbNodeWrite (a : Path) (v : Word)
  /-- TIME_REQ_DUE (R356): Every 1 ms a non-head unit sends a TIME_REQ upstream. -/
  | timeReqDue
  /-- TIME_REQ (R356): A TIME_REQ from downstream is answered with t2 and t3. -/
  | timeReq (port : Nat) (p : Packet)
  /-- TIME_REQ_RESPONSE (R356): A TIME_REQ response arrives and the unit corrects pool time by step or rate. -/
  | timeReqResponse (port : Nat) (p : Packet)
  /-- RTB_TIME_SET (R355): A write of RTB_TIME_SET on the chain head sets pool time. -/
  | rtbTimeSet (a : Path) (v : DWord)
  /-- MGT_READ (R532): An MGT_READ returns RLEN bytes of the management space. -/
  | mgtRead (port : Nat) (p : Packet)
  /-- MGT_WRITE (R534): An MGT_WRITE applies its words in ascending order with the packet's privilege. -/
  | mgtWrite (port : Nat) (p : Packet)
  /-- REGISTER_WRITE (R529): A write to a register without a row of its own is checked for privilege and applied, ignored or treated as a violation. -/
  | registerWrite (a : Path) (off : Nat) (data : List Byte)
  /-- BUCKET_REFILL (R362): Every 64 ns each subscriber bucket is refilled at its rate up to its burst. -/
  | bucketRefill
  /-- CALENDAR_SLOT (R368): The calendar wheel reaches a 64 ns slot and makes its class queues eligible. -/
  | calendarSlot (port : Nat)
  /-- CONGESTION_SAMPLE (R370): Every 1 us the shaper computes each port's congestion value. -/
  | congestionSample
  /-- HISTOGRAM_SAMPLE (R374): Every 1 us the shaper samples queue depths and delays into histogram bins. -/
  | histogramSample
  /-- TSH_HIST_CLEAR (R374): TSH_HIST_CTRL.CLEAR sets every histogram bin to zero. -/
  | tshHistClear (a : Path)
  /-- METER_UPDATE (R378): Every 1 us each energy meter integrates its island's power, and a faulty meter is detected. -/
  | meterUpdate (meter uj : Nat) (faulty : Bool)
  /-- PLAN_INTERVAL_BOUNDARY (R384): At each 1 ms pool-time boundary the planner applies the plan, publishes EP, derates and accounts energy. -/
  | planIntervalBoundary
  /-- PLAN_SUBSLOT (R387): Every 10 us the next sub-slot of each allowance opens with the carry of the last. -/
  | planSubslot
  /-- PLAN_STALE (R391): PLAN_TMO intervals pass without a new plan and the ward allowance is cut to fit 250 W. -/
  | planStale
  /-- SET_POWER_LIMIT (R567): A sideband SET_POWER_LIMIT message writes EPL_SB_LIMIT. -/
  | setPowerLimit (mw : Nat)
  /-- GET_POWER (R567): A sideband GET_POWER message returns budget, power, derating and temperatures. -/
  | getPower
  /-- GET_LAST_FATAL (R567): A sideband GET_LAST_FATAL message returns GLB_LAST_FATAL. -/
  | getLastFatal
  /-- PAIR_EN_WRITE (R398): A write of HPS_CTRL.PAIR_EN forms or leaves a pair, or is rejected. -/
  | pairEnWrite (a : Path) (v : Word)
  /-- BEAT_SEND (R404): Every HB_US a member sends a BEAT to its partner. -/
  | beatSend
  /-- BEAT (R414): A BEAT from the partner is received, updating partner state and continuation. -/
  | beat (port : Nat) (p : Packet)
  /-- EPOCH_CLOSE (R405): An epoch's length elapses and the active ends it with EPOCH_END. -/
  | epochClose
  /-- JOURNAL (R407): A JOURNAL packet reaches the standby, which applies each complete epoch and acknowledges it. -/
  | journal (port : Nat) (p : Packet)
  /-- JRNL_ACK (R408): A JRNL_ACK reaches the active and releases the responses waiting on that epoch. -/
  | jrnlAck (port : Nat) (p : Packet)
  /-- RESYNC_REQ (R424): A RESYNC_REQ reaches the active, which starts a delta or full resync or sends one granule. -/
  | resyncReq (port : Nat) (p : Packet)
  /-- RESYNC_DATA (R424): A RESYNC_DATA granule reaches the stale member and is written to its replica. -/
  | resyncData (port : Nat) (p : Packet)
  /-- LEASE_RENEW (R412): Every 250 us the holder sends LEASE_REQ to the witness. -/
  | leaseRenew
  /-- LEASE_REQ (R412): The witness receives a LEASE_REQ and extends, grants, delays or refuses. -/
  | leaseReq (port : Nat) (p : Packet)
  /-- WITNESS_GRANT_DUE (R412): A deferred request's wait ends at the witness, which increments the generation and grants. -/
  | witnessGrantDue (pair : Nat)
  /-- LEASE_GRANT (R416): A member receives LEASE_GRANT, renewing its lease or entering TAKEOVER. -/
  | leaseGrant (port : Nat) (p : Packet)
  /-- LEASE_REFUSE (R412): A member receives LEASE_REFUSE and records it, going stale where R423 says. -/
  | leaseRefuse (port : Nat) (p : Packet)
  /-- LEASE_RELEASE (R412): The witness receives LEASE_RELEASE from the holder and records no holder. -/
  | leaseRelease (port : Nat) (p : Packet)
  /-- LEASE_EXPIRY (R414): A holder's lease reckoning ends without continuation and it yields the pair ID. -/
  | leaseExpiry
  /-- PARTNER_LOST (R415): MISS consecutive BEATs are missed and the member declares its partner lost. -/
  | partnerLost
  /-- TAKEOVER_COMPLETE (R416): Takeover steps 1-4 are done, held packets are released and the member is ACTIVE_SOLO. -/
  | takeoverComplete
  /-- TAKEOVER_WINDOW_END (R417): 10 ms after a takeover, the gap rule stops applying to unordered requests. -/
  | takeoverWindowEnd
  /-- HOLD_DROP (R415): A pair-ID packet held at the standby for HOLD_MS is dropped. -/
  | holdDrop (idx : Nat)
  /-- PAIR_STATUS_SEND (R404): Every STATUS_MS the active sends PAIR_STATUS to the manager node. -/
  | pairStatusSend
  /-- HPS_SWITCH (R419): HPS_CTRL.SWITCH starts a planned switch-over on the active. -/
  | hpsSwitch (a : Path)
  /-- SWITCH_DRAIN_END (R419): The 1 ms drain of a planned switch-over ends and remaining operations are aborted and the epoch closed. -/
  | switchDrainEnd
  /-- JOINING_RETRY (R427): A JOINING member sends LEASE_REQ again every 1 ms. -/
  | joiningRetry
  /-- ESCALATION_WINDOW_CLOSE (R433): A source's counting window closes and its count returns to 0. -/
  | escalationWindowClose (source : Nat)
  /-- FLT_ACK (R435): A write of FLT_ACK frees the matching escalation store entries. -/
  | fltAck (a : Path) (v : Word)
  /-- NOTIFY_DEPART (R438): A queued NOTIFY leaves once a route and VC6 credit exist. -/
  | notifyDepart
  /-- FATAL_RELEASE (R439): Writing 1 to GLB EVT_STAT.FATAL releases ALERT_N. -/
  | fatalRelease (a : Path)
  /-- HALT_CONTINUE (R442): Once the fatal messages have left or 100 us passed, the halt takes ports down and places stacks in self-refresh. -/
  | haltContinue
  /-- GLB_LAST_FATAL_CLEAR (R443): Writing 1 to GLB_LAST_FATAL_V.VALID clears the stored fatal record. -/
  | glbLastFatalClear (a : Path)
  /-- GLB_CNT_CLR (R444): A write of GLB_CNT_CLR.GO clears the counters of one page or all pages. -/
  | glbCntClr (a : Path) (v : Word)
  /-- GLB_RST_WARM (R446): A write of GLB_RST with key 0xA5 and WARM starts a warm reset. -/
  | glbRstWarm (a : Path)
  /-- GLB_RST_COLD (R446): A write of GLB_RST with key 0xA5 and COLD starts a cold reset. -/
  | glbRstCold (a : Path)
  /-- WARM_RESET (R447): A warm reset stops admission, aborts operations, drains and places stacks in self-refresh, and resets the logic. -/
  | warmReset
  /-- WARM_START_COMPLETE (R447): Firmware restarts, brings the stacks out of self-refresh and the chip reports READY. -/
  | warmStartComplete
  /-- COH_RESUME (R448): A write of GLB_CTRL.COH_RESUME clears COH_HELD. -/
  | cohResume (a : Path)
  /-- BLK_SOFT_RESET (R446): A write of BLK_CTRL.SOFT_RESET starts a block reset of that page. -/
  | blkSoftReset (a : Path) (page : Nat)
  /-- BLOCK_RESET_DONE (R549): A block reset completes and SOFT_RESET clears. -/
  | blockResetDone (page : Nat)
  /-- BLK_ENABLE_WRITE (R546): A write of BLK_CTRL.ENABLE disables or enables an SWP, HNG or WE page. -/
  | blkEnableWrite (a : Path) (page : Nat) (on : Bool)
  /-- BLK_FREEZE_WRITE (R547): A write of BLK_CTRL.FREEZE takes or drops a counter snapshot. -/
  | blkFreezeWrite (a : Path) (page : Nat) (on : Bool)
  /-- FTM_INJECT (R451): FTM_INJ_CMD.GO injects a record, poison, symbol error or flit error in factory test mode. -/
  | ftmInject (a : Path)
  /-- VALIDATE_TOKEN (R480): KPR_CMD VALIDATE_TOKEN validates a token in KPR_BUF and unlocks debug or factory mode. -/
  | validateToken (a : Path)
  /-- KEEPER_TOKEN (R478): The KEEPER_TOKEN debug instruction shifts a token into the Keeper for validation. -/
  | keeperToken (token : List Byte)
  /-- ADVANCE_SVN (R465): KPR_CMD ADVANCE_SVN raises the fused security versions to the running images. -/
  | advanceSvn (a : Path)
  /-- REVOKE_SLOT (R464): KPR_CMD REVOKE_SLOT blows a vendor key slot's revoke fuse, or is refused. -/
  | revokeSlot (a : Path) (arg : Nat)
  /-- STREAM_RETIRE (R474): KPR_CMD STREAM_RETIRE destroys one context's stream keys and aborts its operations. -/
  | streamRetire (a : Path) (arg : Nat)
  /-- STREAM_RETIRE_SUB (R474): KPR_CMD STREAM_RETIRE_SUB retires the streams of every context of a subscriber. -/
  | streamRetireSub (a : Path) (arg : Nat)
  /-- STREAM_RETIRE_DONE (R474): A stream retirement completes and KPR_STRM_STAT ACTIVE clears. -/
  | streamRetireDone (ctx : Nat)
  /-- ANCHOR_SET (R468): KPR_CMD ANCHOR_SET installs a trust anchor digest. -/
  | anchorSet (a : Path) (arg : Nat)
  /-- ANCHOR_CLEAR (R468): KPR_CMD ANCHOR_CLEAR removes a trust anchor. -/
  | anchorClear (a : Path) (arg : Nat)
  /-- NEW_CHALLENGE (R480): KPR_CMD NEW_CHALLENGE replaces KPR_CHALLENGE with a new random value. -/
  | newChallenge (a : Path)
  /-- SPDM_GET_VERSION (R461): The Keeper answers SPDM GET_VERSION. -/
  | spdmGetVersion (m : SpdmMsg)
  /-- SPDM_GET_CAPABILITIES (R461): The Keeper answers SPDM GET_CAPABILITIES. -/
  | spdmGetCapabilities (m : SpdmMsg)
  /-- SPDM_NEGOTIATE_ALGORITHMS (R461): The Keeper answers SPDM NEGOTIATE_ALGORITHMS. -/
  | spdmNegotiateAlgorithms (m : SpdmMsg)
  /-- SPDM_GET_DIGESTS (R461): The Keeper answers SPDM GET_DIGESTS. -/
  | spdmGetDigests (m : SpdmMsg)
  /-- SPDM_GET_CERTIFICATE (R458): The Keeper returns its slot 0 certificate chain. -/
  | spdmGetCertificate (m : SpdmMsg)
  /-- SPDM_CHALLENGE (R461): The Keeper answers SPDM CHALLENGE with an Alias signature. -/
  | spdmChallenge (m : SpdmMsg)
  /-- SPDM_GET_MEASUREMENTS (R459): The Keeper reports its measurement blocks. -/
  | spdmGetMeasurements (m : SpdmMsg)
  /-- SPDM_KEY_EXCHANGE (R461): The Keeper starts a secured session or answers SessionLimitExceeded. -/
  | spdmKeyExchange (m : SpdmMsg)
  /-- SPDM_FINISH (R461): The Keeper completes a session's handshake on FINISH. -/
  | spdmFinish (m : SpdmMsg)
  /-- SPDM_KEY_UPDATE (R461): The Keeper updates a session's keys. -/
  | spdmKeyUpdate (m : SpdmMsg)
  /-- SPDM_HEARTBEAT (R461): The Keeper answers an SPDM session HEARTBEAT. -/
  | spdmHeartbeat (m : SpdmMsg)
  /-- SPDM_END_SESSION (R461): The Keeper closes an SPDM session. -/
  | spdmEndSession (m : SpdmMsg)
  /-- STREAM_SETUP (R470): A vendor-defined SETUP request inside a mutually authenticated session derives a context stream's keys. -/
  | streamSetup (m : SpdmMsg)
  /-- STREAM_RETIRE_REQUEST (R470): A vendor-defined RETIRE request inside an SPDM session retires a context stream. -/
  | streamRetireRequest (m : SpdmMsg)
  /-- RNG_FAIL (R481): A random-source health test fails and the Keeper stops making keys. -/
  | rngFail
  /-- RNG_RECOVER (R481): The health tests pass for 1 ms and the Keeper resumes making keys. -/
  | rngRecover
  /-- PWR_GOOD_RISE (R497): PWR_GOOD rises and a cold start runs through to READY. -/
  | pwrGoodRise (b : BoardInputs)
  /-- PWR_GOOD_FALL (R560): PWR_GOOD falls and the device stops admission, idles SerDes and stops flash writes. -/
  | pwrGoodFall
  /-- RESET_N (R562): RESET_N held low starts a cold reset. -/
  | resetN
  /-- WARM_RESET_N (R564): A falling edge and low on WARM_RESET_N starts a warm reset. -/
  | warmResetN
  /-- WARM_RESET_N_RISE (R564): WARM_RESET_N rises and a warm reset waiting at step 5 resumes. -/
  | warmResetNRise
  /-- THERMTRIP (R571): A sensor reaches its trip limit, THERMTRIP_N is latched low and clocks stop. -/
  | thermtrip
  /-- REFCLK_LOST (R561): A reference clock stops while PWR_GOOD is high, a FATAL fault. -/
  | refclkLost
  /-- CONTROLLER_TEMP_SAMPLE (R569): Every 100 us the thermal monitor reads the controller sensors. -/
  | controllerTempSample (readings : List Nat)
  /-- SETTINGS_SAVE (R494): GLB_SET_CMD.SAVE writes current settings into the unused settings record. -/
  | settingsSave (a : Path)
  /-- SETTINGS_ERASE (R494): GLB_SET_CMD.ERASE erases both settings records. -/
  | settingsErase (a : Path)
  /-- SETTINGS_SAVE_DONE (R494): The settings flash write and read-back end, showing DONE or counting a flash error. -/
  | settingsSaveDone (ok : Bool)
  /-- LOG_SELECT (R496): A write of GLB_LOG_SEL fetches a flash log entry into GLB_LOG_DATA. -/
  | logSelect (a : Path) (v : Word)
  /-- FW_CHUNK (R502): An FW_CHUNK writes part of an image to staging, or is refused. -/
  | fwChunk (port : Nat) (p : Packet)
  /-- IMAGE_VERIFY_DONE (R502): The Keeper finishes verifying the staged image and staging becomes STAGED or IDLE. -/
  | imageVerifyDone
  /-- FW_FORWARD_RESPONSE (R503): A downstream unit answers a forwarded chunk and forwarding continues or resends. -/
  | fwForwardResponse (port : Nat) (p : Packet)
  /-- FW_FORWARD_TIMEOUT (R503): A forwarded chunk is unanswered for 100 ms and forwarding stops with FWD_FAIL. -/
  | fwForwardTimeout
  /-- FW_ACTIVATE (R504): GLB_FW_CTRL.ACTIVATE or Activate FW checks compatibility and starts activation, or refuses it. -/
  | fwActivate (a : Path)
  /-- COMPAT_UNCHECKED (R504): A neighbour does not answer the version read within 1 ms and is not checked. -/
  | compatUnchecked
  /-- ACTIVATION_PRELOAD_DONE (R506): The staged image is in the carve-out and checked, so the loader pauses Vorer and starts the new image in TRIAL. -/
  | activationPreloadDone
  /-- FW_CONFIRM (R506): A write of GLB_FW_CTRL.CONFIRM gives the manager's confirmation. -/
  | fwConfirm (a : Path)
  /-- HEALTH_CONFIRMED (R506): The new image confirms its health and starts the commit copy. -/
  | healthConfirmed
  /-- HEALTH_TIMEOUT (R507): Confirmation has not come within HEALTH_S and the loader falls back to the old image. -/
  | healthTimeout
  /-- COMMIT_COPY_DONE (R506): The copy of staging to the image slot ends, verified or failed. -/
  | commitCopyDone (ok : Bool)
  /-- FW_RAISE (R508): A write of GLB_FW_CTRL.RAISE narrows the version ranges to CUR, or is rejected. -/
  | fwRaise (a : Path)
  /-- GET_LD_INFO (R514): The FM-owned LD answers Get LD Info. -/
  | getLdInfo (m : Mailbox)
  /-- GET_LD_ALLOCATIONS (R514): The FM-owned LD reports the LD ranges last set. -/
  | getLdAllocations (m : Mailbox)
  /-- SET_LD_ALLOCATIONS (R514): The FM-owned LD sets the capacity each LD reports. -/
  | setLdAllocations (m : Mailbox)
  /-- GET_QOS_CONTROL (R514): The FM-owned LD answers Get QoS Control. -/
  | getQosControl (m : Mailbox)
  /-- SET_QOS_CONTROL (R514): The FM-owned LD applies Set QoS Control, refusing threshold changes. -/
  | setQosControl (m : Mailbox)
  /-- GET_QOS_STATUS (R514): The FM-owned LD answers Get QoS Status. -/
  | getQosStatus (m : Mailbox)
  /-- GET_QOS_ALLOCATED_BW (R514): The FM-owned LD reports 0xFF allocated bandwidth for every LD. -/
  | getQosAllocatedBw (m : Mailbox)
  /-- SET_QOS_ALLOCATED_BW (R514): The FM-owned LD answers Set QoS Allocated BW Unsupported. -/
  | setQosAllocatedBw (m : Mailbox)
  /-- GET_QOS_BW_LIMIT (R514): The FM-owned LD reports 0xFF bandwidth limit for every LD. -/
  | getQosBwLimit (m : Mailbox)
  /-- SET_QOS_BW_LIMIT (R514): The FM-owned LD answers Set QoS BW Limit Unsupported. -/
  | setQosBwLimit (m : Mailbox)
  /-- IDENTIFY (R519): The mailbox answers Identify. -/
  | identify (m : Mailbox)
  /-- BACKGROUND_OPERATION_STATUS (R519): The mailbox reports background operation status. -/
  | backgroundOperationStatus (m : Mailbox)
  /-- GET_EVENT_RECORDS (R521): The mailbox returns records from an LD event log. -/
  | getEventRecords (m : Mailbox)
  /-- CLEAR_EVENT_RECORDS (R521): The mailbox clears records from an LD event log. -/
  | clearEventRecords (m : Mailbox)
  /-- GET_EVENT_INTERRUPT_POLICY (R519): The mailbox reports the LD's event interrupt policy. -/
  | getEventInterruptPolicy (m : Mailbox)
  /-- SET_EVENT_INTERRUPT_POLICY (R523): The mailbox selects the event-log interrupt vectors. -/
  | setEventInterruptPolicy (m : Mailbox)
  /-- GET_FW_INFO (R519): The mailbox reports the image slot and staging. -/
  | getFwInfo (m : Mailbox)
  /-- TRANSFER_FW (R522): Transfer FW feeds a piece of an image into staging. -/
  | transferFw (m : Mailbox)
  /-- ACTIVATE_FW (R522): Activate FW requests online activation of the staged image. -/
  | activateFw (m : Mailbox)
  /-- GET_TIMESTAMP (R519): The mailbox returns the LD's timestamp from pool time and its offset. -/
  | getTimestamp (m : Mailbox)
  /-- SET_TIMESTAMP (R519): The mailbox rewrites the LD's timestamp offset. -/
  | setTimestamp (m : Mailbox)
  /-- GET_SUPPORTED_LOGS (R519): The mailbox lists the Command Effects Log. -/
  | getSupportedLogs (m : Mailbox)
  /-- GET_LOG (R519): The mailbox returns the Command Effects Log. -/
  | getLog (m : Mailbox)
  /-- IDENTIFY_MEMORY_DEVICE (R519): The mailbox reports capacity and poison list size. -/
  | identifyMemoryDevice (m : Mailbox)
  /-- GET_HEALTH_INFO (R519): The mailbox reports health, media status, temperature and corrected errors. -/
  | getHealthInfo (m : Mailbox)
  /-- GET_ALERT_CONFIGURATION (R519): The mailbox reports the alert configuration. -/
  | getAlertConfiguration (m : Mailbox)
  /-- SET_ALERT_CONFIGURATION (R519): The mailbox sets temperature and corrected error alerts. -/
  | setAlertConfiguration (m : Mailbox)
  /-- GET_POISON_LIST (R520): The mailbox returns poison list entries in a translated DPA range. -/
  | getPoisonList (m : Mailbox)
  /-- INJECT_POISON (R519): Inject Poison writes the poison word in factory test mode, else is Unsupported. -/
  | injectPoison (m : Mailbox)
  /-- CLEAR_POISON (R519): Clear Poison writes 64 bytes as a full-sector write through the LD's translation. -/
  | clearPoison (m : Mailbox)
  /-- SANITIZE (R519): Sanitize starts a background FILL of every partition of the quiesced LD's subscriber. -/
  | sanitize (m : Mailbox)
  /-- SANITIZE_DONE (R519): The Sanitize fill completes and SANITIZE_DONE is set. -/
  | sanitizeDone
  /-- HDM_DECODER_COMMIT (R515): A host commits an HDM decoder, which is accepted or set Error Not Committed. -/
  | hdmDecoderCommit (ld idx : Nat) (d : HdmDecoder)
  /-- CXL_LINK_TRAINED (R517): The CXL link trains; in 68-byte flit mode BI decoders are uncommitted and CXL agents fenced. -/
  | cxlLinkTrained (width speed : Nat) (flit68 : Bool)
  /-- CXL_LINK_DOWN (R525): The CXL link goes down, resets or is disabled, fencing every CXL agent. -/
  | cxlLinkDown
  /-- CXL_FLR (R525): An FLR of an LD aborts its CXL.io and mailbox commands. -/
  | cxlFlr (ld : Nat)
  /-- CXL_RESET (R525): A CXL Reset of an LD answers its requests, fences its agents, uncommits decoders and empties its logs. -/
  | cxlReset (ld : Nat) (memClr : Bool)
  /-- SECONDARY_BUS_RESET (R525): A secondary bus reset from the switch acts as a link down. -/
  | secondaryBusReset
  /-- RESET_N_RISE (R562): RESET_N rises and the device leaves the cold reset it was held in, the cold start counting from the later of this rise and PWR_GOOD rising. -/
  | resetNRise (b : BoardInputs)
  /-- WITNESS_LEASE_EXPIRY (R412): At the witness the holder's 1 ms lease runs out without renewal and the pair entry no longer has a lease in force. -/
  | witnessLeaseExpiry (pair : Nat)
  /-- CONTINUATION_TIMEOUT (R414): A holder in continuation receives no BEAT with CONT_ACK = 1 within 2 × HB_US, so it sets PAIR_VALID to 0 and enters YIELDED. -/
  | continuationTimeout
  /-- BI_HOLD_TIME_END (R222): The hold time after a grant to a CXL agent ends, and the home issues the back-invalidate snoop it has deferred. -/
  | biHoldTimeEnd (line : Nat)
  /-- VORER_WATCHDOG (R454): Firmware misses its watchdog deadline, VORER_WATCHDOG is recorded, and the hardware keeps applying the last plan. -/
  | vorerWatchdog
  /-- VORER_EXCEPTION (R454): The Vorer core takes an exception that firmware cannot handle, a FATAL fault that halts the device or, in TRIAL, falls back. -/
  | vorerException
  /-- PLL_RELOCK (R454): An island PLL loses lock and relocks, the island pauses for up to 20 µs, and PLL_RELOCK is recorded. -/
  | pllRelock (island : Nat)
  /-- DEBUG_INSTRUCTION (R480): An unlocked Ilondene debug instruction on the debug port halts, steps or accesses the Vorer core or the Keeper, setting VORER_HALTED where it halts. -/
  | debugInstruction (core kind : Nat) (addr value : Nat)
  /-- BUS_MASTER_ENABLE_WRITE (R523): A host sets or clears Bus Master Enable of a logical device, which decides whether walks can read and whether MSI-X can be sent. -/
  | busMasterEnableWrite (ld : Nat) (on : Bool)
  /-- MSIX_VECTOR_UNMASK (R523): A host unmasks an MSI-X vector, and a message pending on it is sent. -/
  | msixVectorUnmask (ld vector : Nat)
  /-- LINK_CONTROL_BLOCK (R309): A link control block arrives with no message or a reserved message, and is processed for its CRC and MSG_ACK only. -/
  | linkControlBlock (port : Nat) (f : Lcb)
  /-- MGT_READ_RESPONSE (R504): A neighbour's answer to firmware's MGT_READ of GLB_FW_VER and GLB_FW_RUN_VER arrives, and the activation or raise check goes on. -/
  | mgtReadResponse (port : Nat) (p : Packet)
  /-- VSB_1V8_REMOVED (R572): VSB_1V8 is removed, and the thermal-trip latch and THERMTRIP_SEEN are lost. -/
  | vsb1v8Removed
  /-- RAIL_OUT_OF_TOLERANCE (R558): A rail leaves its tolerance for more than 10 µs while PWR_GOOD is high, and the result of every operation in flight becomes undefined. -/
  | railOutOfTolerance
  /-- DYNAMIC_ADDRESS_ASSIGN (R566): The I3C controller assigns the device a dynamic address by SETDASA or ENTDAA. -/
  | dynamicAddressAssign (addr : Nat)
  /-- CXL_RESET_MEM_CLR_DONE (R525): The memory clear of a CXL Reset with Mem Clr Enable finishes filling the LD's partitions. -/
  | cxlResetMemClrDone (ld : Nat)
  deriving DecidableEq, Repr

end Sys2Proof
end

