-- ==== Sys2Proof/Decode.lean ====
section
/-! DEFINITION. The commands of the table have no bits in it (their operands are packets, register accesses and pin events, log
entry 1), so no word of the table spells one. -/

namespace Sys2Proof

/-- The command a word of the table's bits spells: the table gives no row bits, so none (log entry 1). -/
def decodeTableWord (_nbits _w : Nat) : Option Instr := none

end Sys2Proof
end

