-- ==== Sys2Proof/Config.lean ====
section
/-! DEFINITION. What the spec leaves open or takes from another standard: opaque constants without a body, of which nothing can
be proved but that they have a value. -/

namespace Sys2Proof.Config

/-- A fresh value for a result the spec calls undefined or does not state; the argument is the state's counter of free
values (log entry 2). -/
opaque freeNat : Nat → Nat

/-- Factory constants the spec names and does not give, by index (log entry 17). -/
opaque factory : Nat → Nat

/-- The SHA-512 digest of the root to which a certificate chain validates with Ed25519 and SHA-512; none where it does not. X.509 gives the
form of a certificate (log entry 20). -/
opaque chainRoot (chain : List Byte) : Option (List Byte)

/-- The public key of a chain's leaf certificate. -/
opaque chainLeaf (chain : List Byte) : List Byte

/-- The public keys of Ilondene's four vendor key slots (R463). -/
opaque vendorKey (slot : Nat) : List Byte

/-- The digest of Ilondene's root certificate. -/
opaque vendorRoot : List Byte

/-- This chip's unique device secret (R457), and the certificate chain of slot 0 for the running images (R458): the bytes of its certificates
are X.509's. -/
opaque uds : List Byte
opaque ownChain (images : List Byte) : List Byte

/-- The SPDM key schedule and its negotiated-algorithm bytes: an answer's bytes where DSP0274 gives them, by request and
transcript (log entry 21). -/
opaque spdmBytes (kind : Nat) (transcript : List Byte) : List Byte

/-- Whether a FINISH verifies in its session: its HMAC and, with a certificate chain, its signature (DSP0274, log entry 21). -/
opaque spdmVerify (transcript chain : List Byte) : Bool

/-- The slot a revocation names and the slot whose key verifies it (R464): the spec gives no layout (log entry 27). -/
opaque revocation (buf : List Byte) : Option (Nat × Nat)

/-- The layout of mailbox payloads, which the spec leaves to CXL 3.1 (log entry 31): input fields and data of an opcode's payload bytes, the
bytes of its output fields. -/
opaque boxFields (opcode : Nat) (bytes : List Byte) : List Nat
opaque boxData (opcode : Nat) (bytes : List Byte) : List Byte
opaque boxBytes (opcode : Nat) (fields : List Nat) : List Byte

/-- The digest of the Keeper ROM (R459). -/
opaque romDigest : List Byte

end Sys2Proof.Config
end

