-- ==== Sys2Proof/Machine/Bits.lean ====
section
/-! DEFINITION. Bit fields, byte order and sparse maps: the plain data operations every other file uses (R7, R8). -/

namespace Sys2Proof.Machine

/-- Bits [hi:lo] of a number, both ends included (R7). -/
def bits (n hi lo : Nat) : Nat := (n >>> lo) % 2 ^ (hi + 1 - lo)

/-- Bit i of a number. -/
def bit (n i : Nat) : Bool := n.testBit i

/-- A number with bits [hi:lo] replaced by the low bits of v. -/
def putBits (n hi lo v : Nat) : Nat :=
  let w := hi + 1 - lo
  (n >>> (hi + 1)) * 2 ^ (hi + 1) + (v % 2 ^ w) * 2 ^ lo + n % 2 ^ lo

/-- A flag as a one-bit number. -/
def b2n (b : Bool) : Nat := if b then 1 else 0

/-- A number with bit i set to b. -/
def putBit (n i : Nat) (b : Bool) : Nat := putBits n i i (b2n b)

/-- The little-endian value of a byte list (R8). -/
def leNat : List Byte → Nat
  | [] => 0
  | b :: r => b.toNat + 256 * leNat r

/-- The n low bytes of a number, little-endian (R8). -/
def leBytes : Nat → Nat → List Byte
  | 0, _ => []
  | n + 1, v => BitVec.ofNat 8 v :: leBytes n (v / 256)

/-- Byte i of a list, zero past its end. -/
def byteAt (l : List Byte) (i : Nat) : Byte := l.getD i 0

/-- n bytes of a list from index i, zero past its end. -/
def slice (l : List Byte) (i n : Nat) : List Byte := (List.range n).map fun k => byteAt l (i + k)

/-- n zero bytes. -/
def zeros (n : Nat) : List Byte := List.replicate n 0

/-- a saturating at 2^w - 1. -/
def sat (w a : Nat) : Nat := min a (2 ^ w - 1)

/-- The smallest multiple of m not below n. -/
def roundUp (n m : Nat) : Nat := (n + m - 1) / m * m

/-- The number of items of [lo, hi) as a list, ascending. -/
def upTo (lo hi : Nat) : List Nat := (List.range (hi - lo)).map (lo + ·)

/-- A field of a register: byte offset of its word, lowest bit, width. -/
structure Fld where
  off : Nat
  lo : Nat
  width : Nat
  deriving DecidableEq, Repr

/-- Value at a key of a sparse map kept as a list of (key, value) pairs with rising keys; d gives what an unlisted key
reads as. -/
def SMap.get {α : Type} (d : Nat → α) : List (Nat × α) → Nat → α
  | [], k => d k
  | (k', v) :: r, k => if k = k' then v else SMap.get d r k

/-- A sparse map with key k set to v, in canonical form: an entry equal to the default is not listed (nor is one anywhere in a list that is not in
canonical form, so that a read after a write gives the value written whatever the list). -/
def SMap.set {α : Type} [DecidableEq α] (d : Nat → α) : List (Nat × α) → Nat → α → List (Nat × α)
  | [], k, v => if v = d k then [] else [(k, v)]
  | (k', v') :: r, k, v =>
    if k < k' then (if v = d k then ((k', v') :: r).filter (fun e => decide (e.1 ≠ k)) else (k, v) :: (k', v') :: r)
    else if k = k' then (if v = d k then r.filter (fun e => decide (e.1 ≠ k)) else (k, v) :: r)
    else (k', v') :: SMap.set d r k v

/-- The canonical form of a sparse map: keys above a bound, strictly rising, no entry equal to the default. -/
def SMap.wfFrom {α : Type} [DecidableEq α] (d : Nat → α) : Nat → List (Nat × α) → Bool
  | _, [] => true
  | b, (k, v) :: r => decide (b ≤ k) && decide (v ≠ d k) && SMap.wfFrom d (k + 1) r

/-- A sparse map is in canonical form. -/
def SMap.wf {α : Type} [DecidableEq α] (d : Nat → α) (m : List (Nat × α)) : Bool := SMap.wfFrom d 0 m

/-- Set several keys, in order. -/
def SMap.setMany {α : Type} [DecidableEq α] (d : Nat → α) (m : List (Nat × α)) (kvs : List (Nat × α)) :
    List (Nat × α) := kvs.foldl (fun acc kv => SMap.set d acc kv.1 kv.2) m

/-- The entries that list consecutive values from a key: none for a value equal to the default. -/
def SMap.listed {α : Type} [DecidableEq α] (d : Nat → α) : Nat → List α → List (Nat × α)
  | _, [] => []
  | k, v :: r => if v = d k then SMap.listed d (k + 1) r else (k, v) :: SMap.listed d (k + 1) r

/-- Set consecutive keys from k to the values of a list. -/
def SMap.setRun {α : Type} [DecidableEq α] (d : Nat → α) (m : List (Nat × α)) (k : Nat) (vs : List α) : List (Nat × α) :=
  m.filter (fun e => decide (e.1 < k)) ++ SMap.listed d k vs ++ m.filter (fun e => decide (k + vs.length ≤ e.1))

/-- The values at n consecutive keys from k. -/
def SMap.getRun {α : Type} (d : Nat → α) (m : List (Nat × α)) (k n : Nat) : List α :=
  let near := m.filter fun e => decide (k ≤ e.1) && decide (e.1 < k + n)
  (List.range n).map fun i => SMap.get d near (k + i)

/-- A sparse map in canonical form: itself where it is so already. -/
def SMap.tidy {α : Type} [DecidableEq α] (d : Nat → α) (m : List (Nat × α)) : List (Nat × α) :=
  if SMap.wf d m then m else m.foldl (fun acc e => SMap.set d acc e.1 e.2) []

/-- The sparse map without the keys a test names. -/
def SMap.drop {α : Type} (m : List (Nat × α)) (t : Nat → Bool) : List (Nat × α) := m.filter fun kv => !t kv.1

/-- First element of a list that satisfies a test, with its index. -/
def findIdx? {α : Type} (t : α → Bool) : List α → Nat → Option (Nat × α)
  | [], _ => none
  | a :: r, i => if t a then some (i, a) else findIdx? t r (i + 1)

/-- Replace the elements that satisfy a test. -/
def mapIf {α : Type} (t : α → Bool) (f : α → α) (l : List α) : List α := l.map fun a => if t a then f a else a

end Sys2Proof.Machine
end

