-- ==== Sys2Proof/Machine/Crypto.lean ====
section
/-! DEFINITION. The algorithms the spec names: SHA-512, HMAC and HKDF over it (R316, R457, R467, R471), AES-256-GCM (R315, R469), X25519 and
Ed25519 (R6, R316, R463, R466), each as its own standard defines it (log entry 20). -/

namespace Sys2Proof.Machine

/-! ### SHA-512 -/

/-- The round constants: the fractions of the cube roots of the first 80 primes. -/
def shaK : List Nat :=
  [0x428A2F98D728AE22, 0x7137449123EF65CD, 0xB5C0FBCFEC4D3B2F, 0xE9B5DBA58189DBBC] ++
  [0x3956C25BF348B538, 0x59F111F1B605D019, 0x923F82A4AF194F9B, 0xAB1C5ED5DA6D8118] ++
  [0xD807AA98A3030242, 0x12835B0145706FBE, 0x243185BE4EE4B28C, 0x550C7DC3D5FFB4E2] ++
  [0x72BE5D74F27B896F, 0x80DEB1FE3B1696B1, 0x9BDC06A725C71235, 0xC19BF174CF692694] ++
  [0xE49B69C19EF14AD2, 0xEFBE4786384F25E3, 0x0FC19DC68B8CD5B5, 0x240CA1CC77AC9C65] ++
  [0x2DE92C6F592B0275, 0x4A7484AA6EA6E483, 0x5CB0A9DCBD41FBD4, 0x76F988DA831153B5] ++
  [0x983E5152EE66DFAB, 0xA831C66D2DB43210, 0xB00327C898FB213F, 0xBF597FC7BEEF0EE4] ++
  [0xC6E00BF33DA88FC2, 0xD5A79147930AA725, 0x06CA6351E003826F, 0x142929670A0E6E70] ++
  [0x27B70A8546D22FFC, 0x2E1B21385C26C926, 0x4D2C6DFC5AC42AED, 0x53380D139D95B3DF] ++
  [0x650A73548BAF63DE, 0x766A0ABB3C77B2A8, 0x81C2C92E47EDAEE6, 0x92722C851482353B] ++
  [0xA2BFE8A14CF10364, 0xA81A664BBC423001, 0xC24B8B70D0F89791, 0xC76C51A30654BE30] ++
  [0xD192E819D6EF5218, 0xD69906245565A910, 0xF40E35855771202A, 0x106AA07032BBD1B8] ++
  [0x19A4C116B8D2D0C8, 0x1E376C085141AB53, 0x2748774CDF8EEB99, 0x34B0BCB5E19B48A8] ++
  [0x391C0CB3C5C95A63, 0x4ED8AA4AE3418ACB, 0x5B9CCA4F7763E373, 0x682E6FF3D6B2B8A3] ++
  [0x748F82EE5DEFB2FC, 0x78A5636F43172F60, 0x84C87814A1F0AB72, 0x8CC702081A6439EC] ++
  [0x90BEFFFA23631E28, 0xA4506CEBDE82BDE9, 0xBEF9A3F7B2C67915, 0xC67178F2E372532B] ++
  [0xCA273ECEEA26619C, 0xD186B8C721C0C207, 0xEADA7DD6CDE0EB1E, 0xF57D4F7FEE6ED178] ++
  [0x06F067AA72176FBA, 0x0A637DC5A2C898A6, 0x113F9804BEF90DAE, 0x1B710B35131C471B] ++
  [0x28DB77F523047D84, 0x32CAAB7B40C72493, 0x3C9EBE0A15C9BEBC, 0x431D67C49C100D4C] ++
  [0x4CC5D4BECB3E42B6, 0x597F299CFC657E2A, 0x5FCB6FAB3AD6FAEC, 0x6C44198C4A475817]

/-- The first chaining value: the fractions of the square roots of the first 8 primes. -/
def shaH : List Nat :=
  [0x6A09E667F3BCC908, 0xBB67AE8584CAA73B, 0x3C6EF372FE94F82B, 0xA54FF53A5F1D36F1] ++
  [0x510E527FADE682D1, 0x9B05688C2B3E6C1F, 0x1F83D9ABFB41BD6B, 0x5BE0CD19137E2179]

/-- The big-endian number of a byte list, and its n bytes. -/
def beNat (l : List Byte) : Nat := l.foldl (fun a b => a * 256 + b.toNat) 0
def beBytes (n v : Nat) : List Byte := (leBytes n v).reverse

/-- A 64-bit word rotated right. -/
def rotr64 (x n : Nat) : Nat := (x >>> n) ||| ((x <<< (64 - n)) % 2 ^ 64)

/-- One round: the eight working words and the next sixteen of the schedule. -/
def shaRound (st : List Nat × List Nat) (k : Nat) : List Nat × List Nat :=
  match st with
  | (a :: b :: c :: d :: e :: f :: g :: h :: _, w :: ws) =>
    let t1 := h + (rotr64 e 14 ^^^ rotr64 e 18 ^^^ rotr64 e 41) + ((e &&& f) ^^^ ((2 ^ 64 - 1 - e) &&& g)) + k + w
    let t2 := (rotr64 a 28 ^^^ rotr64 a 34 ^^^ rotr64 a 39) + ((a &&& b) ^^^ (a &&& c) ^^^ (b &&& c))
    let x := ws.getD 0 0
    let y := ws.getD 13 0
    let n := ((rotr64 y 19 ^^^ rotr64 y 61 ^^^ (y >>> 6)) + ws.getD 8 0 + (rotr64 x 1 ^^^ rotr64 x 8 ^^^ (x >>> 7)) + w) % 2 ^ 64
    ([(t1 + t2) % 2 ^ 64, a, b, c, (d + t1) % 2 ^ 64, e, f, g], ws ++ [n])
  | _ => st

/-- A list cut into pieces of n, at most m of them. -/
def pieces {α : Type} (n : Nat) : Nat → List α → List (List α)
  | 0, _ => []
  | m + 1, l => if l.isEmpty then [] else l.take n :: pieces n m (l.drop n)

/-- One block of 128 bytes. -/
def shaBlock (h : List Nat) (b : List Byte) : List Nat :=
  let w := (pieces 8 16 b).map beNat
  List.zipWith (fun x y => (x + y) % 2 ^ 64) h (shaK.foldl shaRound (h, w)).1

/-- A message with its padding: a one bit, zeros, its length in bits. -/
def shaPad (m : List Byte) : List Byte :=
  m ++ [0x80] ++ zeros ((239 - m.length % 128) % 128) ++ beBytes 16 (8 * m.length)

/-- SHA-512. -/
@[irreducible] def sha512 (m : List Byte) : List Byte :=
  ((pieces 128 (m.length / 128 + 2) (shaPad m)).foldl shaBlock shaH).flatMap (beBytes 8)

/-- HMAC-SHA-512 of a message under a key. -/
@[irreducible] def hmac512 (key msg : List Byte) : List Byte :=
  let k := if key.length ≤ 128 then key ++ zeros (128 - key.length) else sha512 key ++ zeros 64
  sha512 (k.map (· ^^^ 0x5C) ++ sha512 (k.map (· ^^^ 0x36) ++ msg))

/-- HKDF-Extract with SHA-512. -/
def hkdfExtract (salt ikm : List Byte) : List Byte := hmac512 salt ikm

/-- Block i of HKDF-Expand and those after it, n in all, behind the one before. -/
def hkdfBlocks (prk info : List Byte) : Nat → Nat → List Byte → List Byte
  | 0, _, _ => []
  | n + 1, i, prev =>
    let t := hmac512 prk (prev ++ info ++ leBytes 1 i)
    t ++ hkdfBlocks prk info n (i + 1) t

/-- HKDF-Expand with SHA-512. -/
@[irreducible] def hkdfExpand (prk info : List Byte) (len : Nat) : List Byte :=
  (hkdfBlocks prk info ((len + 63) / 64) 1 []).take len

/-- HKDF of a secret and an info string, with no salt: 32 bytes. -/
def hkdf (secret info : List Byte) : List Byte := hkdfExpand (hkdfExtract [] secret) info 32

/-- The bytes of a string of ASCII characters. -/
def ascii (s : String) : List Byte := s.toList.map fun c => BitVec.ofNat 8 c.toNat

/-! ### AES-256-GCM -/

/-- The substitution box. -/
def aesBox : List Nat :=
  [99, 124, 119, 123, 242, 107, 111, 197, 48, 1, 103, 43, 254, 215, 171, 118, 202, 130, 201, 125, 250, 89, 71, 240, 173, 212, 162, 175, 156, 164, 114, 192] ++
  [183, 253, 147, 38, 54, 63, 247, 204, 52, 165, 229, 241, 113, 216, 49, 21, 4, 199, 35, 195, 24, 150, 5, 154, 7, 18, 128, 226, 235, 39, 178, 117] ++
  [9, 131, 44, 26, 27, 110, 90, 160, 82, 59, 214, 179, 41, 227, 47, 132, 83, 209, 0, 237, 32, 252, 177, 91, 106, 203, 190, 57, 74, 76, 88, 207] ++
  [208, 239, 170, 251, 67, 77, 51, 133, 69, 249, 2, 127, 80, 60, 159, 168, 81, 163, 64, 143, 146, 157, 56, 245, 188, 182, 218, 33, 16, 255, 243, 210] ++
  [205, 12, 19, 236, 95, 151, 68, 23, 196, 167, 126, 61, 100, 93, 25, 115, 96, 129, 79, 220, 34, 42, 144, 136, 70, 238, 184, 20, 222, 94, 11, 219] ++
  [224, 50, 58, 10, 73, 6, 36, 92, 194, 211, 172, 98, 145, 149, 228, 121, 231, 200, 55, 109, 141, 213, 78, 169, 108, 86, 244, 234, 101, 122, 174, 8] ++
  [186, 120, 37, 46, 28, 166, 180, 198, 232, 221, 116, 31, 75, 189, 139, 138, 112, 62, 181, 102, 72, 3, 246, 14, 97, 53, 87, 185, 134, 193, 29, 158] ++
  [225, 248, 152, 17, 105, 217, 142, 148, 155, 30, 135, 233, 206, 85, 40, 223, 140, 161, 137, 13, 191, 230, 66, 104, 65, 153, 45, 15, 176, 84, 187, 22]

def aesSub (b : Byte) : Byte := BitVec.ofNat 8 (aesBox.getD b.toNat 0)

/-- Twice a byte in the field of the cipher. -/
def aesTwice (b : Byte) : Byte := (b <<< 1) ^^^ (if b.msb then 0x1B else 0)

/-- Two byte lists added modulo 2. -/
def xorBytes (a b : List Byte) : List Byte := List.zipWith (· ^^^ ·) a b

/-- The key words of 4 bytes from the eight last ones (the oldest first): word i and those after it, n in all. -/
def aesWords : Nat → Nat → Nat → List (List Byte) → List (List Byte)
  | 0, _, _, _ => []
  | n + 1, i, rc, l =>
    let t := l.getD 7 []
    let u := if i % 8 = 0 then xorBytes ((t.drop 1 ++ t.take 1).map aesSub) (leBytes 4 rc)
      else if i % 8 = 4 then t.map aesSub else t
    let w := xorBytes (l.getD 0 []) u
    w :: aesWords n (i + 1) (if i % 8 = 0 then (aesTwice (BitVec.ofNat 8 rc)).toNat else rc) (l.drop 1 ++ [w])

/-- The fifteen round keys of 16 bytes. -/
def aesKeys (key : List Byte) : List (List Byte) :=
  let k := pieces 4 8 (slice key 0 32)
  pieces 16 15 (k ++ aesWords 52 8 1 k).flatten

/-- SubBytes and ShiftRows. -/
def aesShift (b : List Byte) : List Byte := (List.range 16).map fun i => aesSub (byteAt b ((i + 4 * (i % 4)) % 16))

/-- MixColumns. -/
def aesMix (b : List Byte) : List Byte := (List.range 16).map fun i =>
  let c (k : Nat) : Byte := byteAt b (i / 4 * 4 + (i + k) % 4)
  aesTwice (c 0) ^^^ aesTwice (c 1) ^^^ c 1 ^^^ c 2 ^^^ c 3

/-- One block of AES-256. -/
def aesBlock (keys : List (List Byte)) (b : List Byte) : List Byte :=
  let x := (keys.tail.dropLast).foldl (fun acc k => xorBytes (aesMix (aesShift acc)) k) (xorBytes b (keys.getD 0 []))
  xorBytes (aesShift x) (keys.getD 14 [])

/-- The product of two elements of GF(2^128) as GCM numbers them: the most significant bit of a block is the coefficient of 1. -/
def gcmMul (x y : Nat) : Nat :=
  ((List.range 128).foldl (fun (a : Nat × Nat) i =>
    (if x.testBit (127 - i) then a.1 ^^^ a.2 else a.1, (a.2 >>> 1) ^^^ (if a.2.testBit 0 then 0xE1 <<< 120 else 0))) (0, y)).1

/-- Zeros up to the next multiple of 16 bytes. -/
def pad16 (b : List Byte) : List Byte := b ++ zeros ((16 - b.length % 16) % 16)

/-- GHASH of whole blocks under a hash key. -/
def ghash (h : Nat) (b : List Byte) : Nat := (pieces 16 (b.length / 16) b).foldl (fun a x => gcmMul (a ^^^ beNat x) h) 0

/-- Counter block i of a 12-byte nonce. -/
def gcmCounter (nonce : List Byte) (i : Nat) : List Byte := slice nonce 0 12 ++ beBytes 4 i

/-- Byte i of the key stream of AES-256-GCM (R315, R469). -/
@[irreducible] def keyStream (key nonce : List Byte) (i : Nat) : Byte :=
  byteAt (aesBlock (aesKeys key) (gcmCounter nonce (i / 16 + 2))) (i % 16)

/-- The 16-byte tag of a ciphertext with its additional data. -/
@[irreducible] def gcmTag (key nonce aad text : List Byte) : List Byte :=
  let k := aesKeys key
  let g := ghash (beNat (aesBlock k (zeros 16))) (pad16 aad ++ pad16 text ++ beBytes 8 (8 * aad.length) ++ beBytes 8 (8 * text.length))
  xorBytes (beBytes 16 g) (aesBlock k (gcmCounter nonce 1))

/-! ### Curve25519 -/

/-- The field's modulus. -/
def feP : Nat := 2 ^ 255 - 19

def feSub (a b : Nat) : Nat := (a + feP - b % feP) % feP

/-- A power by its n low exponent bits, most significant first. -/
def fePow (a e : Nat) : Nat → Nat
  | 0 => 1
  | n + 1 => let r := fePow a (e / 2) n; if e % 2 = 1 then r * r % feP * a % feP else r * r % feP

def feInv (a : Nat) : Nat := fePow (a % feP) (feP - 2) 255

/-- A ladder step of X25519 on the two points (x2 : z2) and (x3 : z3) over the base u. -/
def xStep (u : Nat) (q : Nat × Nat × Nat × Nat) : Nat × Nat × Nat × Nat :=
  let a := q.1 + q.2.1
  let b := feSub q.1 q.2.1
  let aa := a * a % feP
  let bb := b * b % feP
  let e := feSub aa bb
  let da := feSub q.2.2.1 q.2.2.2 * a % feP
  let cb := (q.2.2.1 + q.2.2.2) * b % feP
  let m := feSub da cb
  (aa * bb % feP, e * (aa + 121665 * e) % feP, (da + cb) * (da + cb) % feP, u * (m * m) % feP)

/-- X25519 of a private key's number and the u coordinate of a public key. -/
@[irreducible] def x25519 (priv : Nat) (pub : List Byte) : List Byte :=
  let k := putBits (putBits (priv % 2 ^ 256) 2 0 0) 255 254 1
  let u := leNat (slice pub 0 32) % 2 ^ 255 % feP
  let q := (List.range 255).foldl (fun (q : Nat × Nat × Nat × Nat) i =>
    if k.testBit (254 - i) then
      let r := xStep u (q.2.2.1, q.2.2.2, q.1, q.2.1)
      (r.2.2.1, r.2.2.2, r.1, r.2.1)
    else xStep u q) (1, 0, u, 1)
  leBytes 32 (q.1 * feInv q.2.1 % feP)

/-- The X25519 public key of a private key. -/
def x25519Base (priv : Nat) : List Byte := x25519 priv (leBytes 32 9)

/-! ### Ed25519 -/

/-- The curve's constant d, a root of -1, the order of the base point. -/
def edD : Nat := 0x52036CEE2B6FFE738CC740797779E89800700A4D4141D8AB75EB4DCA135978A3
def edI : Nat := 0x2B8324804FC1DF0B2B4D00993DFBD7A72F431806AD2FE478C4EE1B274A0EA0B0
def edL : Nat := 0x1000000000000000000000000000000014DEF9DEA2F79CD65812631A5CF5D3ED

/-- The base point, in extended coordinates (X : Y : Z : T). -/
def edBase : Nat × Nat × Nat × Nat :=
  let x := 0x216936D3CD6E53FEC0A4E231FDD6DC5C692CC7609525A7B2C9562D608F25D51A
  let y := 0x6666666666666666666666666666666666666666666666666666666666666658
  (x, y, 1, x * y % feP)

/-- The sum of two points. -/
def edAdd (p q : Nat × Nat × Nat × Nat) : Nat × Nat × Nat × Nat :=
  let a := feSub p.2.1 p.1 * feSub q.2.1 q.1 % feP
  let b := (p.2.1 + p.1) * (q.2.1 + q.1) % feP
  let c := 2 * p.2.2.2 * q.2.2.2 % feP * edD % feP
  let d := 2 * p.2.2.1 * q.2.2.1 % feP
  let e := feSub b a
  let f := feSub d c
  let g := d + c
  let h := b + a
  (e * f % feP, g * h % feP, f * g % feP, e * h % feP)

/-- A multiple of a point by its n low bits. -/
def edMul (p : Nat × Nat × Nat × Nat) : Nat → Nat → Nat × Nat × Nat × Nat
  | 0, _ => (0, 1, 1, 0)
  | n + 1, k => let r := edMul p n (k / 2); let t := edAdd r r; if k % 2 = 1 then edAdd t p else t

/-- The encoding of a point. -/
def edBytes (p : Nat × Nat × Nat × Nat) : List Byte :=
  let z := feInv p.2.2.1
  leBytes 32 (p.2.1 * z % feP + (p.1 * z % feP) % 2 * 2 ^ 255)

/-- The point of an encoding; none where there is none. -/
def edPoint (b : List Byte) : Option (Nat × Nat × Nat × Nat) :=
  let n := leNat (slice b 0 32)
  let y := n % 2 ^ 255
  let u := feSub (y * y % feP) 1
  let v := (edD * (y * y % feP) + 1) % feP
  let a := u * feInv v % feP
  let r := fePow a ((feP + 3) / 8) 253
  let x := if r * r % feP = a then r else r * edI % feP
  if feP ≤ y ∨ x * x % feP ≠ a ∨ (x = 0 ∧ n.testBit 255) then none
  else
    let w := if x % 2 = n / 2 ^ 255 then x else feP - x
    some (w, y, 1, w * y % feP)

/-- The number a hash gives modulo the order of the base point. -/
def edHash (b : List Byte) : Nat := leNat (sha512 b) % edL

/-- The secret scalar of a private key. -/
def edScalar (priv : Nat) : Nat := putBits (putBits (leNat (slice (sha512 (leBytes 32 priv)) 0 32)) 2 0 0) 255 254 1

/-- Ed25519 public key of a private key. -/
@[irreducible] def edPublic (priv : Nat) : List Byte := edBytes (edMul edBase 256 (edScalar priv))

/-- Ed25519 signature by a private key. -/
@[irreducible] def edSign (priv : Nat) (msg : List Byte) : List Byte :=
  let r := edHash (slice (sha512 (leBytes 32 priv)) 32 32 ++ msg)
  let rb := edBytes (edMul edBase 253 r)
  rb ++ leBytes 32 ((r + edHash (rb ++ edPublic priv ++ msg) * edScalar priv) % edL)

/-- Whether an Ed25519 signature verifies: the point it gives is R, without a cofactor. -/
@[irreducible] def edVerify (pub msg sig : List Byte) : Bool :=
  let k := leNat (slice sig 32 32)
  match edPoint pub with
  | none => false
  | some a =>
    decide (k < edL) && sig.length == 64 &&
      edBytes (edAdd (edMul edBase 253 k) (edMul (feSub 0 a.1, a.2.1, 1, feSub 0 a.2.2.2) 253 (edHash (slice sig 0 32 ++ slice pub 0 32 ++ msg))))
        == slice sig 0 32

/-! ### The device's identity (R457) -/

/-- The DeviceID public key. -/
def devicePublic : List Byte := edPublic (leNat (hkdf Config.uds (ascii "CASSOR DEVICEID")))

/-- The private Alias key: from the secret by the digest of the Keeper image with the fused versions, and by that of the management image in
force (log entry 20). -/
def aliasKey (keeper : List Byte) (versions : Nat) (run : List Byte) : Nat :=
  leNat (hkdf (hkdf Config.uds (keeper ++ leBytes 2 versions)) run)

end Sys2Proof.Machine
end

