-- ==== Sys2Proof/Machine/Operands.lean ====
section
/-! DEFINITION. The operands of the commands: the header fields of a packet (R323 to R328), the packets the device forms, the
classes and virtual channels of the opcodes (R305, R329), and the malformed-header check (R330). -/

namespace Sys2Proof.Machine

open Sys2Proof

end Sys2Proof.Machine

namespace Sys2Proof.Packet

open Sys2Proof.Machine

/-! ### Header fields (R323, R324, R325, R327) -/

def dest (p : Packet) : Nat := bits p.route.toNat 11 0
def src (p : Packet) : Nat := bits p.route.toNat 23 12
def inter (p : Packet) : Nat := bits p.route.toNat 35 24
def group (p : Packet) : Nat := bits p.route.toNat 31 24
def vc (p : Packet) : Nat := bits p.route.toNat 38 36
def epoch (p : Packet) : Nat := bits p.route.toNat 39 39
def phase (p : Packet) : Nat := bits p.route.toNat 40 40
def mcast (p : Packet) : Bool := bit p.route.toNat 41
def desc (p : Packet) : Bool := bit p.route.toNat 42
def length (p : Packet) : Nat := bits p.route.toNat 55 43
def cls (p : Packet) : Nat := bits p.route.toNat 57 56
def routeRsv (p : Packet) : Nat := bits p.route.toNat 63 58

def opcode (p : Packet) : Nat := bits p.xact.toNat 7 0
def tagOf (p : Packet) : Nat := bits p.xact.toNat 23 8
def seq (p : Packet) : Nat := bits p.xact.toNat 39 24
def ctx (p : Packet) : Nat := bits p.xact.toNat 47 40
def sub (p : Packet) : Nat := bits p.xact.toNat 53 48
def ordered (p : Packet) : Bool := bit p.xact.toNat 54
def streamEn (p : Packet) : Bool := bit p.xact.toNat 55
def stream (p : Packet) : Nat := bits p.xact.toNat 63 56
def status (p : Packet) : Nat := bits p.xact.toNat 47 40
def load (p : Packet) : Nat := bits p.xact.toNat 51 48

def keyway (p : Packet) : Nat := bits p.addr.toNat 11 0
def offset (p : Packet) : Nat := bits p.addr.toNat 55 12
def addrRsv (p : Packet) : Nat := bits p.addr.toNat 63 56
def opw (p : Packet) : Nat := p.op.toNat
def hint (p : Packet) : Nat := bits p.op.toNat 63 56

/-- Bytes of a packet on a link (R328). -/
def packetLen (p : Packet) : Nat := 32 + p.length + (if p.streamEn then 16 else 0)

end Sys2Proof.Packet

namespace Sys2Proof.Machine

/-! ### Classes (R305, R329) -/

/-- The message classes of the fabric. -/
inductive MsgClass where
  | req | fwd | rsp | col | mgt
  deriving DecidableEq, Repr

/-- Whether an opcode is one the table of R329 lists, and its class; COL_REDUCE is REQ to the root and COL between members,
which its VC tells apart (vc 4 and 5). -/
def opClass (op v : Nat) : Option MsgClass :=
  if op = 1 ∨ op = 2 ∨ op = 3 then some .req
  else if (0x10 ≤ op ∧ op ≤ 0x15) ∨ op = 0x18 then some .req
  else if op = 0x20 ∨ op = 0x21 then some .req
  else if op = 0x22 then some .col
  else if op = 0x23 then (if 4 ≤ v then some .col else some .req)
  else if 0x30 ≤ op ∧ op ≤ 0x34 then some .req
  else if 0x40 ≤ op ∧ op ≤ 0x45 then some .req
  else if 0x48 ≤ op ∧ op ≤ 0x4B then some .fwd
  else if op = 0x4C then some .rsp
  else if 0x60 ≤ op ∧ op ≤ 0x67 then some .mgt
  else if op < 0x80 then none
  else
    let q := op - 0x80
    if q = 1 ∨ q = 2 ∨ q = 3 ∨ (0x10 ≤ q ∧ q ≤ 0x15) ∨ q = 0x18 ∨ q = 0x20 ∨ q = 0x21 ∨ q = 0x23
      ∨ (0x30 ≤ q ∧ q ≤ 0x34) ∨ (0x40 ≤ q ∧ q ≤ 0x45) ∨ (0x48 ≤ q ∧ q ≤ 0x4B)
      ∨ q = 0x60 ∨ q = 0x61 ∨ q = 0x62 ∨ q = 0x64 ∨ q = 0x65 ∨ q = 0x66
    then some .rsp else none

/-- The virtual channel of a class in a phase (R305, R329). -/
def vcOf (c : MsgClass) (ph : Nat) : Nat :=
  match c with
  | .req => ph
  | .fwd => 2
  | .rsp => 3
  | .col => 4 + ph
  | .mgt => 6

/-- Whether a packet's class has two phases (R323). -/
def phased (c : MsgClass) : Bool := c == .req || c == .col

/-- Whether an opcode is a response. -/
def isResponse (p : Packet) : Bool := decide (0x80 ≤ p.opcode)

/-- The malformed-header check of R330. -/
def headerMalformed (p : Packet) : Bool :=
  let v := p.vc
  match opClass (p.opcode) v with
  | none => true
  | some c =>
    decide (p.routeRsv ≠ 0)
    || decide (v ≠ vcOf c (if phased c then p.phase else 0))
    || (!phased c && decide (p.phase = 1))
    || (!phased c && !p.mcast && decide (p.inter ≠ 0))
    || (p.mcast && decide (bits p.route.toNat 35 32 ≠ 0))
    || (p.mcast && decide (p.opcode ≠ 0x62 ∧ p.opcode ≠ 0x66))
    || decide (p.dest = 0xFFF)
    || (decide (p.dest = 0xFFE) && decide (p.opcode ≠ 0x60 ∧ p.opcode ≠ 0x61 ∧ p.opcode ≠ 0x62))
    || decide (p.src = 0xFFE)
    || (decide (p.src = 0xFFF) && decide (p.opcode ≠ 0x60 ∧ p.opcode ≠ 0xE0 ∧ p.opcode ≠ 0xE1 ∧ p.opcode ≠ 0xE2))
    || decide (4096 < p.length)
    || (p.streamEn && !(c == .req || c == .rsp))
    || (isResponse p && (decide (bits p.xact.toNat 54 53 ≠ 0) || decide (9 < p.status)))
    || decide (p.payload.length ≠ p.length)
    || decide (p.tag.length ≠ (if p.streamEn then 16 else 0))

/-- Reserved bits of the address word, by opcode (R19, R94, R167, R209 to R214, R327, R438, R501). -/
def addrRsvBits (p : Packet) : Nat :=
  let a := p.addr.toNat
  let o := p.opcode
  if isResponse p ∧ p.status = 4 then a
  else if o ≤ 3 ∨ o = 0x18 ∨ (0x40 ≤ o ∧ o ≤ 0x43) then bits a 63 56
  else if o = 0x22 then (if bits p.opw 1 0 = 0 then a else bits a 7 5)
  else if o = 0x44 ∨ o = 0x45 ∨ o = 0x4C ∨ o = 0x61 ∨ o = 0x62 ∨ o = 0x82 ∨ o = 0x83 then a
  else if 0x48 ≤ o ∧ o ≤ 0x4B then bits a 63 32
  else if o = 0x63 then bits a 15 2 + bits a 63 32
  else if o = 0x64 then bits a 63 17
  else 0

/-- Reserved bits of the operation word, by opcode (R19, R94, R142, R148, R150, R167, R183, R184, R209 to R214, R326, R338, R348, R351, R404,
R438, R501, R533). A COL_REDUCE between members has no layout of the spec's (log entry 15). -/
def opRsvBits (p : Packet) : Nat :=
  let w := p.opw
  let o := p.opcode
  if isResponse p ∧ p.status = 4 then bits w 55 0
  else if o = 1 then bits w 63 13
  else if o = 2 ∨ o = 3 ∨ o = 0x20 ∨ o = 0x21 ∨ (0x40 ≤ o ∧ o ≤ 0x43) ∨ (0x81 ≤ o ∧ o ≤ 0x83) then w
  else if (0x10 ≤ o ∧ o ≤ 0x18) ∨ (o = 0x23 ∧ p.vc < 4) then bits w 63 24
  else if o = 0x22 then bits w 7 2 + bits w 63 61
  else if 0x30 ≤ o ∧ o ≤ 0x34 then bits w 23 17
  else if o = 0x44 ∨ o = 0x45 then bits w 5 0 + bits w 63 40
  else if 0x48 ≤ o ∧ o ≤ 0x4B then bits w 5 0 + bits w 63 53
  else if o = 0x4C then bits w 5 0 + bits w 63 56
  else if o = 0x60 then bits w 3 2 + bits w 63 36
  else if o = 0x61 then bits w 63 37
  else if o = 0x62 then bits w 63 24
  else if o = 0x63 then (if bits p.addr.toNat 1 0 = 0 then bits w 63 33 else if bits p.addr.toNat 1 0 = 1 then bits w 63 48 else 0)
  else if o = 0x65 then bits w 7 4 + bits w 63 31
  else if o = 0x66 then bits w 63 13
  else if o = 0x67 then (if bits w 3 0 = 3 ∨ bits w 3 0 = 4 then bits w 63 56 else 0)
  else if (0x90 ≤ o ∧ o ≤ 0x98) ∨ o = 0xA3 then bits w 47 45
  else if o = 0xA1 then bits w 63 53
  else if 0xB0 ≤ o ∧ o ≤ 0xB4 then bits w 63 32
  else if 0xC0 ≤ o ∧ o ≤ 0xC3 then bits w 5 4 + bits w 63 56
  else if 0xC8 ≤ o ∧ o ≤ 0xCB then bits w 5 5 + bits w 63 56
  else if o = 0xE0 then (if bits w 1 0 = 0 then bits w 3 2 + bits w 63 17 else 0)
  else if o = 0xE4 then bits w 63 40
  else if o = 0xE5 then bits w 63 17
  else 0

/-- A packet sets a reserved bit of its address or operation word, or a reserved KIND: what every router checks beside the words of
`headerMalformed` (R330). -/
def wordsReserved (p : Packet) : Bool :=
  let k := bits p.opw 1 0
  addrRsvBits p != 0 || opRsvBits p != 0
    || ((p.opcode == 0x22 || p.opcode == 0x60 || (p.opcode == 0xE0 && p.status != 4)) && decide (2 ≤ k))
    || (p.opcode == 0x63 && bits p.addr.toNat 1 0 == 3) || (p.opcode == 0x67 && decide (10 ≤ bits p.opw 3 0))

/-- A NOTIFY, or a response to a request of this chip's own, with a payload its home chapter does not give it (R328, R438). -/
def answerLengthBad (p : Packet) : Bool :=
  let o := p.opcode
  if isResponse p && p.status == 4 then p.length != 0
  else if o = 0x82 ∨ o = 0x83 ∨ o = 0xE2 ∨ o = 0xE4 ∨ o = 0xE5 ∨ o = 0xE6 then p.length != 0
  else if o = 0x63 then
    (if bits p.addr.toNat 1 0 = 0 then p.length != 32 else if bits p.addr.toNat 1 0 = 1 then p.length != 0 else false)
  else false

/-! ### Forming packets -/

/-- The fields of a packet the device forms. -/
structure Form where
  dest : Nat
  src : Nat
  inter : Nat := 0
  vc : Nat
  epoch : Nat := 0
  phase : Nat := 0
  cls : Nat := 0
  opcode : Nat
  tag : Nat := 0
  seq : Nat := 0
  /-- bits [63:40] of the transaction word -/
  high : Nat := 0
  addr : Nat := 0
  op : Nat := 0
  payload : List Byte := []
  stag : List Byte := []

/-- The packet of a form (R323 to R325). -/
def Form.packet (f : Form) : Packet where
  route := BitVec.ofNat 64 (f.dest % 4096 + f.src % 4096 * 2 ^ 12 + f.inter % 4096 * 2 ^ 24 + f.vc % 8 * 2 ^ 36
    + f.epoch % 2 * 2 ^ 39 + f.phase % 2 * 2 ^ 40 + f.payload.length % 8192 * 2 ^ 43 + f.cls % 4 * 2 ^ 56)
  xact := BitVec.ofNat 64 (f.opcode % 256 + f.tag % 65536 * 2 ^ 8 + f.seq % 65536 * 2 ^ 24 + f.high * 2 ^ 40)
  addr := BitVec.ofNat 64 f.addr
  op := BitVec.ofNat 64 f.op
  payload := f.payload
  tag := f.stag

/-- A packet with bits of its routing word replaced. -/
def setRoute (p : Packet) (hi lo v : Nat) : Packet :=
  { p with route := BitVec.ofNat 64 (putBits p.route.toNat hi lo v) }

/-- A packet with bits of its transaction word replaced. -/
def setXact (p : Packet) (hi lo v : Nat) : Packet :=
  { p with xact := BitVec.ofNat 64 (putBits p.xact.toNat hi lo v) }

/-! ### Status codes (R326) -/

def stOK : Nat := 0
def stMISCOMPARE : Nat := 1
def stPOISON : Nat := 2
def stMEDIA_FAIL : Nat := 3
def stRETRY : Nat := 4
def stUNSUPPORTED : Nat := 5
def stLATCH_RANGE : Nat := 6
def stABORTED : Nat := 7
def stTIMEOUT : Nat := 8
def stFENCED : Nat := 9

/-- Whether a status breaks the segment of a later ORDERED request (R47). -/
def breaksSegment (st : Nat) : Bool := st == stRETRY || st == stABORTED || st == stMEDIA_FAIL || st == stUNSUPPORTED

end Sys2Proof.Machine
end

