-- ==== Sys2Proof/Machine/RegMap.lean ====
section
/-! DEFINITION. The named register fields of the management space: one constant per field of the spec's register
tables (R20, R31, R87, R135, R174, R200, R237, R285, R321, R358, R376, R396, R428, R452, R482, R510, R526, R550, R551,
R553, R554, R555, R573), each an absolute management-space byte offset (page map R541), the field's lowest bit and its
width. An argument is the index of an array of registers or the instance of a repeated page; the hinge ports are ports 4
and 5 of the Swiette page layout (R321). -/

namespace Sys2Proof.Machine.Reg

open Sys2Proof.Machine

/-- Base of the register block of link port i: 0 to 3 are SWP0 to SWP3, 4 and 5 the hinge ports (R321, R541). -/
def swpBase (i : Nat) : Nat := if i < 4 then 0x10000 + 0x1000 * i else 0x14000 + 0x800 * (i - 4)

/-- PTN_BASE_n (R20). -/
def PTN_BASE.OFF (i : Nat) : Nat := 0x40100 + 16 * i
def PTN_BASE.BASE_GIB (i : Nat) : Fld := ⟨PTN_BASE.OFF i, 0, 10⟩
/-- PTN_SIZE_n (R20). -/
def PTN_SIZE.OFF (i : Nat) : Nat := 0x40104 + 16 * i
def PTN_SIZE.SIZE_GIB (i : Nat) : Fld := ⟨PTN_SIZE.OFF i, 0, 10⟩
/-- PTN_OWNER_n (R20). -/
def PTN_OWNER.OFF (i : Nat) : Nat := 0x40108 + 16 * i
def PTN_OWNER.OWNER (i : Nat) : Fld := ⟨PTN_OWNER.OFF i, 0, 6⟩
/-- PTN_FLAGS_n (R20). -/
def PTN_FLAGS.OFF (i : Nat) : Nat := 0x4010C + 16 * i
def PTN_FLAGS.INITIALISED (i : Nat) : Fld := ⟨PTN_FLAGS.OFF i, 0, 1⟩
def PTN_FLAGS.COHERENT (i : Nat) : Fld := ⟨PTN_FLAGS.OFF i, 1, 1⟩
def PTN_FLAGS.MIRRORED (i : Nat) : Fld := ⟨PTN_FLAGS.OFF i, 2, 1⟩
def PTN_FLAGS.SHAREABLE (i : Nat) : Fld := ⟨PTN_FLAGS.OFF i, 3, 1⟩
/-- PTN_GNT_k (R31). -/
def PTN_GNT.OFF (i : Nat) : Nat := 0x40500 + 8 * i
def PTN_GNT.PARTITION (i : Nat) : Fld := ⟨PTN_GNT.OFF i, 0, 6⟩
def PTN_GNT.GRANTEE (i : Nat) : Fld := ⟨PTN_GNT.OFF i, 8, 6⟩
def PTN_GNT.PERM_R (i : Nat) : Fld := ⟨PTN_GNT.OFF i, 16, 1⟩
def PTN_GNT.PERM_W (i : Nat) : Fld := ⟨PTN_GNT.OFF i, 17, 1⟩
def PTN_GNT.PERM_WARD (i : Nat) : Fld := ⟨PTN_GNT.OFF i, 18, 1⟩
def PTN_GNT.VALID (i : Nat) : Fld := ⟨PTN_GNT.OFF i, 31, 1⟩
/-- KTU_CTRL (R87). -/
def KTU_CTRL.OFF : Nat := 0x30040
def KTU_CTRL.WALK_EN : Fld := ⟨KTU_CTRL.OFF, 0, 1⟩
def KTU_CTRL.WALK_LD : Fld := ⟨KTU_CTRL.OFF, 4, 4⟩
def KTU_CTRL.WALK_TMO : Fld := ⟨KTU_CTRL.OFF, 8, 8⟩
/-- KTU_STAT (R87). -/
def KTU_STAT.OFF : Nat := 0x30044
def KTU_STAT.WALKS : Fld := ⟨KTU_STAT.OFF, 0, 6⟩
def KTU_STAT.MISSQ : Fld := ⟨KTU_STAT.OFF, 8, 9⟩
/-- KTU_KW_SEL (R87). -/
def KTU_KW_SEL.OFF : Nat := 0x30050
def KTU_KW_SEL.KEYWAY : Fld := ⟨KTU_KW_SEL.OFF, 0, 12⟩
/-- KTU_KW_CMD (R87). -/
def KTU_KW_CMD.OFF : Nat := 0x30054
def KTU_KW_CMD.LOAD : Fld := ⟨KTU_KW_CMD.OFF, 0, 1⟩
def KTU_KW_CMD.STORE : Fld := ⟨KTU_KW_CMD.OFF, 1, 1⟩
/-- KTU_KW_DATA_w (R87). -/
def KTU_KW_DATA.OFF (i : Nat) : Nat := 0x30060 + 4 * i
def KTU_KW_DATA.DATA (i : Nat) : Fld := ⟨KTU_KW_DATA.OFF i, 0, 32⟩
/-- KTU_INV_START (R87). -/
def KTU_INV_START.OFF : Nat := 0x30080
def KTU_INV_START.START : Fld := ⟨KTU_INV_START.OFF, 0, 44⟩
/-- KTU_INV_LEN (R87). -/
def KTU_INV_LEN.OFF : Nat := 0x30088
def KTU_INV_LEN.LEN : Fld := ⟨KTU_INV_LEN.OFF, 0, 45⟩
/-- KTU_INV_CMD (R87). -/
def KTU_INV_CMD.OFF : Nat := 0x30090
def KTU_INV_CMD.KEYWAY : Fld := ⟨KTU_INV_CMD.OFF, 0, 12⟩
def KTU_INV_CMD.SCOPE : Fld := ⟨KTU_INV_CMD.OFF, 12, 2⟩
def KTU_INV_CMD.TAG : Fld := ⟨KTU_INV_CMD.OFF, 16, 16⟩
/-- KTU_INV_STAT (R87). -/
def KTU_INV_STAT.OFF : Nat := 0x30094
def KTU_INV_STAT.OPEN : Fld := ⟨KTU_INV_STAT.OFF, 0, 4⟩
def KTU_INV_STAT.DONE_TAG : Fld := ⟨KTU_INV_STAT.OFF, 16, 16⟩
/-- KTU_LD_KEYWAY_n (R87). -/
def KTU_LD_KEYWAY.OFF (i : Nat) : Nat := 0x300C0 + 4 * i
def KTU_LD_KEYWAY.KEYWAY (i : Nat) : Fld := ⟨KTU_LD_KEYWAY.OFF i, 0, 12⟩
def KTU_LD_KEYWAY.VALID (i : Nat) : Fld := ⟨KTU_LD_KEYWAY.OFF i, 31, 1⟩
/-- KTU_HIT_CNT (R87). -/
def KTU_HIT_CNT.OFF : Nat := 0x30100
def KTU_HIT_CNT.COUNT : Fld := ⟨KTU_HIT_CNT.OFF, 0, 64⟩
/-- KTU_MISS_CNT (R87). -/
def KTU_MISS_CNT.OFF : Nat := 0x30108
def KTU_MISS_CNT.COUNT : Fld := ⟨KTU_MISS_CNT.OFF, 0, 64⟩
/-- KTU_FETCH_CNT (R87). -/
def KTU_FETCH_CNT.OFF : Nat := 0x30110
def KTU_FETCH_CNT.COUNT : Fld := ⟨KTU_FETCH_CNT.OFF, 0, 64⟩
/-- KTU_FETCH_ERR_CNT (R87). -/
def KTU_FETCH_ERR_CNT.OFF : Nat := 0x30118
def KTU_FETCH_ERR_CNT.COUNT : Fld := ⟨KTU_FETCH_ERR_CNT.OFF, 0, 64⟩
/-- KTU_MALFORMED_CNT (R87). -/
def KTU_MALFORMED_CNT.OFF : Nat := 0x30120
def KTU_MALFORMED_CNT.COUNT : Fld := ⟨KTU_MALFORMED_CNT.OFF, 0, 64⟩
/-- KTU_MISSQ_FULL_CNT (R87). -/
def KTU_MISSQ_FULL_CNT.OFF : Nat := 0x30128
def KTU_MISSQ_FULL_CNT.COUNT : Fld := ⟨KTU_MISSQ_FULL_CNT.OFF, 0, 64⟩
/-- FLT_RING_CTRL (R87). -/
def FLT_RING_CTRL.OFF : Nat := 0x200040
def FLT_RING_CTRL.ENABLE : Fld := ⟨FLT_RING_CTRL.OFF, 0, 1⟩
def FLT_RING_CTRL.LOG2_SIZE : Fld := ⟨FLT_RING_CTRL.OFF, 8, 5⟩
/-- FLT_RING_STAT (R87). -/
def FLT_RING_STAT.OFF : Nat := 0x200044
def FLT_RING_STAT.OVERFLOW : Fld := ⟨FLT_RING_STAT.OFF, 0, 1⟩
def FLT_RING_STAT.EMPTY : Fld := ⟨FLT_RING_STAT.OFF, 1, 1⟩
/-- FLT_RING_HEAD (R87). -/
def FLT_RING_HEAD.OFF : Nat := 0x200048
def FLT_RING_HEAD.HEAD : Fld := ⟨FLT_RING_HEAD.OFF, 0, 32⟩
/-- FLT_RING_TAIL (R87). -/
def FLT_RING_TAIL.OFF : Nat := 0x20004C
def FLT_RING_TAIL.TAIL : Fld := ⟨FLT_RING_TAIL.OFF, 0, 32⟩
/-- FLT_OVF_CNT (R87). -/
def FLT_OVF_CNT.OFF : Nat := 0x200050
def FLT_OVF_CNT.COUNT : Fld := ⟨FLT_OVF_CNT.OFF, 0, 64⟩
/-- FLT_REC_WIN_i (R87). -/
def FLT_REC_WIN.OFF (i : Nat) : Nat := 0x201000 + 32 * i
def FLT_REC_WIN.RECORD (i : Nat) : Fld := ⟨FLT_REC_WIN.OFF i, 0, 256⟩
/-- WRD_CTRL (R135). -/
def WRD_CTRL.OFF : Nat := 0x80040
def WRD_CTRL.QUANTUM : Fld := ⟨WRD_CTRL.OFF, 0, 11⟩
def WRD_CTRL.COL_TMO : Fld := ⟨WRD_CTRL.OFF, 16, 8⟩
def WRD_CTRL.REMOTE_RETRIES : Fld := ⟨WRD_CTRL.OFF, 24, 8⟩
/-- WRD_CTRL2 (R135). -/
def WRD_CTRL2.OFF : Nat := 0x80044
def WRD_CTRL2.WAIT_TMO : Fld := ⟨WRD_CTRL2.OFF, 0, 8⟩
/-- WRD_STAT (R135). -/
def WRD_STAT.OFF : Nat := 0x80048
def WRD_STAT.QUEUED : Fld := ⟨WRD_STAT.OFF, 0, 11⟩
def WRD_STAT.ACTIVE_CTX : Fld := ⟨WRD_STAT.OFF, 16, 9⟩
/-- WRD_OPS_CNT (R135). -/
def WRD_OPS_CNT.OFF : Nat := 0x80100
def WRD_OPS_CNT.COUNT : Fld := ⟨WRD_OPS_CNT.OFF, 0, 64⟩
/-- WRD_CHUNK_CNT (R135). -/
def WRD_CHUNK_CNT.OFF : Nat := 0x80108
def WRD_CHUNK_CNT.COUNT : Fld := ⟨WRD_CHUNK_CNT.OFF, 0, 64⟩
/-- WRD_SWITCH_CNT (R135). -/
def WRD_SWITCH_CNT.OFF : Nat := 0x80110
def WRD_SWITCH_CNT.COUNT : Fld := ⟨WRD_SWITCH_CNT.OFF, 0, 64⟩
/-- WRD_RETRY_CNT (R135). -/
def WRD_RETRY_CNT.OFF : Nat := 0x80118
def WRD_RETRY_CNT.COUNT : Fld := ⟨WRD_RETRY_CNT.OFF, 0, 64⟩
/-- WRD_ABORT_CNT (R135). -/
def WRD_ABORT_CNT.OFF : Nat := 0x80120
def WRD_ABORT_CNT.COUNT : Fld := ⟨WRD_ABORT_CNT.OFF, 0, 64⟩
/-- WRD_MALFORMED_CNT (R135). -/
def WRD_MALFORMED_CNT.OFF : Nat := 0x80128
def WRD_MALFORMED_CNT.COUNT : Fld := ⟨WRD_MALFORMED_CNT.OFF, 0, 64⟩
/-- WRD_POISON_CNT (R135). -/
def WRD_POISON_CNT.OFF : Nat := 0x80130
def WRD_POISON_CNT.COUNT : Fld := ⟨WRD_POISON_CNT.OFF, 0, 64⟩
/-- WRD_REMOTE_FAIL_CNT (R135). -/
def WRD_REMOTE_FAIL_CNT.OFF : Nat := 0x80138
def WRD_REMOTE_FAIL_CNT.COUNT : Fld := ⟨WRD_REMOTE_FAIL_CNT.OFF, 0, 64⟩
/-- WRD_CTX_n (R135). -/
def WRD_CTX.OFF (i : Nat) : Nat := 0x80400 + 4 * i
def WRD_CTX.OWNER (i : Nat) : Fld := ⟨WRD_CTX.OFF i, 0, 6⟩
def WRD_CTX.WEIGHT (i : Nat) : Fld := ⟨WRD_CTX.OFF i, 8, 8⟩
def WRD_CTX.VALID (i : Nat) : Fld := ⟨WRD_CTX.OFF i, 31, 1⟩
/-- WE_STAT (R135). -/
def WE_STAT.OFF : Nat := 0x90040
def WE_STAT.CONTEXT : Fld := ⟨WE_STAT.OFF, 0, 8⟩
def WE_STAT.STATE : Fld := ⟨WE_STAT.OFF, 8, 3⟩
/-- WE_CHUNK_CNT (R135). -/
def WE_CHUNK_CNT.OFF : Nat := 0x90048
def WE_CHUNK_CNT.COUNT : Fld := ⟨WE_CHUNK_CNT.OFF, 0, 64⟩
/-- WE_BUSY_NS (R135). -/
def WE_BUSY_NS.OFF : Nat := 0x90050
def WE_BUSY_NS.COUNT : Fld := ⟨WE_BUSY_NS.OFF, 0, 64⟩
/-- WRD_ATT_STAT (R174). -/
def WRD_ATT_STAT.OFF : Nat := 0x8004C
def WRD_ATT_STAT.OPEN_MERGES : Fld := ⟨WRD_ATT_STAT.OFF, 0, 11⟩
/-- WRD_ATT_CNT (R174). -/
def WRD_ATT_CNT.OFF : Nat := 0x80140
def WRD_ATT_CNT.COUNT : Fld := ⟨WRD_ATT_CNT.OFF, 0, 64⟩
/-- WRD_ATT_KV_BYTES (R174). -/
def WRD_ATT_KV_BYTES.OFF : Nat := 0x80148
def WRD_ATT_KV_BYTES.COUNT : Fld := ⟨WRD_ATT_KV_BYTES.OFF, 0, 64⟩
/-- WRD_APPEND_CNT (R174). -/
def WRD_APPEND_CNT.OFF : Nat := 0x80150
def WRD_APPEND_CNT.COUNT : Fld := ⟨WRD_APPEND_CNT.OFF, 0, 64⟩
/-- WRD_ATT_EXCL_CNT (R174). -/
def WRD_ATT_EXCL_CNT.OFF : Nat := 0x80158
def WRD_ATT_EXCL_CNT.COUNT : Fld := ⟨WRD_ATT_EXCL_CNT.OFF, 0, 64⟩
/-- WRD_MERGE_TMO_CNT (R174). -/
def WRD_MERGE_TMO_CNT.OFF : Nat := 0x80160
def WRD_MERGE_TMO_CNT.COUNT : Fld := ⟨WRD_MERGE_TMO_CNT.OFF, 0, 64⟩
/-- WRD_MERGE_DROP_CNT (R174). -/
def WRD_MERGE_DROP_CNT.OFF : Nat := 0x80168
def WRD_MERGE_DROP_CNT.COUNT : Fld := ⟨WRD_MERGE_DROP_CNT.OFF, 0, 64⟩
/-- LCH_CTRL (R200). -/
def LCH_CTRL.OFF : Nat := 0x70040
def LCH_CTRL.DEF_TMO : Fld := ⟨LCH_CTRL.OFF, 0, 8⟩
def LCH_CTRL.DL_EN : Fld := ⟨LCH_CTRL.OFF, 8, 1⟩
/-- LCH_DL_CTRL (R200). -/
def LCH_DL_CTRL.OFF : Nat := 0x70044
def LCH_DL_CTRL.INTERVAL : Fld := ⟨LCH_DL_CTRL.OFF, 0, 16⟩
/-- LCH_STAT (R200). -/
def LCH_STAT.OFF : Nat := 0x70048
def LCH_STAT.WAITERS : Fld := ⟨LCH_STAT.OFF, 0, 13⟩
def LCH_STAT.WARD_WAITERS : Fld := ⟨LCH_STAT.OFF, 16, 11⟩
/-- LCH_DL_STAT (R200). -/
def LCH_DL_STAT.OFF : Nat := 0x7004C
def LCH_DL_STAT.SNAP_VALID : Fld := ⟨LCH_DL_STAT.OFF, 0, 1⟩
def LCH_DL_STAT.SNAP_ENTRIES : Fld := ⟨LCH_DL_STAT.OFF, 16, 13⟩
/-- LCH_ACC_SEL (R200). -/
def LCH_ACC_SEL.OFF : Nat := 0x70050
def LCH_ACC_SEL.LATCH : Fld := ⟨LCH_ACC_SEL.OFF, 0, 16⟩
/-- LCH_ACC_CMD (R200). -/
def LCH_ACC_CMD.OFF : Nat := 0x70054
def LCH_ACC_CMD.READ : Fld := ⟨LCH_ACC_CMD.OFF, 0, 1⟩
def LCH_ACC_CMD.SET : Fld := ⟨LCH_ACC_CMD.OFF, 1, 1⟩
/-- LCH_ACC_VALUE (R200). -/
def LCH_ACC_VALUE.OFF : Nat := 0x70058
def LCH_ACC_VALUE.VALUE : Fld := ⟨LCH_ACC_VALUE.OFF, 0, 32⟩
/-- LCH_SNAP_SEL (R200). -/
def LCH_SNAP_SEL.OFF : Nat := 0x7005C
def LCH_SNAP_SEL.INDEX : Fld := ⟨LCH_SNAP_SEL.OFF, 0, 13⟩
/-- LCH_SNAP_DATA_w (R200). -/
def LCH_SNAP_DATA.OFF (i : Nat) : Nat := 0x70060 + 4 * i
def LCH_SNAP_DATA.DATA (i : Nat) : Fld := ⟨LCH_SNAP_DATA.OFF i, 0, 32⟩
/-- LCH_ADD_CNT (R200). -/
def LCH_ADD_CNT.OFF : Nat := 0x70100
def LCH_ADD_CNT.COUNT : Fld := ⟨LCH_ADD_CNT.OFF, 0, 64⟩
/-- LCH_SUB_CNT (R200). -/
def LCH_SUB_CNT.OFF : Nat := 0x70108
def LCH_SUB_CNT.COUNT : Fld := ⟨LCH_SUB_CNT.OFF, 0, 64⟩
/-- LCH_WAIT_CNT (R200). -/
def LCH_WAIT_CNT.OFF : Nat := 0x70110
def LCH_WAIT_CNT.COUNT : Fld := ⟨LCH_WAIT_CNT.OFF, 0, 64⟩
/-- LCH_TIMEOUT_CNT (R200). -/
def LCH_TIMEOUT_CNT.OFF : Nat := 0x70118
def LCH_TIMEOUT_CNT.COUNT : Fld := ⟨LCH_TIMEOUT_CNT.OFF, 0, 64⟩
/-- LCH_RANGE_CNT (R200). -/
def LCH_RANGE_CNT.OFF : Nat := 0x70120
def LCH_RANGE_CNT.COUNT : Fld := ⟨LCH_RANGE_CNT.OFF, 0, 64⟩
/-- LCH_WAIT_FULL_CNT (R200). -/
def LCH_WAIT_FULL_CNT.OFF : Nat := 0x70128
def LCH_WAIT_FULL_CNT.COUNT : Fld := ⟨LCH_WAIT_FULL_CNT.OFF, 0, 64⟩
/-- LCH_DEADLOCK_CNT (R200). -/
def LCH_DEADLOCK_CNT.OFF : Nat := 0x70130
def LCH_DEADLOCK_CNT.COUNT : Fld := ⟨LCH_DEADLOCK_CNT.OFF, 0, 64⟩
/-- LCH_MALFORMED_CNT (R200). -/
def LCH_MALFORMED_CNT.OFF : Nat := 0x70138
def LCH_MALFORMED_CNT.COUNT : Fld := ⟨LCH_MALFORMED_CNT.OFF, 0, 64⟩
/-- LCH_WAIT_QUOTA_s (R200). -/
def LCH_WAIT_QUOTA.OFF (i : Nat) : Nat := 0x70300 + 4 * i
def LCH_WAIT_QUOTA.QUOTA (i : Nat) : Fld := ⟨LCH_WAIT_QUOTA.OFF i, 0, 13⟩
/-- LCH_GRP_g (R200). -/
def LCH_GRP.OFF (i : Nat) : Nat := 0x70400 + 4 * i
def LCH_GRP.OWNER (i : Nat) : Fld := ⟨LCH_GRP.OFF i, 0, 6⟩
def LCH_GRP.VALID (i : Nat) : Fld := ⟨LCH_GRP.OFF i, 31, 1⟩
/-- LCH_GRP_SHARE_g (R200). -/
def LCH_GRP_SHARE.OFF (i : Nat) : Nat := 0x70800 + 8 * i
def LCH_GRP_SHARE.MASK (i : Nat) : Fld := ⟨LCH_GRP_SHARE.OFF i, 0, 64⟩
/-- DIR_CTRL (R237). -/
def DIR_CTRL.OFF : Nat := 0x50040
def DIR_CTRL.HOLD : Fld := ⟨DIR_CTRL.OFF, 0, 8⟩
def DIR_CTRL.SNP_TMO : Fld := ⟨DIR_CTRL.OFF, 8, 8⟩
def DIR_CTRL.BI_MAX : Fld := ⟨DIR_CTRL.OFF, 16, 8⟩
/-- DIR_STAT (R237). -/
def DIR_STAT.OFF : Nat := 0x50044
def DIR_STAT.ENTRIES : Fld := ⟨DIR_STAT.OFF, 0, 21⟩
/-- DIR_PEND_STAT (R237). -/
def DIR_PEND_STAT.OFF : Nat := 0x50048
def DIR_PEND_STAT.PEND_MAX : Fld := ⟨DIR_PEND_STAT.OFF, 0, 7⟩
/-- DIR_FENCE_CMD (R237). -/
def DIR_FENCE_CMD.OFF : Nat := 0x50050
def DIR_FENCE_CMD.AGENT : Fld := ⟨DIR_FENCE_CMD.OFF, 0, 9⟩
def DIR_FENCE_CMD.UNFENCE : Fld := ⟨DIR_FENCE_CMD.OFF, 9, 1⟩
def DIR_FENCE_CMD.GO : Fld := ⟨DIR_FENCE_CMD.OFF, 31, 1⟩
/-- DIR_FENCE_STAT (R237). -/
def DIR_FENCE_STAT.OFF : Nat := 0x50054
def DIR_FENCE_STAT.BUSY : Fld := ⟨DIR_FENCE_STAT.OFF, 0, 1⟩
def DIR_FENCE_STAT.DONE : Fld := ⟨DIR_FENCE_STAT.OFF, 1, 1⟩
/-- DIR_FLUSH_START (R237). -/
def DIR_FLUSH_START.OFF : Nat := 0x50058
def DIR_FLUSH_START.PPA : Fld := ⟨DIR_FLUSH_START.OFF, 0, 40⟩
/-- DIR_FLUSH_LEN (R237). -/
def DIR_FLUSH_LEN.OFF : Nat := 0x50060
def DIR_FLUSH_LEN.LEN : Fld := ⟨DIR_FLUSH_LEN.OFF, 0, 41⟩
/-- DIR_FLUSH_CMD (R237). -/
def DIR_FLUSH_CMD.OFF : Nat := 0x50068
def DIR_FLUSH_CMD.GO : Fld := ⟨DIR_FLUSH_CMD.OFF, 0, 1⟩
/-- DIR_FLUSH_STAT (R237). -/
def DIR_FLUSH_STAT.OFF : Nat := 0x5006C
def DIR_FLUSH_STAT.BUSY : Fld := ⟨DIR_FLUSH_STAT.OFF, 0, 1⟩
def DIR_FLUSH_STAT.DONE : Fld := ⟨DIR_FLUSH_STAT.OFF, 1, 1⟩
/-- DIR_ENT_SEL (R237). -/
def DIR_ENT_SEL.OFF : Nat := 0x50070
def DIR_ENT_SEL.SLICE : Fld := ⟨DIR_ENT_SEL.OFF, 0, 4⟩
def DIR_ENT_SEL.SET : Fld := ⟨DIR_ENT_SEL.OFF, 4, 13⟩
def DIR_ENT_SEL.WAY : Fld := ⟨DIR_ENT_SEL.OFF, 17, 4⟩
/-- DIR_ENT_DATA_w (R237). -/
def DIR_ENT_DATA.OFF (i : Nat) : Nat := 0x50080 + 4 * i
def DIR_ENT_DATA.DATA (i : Nat) : Fld := ⟨DIR_ENT_DATA.OFF i, 0, 32⟩
/-- DIR_LOOKUP_CNT (R237). -/
def DIR_LOOKUP_CNT.OFF : Nat := 0x50100
def DIR_LOOKUP_CNT.COUNT : Fld := ⟨DIR_LOOKUP_CNT.OFF, 0, 64⟩
/-- DIR_SNOOP_CNT (R237). -/
def DIR_SNOOP_CNT.OFF : Nat := 0x50108
def DIR_SNOOP_CNT.COUNT : Fld := ⟨DIR_SNOOP_CNT.OFF, 0, 64⟩
/-- DIR_VICTIM_CNT (R237). -/
def DIR_VICTIM_CNT.OFF : Nat := 0x50110
def DIR_VICTIM_CNT.COUNT : Fld := ⟨DIR_VICTIM_CNT.OFF, 0, 64⟩
/-- DIR_RETRY_CNT (R237). -/
def DIR_RETRY_CNT.OFF : Nat := 0x50118
def DIR_RETRY_CNT.COUNT : Fld := ⟨DIR_RETRY_CNT.OFF, 0, 64⟩
/-- DIR_POISONED_CNT (R237). -/
def DIR_POISONED_CNT.OFF : Nat := 0x50120
def DIR_POISONED_CNT.COUNT : Fld := ⟨DIR_POISONED_CNT.OFF, 0, 64⟩
/-- DIR_SNP_TMO_CNT (R237). -/
def DIR_SNP_TMO_CNT.OFF : Nat := 0x50128
def DIR_SNP_TMO_CNT.COUNT : Fld := ⟨DIR_SNP_TMO_CNT.OFF, 0, 64⟩
/-- DIR_DROP_CNT (R237). -/
def DIR_DROP_CNT.OFF : Nat := 0x50130
def DIR_DROP_CNT.COUNT : Fld := ⟨DIR_DROP_CNT.OFF, 0, 64⟩
/-- DIR_BISNP_CNT (R237). -/
def DIR_BISNP_CNT.OFF : Nat := 0x50138
def DIR_BISNP_CNT.COUNT : Fld := ⟨DIR_BISNP_CNT.OFF, 0, 64⟩
/-- DIR_PTN_HELD_n (R237). -/
def DIR_PTN_HELD.OFF (i : Nat) : Nat := 0x50400 + 4 * i
def DIR_PTN_HELD.LINES (i : Nat) : Fld := ⟨DIR_PTN_HELD.OFF i, 0, 21⟩
/-- DIR_AGENT_a (R237). -/
def DIR_AGENT.OFF (i : Nat) : Nat := 0x50800 + 4 * i
def DIR_AGENT.NODE (i : Nat) : Fld := ⟨DIR_AGENT.OFF i, 0, 12⟩
def DIR_AGENT.LD (i : Nat) : Fld := ⟨DIR_AGENT.OFF i, 12, 4⟩
def DIR_AGENT.CXL (i : Nat) : Fld := ⟨DIR_AGENT.OFF i, 16, 1⟩
def DIR_AGENT.FENCED (i : Nat) : Fld := ⟨DIR_AGENT.OFF i, 29, 1⟩
def DIR_AGENT.VALID (i : Nat) : Fld := ⟨DIR_AGENT.OFF i, 31, 1⟩
/-- SC_CTRL (R285). -/
def SC_CTRL.OFF (i : Nat) : Nat := 0x100040 + 65536 * i
def SC_CTRL.OFFLINE (i : Nat) : Fld := ⟨SC_CTRL.OFF i, 0, 1⟩
/-- SC_STAT (R285). -/
def SC_STAT.OFF (i : Nat) : Nat := 0x100044 + 65536 * i
def SC_STAT.STATE (i : Nat) : Fld := ⟨SC_STAT.OFF i, 0, 2⟩
def SC_STAT.TEMP (i : Nat) : Fld := ⟨SC_STAT.OFF i, 8, 8⟩
def SC_STAT.HOT (i : Nat) : Fld := ⟨SC_STAT.OFF i, 16, 1⟩
def SC_STAT.FAIL_CAUSE (i : Nat) : Fld := ⟨SC_STAT.OFF i, 24, 4⟩
/-- SC_CH_QSC (R285). -/
def SC_CH_QSC.OFF (i : Nat) : Nat := 0x100048 + 65536 * i
def SC_CH_QSC.QSC (i : Nat) : Fld := ⟨SC_CH_QSC.OFF i, 0, 32⟩
/-- SC_CH_QSD (R285). -/
def SC_CH_QSD.OFF (i : Nat) : Nat := 0x10004C + 65536 * i
def SC_CH_QSD.QSD (i : Nat) : Fld := ⟨SC_CH_QSD.OFF i, 0, 32⟩
/-- SC_RT (R285). -/
def SC_RT.OFF (i : Nat) : Nat := 0x100050 + 65536 * i
def SC_RT.RT_MASK (i : Nat) : Fld := ⟨SC_RT.OFF i, 0, 17⟩
def SC_RT.RT_INTERACTIVE (i : Nat) : Fld := ⟨SC_RT.OFF i, 17, 1⟩
def SC_RT.PANIC_THR (i : Nat) : Fld := ⟨SC_RT.OFF i, 18, 6⟩
/-- SC_SCHED (R285). -/
def SC_SCHED.OFF (i : Nat) : Nat := 0x100054 + 65536 * i
def SC_SCHED.WR_HIGH (i : Nat) : Fld := ⟨SC_SCHED.OFF i, 0, 7⟩
def SC_SCHED.WR_LOW (i : Nat) : Fld := ⟨SC_SCHED.OFF i, 8, 7⟩
def SC_SCHED.AGE_MAX (i : Nat) : Fld := ⟨SC_SCHED.OFF i, 16, 16⟩
/-- SC_RD_CNT (R285). -/
def SC_RD_CNT.OFF (i : Nat) : Nat := 0x100100 + 65536 * i
def SC_RD_CNT.COUNT (i : Nat) : Fld := ⟨SC_RD_CNT.OFF i, 0, 64⟩
/-- SC_WR_CNT (R285). -/
def SC_WR_CNT.OFF (i : Nat) : Nat := 0x100108 + 65536 * i
def SC_WR_CNT.COUNT (i : Nat) : Fld := ⟨SC_WR_CNT.OFF i, 0, 64⟩
/-- SC_PANIC_CNT (R285). -/
def SC_PANIC_CNT.OFF (i : Nat) : Nat := 0x100110 + 65536 * i
def SC_PANIC_CNT.COUNT (i : Nat) : Fld := ⟨SC_PANIC_CNT.OFF i, 0, 64⟩
/-- SC_REF_POSTPONE_CNT (R285). -/
def SC_REF_POSTPONE_CNT.OFF (i : Nat) : Nat := 0x100118 + 65536 * i
def SC_REF_POSTPONE_CNT.COUNT (i : Nat) : Fld := ⟨SC_REF_POSTPONE_CNT.OFF i, 0, 64⟩
/-- SC_TIM0 (R285). -/
def SC_TIM0.OFF (i : Nat) : Nat := 0x101040 + 65536 * i
def SC_TIM0.TRCD (i : Nat) : Fld := ⟨SC_TIM0.OFF i, 0, 8⟩
def SC_TIM0.TRP (i : Nat) : Fld := ⟨SC_TIM0.OFF i, 8, 8⟩
def SC_TIM0.TCL (i : Nat) : Fld := ⟨SC_TIM0.OFF i, 16, 8⟩
def SC_TIM0.TWR (i : Nat) : Fld := ⟨SC_TIM0.OFF i, 24, 8⟩
/-- SC_TIM1 (R285). -/
def SC_TIM1.OFF (i : Nat) : Nat := 0x101044 + 65536 * i
def SC_TIM1.TRAS (i : Nat) : Fld := ⟨SC_TIM1.OFF i, 0, 8⟩
def SC_TIM1.TRC (i : Nat) : Fld := ⟨SC_TIM1.OFF i, 8, 8⟩
def SC_TIM1.TRRD (i : Nat) : Fld := ⟨SC_TIM1.OFF i, 16, 8⟩
def SC_TIM1.TFAW (i : Nat) : Fld := ⟨SC_TIM1.OFF i, 24, 8⟩
/-- SC_TIM_REF (R285). -/
def SC_TIM_REF.OFF (i : Nat) : Nat := 0x101048 + 65536 * i
def SC_TIM_REF.REFI_NS (i : Nat) : Fld := ⟨SC_TIM_REF.OFF i, 0, 16⟩
def SC_TIM_REF.TRFC (i : Nat) : Fld := ⟨SC_TIM_REF.OFF i, 16, 8⟩
/-- SC_DLY_c_p_l (R285). -/
def SC_DLY.OFF (i : Nat) (j : Nat) (k : Nat) (l : Nat) : Nat := 0x102100 + 65536 * i + 64 * j + 32 * k + 4 * l
def SC_DLY.RD_DLY (i : Nat) (j : Nat) (k : Nat) (l : Nat) : Fld := ⟨SC_DLY.OFF i j k l, 0, 8⟩
def SC_DLY.WR_DLY (i : Nat) (j : Nat) (k : Nat) (l : Nat) : Fld := ⟨SC_DLY.OFF i j k l, 8, 8⟩
def SC_DLY.VREF (i : Nat) (j : Nat) (k : Nat) (l : Nat) : Fld := ⟨SC_DLY.OFF i j k l, 16, 8⟩
/-- SC_DLY_CA_c (R285). -/
def SC_DLY_CA.OFF (i : Nat) (j : Nat) : Nat := 0x102A00 + 65536 * i + 4 * j
def SC_DLY_CA.CA_DLY (i : Nat) (j : Nat) : Fld := ⟨SC_DLY_CA.OFF i j, 0, 8⟩
/-- SC_ARB_TKT_i (R285). -/
def SC_ARB_TKT.OFF (i : Nat) (j : Nat) : Nat := 0x103040 + 65536 * i + 4 * j
def SC_ARB_TKT.TICKETS (i : Nat) (j : Nat) : Fld := ⟨SC_ARB_TKT.OFF i j, 0, 8⟩
/-- SC_ARB_CTRL (R285). -/
def SC_ARB_CTRL.OFF (i : Nat) : Nat := 0x103090 + 65536 * i
def SC_ARB_CTRL.STARV_N (i : Nat) : Fld := ⟨SC_ARB_CTRL.OFF i, 0, 8⟩
/-- SC_ARB_LFSR (R285). -/
def SC_ARB_LFSR.OFF (i : Nat) : Nat := 0x103094 + 65536 * i
def SC_ARB_LFSR.LFSR (i : Nat) : Fld := ⟨SC_ARB_LFSR.OFF i, 0, 16⟩
/-- SC_ARB_GRANT_CNT_i (R285). -/
def SC_ARB_GRANT_CNT.OFF (i : Nat) (j : Nat) : Nat := 0x103100 + 65536 * i + 8 * j
def SC_ARB_GRANT_CNT.COUNT (i : Nat) (j : Nat) : Fld := ⟨SC_ARB_GRANT_CNT.OFF i j, 0, 64⟩
/-- SC_ARB_STARV_CNT (R285). -/
def SC_ARB_STARV_CNT.OFF (i : Nat) : Nat := 0x103200 + 65536 * i
def SC_ARB_STARV_CNT.COUNT (i : Nat) : Fld := ⟨SC_ARB_STARV_CNT.OFF i, 0, 64⟩
/-- SC_SCRUB_CTRL (R285). -/
def SC_SCRUB_CTRL.OFF (i : Nat) : Nat := 0x104040 + 65536 * i
def SC_SCRUB_CTRL.EN (i : Nat) : Fld := ⟨SC_SCRUB_CTRL.OFF i, 0, 1⟩
def SC_SCRUB_CTRL.PERIOD_H (i : Nat) : Fld := ⟨SC_SCRUB_CTRL.OFF i, 8, 8⟩
/-- SC_SCRUB_STAT (R285). -/
def SC_SCRUB_STAT.OFF (i : Nat) : Nat := 0x104044 + 65536 * i
def SC_SCRUB_STAT.LATE (i : Nat) : Fld := ⟨SC_SCRUB_STAT.OFF i, 0, 1⟩
/-- SC_SCRUB_POS (R285). -/
def SC_SCRUB_POS.OFF (i : Nat) : Nat := 0x104048 + 65536 * i
def SC_SCRUB_POS.GRANULE (i : Nat) : Fld := ⟨SC_SCRUB_POS.OFF i, 0, 24⟩
/-- SC_SCRUB_PASS_CNT (R285). -/
def SC_SCRUB_PASS_CNT.OFF (i : Nat) : Nat := 0x104100 + 65536 * i
def SC_SCRUB_PASS_CNT.COUNT (i : Nat) : Fld := ⟨SC_SCRUB_PASS_CNT.OFF i, 0, 64⟩
/-- SC_SCRUB_SECT_CNT (R285). -/
def SC_SCRUB_SECT_CNT.OFF (i : Nat) : Nat := 0x104108 + 65536 * i
def SC_SCRUB_SECT_CNT.COUNT (i : Nat) : Fld := ⟨SC_SCRUB_SECT_CNT.OFF i, 0, 64⟩
/-- SC_CE_BUCKET (R285). -/
def SC_CE_BUCKET.OFF (i : Nat) : Nat := 0x105040 + 65536 * i
def SC_CE_BUCKET.LEVEL (i : Nat) : Fld := ⟨SC_CE_BUCKET.OFF i, 0, 16⟩
/-- SC_CE_CTRL (R285). -/
def SC_CE_CTRL.OFF (i : Nat) : Nat := 0x105044 + 65536 * i
def SC_CE_CTRL.THRESH (i : Nat) : Fld := ⟨SC_CE_CTRL.OFF i, 0, 16⟩
def SC_CE_CTRL.LEAK (i : Nat) : Fld := ⟨SC_CE_CTRL.OFF i, 16, 16⟩
/-- SC_UE_CTRL (R285). -/
def SC_UE_CTRL.OFF (i : Nat) : Nat := 0x105048 + 65536 * i
def SC_UE_CTRL.FAIL_THRESH (i : Nat) : Fld := ⟨SC_UE_CTRL.OFF i, 0, 16⟩
/-- SC_SPARE_STAT (R285). -/
def SC_SPARE_STAT.OFF (i : Nat) : Nat := 0x10504C + 65536 * i
def SC_SPARE_STAT.USED (i : Nat) : Fld := ⟨SC_SPARE_STAT.OFF i, 0, 15⟩
/-- SC_RMP_SEL (R285). -/
def SC_RMP_SEL.OFF (i : Nat) : Nat := 0x105050 + 65536 * i
def SC_RMP_SEL.INDEX (i : Nat) : Fld := ⟨SC_RMP_SEL.OFF i, 0, 14⟩
/-- SC_RMP_DATA0 (R285). -/
def SC_RMP_DATA0.OFF (i : Nat) : Nat := 0x105054 + 65536 * i
def SC_RMP_DATA0.GRANULE (i : Nat) : Fld := ⟨SC_RMP_DATA0.OFF i, 0, 24⟩
def SC_RMP_DATA0.STACK (i : Nat) : Fld := ⟨SC_RMP_DATA0.OFF i, 24, 4⟩
def SC_RMP_DATA0.VALID (i : Nat) : Fld := ⟨SC_RMP_DATA0.OFF i, 31, 1⟩
/-- SC_RMP_DATA1 (R285). -/
def SC_RMP_DATA1.OFF (i : Nat) : Nat := 0x105058 + 65536 * i
def SC_RMP_DATA1.SPARE (i : Nat) : Fld := ⟨SC_RMP_DATA1.OFF i, 0, 14⟩
/-- SC_CE_CNT (R285). -/
def SC_CE_CNT.OFF (i : Nat) : Nat := 0x105100 + 65536 * i
def SC_CE_CNT.COUNT (i : Nat) : Fld := ⟨SC_CE_CNT.OFF i, 0, 64⟩
/-- SC_UE_CNT (R285). -/
def SC_UE_CNT.OFF (i : Nat) : Nat := 0x105108 + 65536 * i
def SC_UE_CNT.COUNT (i : Nat) : Fld := ⟨SC_UE_CNT.OFF i, 0, 64⟩
/-- SC_POISON_RD_CNT (R285). -/
def SC_POISON_RD_CNT.OFF (i : Nat) : Nat := 0x105110 + 65536 * i
def SC_POISON_RD_CNT.COUNT (i : Nat) : Fld := ⟨SC_POISON_RD_CNT.OFF i, 0, 64⟩
/-- SC_RETIRE_CNT (R285). -/
def SC_RETIRE_CNT.OFF (i : Nat) : Nat := 0x105118 + 65536 * i
def SC_RETIRE_CNT.COUNT (i : Nat) : Fld := ⟨SC_RETIRE_CNT.OFF i, 0, 64⟩
/-- SWP_CTRL (R321). -/
def SWP_CTRL.OFF (i : Nat) : Nat := swpBase i + 0x40
def SWP_CTRL.TGT_WIDTH (i : Nat) : Fld := ⟨SWP_CTRL.OFF i, 0, 2⟩
def SWP_CTRL.TGT_SPEED (i : Nat) : Fld := ⟨SWP_CTRL.OFF i, 2, 2⟩
def SWP_CTRL.MAX_PL (i : Nat) : Fld := ⟨SWP_CTRL.OFF i, 4, 2⟩
def SWP_CTRL.ENC_REQ (i : Nat) : Fld := ⟨SWP_CTRL.OFF i, 6, 1⟩
def SWP_CTRL.RETRAIN (i : Nat) : Fld := ⟨SWP_CTRL.OFF i, 7, 1⟩
def SWP_CTRL.REPLAY_TMO (i : Nat) : Fld := ⟨SWP_CTRL.OFF i, 8, 8⟩
/-- SWP_STAT (R321). -/
def SWP_STAT.OFF (i : Nat) : Nat := swpBase i + 0x44
def SWP_STAT.STATE (i : Nat) : Fld := ⟨SWP_STAT.OFF i, 0, 3⟩
def SWP_STAT.WIDTH (i : Nat) : Fld := ⟨SWP_STAT.OFF i, 3, 2⟩
def SWP_STAT.SPEED (i : Nat) : Fld := ⟨SWP_STAT.OFF i, 5, 2⟩
def SWP_STAT.MAX_PL (i : Nat) : Fld := ⟨SWP_STAT.OFF i, 7, 2⟩
def SWP_STAT.ENCRYPTED (i : Nat) : Fld := ⟨SWP_STAT.OFF i, 9, 1⟩
def SWP_STAT.KEY_PHASE (i : Nat) : Fld := ⟨SWP_STAT.OFF i, 10, 1⟩
def SWP_STAT.WIDTH_REDUCED (i : Nat) : Fld := ⟨SWP_STAT.OFF i, 11, 1⟩
def SWP_STAT.PEER_NODE (i : Nat) : Fld := ⟨SWP_STAT.OFF i, 12, 12⟩
/-- SWP_VCBUF_v (R321). -/
def SWP_VCBUF.OFF (i : Nat) (j : Nat) : Nat := swpBase i + 0x50 + 4 * j
def SWP_VCBUF.UNITS (i : Nat) (j : Nat) : Fld := ⟨SWP_VCBUF.OFF i j, 0, 11⟩
/-- SWP_REKEY (R321). -/
def SWP_REKEY.OFF (i : Nat) : Nat := swpBase i + 0x70
def SWP_REKEY.REKEY_S (i : Nat) : Fld := ⟨SWP_REKEY.OFF i, 0, 12⟩
/-- SWP_REPLAY_STAT (R321). -/
def SWP_REPLAY_STAT.OFF (i : Nat) : Nat := swpBase i + 0x74
def SWP_REPLAY_STAT.UNACKED (i : Nat) : Fld := ⟨SWP_REPLAY_STAT.OFF i, 0, 10⟩
/-- SWP_CREDIT_v (R321). -/
def SWP_CREDIT.OFF (i : Nat) (j : Nat) : Nat := swpBase i + 0x80 + 4 * j
def SWP_CREDIT.AVAIL (i : Nat) (j : Nat) : Fld := ⟨SWP_CREDIT.OFF i j, 0, 11⟩
def SWP_CREDIT.HELD (i : Nat) (j : Nat) : Fld := ⟨SWP_CREDIT.OFF i j, 16, 11⟩
/-- SWP_TX_FLIT_CNT (R321). -/
def SWP_TX_FLIT_CNT.OFF (i : Nat) : Nat := swpBase i + 0x100
def SWP_TX_FLIT_CNT.COUNT (i : Nat) : Fld := ⟨SWP_TX_FLIT_CNT.OFF i, 0, 64⟩
/-- SWP_RX_FLIT_CNT (R321). -/
def SWP_RX_FLIT_CNT.OFF (i : Nat) : Nat := swpBase i + 0x108
def SWP_RX_FLIT_CNT.COUNT (i : Nat) : Fld := ⟨SWP_RX_FLIT_CNT.OFF i, 0, 64⟩
/-- SWP_BAD_FLIT_CNT (R321). -/
def SWP_BAD_FLIT_CNT.OFF (i : Nat) : Nat := swpBase i + 0x110
def SWP_BAD_FLIT_CNT.COUNT (i : Nat) : Fld := ⟨SWP_BAD_FLIT_CNT.OFF i, 0, 64⟩
/-- SWP_DISCARD_CNT (R321). -/
def SWP_DISCARD_CNT.OFF (i : Nat) : Nat := swpBase i + 0x118
def SWP_DISCARD_CNT.COUNT (i : Nat) : Fld := ⟨SWP_DISCARD_CNT.OFF i, 0, 64⟩
/-- SWP_DUP_CNT (R321). -/
def SWP_DUP_CNT.OFF (i : Nat) : Nat := swpBase i + 0x120
def SWP_DUP_CNT.COUNT (i : Nat) : Fld := ⟨SWP_DUP_CNT.OFF i, 0, 64⟩
/-- SWP_REPLAY_CNT (R321). -/
def SWP_REPLAY_CNT.OFF (i : Nat) : Nat := swpBase i + 0x128
def SWP_REPLAY_CNT.COUNT (i : Nat) : Fld := ⟨SWP_REPLAY_CNT.OFF i, 0, 64⟩
/-- SWP_RETRAIN_CNT (R321). -/
def SWP_RETRAIN_CNT.OFF (i : Nat) : Nat := swpBase i + 0x130
def SWP_RETRAIN_CNT.COUNT (i : Nat) : Fld := ⟨SWP_RETRAIN_CNT.OFF i, 0, 64⟩
/-- SWP_DOWN_CNT (R321). -/
def SWP_DOWN_CNT.OFF (i : Nat) : Nat := swpBase i + 0x138
def SWP_DOWN_CNT.COUNT (i : Nat) : Fld := ⟨SWP_DOWN_CNT.OFF i, 0, 64⟩
/-- SWP_DROP_CNT (R321). -/
def SWP_DROP_CNT.OFF (i : Nat) : Nat := swpBase i + 0x140
def SWP_DROP_CNT.COUNT (i : Nat) : Fld := ⟨SWP_DROP_CNT.OFF i, 0, 64⟩
/-- SWP_MALFORMED_CNT (R321). -/
def SWP_MALFORMED_CNT.OFF (i : Nat) : Nat := swpBase i + 0x148
def SWP_MALFORMED_CNT.COUNT (i : Nat) : Fld := ⟨SWP_MALFORMED_CNT.OFF i, 0, 64⟩
/-- SWP_TAG_FAIL_CNT (R321). -/
def SWP_TAG_FAIL_CNT.OFF (i : Nat) : Nat := swpBase i + 0x150
def SWP_TAG_FAIL_CNT.COUNT (i : Nat) : Fld := ⟨SWP_TAG_FAIL_CNT.OFF i, 0, 64⟩
/-- SWP_REKEY_CNT (R321). -/
def SWP_REKEY_CNT.OFF (i : Nat) : Nat := swpBase i + 0x158
def SWP_REKEY_CNT.COUNT (i : Nat) : Fld := ⟨SWP_REKEY_CNT.OFF i, 0, 64⟩
/-- SWP_TX_BYTE_CNT (R321). -/
def SWP_TX_BYTE_CNT.OFF (i : Nat) : Nat := swpBase i + 0x160
def SWP_TX_BYTE_CNT.COUNT (i : Nat) : Fld := ⟨SWP_TX_BYTE_CNT.OFF i, 0, 64⟩
/-- SWP_RX_BYTE_CNT (R321). -/
def SWP_RX_BYTE_CNT.OFF (i : Nat) : Nat := swpBase i + 0x168
def SWP_RX_BYTE_CNT.COUNT (i : Nat) : Fld := ⟨SWP_RX_BYTE_CNT.OFF i, 0, 64⟩
/-- RTB_NODE (R358). -/
def RTB_NODE.OFF : Nat := 0x20040
def RTB_NODE.ID : Fld := ⟨RTB_NODE.OFF, 0, 12⟩
def RTB_NODE.ID_VALID : Fld := ⟨RTB_NODE.OFF, 12, 1⟩
def RTB_NODE.PAIR_ID : Fld := ⟨RTB_NODE.OFF, 16, 12⟩
def RTB_NODE.PAIR_VALID : Fld := ⟨RTB_NODE.OFF, 28, 1⟩
/-- RTB_CTRL (R358). -/
def RTB_CTRL.OFF : Nat := 0x20044
def RTB_CTRL.INJ_EPOCH : Fld := ⟨RTB_CTRL.OFF, 0, 1⟩
def RTB_CTRL.RAND_EN : Fld := ⟨RTB_CTRL.OFF, 1, 1⟩
def RTB_CTRL.DRAIN : Fld := ⟨RTB_CTRL.OFF, 8, 8⟩
/-- RTB_TBL_STAT (R358). -/
def RTB_TBL_STAT.OFF : Nat := 0x20048
def RTB_TBL_STAT.VALID_A : Fld := ⟨RTB_TBL_STAT.OFF, 0, 1⟩
def RTB_TBL_STAT.VALID_B : Fld := ⟨RTB_TBL_STAT.OFF, 1, 1⟩
def RTB_TBL_STAT.FAIL_INDEX : Fld := ⟨RTB_TBL_STAT.OFF, 4, 12⟩
def RTB_TBL_STAT.FAIL_RULE : Fld := ⟨RTB_TBL_STAT.OFF, 16, 3⟩
/-- RTB_TBL_CMD (R358). -/
def RTB_TBL_CMD.OFF : Nat := 0x2004C
def RTB_TBL_CMD.VERSION : Fld := ⟨RTB_TBL_CMD.OFF, 0, 1⟩
def RTB_TBL_CMD.COMMIT : Fld := ⟨RTB_TBL_CMD.OFF, 1, 1⟩
def RTB_TBL_CMD.INVALIDATE : Fld := ⟨RTB_TBL_CMD.OFF, 2, 1⟩
def RTB_TBL_CMD.FLIP : Fld := ⟨RTB_TBL_CMD.OFF, 3, 1⟩
/-- RTB_EPOCH_PKT (R358). -/
def RTB_EPOCH_PKT.OFF : Nat := 0x20050
def RTB_EPOCH_PKT.HELD_A : Fld := ⟨RTB_EPOCH_PKT.OFF, 0, 16⟩
def RTB_EPOCH_PKT.HELD_B : Fld := ⟨RTB_EPOCH_PKT.OFF, 16, 16⟩
/-- RTB_PORT_DIR (R358). -/
def RTB_PORT_DIR.OFF : Nat := 0x20054
def RTB_PORT_DIR.UP : Fld := ⟨RTB_PORT_DIR.OFF, 0, 4⟩
def RTB_PORT_DIR.HINGE_UP : Fld := ⟨RTB_PORT_DIR.OFF, 4, 1⟩
/-- RTB_ENUM_CTRL (R358). -/
def RTB_ENUM_CTRL.OFF : Nat := 0x20058
def RTB_ENUM_CTRL.START : Fld := ⟨RTB_ENUM_CTRL.OFF, 0, 1⟩
def RTB_ENUM_CTRL.CHAIN_HEAD : Fld := ⟨RTB_ENUM_CTRL.OFF, 8, 1⟩
def RTB_ENUM_CTRL.CHAIN_PORT : Fld := ⟨RTB_ENUM_CTRL.OFF, 9, 2⟩
/-- RTB_ENUM_STAT (R358). -/
def RTB_ENUM_STAT.OFF : Nat := 0x2005C
def RTB_ENUM_STAT.STATE : Fld := ⟨RTB_ENUM_STAT.OFF, 0, 3⟩
def RTB_ENUM_STAT.UPSTREAM : Fld := ⟨RTB_ENUM_STAT.OFF, 3, 2⟩
def RTB_ENUM_STAT.UP_VALID : Fld := ⟨RTB_ENUM_STAT.OFF, 5, 1⟩
def RTB_ENUM_STAT.POSITION : Fld := ⟨RTB_ENUM_STAT.OFF, 8, 8⟩
def RTB_ENUM_STAT.LAST_ID : Fld := ⟨RTB_ENUM_STAT.OFF, 16, 12⟩
/-- RTB_FENCE_CMD (R358). -/
def RTB_FENCE_CMD.OFF : Nat := 0x20060
def RTB_FENCE_CMD.NODE : Fld := ⟨RTB_FENCE_CMD.OFF, 0, 12⟩
def RTB_FENCE_CMD.UNFENCE : Fld := ⟨RTB_FENCE_CMD.OFF, 12, 1⟩
def RTB_FENCE_CMD.GO : Fld := ⟨RTB_FENCE_CMD.OFF, 31, 1⟩
/-- RTB_FENCE_STAT (R358). -/
def RTB_FENCE_STAT.OFF : Nat := 0x20064
def RTB_FENCE_STAT.BUSY : Fld := ⟨RTB_FENCE_STAT.OFF, 0, 1⟩
def RTB_FENCE_STAT.DONE : Fld := ⟨RTB_FENCE_STAT.OFF, 1, 1⟩
def RTB_FENCE_STAT.FENCED : Fld := ⟨RTB_FENCE_STAT.OFF, 16, 13⟩
/-- RTB_TIME_STAT (R358). -/
def RTB_TIME_STAT.OFF : Nat := 0x20068
def RTB_TIME_STAT.SYNCED : Fld := ⟨RTB_TIME_STAT.OFF, 0, 1⟩
def RTB_TIME_STAT.HOLDOVER : Fld := ⟨RTB_TIME_STAT.OFF, 1, 1⟩
def RTB_TIME_STAT.LAST_CORR : Fld := ⟨RTB_TIME_STAT.OFF, 16, 16⟩
/-- RTB_INTER_CNT (R358). -/
def RTB_INTER_CNT.OFF : Nat := 0x2006C
def RTB_INTER_CNT.COUNT : Fld := ⟨RTB_INTER_CNT.OFF, 0, 7⟩
/-- RTB_POOL_TIME (R358). -/
def RTB_POOL_TIME.OFF : Nat := 0x20070
def RTB_POOL_TIME.TIME : Fld := ⟨RTB_POOL_TIME.OFF, 0, 64⟩
/-- RTB_TIME_SET (R358). -/
def RTB_TIME_SET.OFF : Nat := 0x20078
def RTB_TIME_SET.TIME : Fld := ⟨RTB_TIME_SET.OFF, 0, 64⟩
/-- RTB_ENUM_HEAD (R358). -/
def RTB_ENUM_HEAD.OFF : Nat := 0x20080
def RTB_ENUM_HEAD.HEAD_ID : Fld := ⟨RTB_ENUM_HEAD.OFF, 0, 12⟩
/-- RTB_LOCAL_CNT (R358). -/
def RTB_LOCAL_CNT.OFF : Nat := 0x20100
def RTB_LOCAL_CNT.COUNT : Fld := ⟨RTB_LOCAL_CNT.OFF, 0, 64⟩
/-- RTB_TRANSIT_CNT (R358). -/
def RTB_TRANSIT_CNT.OFF : Nat := 0x20108
def RTB_TRANSIT_CNT.COUNT : Fld := ⟨RTB_TRANSIT_CNT.OFF, 0, 64⟩
/-- RTB_REROUTE_CNT (R358). -/
def RTB_REROUTE_CNT.OFF : Nat := 0x20110
def RTB_REROUTE_CNT.COUNT : Fld := ⟨RTB_REROUTE_CNT.OFF, 0, 64⟩
/-- RTB_UNROUTABLE_CNT (R358). -/
def RTB_UNROUTABLE_CNT.OFF : Nat := 0x20118
def RTB_UNROUTABLE_CNT.COUNT : Fld := ⟨RTB_UNROUTABLE_CNT.OFF, 0, 64⟩
/-- RTB_TURN_DROP_CNT (R358). -/
def RTB_TURN_DROP_CNT.OFF : Nat := 0x20120
def RTB_TURN_DROP_CNT.COUNT : Fld := ⟨RTB_TURN_DROP_CNT.OFF, 0, 64⟩
/-- RTB_EPOCH_DROP_CNT (R358). -/
def RTB_EPOCH_DROP_CNT.OFF : Nat := 0x20128
def RTB_EPOCH_DROP_CNT.COUNT : Fld := ⟨RTB_EPOCH_DROP_CNT.OFF, 0, 64⟩
/-- RTB_FENCE_DROP_CNT (R358). -/
def RTB_FENCE_DROP_CNT.OFF : Nat := 0x20130
def RTB_FENCE_DROP_CNT.COUNT : Fld := ⟨RTB_FENCE_DROP_CNT.OFF, 0, 64⟩
/-- RTB_MALFORMED_CNT (R358). -/
def RTB_MALFORMED_CNT.OFF : Nat := 0x20138
def RTB_MALFORMED_CNT.COUNT : Fld := ⟨RTB_MALFORMED_CNT.OFF, 0, 64⟩
/-- RTB_MC_COPY_CNT (R358). -/
def RTB_MC_COPY_CNT.OFF : Nat := 0x20140
def RTB_MC_COPY_CNT.COUNT : Fld := ⟨RTB_MC_COPY_CNT.OFF, 0, 64⟩
/-- RTB_MC_PRUNE_CNT (R358). -/
def RTB_MC_PRUNE_CNT.OFF : Nat := 0x20148
def RTB_MC_PRUNE_CNT.COUNT : Fld := ⟨RTB_MC_PRUNE_CNT.OFF, 0, 64⟩
/-- RTB_TIME_SYNC_CNT (R358). -/
def RTB_TIME_SYNC_CNT.OFF : Nat := 0x20150
def RTB_TIME_SYNC_CNT.COUNT : Fld := ⟨RTB_TIME_SYNC_CNT.OFF, 0, 64⟩
/-- RTB_INTER_k (R358). -/
def RTB_INTER.OFF (i : Nat) : Nat := 0x20300 + 4 * i
def RTB_INTER.NODE (i : Nat) : Fld := ⟨RTB_INTER.OFF i, 0, 12⟩
/-- RTB_FENCE_MAP_w (R358). -/
def RTB_FENCE_MAP.OFF (i : Nat) : Nat := 0x20800 + 4 * i
def RTB_FENCE_MAP.MAP (i : Nat) : Fld := ⟨RTB_FENCE_MAP.OFF i, 0, 32⟩
/-- RTB_ROUTE_v_d (R358). -/
def RTB_ROUTE.OFF (i : Nat) (j : Nat) : Nat := 0x21000 + 16384 * i + 4 * j
def RTB_ROUTE.PRIMARY (i : Nat) (j : Nat) : Fld := ⟨RTB_ROUTE.OFF i j, 0, 3⟩
def RTB_ROUTE.SECONDARY (i : Nat) (j : Nat) : Fld := ⟨RTB_ROUTE.OFF i j, 3, 3⟩
def RTB_ROUTE.VALID (i : Nat) (j : Nat) : Fld := ⟨RTB_ROUTE.OFF i j, 31, 1⟩
/-- RTB_MC_PORT_g (R358). -/
def RTB_MC_PORT.OFF (i : Nat) : Nat := 0x29000 + 4 * i
def RTB_MC_PORT.ROOT (i : Nat) : Fld := ⟨RTB_MC_PORT.OFF i, 0, 12⟩
def RTB_MC_PORT.PARENT (i : Nat) : Fld := ⟨RTB_MC_PORT.OFF i, 12, 3⟩
def RTB_MC_PORT.CHILDREN (i : Nat) : Fld := ⟨RTB_MC_PORT.OFF i, 16, 5⟩
def RTB_MC_PORT.LOCAL (i : Nat) : Fld := ⟨RTB_MC_PORT.OFF i, 21, 1⟩
def RTB_MC_PORT.VALID (i : Nat) : Fld := ⟨RTB_MC_PORT.OFF i, 31, 1⟩
/-- RTB_MC_TREE_g (R358). -/
def RTB_MC_TREE.OFF (i : Nat) : Nat := 0x2A000 + 16 * i
def RTB_MC_TREE.PARENT_NODE (i : Nat) : Fld := ⟨RTB_MC_TREE.OFF i, 0, 12⟩
def RTB_MC_TREE.NCHILD (i : Nat) : Fld := ⟨RTB_MC_TREE.OFF i, 12, 4⟩
def RTB_MC_TREE.MEMBERS (i : Nat) : Fld := ⟨RTB_MC_TREE.OFF i, 16, 5⟩
def RTB_MC_TREE.VALID (i : Nat) : Fld := ⟨RTB_MC_TREE.OFF i, 31, 1⟩
/-- TSH_CTRL (R376). -/
def TSH_CTRL.OFF : Nat := 0x60040
def TSH_CTRL.POLICE_EN : Fld := ⟨TSH_CTRL.OFF, 0, 1⟩
/-- TSH_STAT (R376). -/
def TSH_STAT.OFF : Nat := 0x60044
def TSH_STAT.EP : Fld := ⟨TSH_STAT.OFF, 0, 4⟩
/-- TSH_HIST_CTRL (R376). -/
def TSH_HIST_CTRL.OFF : Nat := 0x60048
def TSH_HIST_CTRL.FREEZE : Fld := ⟨TSH_HIST_CTRL.OFF, 0, 1⟩
def TSH_HIST_CTRL.CLEAR : Fld := ⟨TSH_HIST_CTRL.OFF, 1, 1⟩
/-- TSH_HIST_SEL (R376). -/
def TSH_HIST_SEL.OFF : Nat := 0x6004C
def TSH_HIST_SEL.QUEUE : Fld := ⟨TSH_HIST_SEL.OFF, 0, 6⟩
/-- TSH_PCLS_p_c (R376). -/
def TSH_PCLS.OFF (i : Nat) (j : Nat) : Nat := 0x60100 + 32 * i + 4 * j
def TSH_PCLS.RATE (i : Nat) (j : Nat) : Fld := ⟨TSH_PCLS.OFF i j, 0, 16⟩
def TSH_PCLS.QUANTUM (i : Nat) (j : Nat) : Fld := ⟨TSH_PCLS.OFF i j, 16, 16⟩
/-- TSH_HIST_DEPTH_b (R376). -/
def TSH_HIST_DEPTH.OFF (i : Nat) : Nat := 0x60200 + 8 * i
def TSH_HIST_DEPTH.COUNT (i : Nat) : Fld := ⟨TSH_HIST_DEPTH.OFF i, 0, 64⟩
/-- TSH_HIST_DELAY_b (R376). -/
def TSH_HIST_DELAY.OFF (i : Nat) : Nat := 0x60280 + 8 * i
def TSH_HIST_DELAY.COUNT (i : Nat) : Fld := ⟨TSH_HIST_DELAY.OFF i, 0, 64⟩
/-- TSH_SUB_LCIR_s (R376). -/
def TSH_SUB_LCIR.OFF (i : Nat) : Nat := 0x60400 + 32 * i
def TSH_SUB_LCIR.RATE (i : Nat) : Fld := ⟨TSH_SUB_LCIR.OFF i, 0, 32⟩
/-- TSH_SUB_LCBS_s (R376). -/
def TSH_SUB_LCBS.OFF (i : Nat) : Nat := 0x60404 + 32 * i
def TSH_SUB_LCBS.BURST (i : Nat) : Fld := ⟨TSH_SUB_LCBS.OFF i, 0, 32⟩
/-- TSH_SUB_LPIR_s (R376). -/
def TSH_SUB_LPIR.OFF (i : Nat) : Nat := 0x60408 + 32 * i
def TSH_SUB_LPIR.RATE (i : Nat) : Fld := ⟨TSH_SUB_LPIR.OFF i, 0, 32⟩
/-- TSH_SUB_LPBS_s (R376). -/
def TSH_SUB_LPBS.OFF (i : Nat) : Nat := 0x6040C + 32 * i
def TSH_SUB_LPBS.BURST (i : Nat) : Fld := ⟨TSH_SUB_LPBS.OFF i, 0, 32⟩
/-- TSH_SUB_MCIR_s (R376). -/
def TSH_SUB_MCIR.OFF (i : Nat) : Nat := 0x60410 + 32 * i
def TSH_SUB_MCIR.RATE (i : Nat) : Fld := ⟨TSH_SUB_MCIR.OFF i, 0, 32⟩
/-- TSH_SUB_MCBS_s (R376). -/
def TSH_SUB_MCBS.OFF (i : Nat) : Nat := 0x60414 + 32 * i
def TSH_SUB_MCBS.BURST (i : Nat) : Fld := ⟨TSH_SUB_MCBS.OFF i, 0, 32⟩
/-- TSH_SUB_MPIR_s (R376). -/
def TSH_SUB_MPIR.OFF (i : Nat) : Nat := 0x60418 + 32 * i
def TSH_SUB_MPIR.RATE (i : Nat) : Fld := ⟨TSH_SUB_MPIR.OFF i, 0, 32⟩
/-- TSH_SUB_MPBS_s (R376). -/
def TSH_SUB_MPBS.OFF (i : Nat) : Nat := 0x6041C + 32 * i
def TSH_SUB_MPBS.BURST (i : Nat) : Fld := ⟨TSH_SUB_MPBS.OFF i, 0, 32⟩
/-- TSH_SUB_STAT_s (R376). -/
def TSH_SUB_STAT.OFF (i : Nat) : Nat := 0x60C00 + 4 * i
def TSH_SUB_STAT.S (i : Nat) : Fld := ⟨TSH_SUB_STAT.OFF i, 0, 4⟩
def TSH_SUB_STAT.LC_DEF (i : Nat) : Fld := ⟨TSH_SUB_STAT.OFF i, 4, 1⟩
def TSH_SUB_STAT.LP_DEF (i : Nat) : Fld := ⟨TSH_SUB_STAT.OFF i, 5, 1⟩
def TSH_SUB_STAT.MC_DEF (i : Nat) : Fld := ⟨TSH_SUB_STAT.OFF i, 6, 1⟩
def TSH_SUB_STAT.MP_DEF (i : Nat) : Fld := ⟨TSH_SUB_STAT.OFF i, 7, 1⟩
def TSH_SUB_STAT.POLICED (i : Nat) : Fld := ⟨TSH_SUB_STAT.OFF i, 8, 1⟩
/-- TSH_SUB_CLASS_s (R376). -/
def TSH_SUB_CLASS.OFF (i : Nat) : Nat := 0x60D00 + 4 * i
def TSH_SUB_CLASS.ALLOWED (i : Nat) : Fld := ⟨TSH_SUB_CLASS.OFF i, 0, 3⟩
def TSH_SUB_CLASS.ALLOWED_BG (i : Nat) : Fld := ⟨TSH_SUB_CLASS.OFF i, 3, 1⟩
def TSH_SUB_CLASS.LD_CLASS (i : Nat) : Fld := ⟨TSH_SUB_CLASS.OFF i, 4, 2⟩
/-- TSH_SAMPLE_CNT (R376). -/
def TSH_SAMPLE_CNT.OFF : Nat := 0x60E00
def TSH_SAMPLE_CNT.COUNT : Fld := ⟨TSH_SAMPLE_CNT.OFF, 0, 64⟩
/-- TSH_WARD_HOLD_CNT (R376). -/
def TSH_WARD_HOLD_CNT.OFF : Nat := 0x60E08
def TSH_WARD_HOLD_CNT.COUNT : Fld := ⟨TSH_WARD_HOLD_CNT.OFF, 0, 64⟩
/-- TSH_SUB_LBYTES_s (R376). -/
def TSH_SUB_LBYTES.OFF (i : Nat) : Nat := 0x61100 + 32 * i
def TSH_SUB_LBYTES.COUNT (i : Nat) : Fld := ⟨TSH_SUB_LBYTES.OFF i, 0, 64⟩
/-- TSH_SUB_MBYTES_s (R376). -/
def TSH_SUB_MBYTES.OFF (i : Nat) : Nat := 0x61108 + 32 * i
def TSH_SUB_MBYTES.COUNT (i : Nat) : Fld := ⟨TSH_SUB_MBYTES.OFF i, 0, 64⟩
/-- TSH_SUB_POLICE_CNT_s (R376). -/
def TSH_SUB_POLICE_CNT.OFF (i : Nat) : Nat := 0x61110 + 32 * i
def TSH_SUB_POLICE_CNT.COUNT (i : Nat) : Fld := ⟨TSH_SUB_POLICE_CNT.OFF i, 0, 64⟩
/-- TSH_SUB_DEMOTE_CNT_s (R376). -/
def TSH_SUB_DEMOTE_CNT.OFF (i : Nat) : Nat := 0x61118 + 32 * i
def TSH_SUB_DEMOTE_CNT.COUNT (i : Nat) : Fld := ⟨TSH_SUB_DEMOTE_CNT.OFF i, 0, 64⟩
/-- EPL_CTRL (R396). -/
def EPL_CTRL.OFF : Nat := 0x210040
def EPL_CTRL.GUARD_PCT : Fld := ⟨EPL_CTRL.OFF, 0, 8⟩
def EPL_CTRL.PLAN_TMO : Fld := ⟨EPL_CTRL.OFF, 8, 8⟩
/-- EPL_BUDGET (R396). -/
def EPL_BUDGET.OFF : Nat := 0x210044
def EPL_BUDGET.MW : Fld := ⟨EPL_BUDGET.OFF, 0, 20⟩
/-- EPL_SB_LIMIT (R396). -/
def EPL_SB_LIMIT.OFF : Nat := 0x210048
def EPL_SB_LIMIT.MW : Fld := ⟨EPL_SB_LIMIT.OFF, 0, 20⟩
/-- EPL_EFF (R396). -/
def EPL_EFF.OFF : Nat := 0x21004C
def EPL_EFF.MW : Fld := ⟨EPL_EFF.OFF, 0, 20⟩
def EPL_EFF.DERATE_PCT : Fld := ⟨EPL_EFF.OFF, 20, 7⟩
/-- EPL_STAT (R396). -/
def EPL_STAT.OFF : Nat := 0x210050
def EPL_STAT.EP : Fld := ⟨EPL_STAT.OFF, 0, 4⟩
def EPL_STAT.CAP_ACTIVE : Fld := ⟨EPL_STAT.OFF, 4, 1⟩
def EPL_STAT.WARD_HELD : Fld := ⟨EPL_STAT.OFF, 5, 1⟩
def EPL_STAT.MAINT_HELD : Fld := ⟨EPL_STAT.OFF, 6, 1⟩
def EPL_STAT.RESYNC_HELD : Fld := ⟨EPL_STAT.OFF, 7, 1⟩
def EPL_STAT.PLAN_STALE : Fld := ⟨EPL_STAT.OFF, 8, 1⟩
def EPL_STAT.DERATING : Fld := ⟨EPL_STAT.OFF, 9, 1⟩
def EPL_STAT.OVER : Fld := ⟨EPL_STAT.OFF, 10, 1⟩
/-- EPL_THERM (R396). -/
def EPL_THERM.OFF : Nat := 0x210054
def EPL_THERM.STACK_SOFT : Fld := ⟨EPL_THERM.OFF, 0, 8⟩
def EPL_THERM.CTRL_SOFT : Fld := ⟨EPL_THERM.OFF, 8, 8⟩
/-- EPL_RESYNC_MIN (R396). -/
def EPL_RESYNC_MIN.OFF : Nat := 0x210058
def EPL_RESYNC_MIN.MBS : Fld := ⟨EPL_RESYNC_MIN.OFF, 0, 16⟩
/-- EPL_PLAN_SEQ (R396). -/
def EPL_PLAN_SEQ.OFF : Nat := 0x21005C
def EPL_PLAN_SEQ.INTERVAL : Fld := ⟨EPL_PLAN_SEQ.OFF, 0, 32⟩
/-- EPL_PLAN_CMD (R396). -/
def EPL_PLAN_CMD.OFF : Nat := 0x210060
def EPL_PLAN_CMD.CAP : Fld := ⟨EPL_PLAN_CMD.OFF, 0, 12⟩
/-- EPL_RSV_REF (R396). -/
def EPL_RSV_REF.OFF : Nat := 0x210064
def EPL_RSV_REF.MW : Fld := ⟨EPL_RSV_REF.OFF, 0, 20⟩
/-- EPL_RSV_FLOOR (R396). -/
def EPL_RSV_FLOOR.OFF : Nat := 0x210068
def EPL_RSV_FLOOR.MW : Fld := ⟨EPL_RSV_FLOOR.OFF, 0, 20⟩
/-- EPL_RSV_HINGE (R396). -/
def EPL_RSV_HINGE.OFF : Nat := 0x21006C
def EPL_RSV_HINGE.MW : Fld := ⟨EPL_RSV_HINGE.OFF, 0, 20⟩
/-- EPL_PLAN_WARD (R396). -/
def EPL_PLAN_WARD.OFF : Nat := 0x210078
def EPL_PLAN_WARD.BYTES : Fld := ⟨EPL_PLAN_WARD.OFF, 0, 64⟩
/-- EPL_PLAN_MAINT (R396). -/
def EPL_PLAN_MAINT.OFF : Nat := 0x210080
def EPL_PLAN_MAINT.BYTES : Fld := ⟨EPL_PLAN_MAINT.OFF, 0, 64⟩
/-- EPL_PLAN_RESYNC (R396). -/
def EPL_PLAN_RESYNC.OFF : Nat := 0x210088
def EPL_PLAN_RESYNC.BYTES : Fld := ⟨EPL_PLAN_RESYNC.OFF, 0, 64⟩
/-- EPL_TOTAL_UJ (R396). -/
def EPL_TOTAL_UJ.OFF : Nat := 0x210100
def EPL_TOTAL_UJ.COUNT : Fld := ⟨EPL_TOTAL_UJ.OFF, 0, 64⟩
/-- EPL_INTERVAL_CNT (R396). -/
def EPL_INTERVAL_CNT.OFF : Nat := 0x210108
def EPL_INTERVAL_CNT.COUNT : Fld := ⟨EPL_INTERVAL_CNT.OFF, 0, 64⟩
/-- EPL_OVER_CNT (R396). -/
def EPL_OVER_CNT.OFF : Nat := 0x210110
def EPL_OVER_CNT.COUNT : Fld := ⟨EPL_OVER_CNT.OFF, 0, 64⟩
/-- EPL_HOLD_CNT (R396). -/
def EPL_HOLD_CNT.OFF : Nat := 0x210118
def EPL_HOLD_CNT.COUNT : Fld := ⟨EPL_HOLD_CNT.OFF, 0, 64⟩
/-- EPL_CAP_CNT (R396). -/
def EPL_CAP_CNT.OFF : Nat := 0x210120
def EPL_CAP_CNT.COUNT : Fld := ⟨EPL_CAP_CNT.OFF, 0, 64⟩
/-- EPL_UNATTR_UJ (R396). -/
def EPL_UNATTR_UJ.OFF : Nat := 0x210128
def EPL_UNATTR_UJ.COUNT : Fld := ⟨EPL_UNATTR_UJ.OFF, 0, 64⟩
/-- EPL_STALE_CNT (R396). -/
def EPL_STALE_CNT.OFF : Nat := 0x210130
def EPL_STALE_CNT.COUNT : Fld := ⟨EPL_STALE_CNT.OFF, 0, 64⟩
/-- EPL_CLS_UJ_k (R396). -/
def EPL_CLS_UJ.OFF (i : Nat) : Nat := 0x210200 + 16 * i
def EPL_CLS_UJ.COUNT (i : Nat) : Fld := ⟨EPL_CLS_UJ.OFF i, 0, 64⟩
/-- EPL_CLS_BYTES_k (R396). -/
def EPL_CLS_BYTES.OFF (i : Nat) : Nat := 0x210208 + 16 * i
def EPL_CLS_BYTES.COUNT (i : Nat) : Fld := ⟨EPL_CLS_BYTES.OFF i, 0, 64⟩
/-- EPL_SUB_UJ_s (R396). -/
def EPL_SUB_UJ.OFF (i : Nat) : Nat := 0x210300 + 8 * i
def EPL_SUB_UJ.COUNT (i : Nat) : Fld := ⟨EPL_SUB_UJ.OFF i, 0, 64⟩
/-- EPL_MTR_UJ_i (R396). -/
def EPL_MTR_UJ.OFF (i : Nat) : Nat := 0x210600 + 8 * i
def EPL_MTR_UJ.COUNT (i : Nat) : Fld := ⟨EPL_MTR_UJ.OFF i, 0, 64⟩
/-- HPS_CTRL (R428). -/
def HPS_CTRL.OFF : Nat := 0x15040
def HPS_CTRL.PAIR_EN : Fld := ⟨HPS_CTRL.OFF, 0, 1⟩
def HPS_CTRL.DUAL : Fld := ⟨HPS_CTRL.OFF, 1, 1⟩
def HPS_CTRL.AUTO_SWITCH : Fld := ⟨HPS_CTRL.OFF, 2, 1⟩
def HPS_CTRL.SWITCH : Fld := ⟨HPS_CTRL.OFF, 3, 1⟩
def HPS_CTRL.WITNESS_EN : Fld := ⟨HPS_CTRL.OFF, 4, 1⟩
/-- HPS_EPOCH (R428). -/
def HPS_EPOCH.OFF : Nat := 0x15044
def HPS_EPOCH.LEN : Fld := ⟨HPS_EPOCH.OFF, 0, 9⟩
/-- HPS_PARTNER (R428). -/
def HPS_PARTNER.OFF : Nat := 0x15048
def HPS_PARTNER.PARTNER : Fld := ⟨HPS_PARTNER.OFF, 0, 12⟩
def HPS_PARTNER.WITNESS : Fld := ⟨HPS_PARTNER.OFF, 16, 12⟩
/-- HPS_TIMERS (R428). -/
def HPS_TIMERS.OFF : Nat := 0x1504C
def HPS_TIMERS.HB_US : Fld := ⟨HPS_TIMERS.OFF, 0, 7⟩
def HPS_TIMERS.MISS : Fld := ⟨HPS_TIMERS.OFF, 8, 4⟩
def HPS_TIMERS.HOLD_MS : Fld := ⟨HPS_TIMERS.OFF, 16, 5⟩
def HPS_TIMERS.STATUS_MS : Fld := ⟨HPS_TIMERS.OFF, 24, 8⟩
/-- HPS_JRNL_CTRL (R428). -/
def HPS_JRNL_CTRL.OFF : Nat := 0x15050
def HPS_JRNL_CTRL.BP_MIB : Fld := ⟨HPS_JRNL_CTRL.OFF, 0, 8⟩
/-- HPS_STAT (R428). -/
def HPS_STAT.OFF : Nat := 0x15054
def HPS_STAT.STATE : Fld := ⟨HPS_STAT.OFF, 0, 4⟩
def HPS_STAT.LEASE : Fld := ⟨HPS_STAT.OFF, 4, 1⟩
def HPS_STAT.PARTNER_UP : Fld := ⟨HPS_STAT.OFF, 5, 1⟩
def HPS_STAT.IN_SYNC : Fld := ⟨HPS_STAT.OFF, 6, 1⟩
def HPS_STAT.DUAL_ON : Fld := ⟨HPS_STAT.OFF, 7, 1⟩
def HPS_STAT.CONT : Fld := ⟨HPS_STAT.OFF, 8, 1⟩
def HPS_STAT.BP : Fld := ⟨HPS_STAT.OFF, 9, 1⟩
def HPS_STAT.RESYNC_KIND : Fld := ⟨HPS_STAT.OFF, 10, 2⟩
def HPS_STAT.JFMT : Fld := ⟨HPS_STAT.OFF, 12, 4⟩
/-- HPS_GEN (R428). -/
def HPS_GEN.OFF : Nat := 0x15058
def HPS_GEN.GEN : Fld := ⟨HPS_GEN.OFF, 0, 48⟩
/-- HPS_EPOCH_NUM (R428). -/
def HPS_EPOCH_NUM.OFF : Nat := 0x15060
def HPS_EPOCH_NUM.EPOCH : Fld := ⟨HPS_EPOCH_NUM.OFF, 0, 48⟩
/-- HPS_ACKED (R428). -/
def HPS_ACKED.OFF : Nat := 0x15068
def HPS_ACKED.EPOCH : Fld := ⟨HPS_ACKED.OFF, 0, 48⟩
/-- HPS_SPILL_OLDEST (R428). -/
def HPS_SPILL_OLDEST.OFF : Nat := 0x15070
def HPS_SPILL_OLDEST.EPOCH : Fld := ⟨HPS_SPILL_OLDEST.OFF, 0, 48⟩
/-- HPS_SPILL_STAT (R428). -/
def HPS_SPILL_STAT.OFF : Nat := 0x15078
def HPS_SPILL_STAT.USED_MIB : Fld := ⟨HPS_SPILL_STAT.OFF, 0, 10⟩
/-- HPS_RESYNC_POS (R428). -/
def HPS_RESYNC_POS.OFF : Nat := 0x1507C
def HPS_RESYNC_POS.CHECKPOINT : Fld := ⟨HPS_RESYNC_POS.OFF, 0, 10⟩
/-- HPS_PTN_LOST (R428). -/
def HPS_PTN_LOST.OFF : Nat := 0x15080
def HPS_PTN_LOST.LOST : Fld := ⟨HPS_PTN_LOST.OFF, 0, 64⟩
/-- HPS_SWITCH_CNT (R428). -/
def HPS_SWITCH_CNT.OFF : Nat := 0x15100
def HPS_SWITCH_CNT.COUNT : Fld := ⟨HPS_SWITCH_CNT.OFF, 0, 64⟩
/-- HPS_HB_MISS_CNT (R428). -/
def HPS_HB_MISS_CNT.OFF : Nat := 0x15108
def HPS_HB_MISS_CNT.COUNT : Fld := ⟨HPS_HB_MISS_CNT.OFF, 0, 64⟩
/-- HPS_JRNL_TX_BYTES (R428). -/
def HPS_JRNL_TX_BYTES.OFF : Nat := 0x15110
def HPS_JRNL_TX_BYTES.COUNT : Fld := ⟨HPS_JRNL_TX_BYTES.OFF, 0, 64⟩
/-- HPS_JRNL_RX_BYTES (R428). -/
def HPS_JRNL_RX_BYTES.OFF : Nat := 0x15118
def HPS_JRNL_RX_BYTES.COUNT : Fld := ⟨HPS_JRNL_RX_BYTES.OFF, 0, 64⟩
/-- HPS_BP_CNT (R428). -/
def HPS_BP_CNT.OFF : Nat := 0x15120
def HPS_BP_CNT.COUNT : Fld := ⟨HPS_BP_CNT.OFF, 0, 64⟩
/-- HPS_HOLD_DROP_CNT (R428). -/
def HPS_HOLD_DROP_CNT.OFF : Nat := 0x15128
def HPS_HOLD_DROP_CNT.COUNT : Fld := ⟨HPS_HOLD_DROP_CNT.OFF, 0, 64⟩
/-- HPS_RESYNC_BYTES (R428). -/
def HPS_RESYNC_BYTES.OFF : Nat := 0x15130
def HPS_RESYNC_BYTES.COUNT : Fld := ⟨HPS_RESYNC_BYTES.OFF, 0, 64⟩
/-- HPS_REPAIR_CNT (R428). -/
def HPS_REPAIR_CNT.OFF : Nat := 0x15138
def HPS_REPAIR_CNT.COUNT : Fld := ⟨HPS_REPAIR_CNT.OFF, 0, 64⟩
/-- HPS_MISMATCH_CNT (R428). -/
def HPS_MISMATCH_CNT.OFF : Nat := 0x15140
def HPS_MISMATCH_CNT.COUNT : Fld := ⟨HPS_MISMATCH_CNT.OFF, 0, 64⟩
/-- HPS_DUAL_CNT (R428). -/
def HPS_DUAL_CNT.OFF : Nat := 0x15148
def HPS_DUAL_CNT.COUNT : Fld := ⟨HPS_DUAL_CNT.OFF, 0, 64⟩
/-- HPS_DROP_CNT (R428). -/
def HPS_DROP_CNT.OFF : Nat := 0x15150
def HPS_DROP_CNT.COUNT : Fld := ⟨HPS_DROP_CNT.OFF, 0, 64⟩
/-- HPS_WIT_p (R428). -/
def HPS_WIT_ID.OFF (i : Nat) : Nat := 0x15400 + 32 * i
def HPS_WIT_ID.PAIR_ID (i : Nat) : Fld := ⟨HPS_WIT_ID.OFF i, 0, 12⟩
def HPS_WIT_ID.VALID (i : Nat) : Fld := ⟨HPS_WIT_ID.OFF i, 31, 1⟩
/-- HPS_WIT_p (R428). -/
def HPS_WIT_MEMBERS.OFF (i : Nat) : Nat := 0x15404 + 32 * i
def HPS_WIT_MEMBERS.MEMBER_A (i : Nat) : Fld := ⟨HPS_WIT_MEMBERS.OFF i, 0, 12⟩
def HPS_WIT_MEMBERS.MEMBER_B (i : Nat) : Fld := ⟨HPS_WIT_MEMBERS.OFF i, 16, 12⟩
/-- HPS_WIT_p (R428). -/
def HPS_WIT_HOLDER.OFF (i : Nat) : Nat := 0x15408 + 32 * i
def HPS_WIT_HOLDER.HOLDER (i : Nat) : Fld := ⟨HPS_WIT_HOLDER.OFF i, 0, 12⟩
def HPS_WIT_HOLDER.HELD (i : Nat) : Fld := ⟨HPS_WIT_HOLDER.OFF i, 12, 1⟩
/-- HPS_WIT_p (R428). -/
def HPS_WIT_GEN.OFF (i : Nat) : Nat := 0x15410 + 32 * i
def HPS_WIT_GEN.GEN (i : Nat) : Fld := ⟨HPS_WIT_GEN.OFF i, 0, 48⟩
/-- GLB_STAT (R452). -/
def GLB_STAT.OFF : Nat := 0x40
def GLB_STAT.SERVICE : Fld := ⟨GLB_STAT.OFF, 0, 2⟩
def GLB_STAT.FACTORY : Fld := ⟨GLB_STAT.OFF, 2, 1⟩
def GLB_STAT.COH_HELD : Fld := ⟨GLB_STAT.OFF, 3, 1⟩
def GLB_STAT.LAST_RESET : Fld := ⟨GLB_STAT.OFF, 4, 4⟩
/-- GLB_RST (R452). -/
def GLB_RST.OFF : Nat := 0x44
def GLB_RST.KEY : Fld := ⟨GLB_RST.OFF, 0, 8⟩
def GLB_RST.WARM : Fld := ⟨GLB_RST.OFF, 8, 1⟩
def GLB_RST.COLD : Fld := ⟨GLB_RST.OFF, 9, 1⟩
/-- GLB_MGR_NODE (R452). -/
def GLB_MGR_NODE.OFF : Nat := 0x48
def GLB_MGR_NODE.NODE : Fld := ⟨GLB_MGR_NODE.OFF, 0, 12⟩
def GLB_MGR_NODE.VALID : Fld := ⟨GLB_MGR_NODE.OFF, 31, 1⟩
/-- GLB_CNT_CLR (R452). -/
def GLB_CNT_CLR.OFF : Nat := 0x4C
def GLB_CNT_CLR.PAGE : Fld := ⟨GLB_CNT_CLR.OFF, 0, 16⟩
def GLB_CNT_CLR.ALL : Fld := ⟨GLB_CNT_CLR.OFF, 30, 1⟩
def GLB_CNT_CLR.GO : Fld := ⟨GLB_CNT_CLR.OFF, 31, 1⟩
/-- GLB_CTRL (R452). -/
def GLB_CTRL.OFF : Nat := 0x50
def GLB_CTRL.COH_RESUME : Fld := ⟨GLB_CTRL.OFF, 0, 1⟩
/-- GLB_LAST_FATAL (R452). -/
def GLB_LAST_FATAL.OFF : Nat := 0x60
def GLB_LAST_FATAL.RECORD : Fld := ⟨GLB_LAST_FATAL.OFF, 0, 256⟩
/-- GLB_LAST_FATAL_V (R452). -/
def GLB_LAST_FATAL_V.OFF : Nat := 0x80
def GLB_LAST_FATAL_V.VALID : Fld := ⟨GLB_LAST_FATAL_V.OFF, 0, 1⟩
/-- FLT_STORE_STAT (R452). -/
def FLT_STORE_STAT.OFF : Nat := 0x200058
def FLT_STORE_STAT.USED : Fld := ⟨FLT_STORE_STAT.OFF, 0, 6⟩
/-- FLT_ACK (R452). -/
def FLT_ACK.OFF : Nat := 0x20005C
def FLT_ACK.SOURCE : Fld := ⟨FLT_ACK.OFF, 0, 8⟩
def FLT_ACK.CLASS : Fld := ⟨FLT_ACK.OFF, 8, 2⟩
def FLT_ACK.ALL : Fld := ⟨FLT_ACK.OFF, 31, 1⟩
/-- FLT_STORE_SEL (R452). -/
def FLT_STORE_SEL.OFF : Nat := 0x200060
def FLT_STORE_SEL.INDEX : Fld := ⟨FLT_STORE_SEL.OFF, 0, 5⟩
/-- FLT_STORE_DATA0 (R452). -/
def FLT_STORE_DATA0.OFF : Nat := 0x200064
def FLT_STORE_DATA0.SOURCE : Fld := ⟨FLT_STORE_DATA0.OFF, 0, 8⟩
def FLT_STORE_DATA0.CLASS : Fld := ⟨FLT_STORE_DATA0.OFF, 8, 2⟩
def FLT_STORE_DATA0.VALID : Fld := ⟨FLT_STORE_DATA0.OFF, 16, 1⟩
def FLT_STORE_DATA0.DROPPED : Fld := ⟨FLT_STORE_DATA0.OFF, 17, 1⟩
/-- FLT_STORE_DATA1 (R452). -/
def FLT_STORE_DATA1.OFF : Nat := 0x200068
def FLT_STORE_DATA1.RECORD : Fld := ⟨FLT_STORE_DATA1.OFF, 0, 32⟩
/-- FLT_STORE_DATA2 (R452). -/
def FLT_STORE_DATA2.OFF : Nat := 0x20006C
def FLT_STORE_DATA2.COUNT : Fld := ⟨FLT_STORE_DATA2.OFF, 0, 32⟩
/-- FLT_CLASS_ROUTE_k (R452). -/
def FLT_CLASS_ROUTE.OFF (i : Nat) : Nat := 0x200070 + 4 * i
def FLT_CLASS_ROUTE.VECTOR (i : Nat) : Fld := ⟨FLT_CLASS_ROUTE.OFF i, 0, 6⟩
def FLT_CLASS_ROUTE.MSIX_EN (i : Nat) : Fld := ⟨FLT_CLASS_ROUTE.OFF i, 6, 1⟩
def FLT_CLASS_ROUTE.NOTIFY_EN (i : Nat) : Fld := ⟨FLT_CLASS_ROUTE.OFF i, 7, 1⟩
/-- FLT_FAULT_CNT_k (R452). -/
def FLT_FAULT_CNT.OFF (i : Nat) : Nat := 0x200100 + 8 * i
def FLT_FAULT_CNT.COUNT (i : Nat) : Fld := ⟨FLT_FAULT_CNT.OFF i, 0, 64⟩
/-- FLT_ESC_CNT (R452). -/
def FLT_ESC_CNT.OFF : Nat := 0x200120
def FLT_ESC_CNT.COUNT : Fld := ⟨FLT_ESC_CNT.OFF, 0, 64⟩
/-- FLT_MERGE_CNT (R452). -/
def FLT_MERGE_CNT.OFF : Nat := 0x200128
def FLT_MERGE_CNT.COUNT : Fld := ⟨FLT_MERGE_CNT.OFF, 0, 64⟩
/-- FLT_UNTRACKED_CNT (R452). -/
def FLT_UNTRACKED_CNT.OFF : Nat := 0x200130
def FLT_UNTRACKED_CNT.COUNT : Fld := ⟨FLT_UNTRACKED_CNT.OFF, 0, 64⟩
/-- FLT_NOTIFY_CNT (R452). -/
def FLT_NOTIFY_CNT.OFF : Nat := 0x200138
def FLT_NOTIFY_CNT.COUNT : Fld := ⟨FLT_NOTIFY_CNT.OFF, 0, 64⟩
/-- FLT_NOTIFY_DROP_CNT (R452). -/
def FLT_NOTIFY_DROP_CNT.OFF : Nat := 0x200140
def FLT_NOTIFY_DROP_CNT.COUNT : Fld := ⟨FLT_NOTIFY_DROP_CNT.OFF, 0, 64⟩
/-- FLT_SRC_CFG_n (R452). -/
def FLT_SRC_CFG.OFF (i : Nat) : Nat := 0x200400 + 4 * i
def FLT_SRC_CFG.THRESH (i : Nat) : Fld := ⟨FLT_SRC_CFG.OFF i, 0, 8⟩
def FLT_SRC_CFG.WINDOW_MS (i : Nat) : Fld := ⟨FLT_SRC_CFG.OFF i, 8, 8⟩
/-- FLT_SRC_CNT_n (R452). -/
def FLT_SRC_CNT.OFF (i : Nat) : Nat := 0x200800 + 4 * i
def FLT_SRC_CNT.COUNT (i : Nat) : Fld := ⟨FLT_SRC_CNT.OFF i, 0, 8⟩
/-- FTM_INJ_CTRL (R452). -/
def FTM_INJ_CTRL.OFF : Nat := 0x240040
def FTM_INJ_CTRL.KIND : Fld := ⟨FTM_INJ_CTRL.OFF, 0, 3⟩
def FTM_INJ_CTRL.CLASS : Fld := ⟨FTM_INJ_CTRL.OFF, 4, 2⟩
def FTM_INJ_CTRL.SOURCE : Fld := ⟨FTM_INJ_CTRL.OFF, 8, 8⟩
def FTM_INJ_CTRL.CODE : Fld := ⟨FTM_INJ_CTRL.OFF, 16, 16⟩
/-- FTM_INJ_ADDR (R452). -/
def FTM_INJ_ADDR.OFF : Nat := 0x240048
def FTM_INJ_ADDR.PPA : Fld := ⟨FTM_INJ_ADDR.OFF, 0, 40⟩
/-- FTM_INJ_MASK (R452). -/
def FTM_INJ_MASK.OFF : Nat := 0x240050
def FTM_INJ_MASK.SYMBOLS : Fld := ⟨FTM_INJ_MASK.OFF, 0, 36⟩
/-- FTM_INJ_CMD (R452). -/
def FTM_INJ_CMD.OFF : Nat := 0x240058
def FTM_INJ_CMD.GO : Fld := ⟨FTM_INJ_CMD.OFF, 0, 1⟩
/-- FTM_INJ_CNT (R452). -/
def FTM_INJ_CNT.OFF : Nat := 0x240100
def FTM_INJ_CNT.COUNT : Fld := ⟨FTM_INJ_CNT.OFF, 0, 64⟩
/-- KPR_CTRL (R482). -/
def KPR_CTRL.OFF : Nat := 0x2040
def KPR_CTRL.VENDOR_LINK : Fld := ⟨KPR_CTRL.OFF, 0, 1⟩
/-- KPR_STAT (R482). -/
def KPR_STAT.OFF : Nat := 0x2044
def KPR_STAT.READY : Fld := ⟨KPR_STAT.OFF, 0, 1⟩
def KPR_STAT.RNG_OK : Fld := ⟨KPR_STAT.OFF, 1, 1⟩
def KPR_STAT.DEBUG_VORER : Fld := ⟨KPR_STAT.OFF, 2, 1⟩
def KPR_STAT.DEBUG_KEEPER : Fld := ⟨KPR_STAT.OFF, 3, 1⟩
def KPR_STAT.SESSIONS : Fld := ⟨KPR_STAT.OFF, 8, 5⟩
/-- KPR_CMD (R482). -/
def KPR_CMD.OFF : Nat := 0x2048
def KPR_CMD.OP : Fld := ⟨KPR_CMD.OFF, 0, 8⟩
def KPR_CMD.ARG : Fld := ⟨KPR_CMD.OFF, 8, 16⟩
def KPR_CMD.GO : Fld := ⟨KPR_CMD.OFF, 31, 1⟩
/-- KPR_CMD_STAT (R482). -/
def KPR_CMD_STAT.OFF : Nat := 0x204C
def KPR_CMD_STAT.BUSY : Fld := ⟨KPR_CMD_STAT.OFF, 0, 1⟩
def KPR_CMD_STAT.DONE : Fld := ⟨KPR_CMD_STAT.OFF, 1, 1⟩
def KPR_CMD_STAT.RESULT : Fld := ⟨KPR_CMD_STAT.OFF, 8, 8⟩
/-- KPR_SVN (R482). -/
def KPR_SVN.OFF : Nat := 0x2050
def KPR_SVN.KEEPER_FUSED : Fld := ⟨KPR_SVN.OFF, 0, 8⟩
def KPR_SVN.MGMT_FUSED : Fld := ⟨KPR_SVN.OFF, 8, 8⟩
def KPR_SVN.KEEPER_RUN : Fld := ⟨KPR_SVN.OFF, 16, 8⟩
def KPR_SVN.MGMT_RUN : Fld := ⟨KPR_SVN.OFF, 24, 8⟩
/-- KPR_SLOTS (R482). -/
def KPR_SLOTS.OFF : Nat := 0x2054
def KPR_SLOTS.REVOKED : Fld := ⟨KPR_SLOTS.OFF, 0, 4⟩
def KPR_SLOTS.RUN_SLOT : Fld := ⟨KPR_SLOTS.OFF, 4, 2⟩
/-- KPR_CHALLENGE (R482). -/
def KPR_CHALLENGE.OFF : Nat := 0x2058
def KPR_CHALLENGE.NONCE : Fld := ⟨KPR_CHALLENGE.OFF, 0, 64⟩
/-- KPR_BUF_w (R482). -/
def KPR_BUF.OFF (i : Nat) : Nat := 0x2100 + 4 * i
def KPR_BUF.DATA (i : Nat) : Fld := ⟨KPR_BUF.OFF i, 0, 32⟩
/-- KPR_ANCHOR_a (R482). -/
def KPR_ANCHOR.OFF (i : Nat) : Nat := 0x2200 + 4 * i
def KPR_ANCHOR.VALID (i : Nat) : Fld := ⟨KPR_ANCHOR.OFF i, 0, 1⟩
def KPR_ANCHOR.LINK (i : Nat) : Fld := ⟨KPR_ANCHOR.OFF i, 1, 1⟩
def KPR_ANCHOR.STREAM (i : Nat) : Fld := ⟨KPR_ANCHOR.OFF i, 2, 1⟩
/-- KPR_STRM_STAT_c (R482). -/
def KPR_STRM_STAT.OFF (i : Nat) : Nat := 0x2400 + 4 * i
def KPR_STRM_STAT.NODE (i : Nat) : Fld := ⟨KPR_STRM_STAT.OFF i, 0, 12⟩
def KPR_STRM_STAT.ACTIVE (i : Nat) : Fld := ⟨KPR_STRM_STAT.OFF i, 16, 1⟩
/-- KPR_AUTH_CNT (R482). -/
def KPR_AUTH_CNT.OFF : Nat := 0x2800
def KPR_AUTH_CNT.COUNT : Fld := ⟨KPR_AUTH_CNT.OFF, 0, 64⟩
/-- KPR_AUTH_FAIL_CNT (R482). -/
def KPR_AUTH_FAIL_CNT.OFF : Nat := 0x2808
def KPR_AUTH_FAIL_CNT.COUNT : Fld := ⟨KPR_AUTH_FAIL_CNT.OFF, 0, 64⟩
/-- KPR_SPDM_CNT (R482). -/
def KPR_SPDM_CNT.OFF : Nat := 0x2810
def KPR_SPDM_CNT.COUNT : Fld := ⟨KPR_SPDM_CNT.OFF, 0, 64⟩
/-- KPR_STREAM_SETUP_CNT (R482). -/
def KPR_STREAM_SETUP_CNT.OFF : Nat := 0x2818
def KPR_STREAM_SETUP_CNT.COUNT : Fld := ⟨KPR_STREAM_SETUP_CNT.OFF, 0, 64⟩
/-- KPR_STREAM_TAG_FAIL_CNT (R482). -/
def KPR_STREAM_TAG_FAIL_CNT.OFF : Nat := 0x2820
def KPR_STREAM_TAG_FAIL_CNT.COUNT : Fld := ⟨KPR_STREAM_TAG_FAIL_CNT.OFF, 0, 64⟩
/-- KPR_TOKEN_FAIL_CNT (R482). -/
def KPR_TOKEN_FAIL_CNT.OFF : Nat := 0x2828
def KPR_TOKEN_FAIL_CNT.COUNT : Fld := ⟨KPR_TOKEN_FAIL_CNT.OFF, 0, 64⟩
/-- GLB_FW_STAT (R510). -/
def GLB_FW_STAT.OFF : Nat := 0x90
def GLB_FW_STAT.STATE : Fld := ⟨GLB_FW_STAT.OFF, 0, 3⟩
def GLB_FW_STAT.KIND : Fld := ⟨GLB_FW_STAT.OFF, 3, 1⟩
def GLB_FW_STAT.BOOT : Fld := ⟨GLB_FW_STAT.OFF, 4, 2⟩
def GLB_FW_STAT.RAISED : Fld := ⟨GLB_FW_STAT.OFF, 6, 1⟩
def GLB_FW_STAT.COMMIT_PENDING : Fld := ⟨GLB_FW_STAT.OFF, 7, 1⟩
/-- GLB_FW_CTRL (R510). -/
def GLB_FW_CTRL.OFF : Nat := 0x94
def GLB_FW_CTRL.ACTIVATE : Fld := ⟨GLB_FW_CTRL.OFF, 0, 1⟩
def GLB_FW_CTRL.CONFIRM : Fld := ⟨GLB_FW_CTRL.OFF, 1, 1⟩
def GLB_FW_CTRL.RAISE : Fld := ⟨GLB_FW_CTRL.OFF, 2, 1⟩
def GLB_FW_CTRL.HOLD_CONFIRM : Fld := ⟨GLB_FW_CTRL.OFF, 3, 1⟩
def GLB_FW_CTRL.FORWARD : Fld := ⟨GLB_FW_CTRL.OFF, 4, 1⟩
def GLB_FW_CTRL.HEALTH_S : Fld := ⟨GLB_FW_CTRL.OFF, 8, 8⟩
/-- GLB_FW_VER (R510). -/
def GLB_FW_VER.OFF : Nat := 0x98
def GLB_FW_VER.SPV_CUR : Fld := ⟨GLB_FW_VER.OFF, 0, 8⟩
def GLB_FW_VER.SPV_LOW : Fld := ⟨GLB_FW_VER.OFF, 8, 8⟩
def GLB_FW_VER.JFMT_CUR : Fld := ⟨GLB_FW_VER.OFF, 16, 8⟩
def GLB_FW_VER.JFMT_LOW : Fld := ⟨GLB_FW_VER.OFF, 24, 8⟩
/-- GLB_FW_VER2 (R510). -/
def GLB_FW_VER2.OFF : Nat := 0x9C
def GLB_FW_VER2.SFV_CUR : Fld := ⟨GLB_FW_VER2.OFF, 0, 8⟩
def GLB_FW_VER2.SFV_LOW : Fld := ⟨GLB_FW_VER2.OFF, 8, 8⟩
/-- GLB_FW_RUN_VER (R510). -/
def GLB_FW_RUN_VER.OFF : Nat := 0xA0
def GLB_FW_RUN_VER.VERSION : Fld := ⟨GLB_FW_RUN_VER.OFF, 0, 64⟩
/-- GLB_FW_STG_VER (R510). -/
def GLB_FW_STG_VER.OFF : Nat := 0xA8
def GLB_FW_STG_VER.VERSION : Fld := ⟨GLB_FW_STG_VER.OFF, 0, 64⟩
/-- GLB_FW_XFER (R510). -/
def GLB_FW_XFER.OFF : Nat := 0xB0
def GLB_FW_XFER.XFER_ID : Fld := ⟨GLB_FW_XFER.OFF, 0, 16⟩
def GLB_FW_XFER.RESULT : Fld := ⟨GLB_FW_XFER.OFF, 16, 8⟩
/-- GLB_FW_NEXT (R510). -/
def GLB_FW_NEXT.OFF : Nat := 0xB4
def GLB_FW_NEXT.OFFSET : Fld := ⟨GLB_FW_NEXT.OFF, 0, 32⟩
/-- GLB_FW_FWD (R510). -/
def GLB_FW_FWD.OFF : Nat := 0xB8
def GLB_FW_FWD.OFFSET : Fld := ⟨GLB_FW_FWD.OFF, 0, 32⟩
/-- GLB_SET_CMD (R510). -/
def GLB_SET_CMD.OFF : Nat := 0xBC
def GLB_SET_CMD.SAVE : Fld := ⟨GLB_SET_CMD.OFF, 0, 1⟩
def GLB_SET_CMD.ERASE : Fld := ⟨GLB_SET_CMD.OFF, 1, 1⟩
/-- GLB_SET_STAT (R510). -/
def GLB_SET_STAT.OFF : Nat := 0xC0
def GLB_SET_STAT.BUSY : Fld := ⟨GLB_SET_STAT.OFF, 0, 1⟩
def GLB_SET_STAT.DONE : Fld := ⟨GLB_SET_STAT.OFF, 1, 1⟩
def GLB_SET_STAT.IN_USE : Fld := ⟨GLB_SET_STAT.OFF, 2, 1⟩
def GLB_SET_STAT.DEFAULTED : Fld := ⟨GLB_SET_STAT.OFF, 3, 1⟩
def GLB_SET_STAT.SKIPPED : Fld := ⟨GLB_SET_STAT.OFF, 16, 16⟩
/-- GLB_SET_SEQ (R510). -/
def GLB_SET_SEQ.OFF : Nat := 0xC4
def GLB_SET_SEQ.SEQ : Fld := ⟨GLB_SET_SEQ.OFF, 0, 32⟩
/-- GLB_LOG_SEL (R510). -/
def GLB_LOG_SEL.OFF : Nat := 0xC8
def GLB_LOG_SEL.INDEX : Fld := ⟨GLB_LOG_SEL.OFF, 0, 16⟩
def GLB_LOG_SEL.VALID : Fld := ⟨GLB_LOG_SEL.OFF, 31, 1⟩
/-- GLB_LOG_NEWEST (R510). -/
def GLB_LOG_NEWEST.OFF : Nat := 0xCC
def GLB_LOG_NEWEST.INDEX : Fld := ⟨GLB_LOG_NEWEST.OFF, 0, 16⟩
/-- GLB_LOG_DATA_w (R510). -/
def GLB_LOG_DATA.OFF (i : Nat) : Nat := 0xD0 + 4 * i
def GLB_LOG_DATA.DATA (i : Nat) : Fld := ⟨GLB_LOG_DATA.OFF i, 0, 32⟩
/-- GLB_FW_ACT_CNT (R510). -/
def GLB_FW_ACT_CNT.OFF : Nat := 0x140
def GLB_FW_ACT_CNT.COUNT : Fld := ⟨GLB_FW_ACT_CNT.OFF, 0, 64⟩
/-- GLB_FW_COMMIT_CNT (R510). -/
def GLB_FW_COMMIT_CNT.OFF : Nat := 0x148
def GLB_FW_COMMIT_CNT.COUNT : Fld := ⟨GLB_FW_COMMIT_CNT.OFF, 0, 64⟩
/-- GLB_FW_FALLBACK_CNT (R510). -/
def GLB_FW_FALLBACK_CNT.OFF : Nat := 0x150
def GLB_FW_FALLBACK_CNT.COUNT : Fld := ⟨GLB_FW_FALLBACK_CNT.OFF, 0, 64⟩
/-- GLB_FLASH_ERR_CNT (R510). -/
def GLB_FLASH_ERR_CNT.OFF : Nat := 0x158
def GLB_FLASH_ERR_CNT.COUNT : Fld := ⟨GLB_FLASH_ERR_CNT.OFF, 0, 64⟩
/-- CXP_CTRL (R526). -/
def CXP_CTRL.OFF : Nat := 0x16040
def CXP_CTRL.MGR_LD : Fld := ⟨CXP_CTRL.OFF, 0, 4⟩
def CXP_CTRL.FLIT68_EN : Fld := ⟨CXP_CTRL.OFF, 4, 1⟩
/-- CXP_STAT (R526). -/
def CXP_STAT.OFF : Nat := 0x16044
def CXP_STAT.WIDTH : Fld := ⟨CXP_STAT.OFF, 0, 4⟩
def CXP_STAT.SPEED : Fld := ⟨CXP_STAT.OFF, 4, 3⟩
def CXP_STAT.FLIT256 : Fld := ⟨CXP_STAT.OFF, 7, 1⟩
def CXP_STAT.LINK_UP : Fld := ⟨CXP_STAT.OFF, 8, 1⟩
/-- CXP_POISON_STAT (R526). -/
def CXP_POISON_STAT.OFF : Nat := 0x16048
def CXP_POISON_STAT.ENTRIES : Fld := ⟨CXP_POISON_STAT.OFF, 0, 10⟩
def CXP_POISON_STAT.OVERFLOW : Fld := ⟨CXP_POISON_STAT.OFF, 10, 1⟩
/-- CXP_LD_STAT_n (R526). -/
def CXP_LD_STAT.OFF (i : Nat) : Nat := 0x16080 + 4 * i
def CXP_LD_STAT.BME (i : Nat) : Fld := ⟨CXP_LD_STAT.OFF i, 0, 1⟩
def CXP_LD_STAT.DECODERS (i : Nat) : Fld := ⟨CXP_LD_STAT.OFF i, 1, 3⟩
def CXP_LD_STAT.BI (i : Nat) : Fld := ⟨CXP_LD_STAT.OFF i, 4, 1⟩
/-- CXP_M2S_REQ_CNT (R526). -/
def CXP_M2S_REQ_CNT.OFF : Nat := 0x16100
def CXP_M2S_REQ_CNT.COUNT : Fld := ⟨CXP_M2S_REQ_CNT.OFF, 0, 64⟩
/-- CXP_M2S_RWD_CNT (R526). -/
def CXP_M2S_RWD_CNT.OFF : Nat := 0x16108
def CXP_M2S_RWD_CNT.COUNT : Fld := ⟨CXP_M2S_RWD_CNT.OFF, 0, 64⟩
/-- CXP_LINK_DOWN_CNT (R526). -/
def CXP_LINK_DOWN_CNT.OFF : Nat := 0x16110
def CXP_LINK_DOWN_CNT.COUNT : Fld := ⟨CXP_LINK_DOWN_CNT.OFF, 0, 64⟩
/-- CXP_EVT_OVF_CNT (R526). -/
def CXP_EVT_OVF_CNT.OFF : Nat := 0x16118
def CXP_EVT_OVF_CNT.COUNT : Fld := ⟨CXP_EVT_OVF_CNT.OFF, 0, 64⟩
/-- GLB_SEQ_CTRL (R550). -/
def GLB_SEQ_CTRL.OFF : Nat := 0x54
def GLB_SEQ_CTRL.GAP_TMO : Fld := ⟨GLB_SEQ_CTRL.OFF, 0, 16⟩
/-- GLB_SEQ_STALE (R550). -/
def GLB_SEQ_STALE.OFF : Nat := 0x110
def GLB_SEQ_STALE.COUNT : Fld := ⟨GLB_SEQ_STALE.OFF, 0, 64⟩
/-- GLB_SEQ_GAP (R550). -/
def GLB_SEQ_GAP.OFF : Nat := 0x118
def GLB_SEQ_GAP.COUNT : Fld := ⟨GLB_SEQ_GAP.OFF, 0, 64⟩
/-- GLB_REG_VIOL_CNT (R550). -/
def GLB_REG_VIOL_CNT.OFF : Nat := 0x120
def GLB_REG_VIOL_CNT.COUNT : Fld := ⟨GLB_REG_VIOL_CNT.OFF, 0, 64⟩
/-- PTN_SUB_QSC (R551). -/
def PTN_SUB_QSC.OFF : Nat := 0x40040
def PTN_SUB_QSC.QSC : Fld := ⟨PTN_SUB_QSC.OFF, 0, 64⟩
/-- PTN_SUB_QSD (R551). -/
def PTN_SUB_QSD.OFF : Nat := 0x40048
def PTN_SUB_QSD.QSD : Fld := ⟨PTN_SUB_QSD.OFF, 0, 64⟩
/-- PTN_INIT (R551). -/
def PTN_INIT.OFF : Nat := 0x40050
def PTN_INIT.ENTRY : Fld := ⟨PTN_INIT.OFF, 0, 6⟩
def PTN_INIT.PATTERN : Fld := ⟨PTN_INIT.OFF, 8, 24⟩
/-- PTN_INIT_STAT (R551). -/
def PTN_INIT_STAT.OFF : Nat := 0x40054
def PTN_INIT_STAT.BUSY : Fld := ⟨PTN_INIT_STAT.OFF, 0, 1⟩
def PTN_INIT_STAT.DONE : Fld := ⟨PTN_INIT_STAT.OFF, 1, 1⟩
def PTN_INIT_STAT.STOPPED : Fld := ⟨PTN_INIT_STAT.OFF, 2, 1⟩
def PTN_INIT_STAT.ENTRY : Fld := ⟨PTN_INIT_STAT.OFF, 8, 6⟩
/-- PTN_VIOL_CNT_s (R551). -/
def PTN_VIOL_CNT.OFF (i : Nat) : Nat := 0x40D00 + 8 * i
def PTN_VIOL_CNT.COUNT (i : Nat) : Fld := ⟨PTN_VIOL_CNT.OFF i, 0, 64⟩
/-- PTN_NODE_SUBS_i (R551). -/
def PTN_NODE_SUBS.OFF (i : Nat) : Nat := 0x41000 + 8 * i
def PTN_NODE_SUBS.MASK (i : Nat) : Fld := ⟨PTN_NODE_SUBS.OFF i, 0, 64⟩
/-- MGM_CMD (R553). -/
def MGM_CMD.OFF : Nat := 0x1040
def MGM_CMD.OPCODE : Fld := ⟨MGM_CMD.OFF, 0, 16⟩
def MGM_CMD.GO : Fld := ⟨MGM_CMD.OFF, 31, 1⟩
/-- MGM_IN_LEN (R553). -/
def MGM_IN_LEN.OFF : Nat := 0x1044
def MGM_IN_LEN.BYTES : Fld := ⟨MGM_IN_LEN.OFF, 0, 12⟩
/-- MGM_STAT (R553). -/
def MGM_STAT.OFF : Nat := 0x1048
def MGM_STAT.BUSY : Fld := ⟨MGM_STAT.OFF, 0, 1⟩
def MGM_STAT.DONE : Fld := ⟨MGM_STAT.OFF, 1, 1⟩
def MGM_STAT.BG : Fld := ⟨MGM_STAT.OFF, 2, 1⟩
def MGM_STAT.RETCODE : Fld := ⟨MGM_STAT.OFF, 16, 16⟩
/-- MGM_OUT_LEN (R553). -/
def MGM_OUT_LEN.OFF : Nat := 0x104C
def MGM_OUT_LEN.BYTES : Fld := ⟨MGM_OUT_LEN.OFF, 0, 12⟩
/-- MGM_PAYLOAD_w (R553). -/
def MGM_PAYLOAD.OFF (i : Nat) : Nat := 0x1800 + 4 * i
def MGM_PAYLOAD.DATA (i : Nat) : Fld := ⟨MGM_PAYLOAD.OFF i, 0, 32⟩
/-- EVT_NOTIFY_STAT (R554). -/
def EVT_NOTIFY_STAT.OFF : Nat := 0x3040
def EVT_NOTIFY_STAT.QUEUED : Fld := ⟨EVT_NOTIFY_STAT.OFF, 0, 7⟩
/-- EVT_PEND_w (R554). -/
def EVT_PEND.OFF (i : Nat) : Nat := 0x3100 + 4 * i
def EVT_PEND.PEND (i : Nat) : Fld := ⟨EVT_PEND.OFF i, 0, 32⟩
/-- DBG_STAT (R555). -/
def DBG_STAT.OFF : Nat := 0x230040
def DBG_STAT.LOCKED : Fld := ⟨DBG_STAT.OFF, 0, 1⟩
def DBG_STAT.VORER_UNLOCKED : Fld := ⟨DBG_STAT.OFF, 1, 1⟩
def DBG_STAT.KEEPER_UNLOCKED : Fld := ⟨DBG_STAT.OFF, 2, 1⟩
def DBG_STAT.VORER_HALTED : Fld := ⟨DBG_STAT.OFF, 3, 1⟩
def DBG_STAT.BREAKPOINTS : Fld := ⟨DBG_STAT.OFF, 8, 4⟩
/-- GLB_THERM (R573). -/
def GLB_THERM.OFF : Nat := 0x128
def GLB_THERM.CTRL_TEMP : Fld := ⟨GLB_THERM.OFF, 0, 8⟩
def GLB_THERM.STACK_TEMP : Fld := ⟨GLB_THERM.OFF, 8, 8⟩
def GLB_THERM.THERMTRIP_SEEN : Fld := ⟨GLB_THERM.OFF, 16, 1⟩
def GLB_THERM.TEST_MODE : Fld := ⟨GLB_THERM.OFF, 17, 1⟩
/-- RTB_MC_CHILD (R358). -/
def RTB_MC_CHILD.OFF (i : Nat) (j : Nat) : Nat := 0x2A004 + 16 * i + 4 * j
def RTB_MC_CHILD.DATA (i : Nat) (j : Nat) : Fld := ⟨RTB_MC_CHILD.OFF i j, 0, 32⟩

end Sys2Proof.Machine.Reg
end

