-- ==== Sys2Proof/Machine/RegTable.lean ====
section
/-! DEFINITION. The register tables of the management space as rows for the generic read and write of a register word
(R529, R536, R537, R541): where the register stands, which of its bits each access code of R11 covers, its reset value and
the clamps its table states. Straps, latches, fuses and the random challenge are state of their own; their bits stand here
at 0 and are shown from that state (Machine/RegRead.lean). Where the spec gives no reset value (a dash), the bits are 0
(DESIGN CHOICE, log entry 3). -/

namespace Sys2Proof.Machine

/-- A clamp of a field: its lowest bit, width, least and greatest value (R11, R13). -/
structure Clamp where
  lo : Nat
  width : Nat
  least : Nat
  most : Nat
  deriving DecidableEq, Repr

/-- One register or array of registers: base offset, array dimensions (count, stride), whether it is a 64-bit register
(R537), whether it is a counter (R444), the bits of access RW, RWS, RW1C and FT, the bits only firmware writes (R396), the
reset value and the clamps. -/
structure RegRow where
  base : Nat
  dims : List (Nat × Nat)
  wide : Bool
  cnt : Bool
  rw : Nat
  rws : Nat
  w1c : Nat
  ft : Nat
  fw : Nat
  reset : Nat
  clamps : List Clamp
  deriving DecidableEq, Repr

/-- Registers of the PTN page. -/
def regRowsPTN : List RegRow :=
  [⟨0x40100, [(64, 16)], false, false, 0, 0x3FF, 0, 0, 0, 0, []⟩,
   ⟨0x40104, [(64, 16)], false, false, 0, 0x3FF, 0, 0, 0, 0, []⟩,
   ⟨0x40108, [(64, 16)], false, false, 0, 0x3F, 0, 0, 0, 0, []⟩,
   ⟨0x4010C, [(64, 16)], false, false, 0, 0xF, 0, 0, 0, 0, []⟩,
   ⟨0x40500, [(256, 8)], false, false, 0, 0x80073F3F, 0, 0, 0, 0, []⟩,
   ⟨0x40040, [], true, false, 0, 0xFFFFFFFFFFFFFFFF, 0, 0, 0, 0, []⟩,
   ⟨0x40048, [], true, false, 0, 0, 0, 0, 0, 0, []⟩,
   ⟨0x40050, [], false, false, 0, 0, 0, 0, 0, 0, []⟩,
   ⟨0x40054, [], false, false, 0, 0, 0, 0, 0, 0, []⟩,
   ⟨0x40D00, [(64, 8)], true, true, 0, 0, 0, 0, 0, 0, []⟩,
   ⟨0x41000, [(4096, 8)], true, false, 0, 0xFFFFFFFFFFFFFFFF, 0, 0, 0, 0, []⟩]

/-- Registers of the KTU page. -/
def regRowsKTU : List RegRow :=
  [⟨0x30040, [], false, false, 0, 0xFFF1, 0, 0, 0, 0xA01, [⟨8, 8, 1, 255⟩]⟩,
   ⟨0x30044, [], false, false, 0, 0, 0, 0, 0, 0, []⟩,
   ⟨0x30050, [], false, false, 0xFFF, 0, 0, 0, 0, 0, []⟩,
   ⟨0x30054, [], false, false, 0, 0, 0, 0, 0, 0, []⟩,
   ⟨0x30060, [(8, 4)], false, false, 0xFFFFFFFF, 0, 0, 0, 0, 0, []⟩,
   ⟨0x30080, [], true, false, 0xFFFFFFFFFFF, 0, 0, 0, 0, 0, []⟩,
   ⟨0x30088, [], true, false, 0x1FFFFFFFFFFF, 0, 0, 0, 0, 0, []⟩,
   ⟨0x30090, [], false, false, 0, 0, 0, 0, 0, 0, []⟩,
   ⟨0x30094, [], false, false, 0, 0, 0, 0, 0, 0, []⟩,
   ⟨0x300C0, [(16, 4)], false, false, 0, 0x80000FFF, 0, 0, 0, 0, []⟩,
   ⟨0x30100, [], true, true, 0, 0, 0, 0, 0, 0, []⟩,
   ⟨0x30108, [], true, true, 0, 0, 0, 0, 0, 0, []⟩,
   ⟨0x30110, [], true, true, 0, 0, 0, 0, 0, 0, []⟩,
   ⟨0x30118, [], true, true, 0, 0, 0, 0, 0, 0, []⟩,
   ⟨0x30120, [], true, true, 0, 0, 0, 0, 0, 0, []⟩,
   ⟨0x30128, [], true, true, 0, 0, 0, 0, 0, 0, []⟩]

/-- Registers of the FLT page. -/
def regRowsFLT : List RegRow :=
  [⟨0x200040, [], false, false, 0, 0x1F01, 0, 0, 0, 0xC01, []⟩,
   ⟨0x200044, [], false, false, 0, 0, 1, 0, 0, 2, []⟩,
   ⟨0x200048, [], false, false, 0, 0, 0, 0, 0, 0, []⟩,
   ⟨0x20004C, [], false, false, 0xFFFFFFFF, 0, 0, 0, 0, 0, []⟩,
   ⟨0x200050, [], true, true, 0, 0, 0, 0, 0, 0, []⟩,
   ⟨0x201000, [(64, 32), (8, 4)], false, false, 0, 0, 0, 0, 0, 0, []⟩,
   ⟨0x200058, [], false, false, 0, 0, 0, 0, 0, 0, []⟩,
   ⟨0x20005C, [], false, false, 0, 0, 0, 0, 0, 0, []⟩,
   ⟨0x200060, [], false, false, 0x1F, 0, 0, 0, 0, 0, []⟩,
   ⟨0x200064, [], false, false, 0, 0, 0, 0, 0, 0, []⟩,
   ⟨0x200068, [], false, false, 0, 0, 0, 0, 0, 0, []⟩,
   ⟨0x20006C, [], false, false, 0, 0, 0, 0, 0, 0, []⟩,
   ⟨0x200070, [(2, 4)], false, false, 0, 0xFF, 0, 0, 0, 0, []⟩,
   ⟨0x200078, [(2, 4)], false, false, 0, 0xFF, 0, 0, 0, 0x80, []⟩,
   ⟨0x200100, [(4, 8)], true, true, 0, 0, 0, 0, 0, 0, []⟩,
   ⟨0x200120, [], true, true, 0, 0, 0, 0, 0, 0, []⟩,
   ⟨0x200128, [], true, true, 0, 0, 0, 0, 0, 0, []⟩,
   ⟨0x200130, [], true, true, 0, 0, 0, 0, 0, 0, []⟩,
   ⟨0x200138, [], true, true, 0, 0, 0, 0, 0, 0, []⟩,
   ⟨0x200140, [], true, true, 0, 0, 0, 0, 0, 0, []⟩] ++
  [⟨0x200400, [(199, 4)], false, false, 0, 0xFFFF, 0, 0, 0, 0x6400, [⟨8, 8, 1, 255⟩]⟩,
   ⟨0x200800, [(199, 4)], false, false, 0, 0, 0, 0, 0, 0, []⟩]

/-- Registers of the WRD page. -/
def regRowsWRD : List RegRow :=
  [⟨0x80040, [], false, false, 0, 0xFFFF07FF, 0, 0, 0, 0x10140014, [⟨0, 11, 1, 1000⟩, ⟨16, 8, 1, 255⟩]⟩,
   ⟨0x80044, [], false, false, 0, 0xFF, 0, 0, 0, 5, [⟨0, 8, 1, 255⟩]⟩,
   ⟨0x80048, [], false, false, 0, 0, 0, 0, 0, 0, []⟩,
   ⟨0x80100, [], true, true, 0, 0, 0, 0, 0, 0, []⟩,
   ⟨0x80108, [], true, true, 0, 0, 0, 0, 0, 0, []⟩,
   ⟨0x80110, [], true, true, 0, 0, 0, 0, 0, 0, []⟩,
   ⟨0x80118, [], true, true, 0, 0, 0, 0, 0, 0, []⟩,
   ⟨0x80120, [], true, true, 0, 0, 0, 0, 0, 0, []⟩,
   ⟨0x80128, [], true, true, 0, 0, 0, 0, 0, 0, []⟩,
   ⟨0x80130, [], true, true, 0, 0, 0, 0, 0, 0, []⟩,
   ⟨0x80138, [], true, true, 0, 0, 0, 0, 0, 0, []⟩,
   ⟨0x80400, [(256, 4)], false, false, 0, 0x8000FF3F, 0, 0, 0, 0x100, [⟨8, 8, 1, 255⟩]⟩,
   ⟨0x8004C, [], false, false, 0, 0, 0, 0, 0, 0, []⟩,
   ⟨0x80140, [], true, true, 0, 0, 0, 0, 0, 0, []⟩,
   ⟨0x80148, [], true, true, 0, 0, 0, 0, 0, 0, []⟩,
   ⟨0x80150, [], true, true, 0, 0, 0, 0, 0, 0, []⟩,
   ⟨0x80158, [], true, true, 0, 0, 0, 0, 0, 0, []⟩,
   ⟨0x80160, [], true, true, 0, 0, 0, 0, 0, 0, []⟩,
   ⟨0x80168, [], true, true, 0, 0, 0, 0, 0, 0, []⟩]

/-- Registers of the WE page. -/
def regRowsWE : List RegRow :=
  [⟨0x90040, [(96, 4096)], false, false, 0, 0, 0, 0, 0, 0, []⟩,
   ⟨0x90048, [(96, 4096)], true, true, 0, 0, 0, 0, 0, 0, []⟩,
   ⟨0x90050, [(96, 4096)], true, true, 0, 0, 0, 0, 0, 0, []⟩]

/-- Registers of the LCH page. -/
def regRowsLCH : List RegRow :=
  [⟨0x70040, [], false, false, 0, 0x1FF, 0, 0, 0, 0x132, [⟨0, 8, 1, 255⟩]⟩,
   ⟨0x70044, [], false, false, 0, 0xFFFF, 0, 0, 0, 0x32, [⟨0, 16, 1, 65535⟩]⟩,
   ⟨0x70048, [], false, false, 0, 0, 0, 0, 0, 0, []⟩,
   ⟨0x7004C, [], false, false, 0, 0, 1, 0, 0, 0, []⟩,
   ⟨0x70050, [], false, false, 0xFFFF, 0, 0, 0, 0, 0, []⟩,
   ⟨0x70054, [], false, false, 0, 0, 0, 0, 0, 0, []⟩,
   ⟨0x70058, [], false, false, 0xFFFFFFFF, 0, 0, 0, 0, 0, []⟩,
   ⟨0x7005C, [], false, false, 0x1FFF, 0, 0, 0, 0, 0, []⟩,
   ⟨0x70060, [(4, 4)], false, false, 0, 0, 0, 0, 0, 0, []⟩,
   ⟨0x70100, [], true, true, 0, 0, 0, 0, 0, 0, []⟩,
   ⟨0x70108, [], true, true, 0, 0, 0, 0, 0, 0, []⟩,
   ⟨0x70110, [], true, true, 0, 0, 0, 0, 0, 0, []⟩,
   ⟨0x70118, [], true, true, 0, 0, 0, 0, 0, 0, []⟩,
   ⟨0x70120, [], true, true, 0, 0, 0, 0, 0, 0, []⟩,
   ⟨0x70128, [], true, true, 0, 0, 0, 0, 0, 0, []⟩,
   ⟨0x70130, [], true, true, 0, 0, 0, 0, 0, 0, []⟩,
   ⟨0x70138, [], true, true, 0, 0, 0, 0, 0, 0, []⟩,
   ⟨0x70300, [(64, 4)], false, false, 0, 0x1FFF, 0, 0, 0, 0x1000, [⟨0, 13, 0, 4096⟩]⟩,
   ⟨0x70400, [(256, 4)], false, false, 0, 0x8000003F, 0, 0, 0, 0, []⟩,
   ⟨0x70800, [(256, 8)], true, false, 0, 0xFFFFFFFFFFFFFFFF, 0, 0, 0, 0, []⟩]

/-- Registers of the DIR page. -/
def regRowsDIR : List RegRow :=
  [⟨0x50040, [], false, false, 0, 0xFFFFFF, 0, 0, 0, 0x400A14, [⟨8, 8, 1, 255⟩, ⟨16, 8, 1, 64⟩]⟩,
   ⟨0x50044, [], false, false, 0, 0, 0, 0, 0, 0, []⟩,
   ⟨0x50048, [], false, false, 0, 0, 0, 0, 0, 0, []⟩,
   ⟨0x50050, [], false, false, 0, 0, 0, 0, 0, 0, []⟩,
   ⟨0x50054, [], false, false, 0, 0, 0, 0, 0, 0, []⟩,
   ⟨0x50058, [], true, false, 0xFFFFFFFFFF, 0, 0, 0, 0, 0, []⟩,
   ⟨0x50060, [], true, false, 0x1FFFFFFFFFF, 0, 0, 0, 0, 0, []⟩,
   ⟨0x50068, [], false, false, 0, 0, 0, 0, 0, 0, []⟩,
   ⟨0x5006C, [], false, false, 0, 0, 0, 0, 0, 0, []⟩,
   ⟨0x50070, [], false, false, 0x1FFFFF, 0, 0, 0, 0, 0, []⟩,
   ⟨0x50080, [(4, 4)], false, false, 0, 0, 0, 0, 0, 0, []⟩,
   ⟨0x50100, [], true, true, 0, 0, 0, 0, 0, 0, []⟩,
   ⟨0x50108, [], true, true, 0, 0, 0, 0, 0, 0, []⟩,
   ⟨0x50110, [], true, true, 0, 0, 0, 0, 0, 0, []⟩,
   ⟨0x50118, [], true, true, 0, 0, 0, 0, 0, 0, []⟩,
   ⟨0x50120, [], true, true, 0, 0, 0, 0, 0, 0, []⟩,
   ⟨0x50128, [], true, true, 0, 0, 0, 0, 0, 0, []⟩,
   ⟨0x50130, [], true, true, 0, 0, 0, 0, 0, 0, []⟩,
   ⟨0x50138, [], true, true, 0, 0, 0, 0, 0, 0, []⟩,
   ⟨0x50400, [(64, 4)], false, false, 0, 0, 0, 0, 0, 0, []⟩] ++
  [⟨0x50800, [(512, 4)], false, false, 0, 0x8001FFFF, 0, 0, 0, 0, []⟩]

/-- Registers of the SC page. -/
def regRowsSC : List RegRow :=
  [⟨0x100040, [(12, 65536)], false, false, 0, 0, 0, 0, 0, 0, []⟩,
   ⟨0x100044, [(12, 65536)], false, false, 0, 0, 0, 0, 0, 0, []⟩,
   ⟨0x100048, [(12, 65536)], false, false, 0xFFFFFFFF, 0, 0, 0, 0, 0, []⟩,
   ⟨0x10004C, [(12, 65536)], false, false, 0, 0, 0, 0, 0, 0, []⟩,
   ⟨0x100050, [(12, 65536)], false, false, 0xFFFFFF, 0, 0, 0, 0, 0x620020, [⟨18, 6, 1, 32⟩]⟩,
   ⟨0x100054, [(12, 65536)], false, false, 0xFFFF7F7F, 0, 0, 0, 0, 0x7D01030, [⟨0, 7, 1, 64⟩, ⟨16, 16, 1, 65535⟩]⟩,
   ⟨0x100100, [(12, 65536)], true, true, 0, 0, 0, 0, 0, 0, []⟩,
   ⟨0x100108, [(12, 65536)], true, true, 0, 0, 0, 0, 0, 0, []⟩,
   ⟨0x100110, [(12, 65536)], true, true, 0, 0, 0, 0, 0, 0, []⟩,
   ⟨0x100118, [(12, 65536)], true, true, 0, 0, 0, 0, 0, 0, []⟩,
   ⟨0x101040, [(12, 65536)], false, false, 0, 0xFFFFFFFF, 0, 0, 0, 0, []⟩,
   ⟨0x101044, [(12, 65536)], false, false, 0, 0xFFFFFFFF, 0, 0, 0, 0, []⟩,
   ⟨0x101048, [(12, 65536)], false, false, 0, 0xFFFFFF, 0, 0, 0, 0xF3C, []⟩,
   ⟨0x102100, [(12, 65536), (32, 64), (2, 32), (5, 4)], false, false, 0, 0xFFFFFF, 0, 0, 0, 0, []⟩,
   ⟨0x102A00, [(12, 65536), (32, 4)], false, false, 0, 0xFF, 0, 0, 0, 0, []⟩,
   ⟨0x103040, [(12, 65536), (5, 4)], false, false, 0xFF, 0, 0, 0, 0, 0x20, []⟩,
   ⟨0x103054, [(12, 65536), (1, 4)], false, false, 0xFF, 0, 0, 0, 0, 0x40, []⟩,
   ⟨0x103058, [(12, 65536), (8, 4)], false, false, 0xFF, 0, 0, 0, 0, 0x10, []⟩,
   ⟨0x103078, [(12, 65536), (2, 4)], false, false, 0xFF, 0, 0, 0, 0, 4, []⟩,
   ⟨0x103080, [(12, 65536), (1, 4)], false, false, 0xFF, 0, 0, 0, 0, 0x20, []⟩] ++
  [⟨0x103090, [(12, 65536)], false, false, 0xFF, 0, 0, 0, 0, 8, [⟨0, 8, 1, 255⟩]⟩,
   ⟨0x103094, [(12, 65536)], false, false, 0xFFFF, 0, 0, 0, 0, 0xACE1, [⟨0, 16, 1, 65535⟩]⟩,
   ⟨0x103100, [(12, 65536), (17, 8)], true, true, 0, 0, 0, 0, 0, 0, []⟩,
   ⟨0x103200, [(12, 65536)], true, true, 0, 0, 0, 0, 0, 0, []⟩,
   ⟨0x104040, [(12, 65536)], false, false, 0, 0xFF01, 0, 0, 0, 0x1801, [⟨8, 8, 1, 168⟩]⟩,
   ⟨0x104044, [(12, 65536)], false, false, 0, 0, 0, 0, 0, 0, []⟩,
   ⟨0x104048, [(12, 65536)], false, false, 0, 0, 0, 0, 0, 0, []⟩,
   ⟨0x104100, [(12, 65536)], true, true, 0, 0, 0, 0, 0, 0, []⟩,
   ⟨0x104108, [(12, 65536)], true, true, 0, 0, 0, 0, 0, 0, []⟩,
   ⟨0x105040, [(12, 65536)], false, false, 0, 0, 0, 0, 0, 0, []⟩,
   ⟨0x105044, [(12, 65536)], false, false, 0, 0xFFFFFFFF, 0, 0, 0, 0xA03E8, [⟨0, 16, 1, 65535⟩]⟩,
   ⟨0x105048, [(12, 65536)], false, false, 0, 0xFFFF, 0, 0, 0, 0x400, []⟩,
   ⟨0x10504C, [(12, 65536)], false, false, 0, 0, 0, 0, 0, 0, []⟩,
   ⟨0x105050, [(12, 65536)], false, false, 0x3FFF, 0, 0, 0, 0, 0, []⟩,
   ⟨0x105054, [(12, 65536)], false, false, 0, 0, 0, 0, 0, 0, []⟩,
   ⟨0x105058, [(12, 65536)], false, false, 0, 0, 0, 0, 0, 0, []⟩,
   ⟨0x105100, [(12, 65536)], true, true, 0, 0, 0, 0, 0, 0, []⟩,
   ⟨0x105108, [(12, 65536)], true, true, 0, 0, 0, 0, 0, 0, []⟩,
   ⟨0x105110, [(12, 65536)], true, true, 0, 0, 0, 0, 0, 0, []⟩,
   ⟨0x105118, [(12, 65536)], true, true, 0, 0, 0, 0, 0, 0, []⟩]

/-- Registers of the SWP page. -/
def regRowsSWP : List RegRow :=
  [⟨0x10040, [(4, 4096)], false, false, 0, 0xFF7F, 0, 0, 0, 0x1460, [⟨8, 8, 1, 255⟩]⟩,
   ⟨0x14040, [(2, 2048)], false, false, 0, 0xFF7F, 0, 0, 0, 0x1460, [⟨8, 8, 1, 255⟩]⟩,
   ⟨0x10044, [(4, 4096)], false, false, 0, 0, 0, 0, 0, 0xFFF001, []⟩,
   ⟨0x14044, [(2, 2048)], false, false, 0, 0, 0, 0, 0, 0xFFF001, []⟩,
   ⟨0x10050, [(4, 4096), (3, 4)], false, false, 0, 0x7FF, 0, 0, 0, 0x80, []⟩,
   ⟨0x1005C, [(4, 4096), (1, 4)], false, false, 0, 0x7FF, 0, 0, 0, 0x100, []⟩,
   ⟨0x10060, [(4, 4096), (3, 4)], false, false, 0, 0x7FF, 0, 0, 0, 0x80, []⟩,
   ⟨0x1006C, [(4, 4096), (1, 4)], false, false, 0, 0x7FF, 0, 0, 0, 0, []⟩,
   ⟨0x14050, [(2, 2048), (3, 4)], false, false, 0, 0x7FF, 0, 0, 0, 0x80, []⟩,
   ⟨0x1405C, [(2, 2048), (1, 4)], false, false, 0, 0x7FF, 0, 0, 0, 0x100, []⟩,
   ⟨0x14060, [(2, 2048), (3, 4)], false, false, 0, 0x7FF, 0, 0, 0, 0x80, []⟩,
   ⟨0x1406C, [(2, 2048), (1, 4)], false, false, 0, 0x7FF, 0, 0, 0, 0, []⟩,
   ⟨0x10070, [(4, 4096)], false, false, 0, 0xFFF, 0, 0, 0, 0xE10, [⟨0, 12, 60, 3600⟩]⟩,
   ⟨0x14070, [(2, 2048)], false, false, 0, 0xFFF, 0, 0, 0, 0xE10, [⟨0, 12, 60, 3600⟩]⟩,
   ⟨0x10074, [(4, 4096)], false, false, 0, 0, 0, 0, 0, 0, []⟩,
   ⟨0x14074, [(2, 2048)], false, false, 0, 0, 0, 0, 0, 0, []⟩,
   ⟨0x10080, [(4, 4096), (8, 4)], false, false, 0, 0, 0, 0, 0, 0, []⟩,
   ⟨0x14080, [(2, 2048), (8, 4)], false, false, 0, 0, 0, 0, 0, 0, []⟩,
   ⟨0x10100, [(4, 4096)], true, true, 0, 0, 0, 0, 0, 0, []⟩,
   ⟨0x14100, [(2, 2048)], true, true, 0, 0, 0, 0, 0, 0, []⟩] ++
  [⟨0x10108, [(4, 4096)], true, true, 0, 0, 0, 0, 0, 0, []⟩,
   ⟨0x14108, [(2, 2048)], true, true, 0, 0, 0, 0, 0, 0, []⟩,
   ⟨0x10110, [(4, 4096)], true, true, 0, 0, 0, 0, 0, 0, []⟩,
   ⟨0x14110, [(2, 2048)], true, true, 0, 0, 0, 0, 0, 0, []⟩,
   ⟨0x10118, [(4, 4096)], true, true, 0, 0, 0, 0, 0, 0, []⟩,
   ⟨0x14118, [(2, 2048)], true, true, 0, 0, 0, 0, 0, 0, []⟩,
   ⟨0x10120, [(4, 4096)], true, true, 0, 0, 0, 0, 0, 0, []⟩,
   ⟨0x14120, [(2, 2048)], true, true, 0, 0, 0, 0, 0, 0, []⟩,
   ⟨0x10128, [(4, 4096)], true, true, 0, 0, 0, 0, 0, 0, []⟩,
   ⟨0x14128, [(2, 2048)], true, true, 0, 0, 0, 0, 0, 0, []⟩,
   ⟨0x10130, [(4, 4096)], true, true, 0, 0, 0, 0, 0, 0, []⟩,
   ⟨0x14130, [(2, 2048)], true, true, 0, 0, 0, 0, 0, 0, []⟩,
   ⟨0x10138, [(4, 4096)], true, true, 0, 0, 0, 0, 0, 0, []⟩,
   ⟨0x14138, [(2, 2048)], true, true, 0, 0, 0, 0, 0, 0, []⟩,
   ⟨0x10140, [(4, 4096)], true, true, 0, 0, 0, 0, 0, 0, []⟩,
   ⟨0x14140, [(2, 2048)], true, true, 0, 0, 0, 0, 0, 0, []⟩,
   ⟨0x10148, [(4, 4096)], true, true, 0, 0, 0, 0, 0, 0, []⟩,
   ⟨0x14148, [(2, 2048)], true, true, 0, 0, 0, 0, 0, 0, []⟩,
   ⟨0x10150, [(4, 4096)], true, true, 0, 0, 0, 0, 0, 0, []⟩,
   ⟨0x14150, [(2, 2048)], true, true, 0, 0, 0, 0, 0, 0, []⟩] ++
  [⟨0x10158, [(4, 4096)], true, true, 0, 0, 0, 0, 0, 0, []⟩,
   ⟨0x14158, [(2, 2048)], true, true, 0, 0, 0, 0, 0, 0, []⟩,
   ⟨0x10160, [(4, 4096)], true, true, 0, 0, 0, 0, 0, 0, []⟩,
   ⟨0x14160, [(2, 2048)], true, true, 0, 0, 0, 0, 0, 0, []⟩,
   ⟨0x10168, [(4, 4096)], true, true, 0, 0, 0, 0, 0, 0, []⟩,
   ⟨0x14168, [(2, 2048)], true, true, 0, 0, 0, 0, 0, 0, []⟩]

/-- Registers of the RTB page. -/
def regRowsRTB : List RegRow :=
  [⟨0x20040, [], false, false, 0, 0x1FFF1FFF, 0, 0, 0, 0xFFF0FFF, []⟩,
   ⟨0x20044, [], false, false, 0, 0xFF03, 0, 0, 0, 0xC802, [⟨8, 8, 1, 255⟩]⟩,
   ⟨0x20048, [], false, false, 0, 0, 0, 0, 0, 0, []⟩,
   ⟨0x2004C, [], false, false, 0, 0, 0, 0, 0, 0, []⟩,
   ⟨0x20050, [], false, false, 0, 0, 0, 0, 0, 0, []⟩,
   ⟨0x20054, [], false, false, 0, 0x1F, 0, 0, 0, 0, []⟩,
   ⟨0x20058, [], false, false, 0, 0, 0, 0, 0, 0, []⟩,
   ⟨0x2005C, [], false, false, 0, 0, 0, 0, 0, 0xFFF0000, []⟩,
   ⟨0x20060, [], false, false, 0, 0, 0, 0, 0, 0, []⟩,
   ⟨0x20064, [], false, false, 0, 0, 0, 0, 0, 0, []⟩,
   ⟨0x20068, [], false, false, 0, 0, 0, 0, 0, 0, []⟩,
   ⟨0x2006C, [], false, false, 0, 0x7F, 0, 0, 0, 0, [⟨0, 7, 0, 64⟩]⟩,
   ⟨0x20070, [], true, false, 0, 0, 0, 0, 0, 0, []⟩,
   ⟨0x20078, [], true, false, 0, 0, 0, 0, 0, 0, []⟩,
   ⟨0x20080, [], false, false, 0, 0, 0, 0, 0, 0xFFF, []⟩,
   ⟨0x20100, [], true, true, 0, 0, 0, 0, 0, 0, []⟩,
   ⟨0x20108, [], true, true, 0, 0, 0, 0, 0, 0, []⟩,
   ⟨0x20110, [], true, true, 0, 0, 0, 0, 0, 0, []⟩,
   ⟨0x20118, [], true, true, 0, 0, 0, 0, 0, 0, []⟩,
   ⟨0x20120, [], true, true, 0, 0, 0, 0, 0, 0, []⟩] ++
  [⟨0x20128, [], true, true, 0, 0, 0, 0, 0, 0, []⟩,
   ⟨0x20130, [], true, true, 0, 0, 0, 0, 0, 0, []⟩,
   ⟨0x20138, [], true, true, 0, 0, 0, 0, 0, 0, []⟩,
   ⟨0x20140, [], true, true, 0, 0, 0, 0, 0, 0, []⟩,
   ⟨0x20148, [], true, true, 0, 0, 0, 0, 0, 0, []⟩,
   ⟨0x20150, [], true, true, 0, 0, 0, 0, 0, 0, []⟩,
   ⟨0x20300, [(64, 4)], false, false, 0, 0xFFF, 0, 0, 0, 0xFFF, []⟩,
   ⟨0x20800, [(128, 4)], false, false, 0, 0, 0, 0, 0, 0, []⟩,
   ⟨0x21000, [(2, 16384), (4096, 4)], false, false, 0, 0x8000003F, 0, 0, 0, 0x3F, []⟩,
   ⟨0x29000, [(256, 4)], false, false, 0, 0x803F7FFF, 0, 0, 0, 0x7FFF, []⟩,
   ⟨0x2A000, [(256, 16)], false, false, 0, 0x801FFFFF, 0, 0, 0, 0xFFF, []⟩,
   ⟨0x2A004, [(256, 16), (3, 4)], false, false, 0, 0xFFFFFFFF, 0, 0, 0, 0, []⟩]

/-- Registers of the TSH page. -/
def regRowsTSH : List RegRow :=
  [⟨0x60040, [], false, false, 0, 1, 0, 0, 0, 1, []⟩,
   ⟨0x60044, [], false, false, 0, 0, 0, 0, 0, 0, []⟩,
   ⟨0x60048, [], false, false, 1, 0, 0, 0, 0, 0, []⟩,
   ⟨0x6004C, [], false, false, 0x3F, 0, 0, 0, 0, 0, []⟩,
   ⟨0x60100, [(5, 32), (2, 4)], false, false, 0, 0xFFFFFFFF, 0, 0, 0, 0x20000000, [⟨16, 16, 256, 65535⟩]⟩,
   ⟨0x60108, [(5, 32), (1, 4)], false, false, 0, 0xFFFFFFFF, 0, 0, 0, 0x10000000, [⟨16, 16, 256, 65535⟩]⟩,
   ⟨0x6010C, [(5, 32), (1, 4)], false, false, 0, 0xFFFFFFFF, 0, 0, 0, 0x4000000, [⟨16, 16, 256, 65535⟩]⟩,
   ⟨0x60200, [(16, 8)], true, true, 0, 0, 0, 0, 0, 0, []⟩,
   ⟨0x60280, [(16, 8)], true, true, 0, 0, 0, 0, 0, 0, []⟩,
   ⟨0x60400, [(64, 32)], false, false, 0, 0xFFFFFFFF, 0, 0, 0, 0xFFFFFFFF, []⟩,
   ⟨0x60404, [(64, 32)], false, false, 0, 0xFFFFFFFF, 0, 0, 0, 0x100000, [⟨0, 32, 4144, 4294967295⟩]⟩,
   ⟨0x60408, [(64, 32)], false, false, 0, 0xFFFFFFFF, 0, 0, 0, 0xFFFFFFFF, []⟩,
   ⟨0x6040C, [(64, 32)], false, false, 0, 0xFFFFFFFF, 0, 0, 0, 0x100000, [⟨0, 32, 4144, 4294967295⟩]⟩,
   ⟨0x60410, [(64, 32)], false, false, 0, 0xFFFFFFFF, 0, 0, 0, 0xFFFFFFFF, []⟩,
   ⟨0x60414, [(64, 32)], false, false, 0, 0xFFFFFFFF, 0, 0, 0, 0x4000000, [⟨0, 32, 65536, 4294967295⟩]⟩,
   ⟨0x60418, [(64, 32)], false, false, 0, 0xFFFFFFFF, 0, 0, 0, 0xFFFFFFFF, []⟩,
   ⟨0x6041C, [(64, 32)], false, false, 0, 0xFFFFFFFF, 0, 0, 0, 0x4000000, [⟨0, 32, 65536, 4294967295⟩]⟩,
   ⟨0x60C00, [(64, 4)], false, false, 0, 0, 0x100, 0, 0, 0, []⟩,
   ⟨0x60D00, [(64, 4)], false, false, 0, 0x37, 0, 0, 0, 0x1F, []⟩,
   ⟨0x60E00, [], true, true, 0, 0, 0, 0, 0, 0, []⟩] ++
  [⟨0x60E08, [], true, true, 0, 0, 0, 0, 0, 0, []⟩,
   ⟨0x61100, [(64, 32)], true, true, 0, 0, 0, 0, 0, 0, []⟩,
   ⟨0x61108, [(64, 32)], true, true, 0, 0, 0, 0, 0, 0, []⟩,
   ⟨0x61110, [(64, 32)], true, true, 0, 0, 0, 0, 0, 0, []⟩,
   ⟨0x61118, [(64, 32)], true, true, 0, 0, 0, 0, 0, 0, []⟩]

/-- Registers of the EPL page. -/
def regRowsEPL : List RegRow :=
  [⟨0x210040, [], false, false, 0, 0xFFFF, 0, 0, 0, 0x3205, [⟨0, 8, 0, 20⟩, ⟨8, 8, 1, 255⟩]⟩,
   ⟨0x210044, [], false, false, 0, 0xFFFFF, 0, 0, 0, 0xDBBA0, [⟨0, 20, 250000, 900000⟩]⟩,
   ⟨0x210048, [], false, false, 0, 0, 0, 0, 0, 0, []⟩,
   ⟨0x21004C, [], false, false, 0, 0, 0, 0, 0, 0xDBBA0, []⟩,
   ⟨0x210050, [], false, false, 0, 0, 0, 0, 0, 0, []⟩,
   ⟨0x210054, [], false, false, 0, 0xFFFF, 0, 0, 0, 0x645A, [⟨0, 8, 70, 94⟩, ⟨8, 8, 70, 104⟩]⟩,
   ⟨0x210058, [], false, false, 0, 0xFFFF, 0, 0, 0, 0x2710, []⟩,
   ⟨0x21005C, [], false, false, 0, 0, 0, 0, 0xFFFFFFFF, 0, []⟩,
   ⟨0x210060, [], false, false, 0, 0, 0, 0, 0xFFF, 0, []⟩,
   ⟨0x210064, [], false, false, 0, 0, 0, 0, 0xFFFFF, 0, []⟩,
   ⟨0x210068, [], false, false, 0, 0, 0, 0, 0xFFFFF, 0, []⟩,
   ⟨0x21006C, [], false, false, 0, 0, 0, 0, 0xFFFFF, 0, []⟩,
   ⟨0x210078, [], true, false, 0, 0, 0, 0, 0xFFFFFFFFFFFFFFFF, 0, []⟩,
   ⟨0x210080, [], true, false, 0, 0, 0, 0, 0xFFFFFFFFFFFFFFFF, 0, []⟩,
   ⟨0x210088, [], true, false, 0, 0, 0, 0, 0xFFFFFFFFFFFFFFFF, 0, []⟩,
   ⟨0x210100, [], true, true, 0, 0, 0, 0, 0, 0, []⟩,
   ⟨0x210108, [], true, true, 0, 0, 0, 0, 0, 0, []⟩,
   ⟨0x210110, [], true, true, 0, 0, 0, 0, 0, 0, []⟩,
   ⟨0x210118, [], true, true, 0, 0, 0, 0, 0, 0, []⟩,
   ⟨0x210120, [], true, true, 0, 0, 0, 0, 0, 0, []⟩] ++
  [⟨0x210128, [], true, true, 0, 0, 0, 0, 0, 0, []⟩,
   ⟨0x210130, [], true, true, 0, 0, 0, 0, 0, 0, []⟩,
   ⟨0x210200, [(16, 16)], true, true, 0, 0, 0, 0, 0, 0, []⟩,
   ⟨0x210208, [(16, 16)], true, true, 0, 0, 0, 0, 0, 0, []⟩,
   ⟨0x210300, [(64, 8)], true, true, 0, 0, 0, 0, 0, 0, []⟩,
   ⟨0x210600, [(136, 8)], true, true, 0, 0, 0, 0, 0, 0, []⟩]

/-- Registers of the HPS page. -/
def regRowsHPS : List RegRow :=
  [⟨0x15040, [], false, false, 0, 0x17, 0, 0, 0, 4, []⟩,
   ⟨0x15044, [], false, false, 0, 0x1FF, 0, 0, 0, 0x14, [⟨0, 9, 5, 500⟩]⟩,
   ⟨0x15048, [], false, false, 0, 0xFFF0FFF, 0, 0, 0, 0xFFF0FFF, []⟩,
   ⟨0x1504C, [], false, false, 0, 0xFF1F0F7F, 0, 0, 0, 0xA050332, [⟨0, 7, 10, 100⟩, ⟨8, 4, 1, 15⟩, ⟨16, 5, 1, 20⟩, ⟨24, 8, 1, 255⟩]⟩,
   ⟨0x15050, [], false, false, 0, 0xFF, 0, 0, 0, 8, [⟨0, 8, 1, 64⟩]⟩,
   ⟨0x15054, [], false, false, 0, 0, 0, 0, 0, 0x1000, []⟩,
   ⟨0x15058, [], true, false, 0, 0xFFFFFFFFFFFF, 0, 0, 0, 0, []⟩,
   ⟨0x15060, [], true, false, 0, 0xFFFFFFFFFFFF, 0, 0, 0, 0, []⟩,
   ⟨0x15068, [], true, false, 0, 0, 0, 0, 0, 0, []⟩,
   ⟨0x15070, [], true, false, 0, 0, 0, 0, 0, 0, []⟩,
   ⟨0x15078, [], false, false, 0, 0, 0, 0, 0, 0, []⟩,
   ⟨0x1507C, [], false, false, 0, 0x3FF, 0, 0, 0, 0, []⟩,
   ⟨0x15080, [], true, false, 0, 0, 0xFFFFFFFFFFFFFFFF, 0, 0, 0, []⟩,
   ⟨0x15100, [], true, true, 0, 0, 0, 0, 0, 0, []⟩,
   ⟨0x15108, [], true, true, 0, 0, 0, 0, 0, 0, []⟩,
   ⟨0x15110, [], true, true, 0, 0, 0, 0, 0, 0, []⟩,
   ⟨0x15118, [], true, true, 0, 0, 0, 0, 0, 0, []⟩,
   ⟨0x15120, [], true, true, 0, 0, 0, 0, 0, 0, []⟩,
   ⟨0x15128, [], true, true, 0, 0, 0, 0, 0, 0, []⟩,
   ⟨0x15130, [], true, true, 0, 0, 0, 0, 0, 0, []⟩] ++
  [⟨0x15138, [], true, true, 0, 0, 0, 0, 0, 0, []⟩,
   ⟨0x15140, [], true, true, 0, 0, 0, 0, 0, 0, []⟩,
   ⟨0x15148, [], true, true, 0, 0, 0, 0, 0, 0, []⟩,
   ⟨0x15150, [], true, true, 0, 0, 0, 0, 0, 0, []⟩,
   ⟨0x15400, [(16, 32)], false, false, 0, 0x80000FFF, 0, 0, 0, 0xFFF, []⟩,
   ⟨0x15404, [(16, 32)], false, false, 0, 0xFFF0FFF, 0, 0, 0, 0xFFF0FFF, []⟩,
   ⟨0x15408, [(16, 32)], false, false, 0, 0, 0, 0, 0, 0xFFF, []⟩,
   ⟨0x15410, [(16, 32)], true, false, 0, 0xFFFFFFFFFFFF, 0, 0, 0, 0, []⟩]

/-- Registers of the GLB page. -/
def regRowsGLB : List RegRow :=
  [⟨0x40, [], false, false, 0, 0, 0, 0, 0, 0, []⟩,
   ⟨0x44, [], false, false, 0, 0, 0, 0, 0, 0, []⟩,
   ⟨0x48, [], false, false, 0, 0x80000FFF, 0, 0, 0, 0xFFF, []⟩,
   ⟨0x4C, [], false, false, 0, 0, 0, 0, 0, 0, []⟩,
   ⟨0x50, [], false, false, 0, 0, 0, 0, 0, 0, []⟩,
   ⟨0x60, [(8, 4)], false, false, 0, 0, 0, 0, 0, 0, []⟩,
   ⟨0x80, [], false, false, 0, 0, 1, 0, 0, 0, []⟩,
   ⟨0x90, [], false, false, 0, 0, 0, 0, 0, 0, []⟩,
   ⟨0x94, [], false, false, 0, 0xFF18, 0, 0, 0, 0x1E10, [⟨8, 8, 1, 255⟩]⟩,
   ⟨0x98, [], false, false, 0, 0, 0, 0, 0, 0, []⟩,
   ⟨0x9C, [], false, false, 0, 0, 0, 0, 0, 0, []⟩,
   ⟨0xA0, [], true, false, 0, 0, 0, 0, 0, 0, []⟩,
   ⟨0xA8, [], true, false, 0, 0, 0, 0, 0, 0, []⟩,
   ⟨0xB0, [], false, false, 0, 0, 0, 0, 0, 0, []⟩,
   ⟨0xB4, [], false, false, 0, 0, 0, 0, 0, 0, []⟩,
   ⟨0xB8, [], false, false, 0, 0, 0, 0, 0, 0, []⟩,
   ⟨0xBC, [], false, false, 0, 0, 0, 0, 0, 0, []⟩,
   ⟨0xC0, [], false, false, 0, 0, 0, 0, 0, 0, []⟩,
   ⟨0xC4, [], false, false, 0, 0, 0, 0, 0, 0, []⟩,
   ⟨0xC8, [], false, false, 0xFFFF, 0, 0, 0, 0, 0, []⟩] ++
  [⟨0xCC, [], false, false, 0, 0, 0, 0, 0, 0, []⟩,
   ⟨0xD0, [(16, 4)], false, false, 0, 0, 0, 0, 0, 0, []⟩,
   ⟨0x140, [], true, true, 0, 0, 0, 0, 0, 0, []⟩,
   ⟨0x148, [], true, true, 0, 0, 0, 0, 0, 0, []⟩,
   ⟨0x150, [], true, true, 0, 0, 0, 0, 0, 0, []⟩,
   ⟨0x158, [], true, true, 0, 0, 0, 0, 0, 0, []⟩,
   ⟨0x54, [], false, false, 0, 0xFFFF, 0, 0, 0, 0x1F4, [⟨0, 16, 10, 65535⟩]⟩,
   ⟨0x110, [], true, true, 0, 0, 0, 0, 0, 0, []⟩,
   ⟨0x118, [], true, true, 0, 0, 0, 0, 0, 0, []⟩,
   ⟨0x120, [], true, true, 0, 0, 0, 0, 0, 0, []⟩,
   ⟨0x128, [], false, false, 0, 0, 0x10000, 0, 0, 0, []⟩]

/-- Registers of the FTM page. -/
def regRowsFTM : List RegRow :=
  [⟨0x240040, [], false, false, 0, 0, 0, 0xFFFFFF37, 0, 0, []⟩,
   ⟨0x240048, [], true, false, 0, 0, 0, 0xFFFFFFFFFF, 0, 0, []⟩,
   ⟨0x240050, [], true, false, 0, 0, 0, 0xFFFFFFFFF, 0, 0, []⟩,
   ⟨0x240058, [], false, false, 0, 0, 0, 1, 0, 0, []⟩,
   ⟨0x240100, [], true, true, 0, 0, 0, 0xFFFFFFFFFFFFFFFF, 0, 0, []⟩]

/-- Registers of the KPR page. -/
def regRowsKPR : List RegRow :=
  [⟨0x2040, [], false, false, 0, 1, 0, 0, 0, 1, []⟩,
   ⟨0x2044, [], false, false, 0, 0, 0, 0, 0, 0, []⟩,
   ⟨0x2048, [], false, false, 0, 0, 0, 0, 0, 0, []⟩,
   ⟨0x204C, [], false, false, 0, 0, 0, 0, 0, 0, []⟩,
   ⟨0x2050, [], false, false, 0, 0, 0, 0, 0, 0, []⟩,
   ⟨0x2054, [], false, false, 0, 0, 0, 0, 0, 0, []⟩,
   ⟨0x2058, [], true, false, 0, 0, 0, 0, 0, 0, []⟩,
   ⟨0x2100, [(64, 4)], false, false, 0xFFFFFFFF, 0, 0, 0, 0, 0, []⟩,
   ⟨0x2200, [(8, 4)], false, false, 0, 0, 0, 0, 0, 0, []⟩,
   ⟨0x2400, [(256, 4)], false, false, 0, 0, 0, 0, 0, 0xFFF, []⟩,
   ⟨0x2800, [], true, true, 0, 0, 0, 0, 0, 0, []⟩,
   ⟨0x2808, [], true, true, 0, 0, 0, 0, 0, 0, []⟩,
   ⟨0x2810, [], true, true, 0, 0, 0, 0, 0, 0, []⟩,
   ⟨0x2818, [], true, true, 0, 0, 0, 0, 0, 0, []⟩,
   ⟨0x2820, [], true, true, 0, 0, 0, 0, 0, 0, []⟩,
   ⟨0x2828, [], true, true, 0, 0, 0, 0, 0, 0, []⟩]

/-- Registers of the CXP page. -/
def regRowsCXP : List RegRow :=
  [⟨0x16040, [], false, false, 0, 0x1F, 0, 0, 0, 0x10, []⟩,
   ⟨0x16044, [], false, false, 0, 0, 0, 0, 0, 0, []⟩,
   ⟨0x16048, [], false, false, 0, 0, 0x400, 0, 0, 0, []⟩,
   ⟨0x16080, [(16, 4)], false, false, 0, 0, 0, 0, 0, 0, []⟩,
   ⟨0x16100, [], true, true, 0, 0, 0, 0, 0, 0, []⟩,
   ⟨0x16108, [], true, true, 0, 0, 0, 0, 0, 0, []⟩,
   ⟨0x16110, [], true, true, 0, 0, 0, 0, 0, 0, []⟩,
   ⟨0x16118, [], true, true, 0, 0, 0, 0, 0, 0, []⟩]

/-- Registers of the MGM page. -/
def regRowsMGM : List RegRow :=
  [⟨0x1040, [], false, false, 0, 0, 0, 0, 0, 0, []⟩,
   ⟨0x1044, [], false, false, 0xFFF, 0, 0, 0, 0, 0, [⟨0, 12, 0, 2048⟩]⟩,
   ⟨0x1048, [], false, false, 0, 0, 0, 0, 0, 0, []⟩,
   ⟨0x104C, [], false, false, 0, 0, 0, 0, 0, 0, []⟩,
   ⟨0x1800, [(512, 4)], false, false, 0xFFFFFFFF, 0, 0, 0, 0, 0, []⟩]

/-- Registers of the EVT page. -/
def regRowsEVT : List RegRow :=
  [⟨0x3040, [], false, false, 0, 0, 0, 0, 0, 0, []⟩,
   ⟨0x3100, [(19, 4)], false, false, 0, 0, 0, 0, 0, 0, []⟩]

/-- Registers of the DBG page. -/
def regRowsDBG : List RegRow :=
  [⟨0x230040, [], false, false, 0, 0, 0, 0, 0, 1, []⟩]

/-- The pages of the tables: first and last offset, and the rows between them (R541). -/
def regGroups : List (Nat × Nat × List RegRow) :=
  [(0x0, 0xFFF, regRowsGLB),
   (0x1000, 0x1FFF, regRowsMGM),
   (0x2000, 0x2FFF, regRowsKPR),
   (0x3000, 0x3FFF, regRowsEVT),
   (0x10000, 0x14FFF, regRowsSWP),
   (0x15000, 0x15FFF, regRowsHPS),
   (0x16000, 0x16FFF, regRowsCXP),
   (0x20000, 0x2AFFF, regRowsRTB),
   (0x30000, 0x30FFF, regRowsKTU),
   (0x40000, 0x48FFF, regRowsPTN),
   (0x50000, 0x50FFF, regRowsDIR),
   (0x60000, 0x61FFF, regRowsTSH),
   (0x70000, 0x70FFF, regRowsLCH),
   (0x80000, 0x80FFF, regRowsWRD),
   (0x90000, 0xEFFFF, regRowsWE),
   (0x100000, 0x1BFFFF, regRowsSC),
   (0x200000, 0x201FFF, regRowsFLT),
   (0x210000, 0x210FFF, regRowsEPL),
   (0x230000, 0x230FFF, regRowsDBG),
   (0x240000, 0x240FFF, regRowsFTM)]

/-- Whether an offset within an array is one of its words: strides are taken from the outermost dimension inwards. -/
def inDims : List (Nat × Nat) → Nat → Bool
  | [], d => d == 0
  | (c, st) :: r, d => decide (d / st < c) && inDims r (d % st)

/-- Whether the word at byte offset o belongs to a row: 1 its only or low word, 2 the high word of a 64-bit register,
0 neither. -/
def RegRow.part (r : RegRow) (o : Nat) : Nat :=
  if o < r.base then 0
  else if inDims r.dims (o - r.base) then 1
  else if r.wide && decide (r.base + 4 ≤ o) && inDims r.dims (o - r.base - 4) then 2 else 0

/-- The row of a list that holds an offset. -/
def findRow : List RegRow → Nat → Option (RegRow × Bool)
  | [], _ => none
  | r :: rs, o => match r.part o with
    | 0 => findRow rs o
    | 1 => some (r, false)
    | _ => some (r, true)

/-- The register that holds the word at a management offset; the Bool is true for a high word. -/
def findReg (o : Nat) : Option (RegRow × Bool) :=
  match regGroups.find? (fun g => decide (g.1 ≤ o) && decide (o ≤ g.2.1)) with
  | none => none
  | some g => findRow g.2.2 o

/-- A page of the map that carries the common header (R541, R542). -/
def headerPage (o : Nat) : Bool :=
  let g := o / 4096
  decide (g < 4) || decide (0x10 ≤ g ∧ g ≤ 0x16) || ([0x20, 0x30, 0x40, 0x50, 0x60, 0x61, 0x70, 0x80, 0x200, 0x210, 0x230, 0x240].contains g)
    || decide (0x90 ≤ g ∧ g < 0xF0) || (decide (0x100 ≤ g ∧ g < 0x1C0) && decide (g % 16 < 6))

/-- The reset value of the register word at an offset; BLK_CTRL.ENABLE is 1: 0 where no register stands. -/
def resetWord (o : Nat) : Nat :=
  match findReg o with
  | none => if headerPage o && o % 4096 == 8 then 1 else 0
  | some (r, false) => r.reset % 4294967296
  | some (r, true) => r.reset / 4294967296

end Sys2Proof.Machine
end

