-- ==== Sys2Proof/Machine/State.lean ====
section
/-! DEFINITION. The state of the block as plain data: its registers, counters, tables, queues, buffers, memories, modes and
pins, each named by the rule of the spec that gives it, and the queue of waiting commands; the reasons a step can stop; and
the states a cold reset leaves before and after its start-up. -/

namespace Sys2Proof.Machine

/-- The three parts of the family (R2 to R5, 00_scope "Parts covered"). -/
inductive Part where
  | cv1275 | cv1273 | cv1269
  deriving DecidableEq, Repr

/-- Where the device stands between power-up and service (R442, R446, R447, R497). `cold`: in a cold reset or before its
start has run; `noKeeper`: neither Keeper copy verified (R498); `recovery`: the resident loader runs alone (R498); `ready`:
in service; `warm k`: a warm reset at step k of R447; `haltWait`: a halt between steps 2 and 3 of R442; `halted`: after
step 4; `off`: clocks stopped by power loss or a thermal trip (R560, R571). -/
inductive Phase where
  | cold | noKeeper | recovery | ready | warm (step : Nat) | haltWait | halted | off
  deriving DecidableEq, Repr

/-- A fault record (R82). -/
structure Rec where
  time : Nat
  addr : Nat
  kw : Nat
  source : Nat
  cls : Nat
  code : Nat
  sub : Nat
  ctx : Nat
  node : Nat
  count : Nat
  addrPpa : Bool
  leaving : Bool
  kwValid : Bool
  ctxValid : Bool
  deriving DecidableEq, Repr

/-- An entry of the escalation store (R434): source and class, the ring index of its record, its count, DROPPED. -/
structure StoreEnt where
  source : Nat
  cls : Nat
  idx : Nat
  count : Nat
  dropped : Bool
  deriving DecidableEq, Repr

/-- One received number of a source (R44 to R48): its position in the source's numbering, whether it is ORDERED, whether
it has committed, whether it breaks its segment (R47). -/
structure NumSt where
  n : Nat
  ord : Bool
  done : Bool
  bad : Bool
  deriving DecidableEq, Repr

/-- The per-source entry of the ordering contract (R43, R45): the committed-through value C and the value C0 at which the
entry started, both counted without wrapping (C is the low 16 bits), whether the straggler window of R45 is still open,
and the numbers that still matter. -/
structure SeqEntry where
  c : Nat
  c0 : Nat
  win : Bool
  nums : List NumSt
  deriving DecidableEq, Repr

/-- Who waits for a translation (R68, R71): an admitted request, or a chunk of a ward operation. -/
inductive Waiter where
  | req (id : Nat)
  | chunk (op idx : Nat)
  deriving DecidableEq, Repr

/-- The causes of a violation (R53). -/
inductive Cause where
  | noMapping | permission | wardPermission | partition | carveOut | foreignStripe | subscriber | quiesced | register
  | malformedTable
  deriving DecidableEq, Repr

/-- An admitted request that has not committed (R42): its identity, its packet as delivered, its ingress port, the CXL
logical device and host tag when it is a CXL.mem request, its unwrapped sequence number, whether it has started, whether
its gap timer runs (R48), the PPA its one translation gave (R68), the ranges it
translated through (R75), whether it came with the manager's privilege (R529); what was so when it was admitted: whether its node was
bound to its subscriber (R551), and whether the share masks let its subscriber use the latch it names and the one it signals (R180, bits 0 and
1); the cause that its translation gave while it waits (R68), whether it holds a dispatcher slot (R93), whether its access has been offered to
its stack's arbiter (R254); the memory bytes charged for it (R363), and when it was admitted (R374). -/
structure Req where
  id : Nat
  pkt : Packet
  port : Nat
  cxl : Option (Nat × Nat)
  n : Nat
  seqd : Bool
  started : Bool
  gap : Bool
  ppa : Option Nat
  xl : List (Nat × Nat × Nat)
  mgr : Bool
  bnd : Bool
  shr : Nat
  bad : Option Cause
  slot : Bool
  queued : Bool
  cost : Nat
  since : Nat
  deriving DecidableEq, Repr

/-- What a waiter is told (R66, R68, R72, R73): translate again; back off with a hint; a malformed entry was met. -/
inductive Wake where
  | again
  | retry (hint : Nat)
  | malformed
  deriving DecidableEq, Repr

/-- A range-cache entry (R69): a range of a keyway, or a gap entry. -/
structure CacheEnt where
  kw : Nat
  vstart : Nat
  len : Nat
  ppa : Nat
  perm : Nat
  gap : Bool
  deriving DecidableEq, Repr

/-- A range-table entry as read from host memory (R64). -/
structure TblEnt where
  vstart : Nat
  len : Nat
  ppa : Nat
  perm : Nat
  deriving DecidableEq, Repr

/-- A running walk (R72): the miss that owns it, the binary search's bounds, the entries read with their indices, and,
while the final read is split at a 4 KiB host page (R72), the entry already delivered. -/
structure Walk where
  kw : Nat
  off : Nat
  owner : Waiter
  lo : Nat
  hi : Nat
  seen : List (Nat × TblEnt)
  half : Option TblEnt
  deriving DecidableEq, Repr

/-- An outstanding miss in the miss queue (R71). -/
structure Miss where
  kw : Nat
  off : Nat
  who : Waiter
  deriving DecidableEq, Repr

/-- An open invalidation (R74 to R77): its tag and scope, the node to notify when it came in an MGT_WRITE, and the work
that translated through its scope and has not ended. -/
structure Inval where
  tag : Nat
  kw : Nat
  notify : Option Nat
  waits : List Waiter
  deriving DecidableEq, Repr

/-- The keyway translation unit (R59 to R79): descriptors as 256-bit numbers, range cache by set * 16 + way, pseudo-LRU
tree bits by set, walks by slot, the miss queue, the misses of CXL requests that no answer can turn away and that wait for room in it, the
open invalidations, the waiters to be told something within this step. -/
structure Ktu where
  descs : List (Nat × Nat)
  cache : List (Nat × CacheEnt)
  plru : List (Nat × Nat)
  walks : List (Nat × Walk)
  missq : List Miss
  stalled : List Miss
  invs : List Inval
  doneTag : Nat
  wakes : List (Waiter × Wake)
  deriving DecidableEq, Repr

/-- The latch and stage of one management path (R537, R538): a latched HI word with the LO offset it belongs to, a staged
LO word with its offset, a latched window with the offset of its lowest word. -/
structure PathSt where
  hi : Option (Nat × Nat)
  stage : Option (Nat × Nat)
  win : Option (Nat × List Nat)
  deriving DecidableEq, Repr

/-- The fault collector (R430 to R443): the ring by slot, the escalation store by index, the NOTIFY queue, the first
FATAL record, ALERT_N driven low, blocked MSI-X messages not yet recorded (R454). -/
structure Flt where
  ring : List (Nat × Rec)
  store : List (Nat × StoreEnt)
  notify : List Packet
  lastFatal : Option Rec
  alert : Bool
  blocked : Nat
  deriving DecidableEq, Repr

/-- A running fence or unfence (R349, R350): the node, whether it lifts the fence, the agent slots whose directory fence
still runs, the FENCE request to answer. -/
structure FenceJob where
  node : Nat
  unfence : Bool
  agents : List Nat
  reply : Option Nat
  deriving DecidableEq, Repr

/-- The router's own state beside its registers (R336 to R357): the directions each version records, when INJ_EPOCH last
left each version, the kinds of drop recorded since the event bit was cleared, the running fences and unfences in order, the
ENUM ASSIGN to answer, whether an ASSIGN waits for the chain port, the signed rate correction of pool time in ppm, the stamp
t1 of the open TIME_REQ, the millionths of a nanosecond that the correction has gathered, and when the first slot of the packet being taken
came in (R356). -/
structure Rtb where
  dirA : Nat
  dirB : Nat
  leftA : Option Nat
  leftB : Option Nat
  dropSeen : Nat
  fences : List FenceJob
  enumUp : Option (Nat × Packet)
  enumWait : Bool
  rate : Int
  treqT1 : Nat
  frac : Int
  rxAt : Nat
  deriving DecidableEq, Repr

/-- A running PTN_INIT fill (R30): the entry, the pattern, the range as it was when the fill started, whether it is to stop. -/
structure InitJob where
  entry : Nat
  pattern : Nat
  base : Nat
  size : Nat
  stop : Bool
  deriving DecidableEq, Repr

/-- A stretch of a range that a chunk touches (R80, R97): the range's index, the traversal position of the first byte within
the range, keyway, keyway offset, length, whether it is written. -/
structure Piece where
  rng : Nat
  pos : Nat
  kw : Nat
  off : Nat
  len : Nat
  write : Bool
  deriving DecidableEq, Repr

/-- A translated stretch (R68): where it lies in the range, and its PPA or the cause that forbids it. -/
structure Seg where
  rng : Nat
  pos : Nat
  off : Nat
  len : Nat
  write : Bool
  ppa : Option Nat
  cause : Option Cause
  deriving DecidableEq, Repr

/-- A chunk that has left the dispatcher (R68, R90): the engine it was given, whether it has issued, the stretches
translated, those still to translate, the back-off hint while its translation is stopped, when its translations began to fail
under R73, when it was issued, the ranges it translated through (R75), and, where it gave its engine up waiting on a snoop (R227), whether it
may have one again. -/
structure Chunk where
  idx : Nat
  engine : Nat
  run : Bool
  segs : List Seg
  todo : List Piece
  stopped : Option Nat
  failing : Option Nat
  since : Nat
  xl : List (Nat × Nat × Nat)
  away : Option Bool
  deriving DecidableEq, Repr

/-- A remote WRITE of a COPY_REMOTE (R109, R111): its index, the destination offset, its data, its tag and sequence number once
sent, the RETRY answers so far; st: 0 to be sent, 1 sent, 2 waiting out a back-off. -/
structure RemoteW where
  idx : Nat
  off : Nat
  data : List Byte
  tag : Nat
  seq : Nat
  tries : Nat
  st : Nat
  deriving DecidableEq, Repr

/-- A child of an open merge or tree reduction (R168, R171): its node, the record or element packets received, its outcome word
once known, whether it has reported, whether it was given up (timed out) or pruned by a fence. -/
structure Kid where
  node : Nat
  recs : List (Nat × List Nat)
  word : Nat
  done : Bool
  lost : Bool
  fenced : Bool
  deriving DecidableEq, Repr

/-- The role of an operation in a tree (R121, R122, R166 to R172): the merge's name, its parent (none at the root), its
children, whether they have been told. -/
structure Tree where
  root : Nat
  reqNode : Nat
  reqTag : Nat
  group : Nat
  parent : Option Nat
  kids : List Kid
  started : Bool
  deriving DecidableEq, Repr

/-- An admitted ward operation (R90 to R133): the identity of its request, whether it waits on WAIT_LATCH, the chunks that have
left the dispatcher and those completed, the states of bytes known so far for R81 (range, position, length, cause), poisoned
source sectors consumed (PPA), the first mismatch or poison (range, position, offset), whether a mismatch, poison or a failed
stack was met, what it has written (PPA, length), whether a bag was clamped, data kept in the save area (R129): operand words,
partial results by key, excluded tokens (head, token), remote WRITEs and how many were made, the status it ends with once its
issued chunks have ended, its role in a tree, whether it makes no contribution of its own (R169), when it was admitted (R374). -/
structure Wop where
  id : Nat
  wait : Bool
  live : List Chunk
  done : List Nat
  known : List (Nat × Nat × Nat × Option Cause)
  eaten : List Nat
  first : Option (Nat × Nat × Nat)
  miss : Bool
  poison : Bool
  media : Bool
  wrote : List (Nat × Nat)
  clamp : Bool
  aux : List Nat
  acc : List (Nat × List Nat)
  excl : List (Nat × Nat)
  remote : List RemoteW
  made : Nat
  ending : Option Nat
  tree : Option Tree
  mismatch : Bool
  since : Nat
  deriving DecidableEq, Repr

/-- A ward engine (R128, R129): the context it runs or last ran, the context whose data its scratch holds, quanta the context
has used in this round, whether its quantum has expired, whether it is held by planner or shaper, whether it left service on an
internal error (R136), the context of the last chunk it ran, an ATOMIC's one included (R135). -/
structure Engine where
  ctx : Nat
  scratch : Option Nat
  quanta : Nat
  expired : Bool
  held : Bool
  out : Bool
  last : Nat
  deriving DecidableEq, Repr

/-- The ward dispatcher (R89 to R175): admitted operations, engines by number, this chip's own numbering toward other chips (R109),
the next tag of its own requests, ATOMICs whose chunk the shaper or the planner holds (R130). -/
structure Wrd where
  ops : List Wop
  engines : List (Nat × Engine)
  txSeq : List (Nat × Nat)
  txTag : Nat
  heldAtoms : List Nat
  deriving DecidableEq, Repr

/-- A waiter on a latch, in parking order (R190, R195): a parked LATCH_WAIT with its request, or a ward operation in the watch
list; the latch, the threshold, whether it consumes, its timeout in 100 µs units, when it parked. -/
structure Park where
  ward : Bool
  r : Req
  latch : Nat
  thr : Nat
  consume : Bool
  tmo : Nat
  since : Nat
  deriving DecidableEq, Repr

/-- The latch unit (R176 to R200): counts, waiters in parking order, when a count last changed, whether a DEADLOCK was raised
since then, the snapshot's entries (128-bit numbers), whether a LATCH_WAIT was refused since the table last had room. -/
structure Lch where
  counts : List (Nat × Nat)
  parks : List Park
  changed : Nat
  raised : Bool
  snap : List Nat
  full : Bool
  deriving DecidableEq, Repr

/-- A directory entry (R206 to R208): the PPA of its line, DSTATE, COARSE, LEAD, precise sharers beyond LEAD, the group vector,
PINNED. DSTATE 0 on a pinned entry: freed when it is unpinned. -/
structure DirEnt where
  line : Nat
  dstate : Nat
  coarse : Bool
  lead : Nat
  sharers : List Nat
  groups : Nat
  pin : Bool
  deriving DecidableEq, Repr

/-- A snoop of a transaction (R212, R219, R220): the agent, the opcode, whether it carries TO_HOME, whether it has been issued,
whether it is answered, whether its holder's write-back or eviction crossed it, whether the answer left the home waiting for
that packet, whether the requester was sent the data by the holder, the state the holder is left in, whether it gave modified data back. -/
structure Snoop where
  agent : Nat
  op : Nat
  home : Bool
  sent : Bool
  done : Bool
  wb : Bool
  await : Bool
  fwd : Bool
  final : Nat
  dirty : Bool
  deriving DecidableEq, Repr

/-- What a transaction is for: a coherence request, a plain or ward access (R227), an eviction (R225), a flush (R231), the clean-up
after a takeover (R236). -/
inductive TxnFor where
  | req (id : Nat)
  | access (w : Waiter) (write : Bool)
  | victim
  | flush
  | cleanup
  deriving DecidableEq, Repr

/-- A transaction on a line (R217 to R219): HOME_TXN, the line's PPA, what it is for, the opcode served and the requester's slot,
its snoops, whether the grant has been made, whether a COMP_ACK is owed and has come, the class its packets travel in (R361). -/
structure Txn where
  num : Nat
  line : Nat
  who : TxnFor
  op : Nat
  agent : Option Nat
  snoops : List Snoop
  granted : Bool
  owes : Bool
  acked : Bool
  cls : Nat
  deriving DecidableEq, Repr

/-- A snoop's answer that the home cannot take yet: its data waits for a channel or a granule (R244, R277), or a host's write-back of the line,
which came before it, has not been written (R233). -/
structure LateAns where
  num : Nat
  agent : Nat
  final : Nat
  fwd : Bool
  data : Option (List Byte)
  cxl : Bool
  port : Nat
  deriving DecidableEq, Repr

/-- A request in a slice's pending queue (R226), or a line a flush waits for: the line, the waiter, whether it needs a way. -/
structure Pend where
  line : Nat
  who : Option Waiter
  way : Bool
  deriving DecidableEq, Repr

/-- A fence walk of an agent (R228): lines poisoned, the first of them, transactions it still waits for, whether the fence is to be
lifted when it ends (R230), lines it has still to poison when their channel or granule is free (R244, R277). -/
structure DirFence where
  agent : Nat
  count : Nat
  first : Option Nat
  txns : List Nat
  lift : Bool
  wait : List Nat
  deriving DecidableEq, Repr

/-- The coherence directory (R202 to R236): entries by slice * 131072 + set * 16 + way, pseudo-LRU trees by slice * 8192 + set,
open transactions, the next HOME_TXN, pending requests (the first 64 of a slice are in its queue, those behind them wait to enter it, R226), lines
a flush still has to free, accesses whose snoop has brought the current data and writes that have begun to take lines (R227), CXL grants inside
their hold time (line, agent), fence walks, agents whose COH_FENCED record is written, agents that hold nothing since they were fenced (R230),
agents fenced because of the CXL link (R228, R230), snoop answers not yet taken. -/
structure Dir where
  ents : List (Nat × DirEnt)
  plru : List (Nat × Nat)
  txns : List Txn
  next : Nat
  pend : List Pend
  flush : List Nat
  fresh : List (Waiter × Nat)
  hold : List (Nat × Nat)
  fences : List DirFence
  told : List Nat
  bare : List Nat
  linkFenced : List Nat
  late : List LateAns
  deriving DecidableEq, Repr

/-- An access at a stack-gate arbiter (R254): stack, requester, PPA and length within one granule, write, real-time, when it
was queued, the sectors a write writes and whether it writes each of them whole (R249). -/
structure Access where
  stack : Nat
  requester : Nat
  ppa : Nat
  len : Nat
  write : Bool
  rt : Bool
  since : Nat
  puts : List (Nat × Bool)
  deriving DecidableEq, Repr

/-- A request held at its port because its requester's pending queue on a stack is full (R258): the request, the stack, the requester; the
port, virtual channel and buffer units it still takes, none once they were given back. -/
structure Held where
  id : Nat
  stack : Nat
  requester : Nat
  port : Nat
  vc : Nat
  units : Nat
  deriving DecidableEq, Repr

/-- A sector command in the queue of a pseudo-channel (R246): its queue (stack * 64 + channel * 2 + pseudo-channel), bank,
row, the sector's PPA, write, real-time, whether it is a merge read (R249), when it was queued. -/
structure SecCmd where
  q : Nat
  bank : Nat
  row : Nat
  ppa : Nat
  write : Bool
  rt : Bool
  merge : Bool
  exempt : Bool
  since : Nat
  deriving DecidableEq, Repr

/-- A retirement under way (R277): the granule (PPA div 4096) that is locked and the spare it is copied to, and its remap
entry where the granule was retired before (R278). -/
structure Retire where
  granule : Nat
  spare : Nat
  entry : Option Nat
  deriving DecidableEq, Repr

/-- The stack controllers (R239 to R284): arbiter pending queues, command queues, reads on the pins, queues in a write drain (queue * 2, and queue * 2 + 1 for a drain forced by a full queue, R250),
requesters in panic (stack * 32 + i), grants since the last oldest-first grant by stack, open rows by bank
((stack * 64 + queue) * 32 + bank), postponed refreshes by bank, sector commands a channel (stack * 32 + channel) issued in its latest microsecond (channel,
microsecond, commands), the correction tracking table (stack, sector
PPA, count; oldest first), times of uncorrectable decodes by stack, retirements under way, remap entries by index
(granule, spare), superseded spares, granules locked, the next sector of the scrubbed granule by stack, the start of the
scrub pass by stack, retirements not yet in the flash log, requests parked for a locked granule or a quiesced channel; accesses that wait for
room in their requester's full pending queue, and requests held at their port for it (R258); by stack * 32 + requester when its head access became
the head (time * 2^64 + grants made by then), the grants made so far (R257, R259); refreshes issued ahead of time by bank (R260). -/
structure Sc where
  pend : List Access
  cmds : List SecCmd
  reads : List SecCmd
  drain : List Nat
  panic : List Nat
  starv : List (Nat × Nat)
  rows : List (Nat × Nat)
  postponed : List (Nat × Nat)
  issued : List (Nat × Nat × Nat)
  track : List (Nat × Nat × Nat)
  ue : List (Nat × Nat)
  retire : List Retire
  remap : List (Nat × Nat × Nat)
  superseded : List Nat
  scrubSec : List (Nat × Nat)
  passStart : List (Nat × Nat)
  unlogged : List (Nat × Nat)
  parked : List Nat
  wait : List Access
  held : List Held
  heads : List (Nat × Nat)
  turn : Nat
  ahead : List (Nat × Nat)
  deriving DecidableEq, Repr

/-- The link layer of one port (R289 to R319): whether its lanes have trained, the peer's HELLO body, own and peer training
nonces; messages to send in control blocks (type, body), the MSG_SEQ of the first, the highest MSG_SEQ received; the pieces of
the peer's chain, the chain once accepted, the own private key and share, the peer's share; the slot number; the next sequence to send, the
last ACK_SEQ taken, the replay buffer, the sequence a replay sends next and where it began, the flit replayed last and how often;
the packet being sent (bytes left), the last flit of each packet sent and not acknowledged; units sent and limits by channel,
channels whose credit count changed since their last report, packets passed over by channel; whether a replay and a retrain are to
be asked for; key phases, keys with salts, the next keys, packets under the current keys; the sequence expected, the bytes of the
packet being received, its slots in all, the key and number it is under, whether it is dropped as it comes; units received by channel, allocations in force; the attempts of a running
retrain, the peer's target and E, whether it follows the peer, whether this end started it, whether a further retrain is wanted; whether a rekey runs and its count; whether the next bring-up waits 1 s; the
own HELLO body of this bring-up (R315); whether the running retrain followed on another (R313); the channel and units of the packet being received
and when its first slot came in (R301, R356). -/
structure Lnk where
  trained : Bool
  hello : List Byte
  nonce : Nat
  peerNonce : Nat
  msgs : List (Nat × List Byte)
  msgSeq : Nat
  inSeq : Nat
  pieces : List (Nat × List Byte)
  chain : Option (List Byte)
  priv : Nat
  share : List Byte
  peerShare : List Byte
  slot : Nat
  next : Nat
  acked : Nat
  buf : List (Nat × List Byte)
  rep : Option Nat
  repK : Nat
  cntK : Nat
  numK : Nat
  cur : List Byte
  flying : List Nat
  sent : List (Nat × Nat)
  limit : List (Nat × Nat)
  report : List Nat
  passed : List (Nat × Nat)
  askReplay : Bool
  askRetrain : Bool
  txPhase : Bool
  rxPhase : Bool
  txKey : List Byte
  rxKey : List Byte
  newTx : Option (List Byte)
  newRx : Option (List Byte)
  txNum : Nat
  rxNum : Nat
  e : Nat
  part : List Byte
  partLen : Nat
  partKey : List Byte
  partNum : Nat
  partDrop : Bool
  got : List (Nat × Nat)
  alloc : List Nat
  tries : Nat
  target : Nat
  peerE : Option Nat
  follow : Bool
  own : Bool
  again : Bool
  rekey : Bool
  rekeyN : Nat
  slow : Bool
  mine : List Byte
  chained : Bool
  partVc : Nat
  partUnits : Nat
  partAt : Nat
  deriving DecidableEq, Repr

/-- A packet held for a link port (R308, R334, R360): the port, the packet, the subscriber it is charged to (none for
transit, MGT and snoop traffic), whether it waits in the EXCESS lane (R364), and when it was queued (R374); the subscriber of the request
it answers or is issued for, whose state its lane and its LOAD show (R364, R372); whether it is a multicast copy for this port (R345);
the port and channel of the receive buffer that a transit packet still occupies (R301); the logical device, host tag and message kind of a CXL
response, which waits for port 6 as its data alone (R360, R518). -/
structure TxPkt where
  port : Nat
  p : Packet
  sub : Option Nat
  excess : Bool
  since : Nat
  who : Option Nat
  copy : Bool
  rx : Option (Nat × Nat)
  cxl : Option (Nat × Nat × Nat)
  deriving DecidableEq, Repr

/-- The traffic shaper (R360 to R375): bucket levels in thousandths of a byte by subscriber * 4 + kind (0 link committed,
1 link peak, 2 memory committed, 3 memory peak), next eligible times by queue (port * 8 + set * 4 + class), DRR deficits by
queue, the class served last by set (8 more while it is being served), runs of CONFORM packets by queue, congestion by port, histogram bins by
(queue * 2 + depth or delay) * 16 + bin, the CXL hold queues (kind 0 MemRd, 1 MemRdData, 2 MemInv,
3 MemWr, with the request and when it came). -/
structure Tsh where
  lvl : List (Nat × Int)
  elig : List (Nat × Nat)
  deficit : List (Nat × Nat)
  serving : List (Nat × Nat)
  run : List (Nat × Nat)
  cong : List (Nat × Nat)
  hist : List (Nat × Nat)
  hold : List (Nat × CxlMem × Nat)
  deriving DecidableEq, Repr

/-- The energy planner's running tallies (R378 to R394): metered microjoules of the interval by meter, meters in fault, memory
bytes or operations of the interval by class, charges of the interval by subscriber * 16 + class and link bytes by subscriber,
energy and bytes of the last 16 intervals by class (oldest first), excess still to repay with the intervals left, the sub-slot
and what is left in it of each allowance, ward bytes wanted and held, whether maintenance and resync were held, refresh commands
of the interval, intervals since the last new plan, controller sensor readings, whether the planner island left service on a FATAL fault (R391). -/
structure Epl where
  metered : List (Nat × Nat)
  faulty : List Nat
  faultyNew : List Nat
  bytes : List (Nat × Nat)
  charges : List (Nat × Nat)
  linkBytes : List (Nat × Nat)
  hist : List (List (Nat × Nat))
  debt : List (Nat × Nat)
  slot : Nat
  wardLeft : Nat
  maintLeft : Nat
  resyncLeft : Nat
  wanted : Nat
  held : Nat
  maintHeld : Bool
  resyncHeld : Bool
  scrubbed : Nat
  refreshes : Nat
  stale : Nat
  temps : List Nat
  out : Bool
  deriving DecidableEq, Repr

/-- A hinge journal record (R406). A SECTORS record carries the sectors' bytes, a DIR record the 24-byte entries. -/
inductive JRec where
  | sectors (ppa : Nat) (data : List Byte)
  | poison (ppa count : Nat)
  | fill (ppa len pattern : Nat)
  | copy (ppa src len : Nat)
  | latch (entries : List (Nat × Nat))
  | dir (entries : List (Nat × Nat × Nat × Bool))
  | seqs (entries : List (Nat × Nat))
  | epochEnd (epoch count : Nat)
  deriving DecidableEq, Repr

/-- A response the active holds until its epoch is acknowledged (R408): epoch, response, the request it answers, its port; the answer to a CXL
request is the S2M messages (logical device, tag, kind, data) in its place. -/
structure HeldRsp where
  epoch : Nat
  p : Packet
  q : Packet
  port : Nat
  cxl : List (Nat × Nat × Nat × List Byte)
  deriving DecidableEq, Repr

/-- A lease request waiting at the witness (R412): pair entry, node, generation, when it arrived. -/
structure WitWait where
  pair : Nat
  node : Nat
  gen : Nat
  since : Nat
  deriving DecidableEq, Repr

/-- A resync this member serves as active (R424): granules asked for and still to send (PPA), whether it is full, the next PPA of
a full copy. -/
structure Resync where
  granules : List Nat
  full : Bool
  pos : Nat
  deriving DecidableEq, Repr

/-- The hinge member and witness (R398 to R427). -/
structure Hps where
  /-- Records of the open epoch, in commit order (R405). -/
  cur : List JRec
  /-- Records not yet sent to the standby, in order, with their epochs (R405, R410). -/
  unsent : List (Nat × JRec)
  /-- Closed epochs held in the spill, oldest first (R410). -/
  spill : List (Nat × List JRec)
  /-- Sources addressing the pair ID whose C advanced in the open epoch (R406, SEQ). -/
  seqTouched : List Nat
  /-- A record was produced by the request being served (R408). -/
  touched : Bool
  /-- Responses waiting for an acknowledgement (R408). -/
  held : List HeldRsp
  /-- The epoch that was open when the standby came into sync: its responses do not wait (R424). -/
  exempt : Option Nat
  /-- The standby: records received of the epoch that is coming in, and its number (R407). -/
  rx : List JRec
  rxEpoch : Nat
  /-- The standby: last applied SEQ records by source (R416). -/
  lastSeqs : List (Nat × Nat)
  /-- Pair-ID packets held in ingress (R415, R419): port (8 more once that port has gone down: it then holds no units), packet, when it was
  held. -/
  hold : List (Nat × Packet × Nat)
  /-- When the last LEASE_REQ was sent, and until when the lease it was granted is reckoned (R413). -/
  reqAt : Nat
  leaseEnd : Nat
  /-- A LEASE_REQ was sent since the member last entered STANDBY (R414). -/
  reqSince : Bool
  /-- When the last BEAT came, and the last with CONT_ACK (R414, R415). -/
  beatAt : Nat
  contAt : Nat
  /-- The partner as its last BEAT told: STATE, GENERATION, EPOCH, LOAD. -/
  pState : Nat
  pGen : Nat
  pEpoch : Nat
  pLoad : Nat
  /-- The last LOAD placed in a response of the pair ID (R404). -/
  lastLoad : Nat
  /-- The partner was declared lost (R415). -/
  lost : Bool
  /-- A planned switch-over (R419): 0 none, 1 admitted requests run, 2 the rest end, 3 the JRNL_ACK of `switchEpoch` is awaited,
  4 the partner is to take over. -/
  switching : Nat
  switchEpoch : Nat
  /-- Until when the gap rule of R417 holds, and the LOAD rule of R418. -/
  gapUntil : Nat
  loadUntil : Nat
  /-- What waits for the end of journal back-pressure (R410). -/
  bpWait : List Waiter
  /-- The witness: lease requests waiting (R412). -/
  waits : List WitWait
  /-- The witness: until when each pair entry's holder has its lease (R411). -/
  witEnd : List (Nat × Nat)
  /-- The resync this member serves as active. -/
  resync : Option Resync
  /-- The stale member (R424): its resync runs, granules it asked for that have not come, whether the resync is full, whether an
  epoch has been applied since it was asked for. -/
  resyncRx : Bool
  wanted : List Nat
  full : Bool
  joined : Bool
  /-- The member held the lease when the last warm reset started (R423). -/
  heldAtReset : Bool
  /-- A warm reset cut a full resync of this stale member short: it resumes from its checkpoint (R425). -/
  resume : Bool
  /-- Granules to be repaired: to be asked for, and asked for (R426). -/
  repairAsk : List Nat
  repairs : List Nat
  /-- BEATs have stopped after a FATAL fault of the hinge pair (R440). -/
  mute : Bool
  deriving DecidableEq, Repr

/-- A context stream (R469 to R474): context, requester node, FIRST_SEQ, its position in the source's numbering once known, the
request and response keys with their salts. -/
structure Stream where
  ctx : Nat
  node : Nat
  first : Nat
  base : Option Nat
  reqKey : List Byte
  rspKey : List Byte
  deriving DecidableEq, Repr

/-- An SPDM session (R461): its identity, transport (0 I3C, 1 CXL DOE), whether FINISH has completed it, whether the requester
authenticated with a chain to an anchor for streams, the export master secret. -/
structure Session where
  id : Nat
  via : Nat
  up : Bool
  streamOk : Bool
  secret : List Byte
  deriving DecidableEq, Repr

/-- The Keeper (R455 to R481): stream keys, contexts whose retirement runs, SPDM sessions, the digests of the trust anchors, the
messages of an SPDM connection's transcript by transport, the next session, the fused versions the ROM derived its secrets from at
this start (R457). -/
structure Kpr where
  streams : List Stream
  retiring : List Nat
  sessions : List Session
  anchors : List (Nat × List Byte)
  conns : List (Nat × List Byte)
  nextSession : Nat
  startSvn : Nat
  deriving DecidableEq, Repr

/-- The levels of the board's pins as last seen and what is latched behind them (R560, R562, R571, R572): PWR_GOOD, RESET_N low,
WARM_RESET_N low, the thermal-trip latch, the I3C dynamic address (R566). -/
structure Pins where
  pwrGood : Bool
  resetLow : Bool
  warmLow : Bool
  trip : Bool
  i3c : Option Nat
  deriving DecidableEq, Repr

/-- A version read from a neighbour that is open (R504, R508): its node, the tag of the MGT_READ. -/
structure Ask where
  node : Nat
  tag : Nat
  deriving DecidableEq, Repr

/-- A version check under way (R504, R508): whether it is for a RAISE, whether Activate FW asked (its mailbox), the reads still
open, whether a neighbour's versions forbid it, whether a pair partner runs a lower VERSION, the path that asked. -/
structure Check where
  path : Path
  raise : Bool
  mailbox : Option Nat
  asks : List Ask
  bad : Bool
  order : Bool
  deriving DecidableEq, Repr

/-- Images, staging, activation and the settings record (R484 to R511): digests of the Keeper image started, the management image
running, the board record and the settings in use (R459); the carve-out's image-slot copy and staged copy (R506); whether a transfer
has been numbered, its length, until when the flash programs its last chunk, the FW_CHUNK request or Transfer FW mailbox that waits for
the verification; the chunk being forwarded (tag, length, failed sends) and the number of this chip's own transfer (R503); the version
check; the manager's confirmation, the stacks FAILED at activation, failed commit copies (R506, R509); the settings command that
runs (1 SAVE, 2 ERASE); SEQ of the next flash log entry (R495); the plan in force when the trial image started (R506). -/
structure Fw where
  keeperDigest : List Byte
  runDigest : List Byte
  boardDigest : List Byte
  setDigest : List Byte
  slotCopy : List Byte
  stagedCopy : List Byte
  xfer : Bool
  total : Nat
  busyTill : Nat
  lastReq : Option Nat
  lastBox : Option Nat
  verifying : Bool
  fwd : Option (Nat × Nat × Nat)
  fwdId : Nat
  check : Option Check
  confirmed : Bool
  failedAt : List Nat
  tries : Nat
  setJob : Nat
  logSeq : Nat
  planAt : Nat
  deriving DecidableEq, Repr

/-- A record of an LD event log (R521): its handle, the fault record it carries, and whether it is a General Media Event
(else a Memory Module Event). -/
structure EvRec where
  handle : Nat
  media : Bool
  r : Rec
  deriving DecidableEq, Repr

/-- One event log: records oldest first, overflow count and its first and last times (R521). -/
structure EvLog where
  recs : List EvRec
  ovf : Nat
  ovfFirst : Nat
  ovfLast : Nat
  nextHandle : Nat
  deriving DecidableEq, Repr

/-- The CXL port and its logical devices (R512 to R526): HDM decoders by LD * 4 + index with whether each is committed and
shows Error Not Committed, event logs by LD * 4 + log, the poison list (sector PPA, injected), MSI-X vectors unmasked
and messages pending by (LD, vector), timestamp offsets, LD capacities in GiB as last set, alert settings and event interrupt policy by
LD, QoS control, the Sanitize operations that run (mailbox, LD), how the last background operation of a mailbox ended (mailbox, return code),
the fills that run (LD, whether from a CXL Reset), whether the port has stopped after a FATAL fault (R440). -/
structure Cxl where
  decoders : List (Nat × HdmDecoder)
  committed : List Nat
  errNot : List Nat
  locked : List Nat
  logs : List (Nat × EvLog)
  poison : List (Nat × Bool)
  unmasked : List (Nat × Nat)
  pend : List (Nat × Nat)
  tsOff : List (Nat × Int)
  alloc : List (Nat × Nat)
  alert : List (Nat × Nat)
  policy : List (Nat × Nat)
  qosCtl : Nat
  bg : List (Nat × Nat)
  bgLast : List (Nat × Nat)
  clear : List (Nat × Bool)
  stopped : Bool
  deriving DecidableEq, Repr

/-- What a mailbox command returns beside its return code (R514, R519): the fields the spec names, in the order of CXL 3.1 (their byte
layout is that standard's, log entry 31). -/
inductive BoxOut where
  | nothing
  | fields (l : List Nat)
  | events (l : List EvRec) (more : Bool) (ovf first last : Nat)
  | poison (l : List (Nat × Bool)) (more ovf : Bool)
  deriving DecidableEq, Repr

/-- An SPDM response (R461) with the contents the spec gives it; its bytes on the transport are those of DSP0274 (log entry 21):
VERSION, CAPABILITIES, ALGORITHMS, DIGESTS, a CERTIFICATE portion with what remains, CHALLENGE_AUTH, MEASUREMENTS with its blocks and,
where asked for, the Alias signature, KEY_EXCHANGE_RSP with its session, FINISH_RSP, KEY_UPDATE_ACK, HEARTBEAT_ACK,
END_SESSION_ACK, a vendor-defined response, ERROR with its code. -/
inductive SpdmRsp where
  | version | capabilities | algorithms
  | digests (d : List Byte)
  | certificate (portion : List Byte) (rest : Nat)
  | challengeAuth (signature : List Byte)
  | measurements (blocks : List (Nat × List Byte)) (signature : List Byte)
  | keyExchange (session : Nat)
  | finish | keyUpdate | heartbeat | endSession
  | vendor (bytes : List Byte)
  | error (code : Nat)
  deriving DecidableEq, Repr

/-- What the device sends that is not a Swiette packet: an MSI-X message of a logical device (R523), a walker read of host
memory by a logical device (R71, R72), a CXL response (R233, R513; kind 0 Cmp, 1 MemData, 2 MemData poisoned, 3 Cmp-S, 4 Cmp-E, with DevLoad * 256), a
back-invalidate snoop and a BIConflictAck (R233), a packet it addresses to itself, and the outputs of the other interfaces. -/
inductive Out where
  | msix (ld vec : Nat)
  | walkRead (ld walk addr len : Nat)
  | cxl (ld tag kind : Nat) (data : List Byte)
  | biSnp (ld line op : Nat)
  | biConflictAck (ld line : Nat)
  | self (p : Packet)
  | linkMsg (port : Nat) (bytes : List Byte)
  | flit (port seq : Nat) (bytes : List Byte)
  | sideband (bytes : List Byte)
  | mailbox (ld ret : Nat) (o : BoxOut)
  | tdo (bytes : List Byte)
  | spdm (via : Nat) (session : Option Nat) (r : SpdmRsp)
  deriving DecidableEq, Repr

/-- The state of the device. -/
structure State where
  /-- The commands that wait, first in first out (the model's own queue). -/
  pending : List Instr
  /-- Which of the three parts this is (R5). -/
  part : Part
  /-- Where the device stands between power-up and service. -/
  phase : Phase
  /-- Counter of free values drawn (the model's own, log entry 2). -/
  free : Nat
  /-- Identity for the next admitted request (the model's own). -/
  nextId : Nat
  /-- Register words by management offset; an unlisted word holds its reset value. -/
  regs : List (Nat × Nat)
  /-- 64-bit counters by the offset of their LO word (R444). -/
  cnts : List (Nat × Nat)
  /-- Counter snapshots by page base (R547). -/
  frozen : List (Nat × List (Nat × Nat))
  /-- Page bases whose block reset runs (R549). -/
  resetting : List Nat
  /-- Pool time in ns (R355). -/
  time : Nat
  /-- Latch and stage of the CXL MMIO path (R537, R538). -/
  mmio : PathSt
  /-- Latch and stage of the firmware path. -/
  fwp : PathSt
  /-- Per-source entries by node (R43). -/
  seqs : List (Nat × SeqEntry)
  /-- Admitted requests that have not committed, in order of arrival. -/
  reqs : List Req
  /-- The keyway translation unit. -/
  ktu : Ktu
  /-- The fault collector. -/
  flt : Flt
  /-- Sources of FATAL faults whose action (R440) is still to be taken within this step. -/
  acts : List Nat
  /-- The router. -/
  rtb : Rtb
  /-- Packets held for a link port (0 to 3 SWP, 4 and 5 hinge), oldest first. -/
  txq : List TxPkt
  /-- What the device has sent on its other interfaces, oldest first. -/
  lines : List Out
  /-- The traffic shaper. -/
  tsh : Tsh
  /-- The CXL port. -/
  cxl : Cxl
  /-- FATAL records still to be appended to the flash log within this step (R439). -/
  logq : List Rec
  /-- The hinge member and witness. -/
  hps : Hps
  /-- Sector data bytes by PPA after remapping (R278); an unlisted byte reads 0. -/
  mem : List Host.Cell
  /-- Check symbols, 8 bytes a sector at sector * 8 (R263); an unlisted byte reads 0xFF, so a never-written sector decodes UNCORRECTABLE (R28). -/
  chk : List Host.Cell
  /-- The stack controllers. -/
  sc : Sc
  /-- The ward dispatcher and engines. -/
  wrd : Wrd
  /-- The latch unit. -/
  lch : Lch
  /-- The energy planner's tallies. -/
  epl : Epl
  /-- The coherence directory. -/
  dir : Dir
  /-- The running PTN_INIT fill. -/
  init : Option InitJob
  /-- The Vorer core does not run: it missed its watchdog, was halted by the debug port, or an activation pauses it (R391, R454). -/
  fwDown : Bool
  /-- The link layers by port (0 to 3 SWP, 4 and 5 hinge). -/
  lnks : List (Nat × Lnk)
  /-- The Keeper's streams, sessions and anchors. -/
  kpr : Kpr
  /-- The board's pins. -/
  pins : Pins
  /-- READY has been reached since the last cold reset (R449). -/
  everReady : Bool
  /-- The serial flash (R484): bytes by offset; an unlisted byte reads 0xFF, erased. -/
  flash : List Host.Cell
  /-- Images, staging and settings. -/
  fw : Fw
  /-- Flits still to be sent with a corrupted CRC, by port (R451). -/
  inj : List (Nat × Nat)
  /-- What the board gives, as last sampled (R563): straps, stacks that do not initialise, the CXL link. -/
  board : BoardInputs
  /-- Link ports disabled after a FATAL fault, until a warm reset (R440, R544). -/
  failedPorts : List Nat
  deriving DecidableEq, Repr

/-- A step never stops with a fault: every command of the table has an effect or none. The one constructor names the access
the spec says cannot exist, a byte outside the pool's address space (R14); no meaning raises it (safe). -/
inductive Fault where
  | noSuchAddress
  deriving DecidableEq, Repr

/-- Why the model has no meaning for a command: only the dispatch of a command not modelled yet raises it (safe). -/
inductive Refusal where
  | notModelled (mnemonic : String)
  deriving DecidableEq, Repr

/-- The device in a cold reset, before its start has run (R446): every register at its reset value (RegTable), memory with
nothing listed, nothing queued. -/
def State.cold : State where
  pending := []
  part := .cv1275
  phase := .cold
  free := 0
  nextId := 0
  regs := []
  cnts := []
  frozen := []
  resetting := []
  time := 0
  mmio := ⟨none, none, none⟩
  fwp := ⟨none, none, none⟩
  seqs := []
  reqs := []
  ktu := ⟨[], [], [], [], [], [], [], 0, []⟩
  flt := ⟨[], [], [], none, false, 0⟩
  acts := []
  rtb := ⟨0, 0, none, none, 0, [], none, false, 0, 0, 0, 0⟩
  txq := []
  lines := []
  tsh := ⟨[], [], [], [], [], [], [], []⟩
  cxl := ⟨[], [], [], [], [], [], [], [], [], [], [], [], 0, [], [], [], false⟩
  logq := []
  hps := ⟨[], [], [], [], false, [], none, [], 0, [], [], 0, 0, false, 0, 0, 0, 0, 0, 0, 0, false, 0, 0, 0, 0, [], [], [], none, false, [], false, false, false, false, [], [], false⟩
  mem := []
  chk := []
  sc := ⟨[], [], [], [], [], [], [], [], [], [], [], [], [], [], [], [], [], [], [], [], [], 0, []⟩
  wrd := ⟨[], [], [], 0, []⟩
  lch := ⟨[], [], 0, false, [], false⟩
  epl := ⟨[], [], [], [], [], [], [], [], 0, 0, 0, 0, 0, 0, false, false, 0, 0, 0, [], false⟩
  dir := ⟨[], [], [], 1, [], [], [], [], [], [], [], [], []⟩
  init := none
  fwDown := false
  lnks := []
  kpr := ⟨[], [], [], [], [], 1, 0⟩
  pins := ⟨false, false, false, false, none⟩
  everReady := false
  flash := []
  fw := ⟨[], [], [], [], [], [], false, 0, 0, none, none, false, none, 0, none, false, [], 0, 0, 0, 0⟩
  inj := []
  board := ⟨false, 0, false, [], 0, none⟩
  failedPorts := []

/-- A board record (R489) whose entries hold the reset values of the registers they set, with the CRCs of its header and entries: its
bytes in the flash that are not 0xFF (log entry 37). -/
def boardCells : List Host.Cell :=
  let word (v : Nat) : List (BitVec 8) := (List.range 4).map fun i => BitVec.ofNat 8 (v / 256 ^ i)
  let entry (n crc : Nat) : List (BitVec 8) := word n ++ List.replicate 12 0 ++ word 3900 ++ List.replicate 1000 0 ++ word crc
  let crcs := [0x2E60E5C6, 0xE62FE5DA, 0x658FE3BF, 0xADC0E3A3, 0xB9BEE934, 0x71F1E928,
    0xF251EF4D, 0x3A1EEF51, 0xDAADFA63, 0x12E2FA7F, 0x9142FC1A, 0x590DFC06]
  let bytes := word 0x52425643 ++ word 0xC01 ++ List.replicate 52 0 ++ word 0xDA3AEF37 ++ (crcs.zipIdx.flatMap fun e => entry e.2 e.1)
  (bytes.zipIdx 0x210000).filterMap fun e => if e.1 = 0xFF then none else some (e.2, e.1)

/-- The machine right after a cold reset with its start-up (R446, R497): READY, nothing configured, no link trained. Log entry 37 names
what the start-up has left beside reset values: the Keeper runs and its random source is good, the stacks are up (R281), the
first plan is in force (R392), and the flash holds a board record. A cold start from the pins is the command PWR_GOOD_RISE on
`State.cold`. -/
def State.reset : State :=
  { State.cold with
    phase := .ready
    everReady := true
    pins := { State.cold.pins with pwrGood := true }
    flash := boardCells
    regs := [(0x2044, 3), (0x100044, 1), (0x110044, 1), (0x120044, 1), (0x130044, 1), (0x140044, 1), (0x150044, 1), (0x160044, 1),
      (0x170044, 1), (0x180044, 1), (0x190044, 1), (0x1A0044, 1), (0x1B0044, 1), (0x21005C, 1), (0x210078, 0xFFFFFFFF),
      (0x21007C, 0xFFFFFFFF), (0x210080, 0x2550), (0x210088, 0x989680)] }

end Sys2Proof.Machine
end

