-- ==== Sys2Proof/Machine/Ops.lean ====
section
/-! DEFINITION. The named operations over the state that every family uses: register words and fields, counters (R444), the
block's place in the part (R2, R14, R541), free values. -/

namespace Sys2Proof.Machine

open Sys2Proof

/-! ### Registers -/

/-- The stored word of a register. -/
def State.word (s : State) (o : Nat) : Nat := SMap.get resetWord s.regs o

/-- Store a register word. -/
def State.setWord (s : State) (o v : Nat) : State :=
  { s with regs := SMap.set resetWord s.regs o (v % 4294967296) }

/-- The 64 bits at a LO word and the word after it (R537). -/
def State.word64 (s : State) (o : Nat) : Nat := s.word o + 4294967296 * s.word (o + 4)

/-- Store a 64-bit register. -/
def State.setWord64 (s : State) (o v : Nat) : State :=
  (s.setWord o (v % 4294967296)).setWord (o + 4) (v / 4294967296)

/-- The value of a register field. -/
def State.f (s : State) (x : Fld) : Nat :=
  if x.lo + x.width ≤ 32 then (s.word x.off >>> x.lo) % 2 ^ x.width
  else (s.word64 x.off >>> x.lo) % 2 ^ x.width

/-- Store a register field. -/
def State.setF (s : State) (x : Fld) (v : Nat) : State :=
  if x.lo + x.width ≤ 32 then s.setWord x.off (putBits (s.word x.off) (x.lo + x.width - 1) x.lo v)
  else s.setWord64 x.off (putBits (s.word64 x.off) (x.lo + x.width - 1) x.lo v)

/-- A one-bit field as a Bool. -/
def State.flag (s : State) (x : Fld) : Bool := s.f x != 0

/-- Store a one-bit field. -/
def State.setFlag (s : State) (x : Fld) (b : Bool) : State := s.setF x (b2n b)

/-! ### Pages (R541) and the common header (R542) -/

namespace Pg

def GLB : Nat := 0
def MGM : Nat := 0x1000
def KPR : Nat := 0x2000
def EVT : Nat := 0x3000
def SWP (n : Nat) : Nat := if n < 4 then 0x10000 + 0x1000 * n else 0x14000
def HNG : Nat := 0x14000
def HPS : Nat := 0x15000
def CXP : Nat := 0x16000
def RTB : Nat := 0x20000
def KTU : Nat := 0x30000
def PTN : Nat := 0x40000
def DIR : Nat := 0x50000
def TSH : Nat := 0x60000
def LCH : Nat := 0x70000
def WRD : Nat := 0x80000
def WE (n : Nat) : Nat := 0x90000 + 0x1000 * n
def SC (n : Nat) : Nat := 0x100000 + 0x10000 * n
def FLT : Nat := 0x200000
def EPL : Nat := 0x210000
def DBG : Nat := 0x230000
def FTM : Nat := 0x240000

end Pg

namespace Hdr

def ENABLE (pg : Nat) : Fld := ⟨pg + 8, 0, 1⟩
def SOFT_RESET (pg : Nat) : Fld := ⟨pg + 8, 1, 1⟩
def FREEZE (pg : Nat) : Fld := ⟨pg + 8, 2, 1⟩
def EVT_MASTER_EN (pg : Nat) : Fld := ⟨pg + 8, 8, 1⟩
def SAT (pg : Nat) : Fld := ⟨pg + 12, 4, 1⟩
def EVT_STAT (pg : Nat) : Fld := ⟨pg + 16, 0, 32⟩
def EVT_EN (pg : Nat) : Fld := ⟨pg + 20, 0, 32⟩
def EVT_ROUTE (pg : Nat) : Fld := ⟨pg + 28, 0, 8⟩
def ERR_COUNT (pg : Nat) : Nat := pg + 32

end Hdr

/-- Stacks of a part (R6). -/
def Part.stacks : Part → Nat
  | .cv1269 => 8
  | _ => 12

/-- Ward engines of a part. -/
def Part.engines : Part → Nat
  | .cv1269 => 64
  | _ => 96

/-- The part has attention operations and the coherence directory (00_scope "Parts covered"). -/
def Part.full : Part → Bool
  | .cv1275 => true
  | _ => false

/-- The part has the hinge link. -/
def Part.hinge : Part → Bool
  | .cv1269 => false
  | _ => true

/-- First byte of the system carve-out (R14). -/
def Part.carve : Part → Nat
  | .cv1269 => 0x7FC0000000
  | _ => 0xBFC0000000

/-- Size of PPA space (R14). -/
def Part.ppaEnd (p : Part) : Nat := p.carve + 0x40000000

/-- Allocatable GiB (R21). -/
def Part.gib : Part → Nat
  | .cv1269 => 511
  | _ => 767

/-- Block of an offset of the management space: none where R541 gives no row, and whether the part has it. -/
inductive PageKind where
  | none | absent | present
  deriving DecidableEq, Repr

/-- The page map of R541 for a part: whether the page holding an offset belongs to a block, and whether the part has that
block. -/
def pageKind (p : Part) (o : Nat) : PageKind :=
  let g := o / 4096
  let has (b : Bool) : PageKind := if b then .present else .absent
  if g ≤ 3 then .present
  else if 0x10 ≤ g ∧ g ≤ 0x13 then .present
  else if g = 0x14 ∨ g = 0x15 then has p.hinge
  else if g = 0x16 then .present
  else if 0x20 ≤ g ∧ g ≤ 0x2A then .present
  else if g = 0x30 then .present
  else if 0x40 ≤ g ∧ g ≤ 0x48 then .present
  else if g = 0x50 then has p.full
  else if g = 0x60 ∨ g = 0x61 then .present
  else if g = 0x70 then .present
  else if g = 0x80 then .present
  else if 0x90 ≤ g ∧ g < 0xF0 then has (decide (g - 0x90 < p.engines))
  else if 0x100 ≤ g ∧ g < 0x1C0 then
    if g % 16 < 6 then has (decide ((g - 0x100) / 16 < p.stacks)) else .none
  else if g = 0x200 ∨ g = 0x201 then .present
  else if g = 0x210 ∨ g = 0x230 ∨ g = 0x240 then .present
  else .none

/-- Whether a page carries the common header (R541 "Header"). -/
def pageHeader (o : Nat) : Bool :=
  let g := o / 4096
  !(decide (0x21 ≤ g ∧ g ≤ 0x2A) || decide (0x41 ≤ g ∧ g ≤ 0x48) || decide (g = 0x201))

/-- The header page that holds a block's counters and events for a fault source (R430, R542). -/
def sourcePage (n : Nat) : Nat :=
  if n = 0 then Pg.GLB
  else if n = 1 then Pg.PTN
  else if n = 2 then Pg.KTU
  else if n = 3 then Pg.WRD
  else if n < 100 then Pg.WE (n - 4)
  else if n < 112 then Pg.SC (n - 100)
  else if n < 116 then Pg.SWP (n - 112)
  else if n < 118 then Pg.HNG
  else if n = 118 then Pg.HPS
  else if n = 119 then Pg.CXP
  else if n = 120 then Pg.RTB
  else if n < 133 then Pg.DIR
  else if n = 133 then Pg.LCH
  else if n = 134 then Pg.TSH
  else if n = 135 then Pg.EPL
  else if n = 136 then Pg.FLT
  else if n = 138 then Pg.KPR
  else if n = 154 then Pg.DBG
  else if n = 157 then Pg.MGM
  else if n = 158 then Pg.EVT
  else Pg.GLB

/-- Sources whose faults count in the ERR_COUNT of a page (R430, R542): the rest belong to no block with a page. -/
def sourceHasPage (n : Nat) : Bool :=
  !(decide (n = 137) || decide (139 ≤ n ∧ n ≤ 153) || decide (n = 155) || decide (n = 156) || decide (159 ≤ n))

/-! ### Counters (R444) -/

/-- The value of a counter. -/
def State.cnt (s : State) (o : Nat) : Nat := SMap.get (fun _ => 0) s.cnts o

/-- Add to a counter: it stays at 2^64 - 1, and then sets SAT of its page (R444). -/
def State.addCnt (s : State) (o n : Nat) : State :=
  let v := s.cnt o + n
  if v < 0xFFFFFFFFFFFFFFFF then { s with cnts := SMap.set (fun _ => 0) s.cnts o v }
  else { s with cnts := SMap.set (fun _ => 0) s.cnts o 0xFFFFFFFFFFFFFFFF }.setFlag (Hdr.SAT (o - o % 4096)) true

/-- Count one. -/
def State.bump (s : State) (o : Nat) : State := s.addCnt o 1

/-! ### Free values, identities, outputs -/

/-- A fresh free value below a bound, and the state that has drawn it (log entry 2). -/
def State.fresh (s : State) (bound : Nat) : Nat × State :=
  (Config.freeNat s.free % bound, { s with free := s.free + 1 })

/-- Send something on another interface. -/
def State.emit (s : State) (o : Out) : State := { s with lines := s.lines ++ [o] }

/-- This chip's node ID (R331). -/
def State.ownId (s : State) : Nat := s.f Reg.RTB_NODE.ID

/-- The chip has an ID (R354). -/
def State.hasId (s : State) : Bool := s.flag Reg.RTB_NODE.ID_VALID

/-- The registered manager node (R438). -/
def State.mgrNode (s : State) : Option Nat :=
  if s.flag Reg.GLB_MGR_NODE.VALID then some (s.f Reg.GLB_MGR_NODE.NODE) else none

/-- Whether a node is the registered manager node. -/
def State.isMgr (s : State) (n : Nat) : Bool := s.mgrNode == some n

/-- GLB_STAT.SERVICE: 0 full, 1 basic, 2 halted (R452). -/
def State.service (s : State) : Nat := s.f Reg.GLB_STAT.SERVICE

/-- The device takes requests: it has reached READY and no reset or halt has stopped admission (R442, R447, R531). -/
def State.admitting (s : State) : Bool := s.phase == .ready

/-- The management space is served over MGT and MMIO (R531). -/
def State.mgmtServed (s : State) : Bool :=
  match s.phase with
  | .ready => true
  | .recovery => true
  | .warm k => decide (k ≤ 4)
  | _ => false

/-- Factory test mode (R450). -/
def State.factory (s : State) : Bool := s.flag Reg.GLB_STAT.FACTORY

/-- Whether a node is fenced (R349). -/
def State.fenced (s : State) (n : Nat) : Bool := bit (s.word (Reg.RTB_FENCE_MAP.OFF (n / 32))) (n % 32)

end Sys2Proof.Machine
end

