-- ==== Sys2Proof/Machine/Idle.lean ====
section
/-! DEFINITION. What the block does when no command waits: pool time counts (R355, log entry 5). -/

namespace Sys2Proof.Machine

/-- The clocks run: the device is out of its cold reset and not off. -/
def State.clocked (s : State) : Bool :=
  match s.phase with
  | .off => false
  | .cold => false
  | _ => true

/-- Pool time after one nanosecond of the reference clock (R355 to R357): a unit that is not the chain's head counts at its last corrected
rate, in holdover too; the millionths that the correction gathers become whole nanoseconds. -/
def State.tick (s : State) : State :=
  let f := if s.flag Reg.RTB_ENUM_CTRL.CHAIN_HEAD then 0 else s.rtb.frac + s.rtb.rate
  { s with
    time := (((s.time : Int) + 1 + f.tdiv 1000000) % (18446744073709551616 : Int)).toNat
    rtb := { s.rtb with frac := f.tmod 1000000 } }

/-- A step without a command: one nanosecond of the clock while it runs. -/
def State.idle (s : State) : State := if s.clocked then s.tick else s

end Sys2Proof.Machine
end

