-- ==== Sys2Proof/Machine/Code.lean ====
section
/-! DEFINITION. The sector code: Reed-Solomon over GF(2^16) with 32 data and 4 check symbols (R263 to R266). -/

namespace Sys2Proof.Machine

open Sys2Proof

/-- Multiply a field element by x (R263: x^16 + x^12 + x^3 + x + 1). -/
def gfX (a : Nat) : Nat := if a < 32768 then 2 * a else (2 * a) ^^^ 0x1100B

/-- Field product, over the low n bits of b. -/
def gfMulN : Nat → Nat → Nat → Nat
  | 0, _, _ => 0
  | n + 1, a, b => (if b % 2 = 1 then a else 0) ^^^ gfMulN n (gfX a) (b / 2)

/-- Field product. -/
def gfMul (a b : Nat) : Nat := gfMulN 16 a b

/-- a^(2^(n+1) - 2). -/
def gfInvN : Nat → Nat → Nat
  | 0, _ => 1
  | n + 1, a => let q := gfMul a a; gfMul q (gfInvN n q)

/-- Field inverse: a^(2^16 - 2). -/
def gfInv (a : Nat) : Nat := gfInvN 15 a

/-- Powers of the primitive element x. -/
def alphaPow : Nat → Nat
  | 0 => 1
  | n + 1 => gfX (alphaPow n)

/-- Coefficients g0 to g3 of the generator (x + 1)(x + a)(x + a^2)(x + a^3), lowest first; the leading one is left out. -/
def rsGen : Nat × Nat × Nat × Nat :=
  let mulRoot (p : Nat × Nat × Nat × Nat) (r : Nat) (deg : Nat) : Nat × Nat × Nat × Nat :=
    -- p holds the low coefficients of a monic polynomial of degree deg
    let c0 := p.1
    let c1 := if deg = 1 then 1 else p.2.1
    let c2 := if deg = 2 then 1 else if deg < 2 then 0 else p.2.2.1
    let c3 := if deg = 3 then 1 else 0
    (gfMul c0 r, c0 ^^^ gfMul c1 r, c1 ^^^ gfMul c2 r, c2 ^^^ gfMul c3 r)
  mulRoot (mulRoot (mulRoot (1, 0, 0, 0) 2 1) 4 2) 8 3

/-- One step of the division: shift in a data symbol. -/
def rsStep (g r : Nat × Nat × Nat × Nat) (d : Nat) : Nat × Nat × Nat × Nat :=
  let fb := d ^^^ r.2.2.2
  (gfMul fb g.1, r.1 ^^^ gfMul fb g.2.1, r.2.1 ^^^ gfMul fb g.2.2.1, r.2.2.1 ^^^ gfMul fb g.2.2.2)

/-- Check symbols c0 to c3 of 32 data symbols (R263). -/
def rsEncode (d : List Nat) : List Nat :=
  let r := d.reverse.foldl (rsStep rsGen) (0, 0, 0, 0)
  [r.1, r.2.1, r.2.2.1, r.2.2.2]

/-- Data symbol i of 64 sector bytes (R264): its bit b is bit (i mod 8) of byte 4b + i div 8. -/
def dataSymbol (l : List Byte) (i : Nat) : Nat :=
  (List.range 16).foldl (fun acc b => acc + (if (byteAt l (4 * b + i / 8)).getLsbD (i % 8) then 2 ^ b else 0)) 0

/-- The 32 data symbols of a sector. -/
def dataSymbols (l : List Byte) : List Nat := (List.range 32).map (dataSymbol l)

/-- The 64 bytes of 32 data symbols. -/
def symbolBytes (d : List Nat) : List Byte :=
  (List.range 64).map fun k => BitVec.ofNat 8
    ((List.range 8).foldl (fun acc b => acc + (if (d.getD (8 * (k % 4) + b) 0).testBit (k / 4) then 2 ^ b else 0)) 0)

/-- The poison word's check symbols (R266). -/
def poisonChecks : List Nat := [0x0B5A, 0x3C96, 0xE1C3, 0x5A0F]

/-- Coefficients of a word, c0 to c3 then d0 to d31. -/
def wordSymbols (d c : List Nat) : List Nat := c ++ d

/-- Syndrome k: the word's value at a^k. -/
def syndrome (w : List Nat) (k : Nat) : Nat :=
  w.reverse.foldl (fun acc c => gfMul acc (alphaPow k) ^^^ c) 0

/-- Outcome of a decode (R265). -/
inductive Decoded where
  | clean (data : List Byte)
  | corrected (data : List Byte)
  | poisoned (exact : Bool)
  | uncorrectable
  deriving DecidableEq, Repr

/-- Number of symbols in which a word differs from the poison word. -/
def poisonDistance (d c : List Nat) : Nat :=
  (d.filter (· ≠ 0)).length + ((List.range 4).filter fun i => c.getD i 0 != poisonChecks.getD i 0).length

/-- A word with the symbol at position j changed by e. -/
def flipSym (w : List Nat) (j e : Nat) : List Nat := w.set j (w.getD j 0 ^^^ e)

/-- Correct one or two symbols from the four syndromes; none where no such pattern fits. -/
def rsCorrect (w : List Nat) : Option (List Nat) :=
  let s0 := syndrome w 0
  let s1 := syndrome w 1
  let s2 := syndrome w 2
  let s3 := syndrome w 3
  let one := (List.range 36).find? fun j =>
    let x := alphaPow j
    s0 != 0 && gfMul s0 x == s1 && gfMul s1 x == s2 && gfMul s2 x == s3
  match one with
  | some j => some (flipSym w j s0)
  | none =>
    let det := gfMul s1 s1 ^^^ gfMul s0 s2
    if det = 0 then none
    else
      let di := gfInv det
      let l1 := gfMul (gfMul s1 s2 ^^^ gfMul s0 s3) di
      let l2 := gfMul (gfMul s2 s2 ^^^ gfMul s1 s3) di
      let roots := (List.range 36).filter fun j =>
        let x := alphaPow j
        gfMul x x ^^^ gfMul l1 x ^^^ l2 == 0
      match roots with
      | [i, j] =>
        let xi := alphaPow i
        let xj := alphaPow j
        let ej := gfMul (s1 ^^^ gfMul s0 xi) (gfInv (xi ^^^ xj))
        let ei := s0 ^^^ ej
        if ei = 0 ∨ ej = 0 then none else some (flipSym (flipSym w i ei) j ej)
      | _ => none

/-- Decode a sector from its data bytes and check symbols (R265, R266): the poison word is tested before correcting. -/
def rsDecode (bytes : List Byte) (c : List Nat) : Decoded :=
  let d := dataSymbols bytes
  let dist := poisonDistance d c
  if dist ≤ 2 then .poisoned (dist == 0)
  else
    let w := wordSymbols d c
    if syndrome w 0 = 0 ∧ syndrome w 1 = 0 ∧ syndrome w 2 = 0 ∧ syndrome w 3 = 0 then .clean bytes
    else match rsCorrect w with
      | some v => .corrected (symbolBytes (v.drop 4))
      | none => .uncorrectable

end Sys2Proof.Machine
end

