-- ==== Sys2Proof/Machine/Flags.lean ====
section
/-! DEFINITION. Event flags and their delivery: EVT_STAT bits that fire (R437), MSI-X messages (R523), NOTIFY packets (R438),
block status words (R542, R544, R548). -/

namespace Sys2Proof.Machine

open Sys2Proof

/-! ### MSI-X (R523) -/

/-- Bus Master Enable of a logical device. -/
def State.bme (s : State) (ld : Nat) : Bool := s.flag (Reg.CXP_LD_STAT.BME ld)

/-- Send an MSI-X message of a logical device: blocked while Bus Master Enable is clear (R454 records it), pending while its
vector is masked. -/
def State.msix (s : State) (ld vec : Nat) : State :=
  if s.bme ld = false then { s with flt := { s.flt with blocked := s.flt.blocked + 1 } }
  else if !s.cxl.unmasked.contains (ld, vec) then
    (if s.cxl.pend.contains (ld, vec) then s else { s with cxl := { s.cxl with pend := s.cxl.pend ++ [(ld, vec)] } })
  else s.emit (.msix ld vec)

/-- The logical device that exposes the management space (R523). -/
def State.mgrLd (s : State) : Nat := s.f Reg.CXP_CTRL.MGR_LD

/-! ### Mailboxes (R514, R519, R523, R553) -/

/-- A record of an event log as numbers. -/
def EvRec.nums (e : EvRec) : List Nat :=
  [e.handle, b2n e.media, e.r.time, e.r.addr, e.r.source, e.r.cls, e.r.code, e.r.sub, e.r.count, b2n e.r.addrPpa]

/-- Output fields as one list of numbers. -/
def BoxOut.nums : BoxOut → List Nat
  | .nothing => []
  | .fields l => l
  | .events l more ovf a b => [b2n more, ovf, a, b, l.length] ++ l.flatMap EvRec.nums
  | .poison l more ovf => [b2n more, b2n ovf, l.length] ++ l.flatMap fun e => [e.1, b2n e.2]

/-! ### NOTIFY (R438) -/

/-- A NOTIFY packet of this chip. -/
def State.notifyPacket (s : State) (dst kind code op : Nat) (payload : List Byte) : Packet :=
  ({ dest := dst, src := s.ownId, vc := 6, epoch := s.f Reg.RTB_CTRL.INJ_EPOCH, opcode := 0x63,
     addr := kind + code * 65536, op := op, payload := payload } : Form).packet

/-- Queue a NOTIFY to a node; the Bool says that it was dropped (queue full). From step 5 of a warm reset until the ports
are up it is lost without a count. -/
def State.notifyTo (s : State) (dst kind code op : Nat) (payload : List Byte) : State × Bool :=
  match s.phase with
  | .warm k =>
    if 5 ≤ k then (s, false)
    else if 64 ≤ s.flt.notify.length then (s.bump Reg.FLT_NOTIFY_DROP_CNT.OFF, true)
    else ({ s with flt := { s.flt with notify := s.flt.notify ++ [s.notifyPacket dst kind code op payload] } }, false)
  | _ =>
    if 64 ≤ s.flt.notify.length then (s.bump Reg.FLT_NOTIFY_DROP_CNT.OFF, true)
    else ({ s with flt := { s.flt with notify := s.flt.notify ++ [s.notifyPacket dst kind code op payload] } }, false)

/-- Queue a NOTIFY of kind RECORD or EVENT for the manager node; dropped and counted while no manager is registered. -/
def State.notifyMgr (s : State) (kind code op : Nat) (payload : List Byte) : State × Bool :=
  match s.mgrNode, s.phase with
  | none, .warm k => if 5 ≤ k then (s, false) else (s.bump Reg.FLT_NOTIFY_DROP_CNT.OFF, true)
  | none, _ => (s.bump Reg.FLT_NOTIFY_DROP_CNT.OFF, true)
  | some n, _ => s.notifyTo n kind code op payload

/-! ### Block events (R437) -/

/-- Deliver a firing of a page as its EVT_ROUTE directs; the Bool says that a NOTIFY was dropped. -/
def State.deliverEvt (s : State) (pg : Nat) : State × Bool :=
  let r := s.f (Hdr.EVT_ROUTE pg)
  let s1 := if bit r 6 then s.msix s.mgrLd (bits r 5 0) else s
  if bit r 7 then s1.notifyMgr 1 0 (pg / 4096 + s1.f (Hdr.EVT_STAT pg) * 65536) [] else (s1, false)

/-- Set an event bit; it fires when it goes from 0 to 1 while it and the page's events are enabled. -/
def State.evtSet (s : State) (pg b : Nat) : State × Bool :=
  let old := s.f (Hdr.EVT_STAT pg)
  if bit old b then (s, false)
  else
    let s1 := s.setF (Hdr.EVT_STAT pg) (putBit old b true)
    if bit (s1.f (Hdr.EVT_EN pg)) b && s1.flag (Hdr.EVT_MASTER_EN pg) then s1.deliverEvt pg else (s1, false)

/-- Note a dropped NOTIFY: the first drop after the bit was cleared sets EVT_STAT.NOTIFY_DROP (R438). -/
def State.notifyDropped (r : State × Bool) : State := if r.2 then (r.1.evtSet Pg.FLT 5).1 else r.1

/-- Raise a block event. -/
def State.evt (s : State) (pg b : Nat) : State := State.notifyDropped (s.evtSet pg b)

/-- Send a NOTIFY of kind SPECIFIC (R438). -/
def State.notifySpecific (s : State) (dst code op : Nat) (payload : List Byte) : State :=
  State.notifyDropped (s.notifyTo dst 2 code op payload)

/-- A mailbox command completes with a return code and its output. Box 17 is the MGM page (R553), box 16 the FM-owned LD, the others are
logical devices; a device other than the manager's signals it on vector 0 (R523). -/
def State.boxDone (s : State) (box op ret : Nat) (o : BoxOut) : State :=
  if box = 17 then
    let b := (Config.boxBytes op o.nums).take 2048
    let s1 := (((s.setFlag Reg.MGM_STAT.BUSY false).setFlag Reg.MGM_STAT.DONE true).setF Reg.MGM_STAT.RETCODE ret).setF
      Reg.MGM_OUT_LEN.BYTES b.length
    ((List.range ((b.length + 3) / 4)).foldl (fun (u : State) i => u.setWord (Reg.MGM_PAYLOAD.OFF i) (leNat (slice b (4 * i) 4))) s1).evt
      Pg.MGM 1
  else
    let s1 := s.emit (.mailbox box ret o)
    if box < 16 ∧ box ≠ s.mgrLd then s1.msix box 0 else s1

end Sys2Proof.Machine
end

