-- ==== Sys2Proof/Machine/Collector.lean ====
section
/-! DEFINITION. The fault collector (R430 to R440): counting escalation, the escalation store, the fault ring (R82 to R86),
the CXL event logs (R521), delivery by class, ALERT_N and the last-fatal record; and what every block writes through it:
violations (R53 to R55), malformed packets (R10), rejected register writes (R23). A FATAL fault leaves its source in
`acts`; the action R440 gives it is taken at the end of the same step (Machine/Settle.lean). -/

namespace Sys2Proof.Machine

open Sys2Proof

/-- The 32 bytes of a record (R82). -/
def Rec.bytes (r : Rec) : List Byte :=
  leBytes 8 r.time
  ++ leBytes 8 (r.addr % 2 ^ 48 + r.kw % 4096 * 2 ^ 48)
  ++ leBytes 8 (r.source % 256 + r.cls % 4 * 256 + r.code % 65536 * 65536 + r.sub % 64 * 2 ^ 32 + r.ctx % 256 * 2 ^ 40
      + r.node % 4096 * 2 ^ 48)
  ++ leBytes 8 (r.count % 2 ^ 32 + b2n r.addrPpa * 2 ^ 32 + b2n r.leaving * 2 ^ 33 + b2n r.kwValid * 2 ^ 34
      + b2n r.ctxValid * 2 ^ 35)

/-- A record of a class, code and source with nothing else filled in: NODE 0xFFF, COUNT 1. -/
def mkRec (source cls code : Nat) : Rec :=
  { time := 0, addr := 0, kw := 0, source := source, cls := cls, code := code, sub := 0, ctx := 0, node := 0xFFF,
    count := 1, addrPpa := false, leaving := false, kwValid := false, ctxValid := false }

/-! ### The ring (R84 to R86) -/

/-- Records the ring holds. -/
def State.ringSize (s : State) : Nat := 2 ^ s.f Reg.FLT_RING_CTRL.LOG2_SIZE

/-- HEAD - TAIL modulo 2^32. -/
def State.ringUsed (s : State) : Nat :=
  (s.f Reg.FLT_RING_HEAD.HEAD + 4294967296 - s.f Reg.FLT_RING_TAIL.TAIL) % 4294967296

/-- Write a record to the ring; the Bool says it was dropped. -/
def State.ringPut (s : State) (r : Rec) : State × Bool :=
  if s.flag Reg.FLT_RING_CTRL.ENABLE = false then (s.bump Reg.FLT_OVF_CNT.OFF, true)
  else if s.ringSize ≤ s.ringUsed then
    let s1 := s.bump Reg.FLT_OVF_CNT.OFF
    if s1.flag Reg.FLT_RING_STAT.OVERFLOW then (s1, true)
    else ((s1.setFlag Reg.FLT_RING_STAT.OVERFLOW true).evt Pg.FLT 2, true)
  else
    let h := s.f Reg.FLT_RING_HEAD.HEAD
    let s1 := { s with flt := { s.flt with
      ring := SMap.set (fun _ => mkRec 0 0 0) s.flt.ring (h % s.ringSize) r } }
    let s2 := s1.setF Reg.FLT_RING_HEAD.HEAD ((h + 1) % 4294967296)
    (if s.ringUsed = 0 then s2.evt Pg.FLT 1 else s2, false)

/-- Whether the record at a free-running index still stands in the ring, at or after TAIL. -/
def State.ringHolds (s : State) (i : Nat) : Bool :=
  decide ((i + 4294967296 - s.f Reg.FLT_RING_TAIL.TAIL) % 4294967296 < s.ringUsed)

/-- Increment the COUNT field of the record at a free-running index (R434). -/
def State.ringCount (s : State) (i : Nat) : State :=
  let k := i % s.ringSize
  let r := SMap.get (fun _ => mkRec 0 0 0) s.flt.ring k
  { s with flt := { s.flt with
      ring := SMap.set (fun _ => mkRec 0 0 0) s.flt.ring k { r with count := min (r.count + 1) 4294967295 } } }

/-! ### Delivery (R436, R437, R439) -/

/-- Deliver a record by its final class (R437, R438): idx is the ring index or, dropped, FLT_RING_HEAD at the drop. -/
def State.deliverRec (s : State) (r : Rec) (idx : Nat) (dropped : Bool) : State :=
  let c := s.f ⟨Reg.FLT_CLASS_ROUTE.OFF r.cls, 0, 8⟩
  let s1 := if bit c 6 then s.msix s.mgrLd (bits c 5 0) else s
  if bit c 7 then State.notifyDropped (s1.notifyMgr 0 r.code (idx + b2n dropped * 4294967296) r.bytes) else s1

/-- Count a fault of a final class (R436): FLT_FAULT_CNT, and ERR_COUNT of the source's page when the class is DEFERRED or
above or the fault was merged. -/
def State.countFault (s : State) (source k : Nat) (merged : Bool) : State :=
  let s1 := s.bump (Reg.FLT_FAULT_CNT.OFF k)
  if (merged || decide (1 ≤ k)) && sourceHasPage source then s1.bump (Hdr.ERR_COUNT (sourcePage source)) else s1

/-- What every FATAL fault does (R439): ALERT_N low, the last-fatal record kept, GLB EVT_STAT.FATAL, an entry for the flash
log, and the source's action to take. -/
def State.fatal (s : State) (r : Rec) : State :=
  let s1 := if s.flag Reg.GLB_LAST_FATAL_V.VALID then s
    else { s with flt := { s.flt with lastFatal := some r } }.setFlag Reg.GLB_LAST_FATAL_V.VALID true
  { s1 with flt := { s1.flt with alert := true }, acts := s1.acts ++ [r.source], logq := s1.logq ++ [r] }.evt Pg.GLB 1

/-- Write a record at its final class, count it, deliver it, and for FATAL act under R439. Answers where it went. -/
def State.writeRec (s : State) (r : Rec) : State × Nat × Bool :=
  let h := s.f Reg.FLT_RING_HEAD.HEAD
  let w := s.ringPut r
  let s1 := (w.1.countFault r.source r.cls false).deliverRec r h w.2
  (if r.cls = 3 then s1.fatal r else s1, h, w.2)

/-! ### The escalation store (R434) -/

/-- The store entry of a source and class. -/
def State.storeFind (s : State) (n k : Nat) : Option (Nat × StoreEnt) :=
  s.flt.store.find? fun e => e.2.source == n && e.2.cls == k

/-- The lowest free store index, of 32. -/
def State.storeFree (s : State) : Option Nat :=
  (List.range 32).find? fun i => !(s.flt.store.any fun e => e.1 == i)

/-- Take a free entry for a written record. -/
def State.storeTake (s : State) (i n k idx : Nat) (dropped : Bool) : State :=
  { s with flt := { s.flt with
      store := SMap.set (fun _ => ⟨0, 0, 0, 0, false⟩) s.flt.store i ⟨n, k, idx, 1, dropped⟩ } }

/-- Count one more occurrence in a store entry, saturating. -/
def State.storeCount (s : State) (i : Nat) (e : StoreEnt) : State :=
  { s with flt := { s.flt with
      store := SMap.set (fun _ => ⟨0, 0, 0, 0, false⟩) s.flt.store i { e with count := min (e.count + 1) 4294967295 } } }

/-- R433: count the fault of its source; the class it leaves with, and whether it was raised. -/
def State.window (s : State) (r : Rec) : State × Nat × Bool :=
  let th := s.f (Reg.FLT_SRC_CFG.THRESH r.source)
  if th = 0 ∨ 199 ≤ r.source then (s, r.cls, false)
  else
    let n := s.f (Reg.FLT_SRC_CNT.COUNT r.source) + 1
    if th ≤ n then (s.setF (Reg.FLT_SRC_CNT.COUNT r.source) 0, min (r.cls + 1) 3, decide (r.cls < 3))
    else (s.setF (Reg.FLT_SRC_CNT.COUNT r.source) n, r.cls, false)

/-- Count an escalation. -/
def State.escalated (s : State) (b : Bool) : State :=
  if b then (s.bump Reg.FLT_ESC_CNT.OFF).evt Pg.FLT 4 else s

/-- R434 for a fault of class K after R433. Answers the final class of the record written, or none where the fault was
merged and no record was written. -/
def State.store (s : State) (r : Rec) (raised : Bool) : State × Option Nat :=
  if r.cls = 0 ∨ r.cls = 3 then (((s.writeRec r).1).escalated raised, some r.cls)
  else match s.storeFind r.source r.cls, s.storeFree with
    | none, some i =>
      let w := s.writeRec r
      ((w.1.storeTake i r.source r.cls w.2.1 w.2.2).escalated raised, some r.cls)
    | none, none =>
      (((((s.writeRec r).1).bump Reg.FLT_UNTRACKED_CNT.OFF).evt Pg.FLT 3).escalated raised, some r.cls)
    | some (_, _), some j =>
      let r1 := { r with cls := r.cls + 1 }
      if r1.cls = 3 then (((s.writeRec r1).1).escalated true, some 3)
      else match s.storeFind r.source r1.cls with
        | none =>
          let w := s.writeRec r1
          ((w.1.storeTake j r.source r1.cls w.2.1 w.2.2).escalated true, some r1.cls)
        | some (k, e) => ((((s.writeRec r1).1).storeCount k e).escalated true, some r1.cls)
    | some (i, e), none =>
      let s1 := s.storeCount i e
      let s2 := if !e.dropped && s1.ringHolds e.idx then s1.ringCount e.idx else s1
      (((s2.bump Reg.FLT_MERGE_CNT.OFF).countFault r.source r.cls true).escalated raised, none)

/-- A fault reaches the collector: R433, then R434. -/
def State.collect (s : State) (r : Rec) : State × Option Nat :=
  let w := s.window { r with time := s.time }
  w.1.store { r with time := s.time, cls := w.2.1 } w.2.2

/-! ### CXL event logs (R521) -/

/-- The partition entry that holds a PPA. -/
def State.ptnOf (s : State) (ppa : Nat) : Option Nat :=
  (List.range 64).find? fun n =>
    let sz := s.f (Reg.PTN_SIZE.SIZE_GIB n)
    let b := s.f (Reg.PTN_BASE.BASE_GIB n)
    decide (sz ≠ 0) && decide (b * 2 ^ 30 ≤ ppa) && decide (ppa < (b + sz) * 2 ^ 30)

/-- Whether a subscriber owns a partition or holds a valid grant on it. -/
def State.holdsPtn (s : State) (sub n : Nat) : Bool :=
  s.f (Reg.PTN_OWNER.OWNER n) == sub
  || (List.range 256).any fun k => s.flag (Reg.PTN_GNT.VALID k) && s.f (Reg.PTN_GNT.PARTITION k) == n
      && s.f (Reg.PTN_GNT.GRANTEE k) == sub

/-- Whether a record is logged for a logical device, and as a General Media Event. -/
def State.evtFor (s : State) (r : Rec) (ld : Nat) : Option Bool :=
  if r.code = 0x0701 ∨ r.code = 0x0702 ∨ r.code = 0x0602 ∨ r.code = 0x0401 then
    match s.ptnOf r.addr with
    | none => none
    | some n => if r.addrPpa && s.holdsPtn ld n then some true else none
  else if r.code = 0x0706 ∨ r.code = 0x070A ∨ r.code = 0x0705 ∨ r.code = 0x0D01 ∨ r.code = 0x0D02 then some false
  else none

/-- The log of an LD and class. -/
def State.evLog (s : State) (ld k : Nat) : EvLog := SMap.get (fun _ => ⟨[], 0, 0, 0, 1⟩) s.cxl.logs (ld * 4 + k)

def State.setEvLog (s : State) (ld k : Nat) (l : EvLog) : State :=
  { s with cxl := { s.cxl with logs := SMap.set (fun _ => ⟨[], 0, 0, 0, 1⟩) s.cxl.logs (ld * 4 + k) l } }

/-- Append a record to one LD's log: 64 records, later ones dropped and counted, EVENT_LOG_OVERFLOW written. -/
def State.evAppend (s : State) (r : Rec) (ld : Nat) (media : Bool) : State :=
  let l := s.evLog ld r.cls
  if l.recs.length < 64 then
    let s1 := s.setEvLog ld r.cls { l with recs := l.recs ++ [⟨l.nextHandle, media, r⟩], nextHandle := l.nextHandle % 65535 + 1 }
    let pol := SMap.get (fun _ => 0) s1.cxl.policy (ld * 4 + r.cls)
    if bits pol 1 0 = 1 then s1.msix ld (bits pol 7 4) else s1
  else
    let s1 := s.setEvLog ld r.cls { l with
      ovf := min (l.ovf + 1) 65535, ovfFirst := if l.ovf = 0 then s.time else l.ovfFirst, ovfLast := s.time }
    (((s1.bump Reg.CXP_EVT_OVF_CNT.OFF).evt Pg.CXP 3).collect (mkRec 119 0 0x1003)).1

/-- Feed a record to the event logs of the logical devices it concerns. -/
def State.evFeed (s : State) (r : Rec) : State :=
  (List.range 16).foldl (fun acc ld => match acc.evtFor r ld with
    | none => acc
    | some m => acc.evAppend r ld m) s

/-- A fault: collected, and fed at its final class to the CXL event logs (R434, R521). -/
def State.fault (s : State) (r : Rec) : State :=
  let w := s.collect r
  match w.2 with
  | none => w.1
  | some k => w.1.evFeed { r with time := s.time, cls := k }

/-- A record that reports an action already started (BASIC_SERVICE, HALTED): class FATAL, outside R433, R434, R439 and R440. -/
def State.report (s : State) (r : Rec) : State :=
  let r1 := { r with time := s.time, cls := 3 }
  let h := s.f Reg.FLT_RING_HEAD.HEAD
  let w := s.ringPut r1
  ((w.1.countFault r1.source 3 false).deliverRec r1 h w.2).evFeed r1

/-! ### What every block writes -/

/-- Code of a cause (R83). -/
def Cause.code : Cause → Nat
  | .noMapping => 0x0101
  | .permission => 0x0102
  | .wardPermission => 0x0103
  | .partition => 0x0104
  | .carveOut => 0x0105
  | .foreignStripe => 0x0106
  | .subscriber => 0x0107
  | .quiesced => 0x0108
  | .register => 0x0109
  | .malformedTable => 0x0110

/-- What a violation record says beside its cause: the request's subscriber, context, node, address. -/
structure Who where
  sub : Nat
  ctx : Option Nat
  node : Nat
  kw : Option Nat
  addr : Nat
  ppa : Bool
  deriving DecidableEq, Repr

/-- The record of a violation (R55, R83). -/
def violRec (c : Cause) (w : Who) (leaving : Bool) : Rec :=
  { mkRec (if c = .register then 0 else 2) 0 c.code with
    addr := w.addr, addrPpa := w.ppa, kw := w.kw.getD 0, kwValid := w.kw.isSome, sub := w.sub, ctx := w.ctx.getD 0,
    ctxValid := w.ctx.isSome, node := w.node, leaving := leaving }

/-- A violation (R55): one record and one count of the subscriber. -/
def State.violation (s : State) (c : Cause) (w : Who) : State :=
  (s.fault (violRec c w false)).bump (Reg.PTN_VIOL_CNT.OFF w.sub)

/-- A register access that is a violation (R55, R529): it also counts in GLB_REG_VIOL_CNT. -/
def State.regViolation (s : State) (w : Who) : State :=
  (s.violation .register w).bump Reg.GLB_REG_VIOL_CNT.OFF

/-- A malformed packet whose chapter names no counter or code (R10, R330). -/
def State.malformed (s : State) (p : Packet) : State :=
  (s.bump Reg.RTB_MALFORMED_CNT.OFF).fault
    { mkRec 120 0 0x0901 with sub := if isResponse p then 0 else p.sub, node := p.src }

/-- A malformed packet with its chapter's own counter, source and code (R10). -/
def State.malformedAs (s : State) (p : Packet) (cnt source code : Nat) : State :=
  (s.bump cnt).fault { mkRec source 0 code with sub := p.sub, node := p.src, ctx := p.ctx, ctxValid := true }

/-- Source node of a register access: 0xFFF but for MGT (R23). -/
def Path.node : Path → Nat
  | .mgt n _ _ _ => n
  | _ => 0xFFF

/-- Subscriber charged for a register access (R529, R23). -/
def State.pathSub (s : State) : Path → Nat
  | .mmio => s.mgrLd
  | .mgt _ b _ _ => b
  | .fw => 0

/-- A rejected configuration write (R23): the register is unchanged, the page's CFG_REJECT is set, a record is written with
the page's code. -/
def State.cfgReject (s : State) (a : Path) (pg source code off : Nat) (kw : Option Nat) : State :=
  (s.evt pg 0).fault { mkRec source 0 code with
    addr := off, node := Path.node a, sub := s.pathSub a, kw := kw.getD 0, kwValid := kw.isSome }

end Sys2Proof.Machine
end

