-- ==== Sys2Proof/Machine/Shaper.lean ====
section
/-! DEFINITION. The traffic shaper's buckets, classes and load values (R360 to R375). -/

namespace Sys2Proof.Machine

open Sys2Proof

/-! ### Classes (R361) -/

/-- The class a request takes: coherence requests COHERENCE, other opcodes naming COHERENCE take BULK, a class the
subscriber is not allowed is replaced by BACKGROUND; the Bool says it was replaced. -/
def State.takeClass (s : State) (op c b : Nat) : Nat × Bool :=
  let c1 := if 0x40 ≤ op ∧ op ≤ 0x45 then 2 else if c = 2 then 1 else c
  if c1 = 3 then (3, false)
  else if bit (s.f (Reg.TSH_SUB_CLASS.ALLOWED b)) c1 then (c1, false) else (3, true)

/-! ### Buckets (R362) -/

/-- Rate field of a bucket: kind 0 link committed, 1 link peak, 2 memory committed, 3 memory peak. -/
def bucketRateFld (b k : Nat) : Fld :=
  if k = 0 then Reg.TSH_SUB_LCIR.RATE b
  else if k = 1 then Reg.TSH_SUB_LPIR.RATE b
  else if k = 2 then Reg.TSH_SUB_MCIR.RATE b
  else Reg.TSH_SUB_MPIR.RATE b

/-- Burst field of a bucket. -/
def bucketBurstFld (b k : Nat) : Fld :=
  if k = 0 then Reg.TSH_SUB_LCBS.BURST b
  else if k = 1 then Reg.TSH_SUB_LPBS.BURST b
  else if k = 2 then Reg.TSH_SUB_MCBS.BURST b
  else Reg.TSH_SUB_MPBS.BURST b

/-- Effective rate: a peak rate below its committed rate is treated as equal to it. -/
def State.bucketRate (s : State) (b k : Nat) : Nat :=
  if k % 2 = 1 then max (s.f (bucketRateFld b k)) (s.f (bucketRateFld b (k - 1))) else s.f (bucketRateFld b k)

/-- The bucket is unlimited. -/
def State.bucketOpen (s : State) (b k : Nat) : Bool := s.bucketRate b k == 0xFFFFFFFF

/-- Level of a bucket at reset, in thousandths of a byte: its burst's reset value (R375). -/
def lvlReset (k : Nat) : Int := if k % 4 < 2 then 1048576000 else 67108864000

/-- Level of a bucket in thousandths of a byte. -/
def State.lvl (s : State) (b k : Nat) : Int := SMap.get lvlReset s.tsh.lvl (b * 4 + k)

def State.setLvl (s : State) (b k : Nat) (v : Int) : State :=
  { s with tsh := { s.tsh with lvl := SMap.set lvlReset s.tsh.lvl (b * 4 + k) v } }

/-- A bucket in deficit. -/
def State.inDeficit (s : State) (b k : Nat) : Bool := !s.bucketOpen b k && decide (s.lvl b k < 0)

/-- Subtract a charge from one bucket; an unlimited bucket is never charged. -/
def State.chargeOne (s : State) (b k bytes : Nat) : State :=
  if s.bucketOpen b k then s else s.setLvl b k (s.lvl b k - (bytes : Int) * 1000)

/-- Add to a tally kept as a sparse map. -/
def addTally (m : List (Nat × Nat)) (k n : Nat) : List (Nat × Nat) :=
  SMap.set (fun _ => 0) m k (SMap.get (fun _ => 0) m k + n)

/-- Charge link bytes (R363); the planner divides energy by them (R393). -/
def State.chargeLink (s : State) (b bytes : Nat) : State :=
  let s1 := ((s.chargeOne b 0 bytes).chargeOne b 1 bytes).addCnt (Reg.TSH_SUB_LBYTES.OFF b) bytes
  { s1 with epl := { s1.epl with linkBytes := addTally s1.epl.linkBytes b bytes } }

/-- Charge memory bytes (R363). -/
def State.chargeMem (s : State) (b bytes : Nat) : State :=
  ((s.chargeOne b 2 bytes).chargeOne b 3 bytes).addCnt (Reg.TSH_SUB_MBYTES.OFF b) bytes

/-- Count bytes (or operations) of an energy class (R394). -/
def State.classBytes (s : State) (k n : Nat) : State :=
  let s1 := s.addCnt (Reg.EPL_CLS_BYTES.OFF k) n
  { s1 with epl := { s1.epl with bytes := addTally s1.epl.bytes k n } }

/-- Journal and resync traffic of a pair: HEARTBEAT kinds 1 to 4 on a hinge port (R394, R404). -/
def hingeTraffic (port : Nat) (p : Packet) : Bool :=
  decide (4 ≤ port) && p.opcode == 0x67 && decide (1 ≤ bits p.opw 3 0) && decide (bits p.opw 3 0 ≤ 4)

/-- A packet of class MGT or the response to one (R329, R394). -/
def mgtTraffic (p : Packet) : Bool := decide (0x60 ≤ p.opcode % 128) && decide (p.opcode % 128 ≤ 0x67)

/-- Memory bytes of an energy class, charged to a subscriber where there is one. -/
def State.memBytes (s : State) (b : Option Nat) (k n : Nat) : State :=
  match b with
  | none => s.classBytes k n
  | some x =>
    let s1 := (s.classBytes k n).chargeMem x n
    { s1 with epl := { s1.epl with charges := addTally s1.epl.charges (x * 16 + k) n } }

/-- Energy class of a request's opcode (R394). -/
def energyClass (op : Nat) : Nat :=
  if op = 0x10 then 1
  else if op = 0x11 ∨ op = 0x15 then 2
  else if op = 0x12 then 3
  else if op = 0x13 ∨ op = 0x23 then 4
  else if op = 0x14 then 5
  else if op = 0x18 then 6
  else if op = 0x20 then 7
  else if op = 0x21 ∨ op = 0x22 then 8
  else if 0x30 ≤ op ∧ op ≤ 0x34 then 10
  else if 0x40 ≤ op ∧ op ≤ 0x4C then 9
  else 0

/-- Energy class of a request's memory bytes: CXL.mem counts with the plain accesses (R394). -/
def Req.memClass (r : Req) : Nat := if r.cxl.isSome then 0 else energyClass r.pkt.opcode

/-- Give a charge back to one bucket, up to its burst. -/
def State.giveOne (s : State) (b k bytes : Nat) : State :=
  if s.bucketOpen b k then s else s.setLvl b k (min ((s.f (bucketBurstFld b k) : Int) * 1000) (s.lvl b k + (bytes : Int) * 1000))

/-- Take a count back. -/
def State.takeBack (s : State) (o n : Nat) : State := { s with cnts := SMap.set (fun _ => 0) s.cnts o (s.cnt o - n) }

/-- Take from a tally kept as a sparse map. -/
def subTally (m : List (Nat × Nat)) (k n : Nat) : List (Nat × Nat) := SMap.set (fun _ => 0) m k (SMap.get (fun _ => 0) m k - n)

/-- Undo the charges of a fabric request that ends as if it had not been admitted (R363): its link bytes, and the memory bytes charged
for it. -/
def State.uncharge (s : State) (r : Req) : State :=
  if r.cxl.isSome ∨ 0x60 ≤ r.pkt.opcode then s
  else
    let b := r.pkt.sub
    let n := r.pkt.packetLen
    let s1 := (((s.giveOne b 0 n).giveOne b 1 n).takeBack (Reg.TSH_SUB_LBYTES.OFF b) n)
    let s2 := (((s1.giveOne b 2 r.cost).giveOne b 3 r.cost).takeBack (Reg.TSH_SUB_MBYTES.OFF b) r.cost).takeBack
      (Reg.EPL_CLS_BYTES.OFF r.memClass) r.cost
    { s2 with epl := { s2.epl with
        linkBytes := subTally s2.epl.linkBytes b n
        bytes := subTally s2.epl.bytes r.memClass r.cost
        charges := subTally s2.epl.charges (b * 16 + r.memClass) r.cost } }

/-- Refill one bucket for one 64 ns slot: rate in MB/s times 64 ns is rate * 64 thousandths of a byte, up to the burst. -/
def State.refillOne (s : State) (b k : Nat) : State :=
  let top : Int := (s.f (bucketBurstFld b k) : Int) * 1000
  if s.bucketOpen b k then s.setLvl b k top
  else s.setLvl b k (min top (s.lvl b k + (s.bucketRate b k : Int) * 64))

/-- A policed subscriber: either peak bucket in deficit (R365). -/
def State.peakDeficit (s : State) (b : Nat) : Bool := s.inDeficit b 1 || s.inDeficit b 3

/-- The excess state of a packet: either committed bucket in deficit (R364). -/
def State.isExcess (s : State) (b : Nat) : Bool := s.inDeficit b 0 || s.inDeficit b 2

/-- The back-off hint of a policed request (R365): the larger deficit over its bucket's rate, in units of 100 ns. -/
def State.policeHint (s : State) (b : Nat) : Nat :=
  let d (k : Nat) : Nat := if s.inDeficit b k then (-(s.lvl b k)).toNat else 0
  let k := if d 1 < d 3 then 3 else 1
  -- deficit in 1/1000 byte over rate in MB/s: deficit / 1000 / (rate / 1000) ns, in 100 ns units
  let r := s.bucketRate b k * 100
  if r = 0 then 255 else max 1 (min 255 ((d k + r - 1) / r))

/-! ### Load (R370 to R373) -/

/-- The shaper's state value S of a subscriber (R371). -/
def State.subState (s : State) (b : Nat) : Nat :=
  let lack (k n : Nat) : Nat :=
    if s.bucketOpen b k then 0
    else
      let burst : Int := (s.f (bucketBurstFld b k) : Int) * 1000
      let l := max (-burst) (min burst (s.lvl b k))
      ((n : Int) * (burst - l) / burst).toNat
  if s.peakDeficit b then 15
  else if s.isExcess b then min 14 (12 + max (lack 1 3) (lack 3 3))
  else min 7 (max (lack 0 8) (lack 2 8))

/-- Shaped port of a port: SWP0 to SWP3, and the CXL port (6 among the ports with queues) as 4; the hinge ports are not shaped (R360). -/
def shapedPort (port : Nat) : Option Nat := if port < 4 then some port else if port = 6 then some 4 else none

/-- Congestion of a shaped port as last computed (R370). -/
def State.congestion (s : State) (p : Nat) : Nat := SMap.get (fun _ => 0) s.tsh.cong p

/-- The energy pressure in use (R372). -/
def State.ep (s : State) : Nat := s.f Reg.TSH_STAT.EP

/-- LOAD of a response leaving a shaped port for a subscriber (R372); without one, for a packet of the chip's own. -/
def State.loadOf (s : State) (p : Nat) (b : Option Nat) : Nat :=
  max (max (s.congestion p) s.ep) (match b with
    | some x => s.subState x
    | none => 0)

/-- DevLoad of a LOAD value (R373). -/
def devLoad (l : Nat) : Nat := min 3 (l / 4)

end Sys2Proof.Machine
end

