-- ==== Sys2Proof/Machine/Router.lean ====
section
/-! DEFINITION. The router: usable ports, route entries and turn rule (R332 to R334), chain fallback (R339), injection of the
chip's own packets (R335), queues toward the link ports (R360, R364), responses (R325, R326, R401, R408). -/

namespace Sys2Proof.Machine

open Sys2Proof

/-! ### Ports -/

/-- State of a link port (R321): 4 is ACTIVE, 5 RETRAIN. -/
def State.portState (s : State) (p : Nat) : Nat := s.f (Reg.SWP_STAT.STATE p)

/-- A link port carries packets: ACTIVE or RETRAIN (R333). -/
def State.linkUp (s : State) (p : Nat) : Bool := s.portState p == 4 || s.portState p == 5

/-- Bytes that a hinge port has sent and has still to send. -/
def State.hingeLoad (s : State) (p : Nat) : Nat :=
  s.cnt (Reg.SWP_TX_BYTE_CNT.OFF p) + ((s.txq.filter fun t => t.port == p).map fun t => t.p.packetLen).sum

/-- The hinge port that carries a packet. Packets are spread over both (R403). DESIGN CHOICE: the one with the fewer bytes sent and waiting takes
the next (log entry 8). -/
def State.hingePort (s : State) : Nat :=
  if s.linkUp 4 && s.linkUp 5 then (if s.hingeLoad 5 < s.hingeLoad 4 then 5 else 4) else if s.linkUp 4 then 4 else 5

/-- Whether a port code of R332 is usable. -/
def State.usable (s : State) (code : Nat) : Bool :=
  if code < 4 then s.linkUp code
  else if code = 5 then s.part.hinge && (s.linkUp 4 || s.linkUp 5) else false

/-- The largest payload that a link port has negotiated (R306, R307). -/
def State.maxPayload (s : State) (p : Nat) : Nat :=
  if s.f (Reg.SWP_STAT.MAX_PL p) = 0 then 256 else if s.f (Reg.SWP_STAT.MAX_PL p) = 1 then 1024 else 4096

/-- The link port of a port code. -/
def State.portOfCode (s : State) (code : Nat) : Nat := if code < 4 then code else s.hingePort

/-- A port code is usable for a packet: traffic that needs a larger payload is not routed over a port (R307). -/
def State.carries (s : State) (p : Packet) (code : Nat) : Bool :=
  s.usable code && decide (p.length ≤ s.maxPayload (s.portOfCode code))

/-- A route table version is valid (R336). -/
def State.verValid (s : State) (v : Nat) : Bool :=
  if v = 0 then s.flag Reg.RTB_TBL_STAT.VALID_A else s.flag Reg.RTB_TBL_STAT.VALID_B

/-- Whether a port code is an up port under the directions a version records (R332). -/
def State.dirUp (s : State) (v code : Nat) : Bool :=
  let d := if v = 0 then s.rtb.dirA else s.rtb.dirB
  if code < 4 then bit d code else if code = 5 then bit d 4 else false

/-- No route to a node under a version: the version or the entry is invalid, or neither of its ports is usable. -/
def State.noRoute (s : State) (v n : Nat) : Bool :=
  !s.verValid v || !s.flag (Reg.RTB_ROUTE.VALID v n)
  || !(s.usable (s.f (Reg.RTB_ROUTE.PRIMARY v n)) || s.usable (s.f (Reg.RTB_ROUTE.SECONDARY v n)))

/-- The pair ID this member answers to (R331). -/
def State.pairHere (s : State) : Option Nat :=
  if s.flag Reg.RTB_NODE.PAIR_VALID then some (s.f Reg.RTB_NODE.PAIR_ID) else none

/-- Where the router sends a packet. -/
inductive Routed where
  | here (p : Packet)
  | send (port : Nat) (p : Packet)
  | dropped
  deriving DecidableEq, Repr

/-- Kinds of drop that write a record (R333): 0 NO_ROUTE, 1 TURN_VIOLATION, 2 EPOCH_INVALID. The first of each kind after
the event bit was cleared writes one. -/
def State.routeDrop (s : State) (p : Packet) (kind cnt : Nat) : State :=
  let s1 := s.bump cnt
  let s2 := if bit s1.rtb.dropSeen kind then s1
    else ({ s1 with rtb := { s1.rtb with dropSeen := putBit s1.rtb.dropSeen kind true } }).fault
      { mkRec 120 0 (if kind = 0 then 0x0902 else if kind = 1 then 0x0903 else 0x0904) with node := p.src }
  s2.evt Pg.RTB 6

/-- Chain fallback of an MGT packet (R339): the port toward its DEST along the chain. -/
def State.chainPort (s : State) (p : Packet) : Option Nat :=
  let d := p.dest
  if opClass (p.opcode) (p.vc) = some .mgt ∧ s.f Reg.RTB_ENUM_HEAD.HEAD_ID ≤ d ∧ d ≤ s.f Reg.RTB_ENUM_STAT.LAST_ID then
    if s.ownId < d then
      (if s.linkUp (s.f Reg.RTB_ENUM_CTRL.CHAIN_PORT) then some (s.f Reg.RTB_ENUM_CTRL.CHAIN_PORT) else none)
    else if d < s.ownId ∧ s.flag Reg.RTB_ENUM_STAT.UP_VALID then
      (if s.linkUp (s.f Reg.RTB_ENUM_STAT.UPSTREAM) then some (s.f Reg.RTB_ENUM_STAT.UPSTREAM) else none)
    else none
  else none

/-- Phase change at the intermediate node (R333). -/
def State.phaseStep (s : State) (p : Packet) : Packet :=
  match opClass (p.opcode) (p.vc) with
  | some c =>
    if phased c && p.phase == 0 && (p.inter == s.ownId || s.noRoute (p.epoch) (p.inter)) then
      setRoute (setRoute (setRoute p 40 40 1) 38 36 (vcOf c 1)) 42 42 0
    else p
  | none => p

/-- The node a packet is being routed to in its phase (R333). -/
def routeTarget (p : Packet) : Nat :=
  match opClass (p.opcode) (p.vc) with
  | some c => if phased c && p.phase == 0 then p.inter else p.dest
  | none => p.dest

/-- A packet refused by the tables: chain fallback, or dropped and counted. -/
def State.fallback (s : State) (p : Packet) (kind cnt : Nat) : State × Routed :=
  match s.chainPort p with
  | some q => (s, .send q p)
  | none => (s.routeDrop p kind cnt, .dropped)

/-- A packet dropped because its node is fenced (R333, R359). -/
def State.fenceDrop (s : State) : State := (s.bump Reg.RTB_FENCE_DROP_CNT.OFF).evt Pg.RTB 6

/-- The router's handling of a packet past the fence check (R333). -/
def State.routeOn (s : State) (p0 : Packet) : State × Routed :=
  let p := s.phaseStep p0
  let t := routeTarget p
  if (s.hasId && t == s.ownId) || s.pairHere == some t then (s, .here p)
  else if s.verValid (p.epoch) = false then s.fallback p 2 Reg.RTB_EPOCH_DROP_CNT.OFF
  else
    let v := p.epoch
    let e1 := s.f (Reg.RTB_ROUTE.PRIMARY v t)
    let e2 := s.f (Reg.RTB_ROUTE.SECONDARY v t)
    let c := if s.carries p e1 then e1 else e2
    if s.flag (Reg.RTB_ROUTE.VALID v t) = false ∨ s.carries p c = false then
      s.fallback p 0 Reg.RTB_UNROUTABLE_CNT.OFF
    else
      let send (q : Nat) : State × Routed :=
        let p1 := if s.dirUp v q then p else setRoute p 42 42 1
        (if q = e1 then s else s.bump Reg.RTB_REROUTE_CNT.OFF, .send (s.portOfCode q) p1)
      if p.desc && s.dirUp v c then
        let q := if c = e1 then e2 else e1
        if s.carries p q && !s.dirUp v q then send q
        else (s.routeDrop p 1 Reg.RTB_TURN_DROP_CNT.OFF, .dropped)
      else send c

/-- The router's handling of a packet that is not multicast (R333). -/
def State.route (s : State) (p : Packet) : State × Routed :=
  if s.fenced (p.src) || (s.fenced (p.dest) && !s.isMgr (p.src)) then (s.fenceDrop, .dropped) else s.routeOn p

/-! ### Queues toward the ports -/

/-- A link port has negotiated a payload large enough for a packet (R307). -/
def State.fits (s : State) (port : Nat) (p : Packet) : Bool := decide (p.length ≤ s.maxPayload port)

/-- Place a packet in the queue of a link port (R360); one too large for the link is dropped there (R19, R307). -/
def State.place (s : State) (t : TxPkt) : State :=
  if s.fits t.port t.p then { s with txq := s.txq ++ [t] } else s.routeDrop t.p 0 Reg.RTB_UNROUTABLE_CNT.OFF

/-- A packet of the chip's own as it is queued: a packet of a subscriber waits in the EXCESS lane when that subscriber's committed
buckets are in deficit (R364). -/
def State.queued (s : State) (port : Nat) (p : Packet) (who : Option Nat) (pay : Bool) : TxPkt :=
  TxPkt.mk port p (if pay then who else none) (who.any s.isExcess) s.time who false none none

/-- Place a packet, charged to its subscriber where it is shaped and pays (R363). -/
def State.queueFor (s : State) (port : Nat) (p : Packet) (who : Option Nat) (pay : Bool) : State :=
  let u := s.place (s.queued port p who pay)
  match who with
  | some x => if pay && s.fits port p && (p.vc == 3 || p.vc == 0 || p.vc == 1) then u.chargeLink x (p.packetLen) else u
  | none => u

/-- Place one of the copies of a packet that a port's peer alone is to have (R345, R421). -/
def State.queueCopy (s : State) (port : Nat) (p : Packet) : State := s.place { s.queued port p none true with copy := true }

/-- Place a packet in transit: its units of the receive buffer of the port it came in by stay taken until it leaves (R301). -/
def State.queueTransit (s : State) (port : Nat) (p : Packet) (rx : Option (Nat × Nat)) : State :=
  s.place { s.queued port p none true with rx := rx }

/-- Place a packet of a subscriber that pays for it, or one of nobody. -/
def State.queue (s : State) (port : Nat) (p : Packet) (b : Option Nat) : State := s.queueFor port p b true

/-- What becomes of a packet of the chip's own where the router has sent it; one addressed to the chip itself leaves on the LOCAL port. -/
def State.sendOn (r : State × Routed) (who : Option Nat) (pay : Bool) : State :=
  match r.2 with
  | .here p => r.1.emit (.self p)
  | .send q p => r.1.queueFor q p who pay
  | .dropped => r.1

/-- A packet of the chip's own under INJ_EPOCH (R335). -/
def State.injected (s : State) (p : Packet) : Packet := setRoute p 39 39 (s.f Reg.RTB_CTRL.INJ_EPOCH)

/-- Send a packet of the chip's own: injected under INJ_EPOCH and routed (R333, R335). -/
def State.injectFor (s : State) (p : Packet) (who : Option Nat) (pay : Bool) : State := State.sendOn (s.route (s.injected p)) who pay

/-- Send a packet of the chip's own that its subscriber pays for. -/
def State.inject (s : State) (p0 : Packet) (b : Option Nat) : State := s.injectFor p0 b true

/-- The intermediate node and phase of an own REQ or COL injection (R335): a random candidate of RTB_INTER while RAND_EN is
1, else phase B with INTER = DEST. The random choice is a free value. -/
def State.pickInter (s : State) (dst : Nat) : Nat × Nat × State :=
  let n := s.f Reg.RTB_INTER_CNT.COUNT
  if s.flag Reg.RTB_CTRL.RAND_EN && n != 0 then
    let w := s.fresh n
    let k := s.f (Reg.RTB_INTER.NODE w.1)
    if k = dst then (dst, 1, w.2) else (k, 0, w.2)
  else (dst, 1, s)

/-! ### Responses -/

/-- Whether a request is addressed to the pair ID (R401). -/
def State.toPair (s : State) (q : Packet) : Bool :=
  s.f Reg.RTB_NODE.PAIR_ID != 0xFFF && s.flag Reg.HPS_CTRL.PAIR_EN && q.dest == s.f Reg.RTB_NODE.PAIR_ID

/-- The response packet to a request (R325, R326): RETRY carries only its hint. -/
def State.rspPacket (s : State) (q : Packet) (st addr op : Nat) (payload : List Byte) : Packet :=
  let retry := st == stRETRY
  let srcId := if s.toPair q then s.f Reg.RTB_NODE.PAIR_ID else if s.hasId then s.ownId else 0xFFF
  let dual := s.toPair q && s.flag Reg.HPS_STAT.DUAL_ON
  ({ dest := q.src, src := srcId, vc := 3, cls := q.cls, opcode := q.opcode + 0x80, tag := q.tagOf, seq := q.seq,
     high := st % 256 + b2n dual * 2 ^ 12 + (if q.streamEn then 2 ^ 15 + q.stream * 2 ^ 16 else 0),
     addr := if retry then 0 else addr, op := op, payload := if retry then [] else payload
     stag := if q.streamEn then zeros 16 else [] } : Form).packet

/-- HINT in the operation word of a RETRY (R326). -/
def hintWord (h : Nat) : Nat := h * 2 ^ 56

/-- Send a response: through the router, but straight back on the chain port while the chip has no ID (R354), and on a
response to a NEIGHBOUR request. A member without the lease answers the pair ID in dual-answer mode only (R413, R422). It is charged to the request's subscriber, MGT responses to nobody (R363). -/
def State.sendRsp (s : State) (port : Nat) (q r : Packet) : State :=
  let pay := !(decide (0x60 ≤ q.opcode) && decide (q.opcode ≤ 0x67))
  let s1 := if bit r.xact.toNat 52 then s.bump Reg.HPS_DUAL_CNT.OFF else s
  if s.toPair q && !s.flag Reg.RTB_NODE.PAIR_VALID && !s.flag Reg.HPS_STAT.DUAL_ON then s
  else if q.dest = 0xFFE then s1.queueFor port r (some q.sub) false
  else s1.injectFor r (some q.sub) pay

/-- Answer a fabric request. -/
def State.answer (s : State) (port : Nat) (q : Packet) (st addr op : Nat) (payload : List Byte) : State :=
  s.sendRsp port q (s.rspPacket q st addr op payload)

/-- Answer RETRY with a hint. -/
def State.answerRetry (s : State) (port : Nat) (q : Packet) (h : Nat) : State :=
  s.answer port q stRETRY 0 (hintWord h) []

end Sys2Proof.Machine
end

