-- ==== Sys2Proof/Machine/Sequence.lean ====
section
/-! DEFINITION. The ordering contract (R41 to R49): per-source entries, classification of an arriving number, ORDERED requests
and their segments, overlapping requests, and the end of an admitted request. -/

namespace Sys2Proof.Machine

open Sys2Proof

/-- Key of a per-source entry: a source numbers its requests to the chip's own ID and to the pair ID separately (R41, R401). -/
def State.seqKey (s : State) (p : Packet) : Nat := p.src + (if s.toPair p then 4096 else 0)

/-- The per-source entry of a key (R43). -/
def State.seqEntry (s : State) (k : Nat) : Option SeqEntry := (s.seqs.find? fun e => e.1 == k).map (·.2)

/-- Store a per-source entry. -/
def State.setSeq (s : State) (k : Nat) (e : SeqEntry) : State :=
  { s with seqs := SMap.set (fun _ => ⟨0, 0, false, []⟩) s.seqs k e }

/-- Empty a per-source entry (R43, R349). -/
def State.dropSeq (s : State) (k : Nat) : State := { s with seqs := s.seqs.filter fun e => e.1 != k }

/-- How an arriving number is taken (R44, R45). -/
inductive SeqVerdict where
  | admits (n : Nat)
  | retry (n : Nat)
  | stale
  | straggler
  deriving DecidableEq, Repr

/-- Advance C over the committed numbers that follow it. -/
def seqAdvance : Nat → Nat → List NumSt → Nat
  | 0, c, _ => c
  | k + 1, c, l => if l.any (fun x => x.n == c + 1 && x.done) then seqAdvance k (c + 1) l else c

/-- The greatest ORDERED number at or below a bound, or the bound's floor when there is none. -/
def lastOrdered (floor b : Nat) (l : List NumSt) : Nat :=
  l.foldl (fun acc x => if x.ord && decide (x.n ≤ b) && decide (acc < x.n) then x.n else acc) floor

/-- An entry after C has advanced as far as it can; numbers no later segment can reach are forgotten. -/
def SeqEntry.settle (e : SeqEntry) : SeqEntry :=
  let c := seqAdvance e.nums.length e.c e.nums
  let keep := lastOrdered 0 c (e.nums.filter fun x => x.done)
  { e with c := c, nums := e.nums.filter fun x => decide (c < x.n) || decide (keep ≤ x.n) }

/-- Classify a number (R44, R45). -/
def SeqEntry.classify (e : SeqEntry) (s16 : Nat) : SeqVerdict :=
  let d := (s16 + 65536 - e.c % 65536) % 65536
  let back := (e.c0 % 65536 + 65536 - s16) % 65536
  if 1 ≤ d ∧ d ≤ 512 then
    (if e.nums.any (fun x => x.n == e.c + d) then .stale else .admits (e.c + d))
  else if 513 ≤ d ∧ d ≤ 32768 then .retry (e.c + d)
  else if e.win ∧ back < 512 then .straggler
  else .stale

/-- The entry a first request starts (R43): C is its number minus one. -/
def SeqEntry.start (s16 : Nat) : SeqEntry := ⟨65536 + s16 - 1, 65536 + s16 - 1, true, []⟩

/-- Record a number in an entry. -/
def SeqEntry.note (e : SeqEntry) (x : NumSt) : SeqEntry :=
  { e with nums := x :: e.nums.filter fun y => y.n != x.n }

/-- Take an arriving number: its verdict and the state with the number recorded. A number answered RETRY beyond the window has
committed without effect (R42). -/
def State.seqTake (s : State) (k s16 : Nat) (ord : Bool) : State × SeqVerdict :=
  let e := (s.seqEntry k).getD (SeqEntry.start s16)
  match e.classify s16 with
  | .admits n => (s.setSeq k (e.note ⟨n, ord, false, false⟩), .admits n)
  | .retry n => (s.setSeq k (e.note ⟨n, ord, true, true⟩).settle, .retry n)
  | .stale => (s.bump Reg.GLB_SEQ_STALE.OFF, .stale)
  | .straggler => (s.bump Reg.GLB_SEQ_STALE.OFF, .straggler)

/-- Mark a number committed (R42). bad: its answer breaks a later segment (R47). -/
def State.seqCommit (s : State) (k n : Nat) (bad : Bool) : State :=
  match s.seqEntry k with
  | none => s
  | some e =>
    let ord := e.nums.any fun x => x.n == n && x.ord
    let e1 := (e.note ⟨n, ord, true, bad⟩).settle
    let s1 := s.setSeq k e1
    if 4096 ≤ k ∧ e1.c ≠ e.c then
      { s1 with hps := { s1.hps with seqTouched := if s1.hps.seqTouched.contains (k - 4096) then s1.hps.seqTouched
          else s1.hps.seqTouched ++ [k - 4096] } }
    else s1

/-- Numbers between C and n that have not arrived (R48). -/
def SeqEntry.missing (e : SeqEntry) (n : Nat) : List Nat :=
  (upTo (e.c + 1) n).filter fun m => !(e.nums.any fun x => x.n == m)

/-- Every lower number has committed (R46). -/
def SeqEntry.allBelow (e : SeqEntry) (n : Nat) : Bool := decide (n ≤ e.c + 1)

/-- The segment of an ORDERED number is broken (R47). -/
def SeqEntry.broken (e : SeqEntry) (n : Nat) : Bool :=
  let prev := lastOrdered e.c0 (n - 1) e.nums
  e.nums.any fun x => decide (prev < x.n) && decide (x.n < n) && x.bad

/-- Declare the missing numbers up to n lost (R48). -/
def SeqEntry.lose (e : SeqEntry) (n : Nat) : SeqEntry :=
  { e with nums := (e.missing n).map (fun m => NumSt.mk m false true true) ++ e.nums }.settle

/-! ### Requests in the chip -/

/-- An admitted request by identity. -/
def State.req? (s : State) (id : Nat) : Option Req := s.reqs.find? fun r => r.id == id

/-- Change an admitted request. -/
def State.modReq (s : State) (id : Nat) (g : Req → Req) : State :=
  { s with reqs := mapIf (fun r => r.id == id) g s.reqs }

/-- Charge memory bytes of an admitted request to its subscriber (R363). -/
def State.chargeReq (s : State) (r : Req) (n : Nat) : State :=
  if n = 0 then s else (s.memBytes (some r.pkt.sub) r.memClass n).modReq r.id fun q => { q with cost := q.cost + n }

/-- Remove a request. -/
def State.dropReq (s : State) (id : Nat) : State := { s with reqs := s.reqs.filter fun r => r.id != id }

/-- CXL requests held in the port's 256 ingress entries (R370): those that their hold queue holds (R366), that wait for room in a pending queue
(R258) or in the miss queue, or that journal back-pressure stops (R410). -/
def State.cxlStuck (s : State) : List Req :=
  s.reqs.filter fun r => r.cxl.any (fun x => decide (x.2 < 2 ^ 32)) && (s.sc.held.any (fun h => h.id == r.id)
    || s.hps.bpWait.any (fun w => w == .req r.id) || s.ktu.stalled.any (fun m => m.who == .req r.id))

def State.cxlEntries (s : State) : Nat := s.tsh.hold.length + s.cxlStuck.length

/-- Opcodes that R49 orders: READ, WRITE, WRITE_MASKED, ATOMIC. -/
def overlapKind (op : Nat) : Bool := op == 1 || op == 2 || op == 3 || op == 0x18

/-- Whether R49 orders a request: the kinds it names, and every CXL.mem access of a line, HDM-DB ones too (R52). -/
def Req.overlaps (r : Req) : Bool := overlapKind r.pkt.opcode || (r.cxl.isSome && decide (0x40 ≤ r.pkt.opcode) && decide (r.pkt.opcode ≤ 0x45))

/-- Bytes a request of these kinds reaches: offset and count (R18, R119); a CXL.mem request on a line reaches the line. -/
def footprint (p : Packet) : Nat × Nat :=
  if p.opcode = 1 then (p.offset, bits p.opw 12 0)
  else if p.opcode = 2 then (p.offset, p.length)
  else if p.opcode = 3 then (p.offset, p.length - 32)
  else if p.opcode = 0x18 then (p.offset, 4 * 2 ^ bits p.opw 18 17)
  else (p.offset, 64)

/-- Two requests touch at least one common sector (R49): their keyway ranges are compared, as the request names them
(log entry 10). -/
def sectorsMeet (p q : Packet) : Bool :=
  let a := footprint p
  let b := footprint q
  decide (p.keyway = q.keyway) && decide (0 < a.2) && decide (0 < b.2)
    && decide (a.1 / 64 ≤ (b.1 + b.2 - 1) / 64) && decide (b.1 / 64 ≤ (a.1 + a.2 - 1) / 64)

/-- The source R49 orders a request by: its node and destination, or its logical device (R52). -/
def State.sourceOf (s : State) (r : Req) : Nat :=
  match r.cxl with
  | some (ld, _) => 8192 + ld
  | none => s.seqKey r.pkt

/-- A request of the same source that overlaps has not committed: a lower-numbered one, or one that started before this one came
(R49). -/
def State.overlapWait (s : State) (r : Req) : Bool :=
  r.overlaps && s.reqs.any fun q =>
    q.id != r.id && s.sourceOf q == s.sourceOf r && q.overlaps && (decide (q.n < r.n) || q.started) && sectorsMeet q.pkt r.pkt

/-- A request handled as ORDERED (R46): flagged, or LATCH_ADD; MGT requests run in sequence order (R533). -/
def orderedLike (p : Packet) : Bool :=
  p.ordered || p.opcode == 0x30 || p.opcode == 0x61 || p.opcode == 0x62

/-- Whether a request may start: its source's lower numbers as R46 and R49 require. -/
def State.mayStart (s : State) (r : Req) : Bool :=
  !s.overlapWait r &&
  (if r.seqd && orderedLike r.pkt then
    match s.seqEntry (s.seqKey r.pkt) with
    | some e => e.allBelow r.n
    | none => true
  else true)

/-- Whether the segment of a request is checked and broken (R47). MGT requests without the flag are only put in order (R533). -/
def State.segmentBroken (s : State) (r : Req) : Bool :=
  r.seqd && (r.pkt.ordered || r.pkt.opcode == 0x30) &&
    match s.seqEntry (s.seqKey r.pkt) with
    | some e => e.broken r.n
    | none => false

/-! ### The end of a request -/

/-- A CXL response of a class (R518), placed in its class queue (R360) as the data it carries, and charged (R363). It leaves as the scheduler lets
it (Pace.lean). -/
def State.cxlAnswer (s : State) (c ld tag kind : Nat) (data : List Byte) : State :=
  let p := ({ dest := 0, src := 0, vc := 3, cls := c, opcode := 0, payload := data } : Form).packet
  { s with txq := s.txq ++ [{ s.queued 6 p (some ld) true with cxl := some (ld, tag, kind) }] }.chargeLink ld (data.length + 16)

/-- Whether the active's standby is in sync and a record of this request awaits its epoch's acknowledgement (R408). -/
def State.mustHold (s : State) : Bool :=
  s.hps.touched && s.f Reg.HPS_STAT.STATE == 2 && s.flag Reg.HPS_STAT.IN_SYNC && s.hps.exempt != some (s.f Reg.HPS_EPOCH_NUM.EPOCH)

/-- The S2M messages that answer a CXL.mem request (R233, R518): data where it reads, a completion where it has one. -/
def cxlAnswers (ld tag o st op : Nat) (payload : List Byte) : List (Nat × Nat × Nat × List Byte) :=
  let poisoned := st == stPOISON || st == stMEDIA_FAIL
  let g := bits op 2 0
  (if o = 1 ∨ o = 0x40 ∨ o = 0x41 ∨ o = 0x43 then
     [(ld, tag, if poisoned then 2 else 1, if st == stMEDIA_FAIL then zeros 64 else payload)] else [])
  ++ (if o = 1 ∨ o = 0x43 then []
      else [(ld, tag, if o = 0x40 ∨ o = 0x41 ∨ o = 0x42 then (if g = 1 then 3 else if g = 0 then 0 else 4) else 0, [])])

/-- Send S2M messages of a class. -/
def State.cxlSend (s : State) (c : Nat) (l : List (Nat × Nat × Nat × List Byte)) : State :=
  l.foldl (fun (u : State) a => u.cxlAnswer c a.1 a.2.1 a.2.2.1 a.2.2.2) s

/-- Answer an admitted request, or hold the answer until its epoch is acknowledged (R236, R408). -/
def State.reply (s : State) (r : Req) (st addr op : Nat) (payload : List Byte) : State :=
  match r.cxl with
  | some (ld, tag) =>
    if 2 ^ 32 ≤ tag then s.boxDone (tag - 2 ^ 32) 0x4302 0 .nothing
    else
      let l := cxlAnswers ld tag r.pkt.opcode st op payload
      if s.mustHold then
        { s with hps := { s.hps with held := s.hps.held ++ [⟨s.f Reg.HPS_EPOCH_NUM.EPOCH, r.pkt, r.pkt, r.port, l⟩] } }
      else s.cxlSend r.pkt.cls l
  | none =>
    let p := s.rspPacket r.pkt st addr op payload
    if s.mustHold then
      { s with hps := { s.hps with held := s.hps.held ++ [⟨s.f Reg.HPS_EPOCH_NUM.EPOCH, p, r.pkt, r.port, []⟩] } }
    else s.sendRsp r.port r.pkt p

/-- End an admitted request: it leaves the chip's list, its number commits (R42), its answer is sent. -/
def State.finish (s : State) (id st addr op : Nat) (payload : List Byte) : State :=
  match s.req? id with
  | none => s
  | some r =>
    let s1 := s.dropReq id
    let s2 := if r.seqd then s1.seqCommit (s.seqKey r.pkt) r.n (breaksSegment st) else s1
    s2.reply r st addr op payload

/-- End an admitted request with RETRY and a hint: it is not charged (R363). -/
def State.finishRetry (s : State) (id h : Nat) : State :=
  (match s.req? id with
   | some r => s.uncharge r
   | none => s).finish id stRETRY 0 (hintWord h) []

/-- Drop an admitted request without an answer (R349). -/
def State.forget (s : State) (id : Nat) : State := s.dropReq id

end Sys2Proof.Machine
end

