-- ==== Sys2Proof/Machine/Memory.lean ====
section
/-! DEFINITION. The pool's memory: sectors and their code words in canonical form, placement on stacks (R36, R37, R239 to
R241, R278), demand and scrub reads with their corrections, poison and records (R265 to R276), writes whole and partial
(R248, R249, R268), the hinge journal of what is written (R405, R406), retirement (R277 to R279), a stack that fails (R281). -/

namespace Sys2Proof.Machine

open Sys2Proof

/-! ### Bytes -/

/-- What an unlisted data byte holds (log entry 4). -/
def memReset (_ : Nat) : Byte := 0

/-- What an unlisted check byte holds: with data of zeros it decodes UNCORRECTABLE (R28, log entry 4). -/
def chkReset (_ : Nat) : Byte := 0xFF

/-- The memory's canonical form: both lists rising, no entry equal to what an unlisted address reads as. -/
def State.memWf (s : State) : Bool := SMap.wf memReset s.mem && SMap.wf chkReset s.chk

/-- One stored byte. -/
def State.byte (s : State) (a : Nat) : Byte := SMap.get memReset s.mem a

/-- The 64 data bytes of the sector at a stored address. -/
def State.sectorData (s : State) (a : Nat) : List Byte := SMap.getRun memReset s.mem (a / 64 * 64) 64

/-- The four check symbols of the sector at a stored address. -/
def State.sectorChk (s : State) (a : Nat) : List Nat :=
  let c := SMap.getRun chkReset s.chk (a / 64 * 8) 8
  (List.range 4).map fun i => leNat (slice c (2 * i) 2)

/-- Store a sector word: data bytes and check symbols. -/
def State.putSector (s : State) (a : Nat) (data : List Byte) (c : List Nat) : State :=
  { s with
    mem := SMap.setRun memReset s.mem (a / 64 * 64) data
    chk := SMap.setRun chkReset s.chk (a / 64 * 8) (c.flatMap fun x => leBytes 2 x) }

/-! ### Placement (R36, R37, R240, R278) -/

/-- The regions of the system carve-out (R15): offset and size of the hinge journal spill, the spare region, the fault rings, the
internal tables. -/
def carveRegions : List (Nat × Nat) :=
  [(0, 0x20000000), (0x20000000, 0x4000000), (0x24000000, 0x1000000), (0x25000000, 0x1B000000)]

/-- PPA of a byte of a region of the carve-out. -/
def Part.regionPpa (p : Part) (region off : Nat) : Nat := p.carve + (carveRegions.getD region (0, 0)).1 + off

/-- PPA of spare k (R277). -/
def Part.sparePpa (p : Part) (k : Nat) : Nat := p.regionPpa 1 (k * 4096)

/-- PPA of slot i of the fault ring (R15, R84). -/
def Part.ringPpa (p : Part) (i : Nat) : Nat := p.regionPpa 2 (32 * i)

/-- The spare a granule is remapped to. -/
def State.spareOf (s : State) (g : Nat) : Option Nat :=
  (s.sc.remap.find? fun e => e.2.1 == g).map (·.2.2)

/-- The stored address of a PPA: remapping acts after translation and before stack selection (R278). -/
def State.phys (s : State) (ppa : Nat) : Nat :=
  match s.spareOf (ppa / 4096) with
  | some k => s.part.sparePpa k + ppa % 4096
  | none => ppa

/-- The fold of a row (R36). -/
def rowFold (row : Nat) : Nat :=
  bits row 3 0 ^^^ bits row 7 4 ^^^ bits row 11 8 ^^^ bits row 15 12 ^^^ bits row 19 16 ^^^ bits row 23 20

/-- The stack-interleave table (R37). -/
def Part.sit (p : Part) (slot : Nat) : Nat := if slot % 2 = 0 then slot / 2 else slot / 2 + p.stacks / 2

/-- Stack of a stored address (R36). -/
def Part.stackOf (p : Part) (a : Nat) : Nat :=
  let g := a / 4096
  let n := p.stacks
  p.sit ((g % n + rowFold (g / n)) % n)

/-- Stack-local address of a stored address (R36). -/
def Part.localOf (p : Part) (a : Nat) : Nat := a / 4096 / p.stacks * 4096 + a % 4096

/-- Channel, pseudo-channel, column, bank and row of a stack-local address (R240). -/
def chOf (l : Nat) : Nat := bits l 11 7 ^^^ bits l 16 12
def pcOf (l : Nat) : Nat := bits l 6 6
def columnOf (l : Nat) : Nat := bits l 15 12
def bankOf (l : Nat) : Nat := bits l 20 16 ^^^ bits l 25 21
def rowOf (l : Nat) : Nat := bits l 35 21

/-- The stack that serves a PPA now, its spare included (R282). -/
def State.stackAt (s : State) (ppa : Nat) : Nat := s.part.stackOf (s.phys ppa)

/-- A stack is FAILED (R281). -/
def State.stackFailed (s : State) (n : Nat) : Bool := s.f (Reg.SC_STAT.STATE n) == 2

/-- A PPA is served by a failed stack (R282). -/
def State.mediaFail (s : State) (ppa : Nat) : Bool := s.stackFailed (s.stackAt ppa)

/-- A PPA is lost to a packet: its stack has failed, or the packet addresses the pair ID and its partition was lost at a takeover
(R282, R402). -/
def State.lostTo (s : State) (p : Packet) (ppa : Nat) : Bool :=
  s.mediaFail ppa || (s.toPair p && match s.ptnOf ppa with
    | some n => bit (s.f Reg.HPS_PTN_LOST.LOST) n
    | none => false)

/-- The ward engine that owns a PPA (R241). -/
def State.engineAt (s : State) (ppa : Nat) : Nat :=
  8 * s.stackAt ppa + chOf (s.part.localOf (s.phys ppa)) / 4

/-! ### The journal (R405, R406) -/

/-- Whether this member records changes: ACTIVE or ACTIVE_SOLO (R405, R427). -/
def State.journalling (s : State) : Bool :=
  s.part.hinge && (s.f Reg.HPS_STAT.STATE == 2 || s.f Reg.HPS_STAT.STATE == 3)

/-- Whether records go to the standby: in ACTIVE, or while a resync is served (R424). -/
def State.journalSends (s : State) : Bool := s.f Reg.HPS_STAT.STATE == 2 || s.hps.resync.isSome

/-- Add a record to the open epoch. -/
def State.journal (s : State) (r : JRec) : State :=
  if s.journalling then
    { s with hps := { s.hps with
        cur := s.hps.cur ++ [r]
        unsent := if s.journalSends then s.hps.unsent ++ [(s.f Reg.HPS_EPOCH_NUM.EPOCH, r)] else s.hps.unsent
        touched := true } }
  else s

/-- A PPA lies in a MIRRORED partition. -/
def State.mirrored (s : State) (ppa : Nat) : Bool :=
  match s.ptnOf ppa with
  | some n => s.flag (Reg.PTN_FLAGS.MIRRORED n)
  | none => false

/-- A PPA lies in a COHERENT partition. -/
def State.coherent (s : State) (ppa : Nat) : Bool :=
  match s.ptnOf ppa with
  | some n => s.flag (Reg.PTN_FLAGS.COHERENT n)
  | none => false

/-- Basic service (R441). -/
def State.basic (s : State) : Bool := s.service == 1

/-- Requests on COHERENT partitions are answered with POISON: in basic service (R441), and after a warm reset until the manager
resumes (R448). -/
def State.cohShut (s : State) : Bool := s.basic || s.flag Reg.GLB_STAT.COH_HELD

/-! ### The poison list (R520) -/

/-- Add a sector to the poison list. -/
def State.poisonList (s : State) (ppa : Nat) (injected : Bool) : State :=
  let k := ppa / 64 * 64
  if s.cxl.poison.any fun e => e.1 == k then s
  else if 512 ≤ s.cxl.poison.length then
    (if s.flag Reg.CXP_POISON_STAT.OVERFLOW then s
     else (((s.setFlag Reg.CXP_POISON_STAT.OVERFLOW true).evt Pg.CXP 4).fault (mkRec 119 0 0x1004)))
  else { s with cxl := { s.cxl with poison := s.cxl.poison ++ [(k, injected)] } }

/-- Remove a sector from the poison list. -/
def State.unpoisonList (s : State) (ppa : Nat) : State :=
  { s with cxl := { s.cxl with poison := s.cxl.poison.filter fun e => e.1 != ppa / 64 * 64 } }

/-! ### Reading and writing sectors -/

/-- Decode the sector at a PPA, with symbol errors laid over the stored word (position 0 to 31 data, 32 to 35 check). -/
def State.decodeSector (s : State) (ppa : Nat) (flips : List (Nat × Nat)) : Decoded :=
  let a := s.phys ppa
  let d := flips.foldl (fun acc e => if e.1 < 32 then flipSym acc e.1 (e.2 % 65536) else acc) (dataSymbols (s.sectorData a))
  let c := flips.foldl (fun acc e => if 32 ≤ e.1 then flipSym acc (e.1 - 32) (e.2 % 65536) else acc) (s.sectorChk a)
  rsDecode (symbolBytes d) c

/-- Write the poison word at a PPA (R266), journalled in a MIRRORED partition; `list` adds it to the poison list (R520). -/
def State.poisonSector (s : State) (ppa : Nat) : State :=
  let s1 := s.putSector (s.phys ppa) (zeros 64) poisonChecks
  if s1.mirrored ppa then s1.journal (.poison (ppa / 64 * 64) 1) else s1

/-- Store 64 encoded bytes at a PPA without journalling. -/
def State.storeSector (s : State) (ppa : Nat) (data : List Byte) : State :=
  s.putSector (s.phys ppa) data (rsEncode (dataSymbols data))

/-- A full-sector write at a PPA (R249, R268): encoded, the poison list's entry removed (R520), journalled in a MIRRORED
partition. -/
def State.writeSector (s : State) (ppa : Nat) (data : List Byte) : State :=
  let s1 := (s.storeSector ppa data).unpoisonList ppa
  if s1.mirrored ppa then s1.journal (.sectors (ppa / 64 * 64) data) else s1

/-! ### Failing stacks (R281) -/

/-- Requests held for a stack go on: those at their port for room (R258), and those parked for a locked granule or a quiesced channel. -/
def State.wakeStack (s : State) (n : Nat) : State :=
  let mine := s.sc.held.filter fun h => h.stack == n
  { s with
    sc := { s.sc with held := s.sc.held.filter fun h => h.stack != n, parked := [] }
    ktu := { s.ktu with wakes := s.ktu.wakes ++ (mine.map (·.id) ++ s.sc.parked).map fun id => (Waiter.req id, Wake.again) } }

/-- Enter FAILED with a cause: recorded once, events set, the stack's queued commands lost, what waited for it told (R282). On a pair
member the state machine is told at the end of the step (R420, R283). -/
def State.failStack (s : State) (n cause : Nat) : State :=
  if s.stackFailed n then s
  else
    let s1 := (s.setF (Reg.SC_STAT.STATE n) 2).setF (Reg.SC_STAT.FAIL_CAUSE n) cause
    let s2 := { s1 with sc := { s1.sc with
        pend := s1.sc.pend.filter fun x => x.stack != n
        wait := s1.sc.wait.filter fun x => x.stack != n
        panic := s1.sc.panic.filter fun x => x / 32 != n
        cmds := s1.sc.cmds.filter fun x => x.q / 64 != n
        reads := s1.sc.reads.filter fun x => x.q / 64 != n } }
    (s2.wakeStack n |>.evt (Pg.SC n) 5).fault (mkRec (100 + n) 2 0x0706)

/-- Note an uncorrectable decode toward UE_STORM (R281): FAIL_THRESH of them within one second fail the stack. -/
def State.noteUe (s : State) (n : Nat) : State :=
  let recent := s.sc.ue.filter fun e => e.1 != n || decide (s.time < e.2 + 1000000000)
  let ue := recent ++ [(n, s.time)]
  let s1 := { s with sc := { s.sc with ue := ue } }
  let th := s1.f (Reg.SC_UE_CTRL.FAIL_THRESH n)
  if th ≠ 0 ∧ th ≤ (ue.filter fun e => e.1 == n).length then s1.failStack n 3 else s1

/-- An uncorrectable decode on demand or by the scrubber (R267, R272): poison written, counted, listed, recorded. A standby's
scrubber asks the active for the granule (R426). -/
def State.uncorrectable (s : State) (ppa code b : Nat) (node : Nat) : State :=
  let n := s.stackAt ppa
  let s1 := ((s.poisonSector ppa).poisonList ppa false).bump (Reg.SC_UE_CNT.OFF n)
  let s2 := (s1.evt (Pg.SC n) 2).fault
    { mkRec (100 + n) 1 code with addr := ppa / 64 * 64, addrPpa := true, sub := b, node := node }
  let s3 := s2.noteUe n
  let g := ppa / 4096 * 4096
  if code == 0x0702 && s3.part.hinge && s3.f Reg.HPS_STAT.STATE == 4 && s3.mirrored ppa && !s3.hps.repairs.contains g
      && !s3.hps.repairAsk.contains g then
    { s3 with hps := { s3.hps with repairAsk := s3.hps.repairAsk ++ [g] } }
  else s3

/-! ### Correctable errors and retirement (R274 to R279) -/

/-- The lowest free spare whose granule lies on neither a stack nor a FAILED stack (R277). -/
def State.freeSpare (s : State) (n : Nat) : Option Nat :=
  (List.range 16384).find? fun k =>
    let st := s.part.stackOf (s.part.sparePpa k)
    !(s.sc.remap.any fun e => e.2.2 == k) && !s.sc.superseded.contains k && !(s.sc.retire.any fun r => r.spare == k)
      && st != n && !s.stackFailed st

/-- Start retiring the granule of a PPA (R277 steps 1 and 2, R279). -/
def State.retireStart (s : State) (ppa : Nat) : State :=
  let g := ppa / 4096
  if s.sc.retire.any fun r => r.granule == g then s
  else match s.freeSpare (s.stackAt ppa) with
    | none =>
      ((List.range s.part.stacks).foldl (fun acc n => acc.evt (Pg.SC n) 4) s).fault
        { mkRec (100 + s.stackAt ppa) 0 0x0705 with addr := g * 4096, addrPpa := true }
    | some k =>
      { s with sc := { s.sc with retire := s.sc.retire ++ [⟨g, k, (s.sc.remap.find? fun e => e.2.1 == g).map (·.1)⟩] } }

/-- Whether a granule is locked by a retirement (R277). -/
def State.granuleLocked (s : State) (g : Nat) : Bool := s.sc.retire.any fun r => r.granule == g

/-- Count a correction of a sector in the tracking table (R275), and retire its granule at 4 (R276). -/
def State.trackCorrection (s : State) (ppa : Nat) : State :=
  let n := s.stackAt ppa
  let k := ppa / 64 * 64
  match s.sc.track.find? fun e => e.1 == n && e.2.1 == k with
  | some e =>
    let c := e.2.2 + 1
    let s1 := { s with sc := { s.sc with
      track := mapIf (fun x => x.1 == n && x.2.1 == k) (fun x => (x.1, x.2.1, c)) s.sc.track } }
    if c = 4 then s1.retireStart ppa else s1
  | none =>
    let mine := s.sc.track.filter fun e => e.1 == n
    if mine.length < 1024 then { s with sc := { s.sc with track := s.sc.track ++ [(n, k, 1)] } }
    else match mine.find? fun e => e.2.2 == 1 with
      | some v => { s with sc := { s.sc with track := (s.sc.track.filter fun e => !(e.1 == n && e.2.1 == v.2.1)) ++ [(n, k, 1)] } }
      | none => s

/-- Count a corrected decode (R274). -/
def State.countCorrected (s : State) (n : Nat) : State :=
  let s1 := s.bump (Reg.SC_CE_CNT.OFF n)
  let l := s1.f (Reg.SC_CE_BUCKET.LEVEL n) + 1
  if s1.f (Reg.SC_CE_CTRL.THRESH n) ≤ l then
    ((s1.setF (Reg.SC_CE_BUCKET.LEVEL n) 0).evt (Pg.SC n) 1).fault (mkRec (100 + n) 0 0x0703)
  else s1.setF (Reg.SC_CE_BUCKET.LEVEL n) (min l 65535)

/-- A corrected decode: written back (R269, R271), counted (R274) and tracked (R275). -/
def State.corrected (s : State) (ppa : Nat) (data : List Byte) : State :=
  let n := s.stackAt ppa
  ((s.storeSector ppa data).countCorrected n).trackCorrection ppa

/-- A demand read of a sector (R267, R269): its 64 bytes and whether it is poison. -/
def State.demandSector (s : State) (ppa b node : Nat) (flips : List (Nat × Nat)) : State × List Byte × Bool :=
  match s.decodeSector ppa flips with
  | .clean d => (s, d, false)
  | .corrected d => (s.corrected ppa d, d, false)
  | .poisoned exact =>
    let s1 := s.bump (Reg.SC_POISON_RD_CNT.OFF (s.stackAt ppa))
    (if exact then s1 else s1.putSector (s1.phys ppa) (zeros 64) poisonChecks, zeros 64, true)
  | .uncorrectable => (s.uncorrectable ppa 0x0701 b node, zeros 64, true)

/-- A partial write of a sector (R249): merged into its decoded data, or poison stays; enabled bytes only. -/
def State.mergeSector (s : State) (ppa b node : Nat) (put : Nat → Option Byte) : State × Bool :=
  let r := s.demandSector ppa b node []
  if r.2.2 then (r.1.poisonSector ppa, true)
  else (r.1.writeSector ppa ((List.range 64).map fun i => (put i).getD (byteAt r.2.1 i)), false)

/-- Write bytes at a PPA within one granule: byte i of the range is v i where it is enabled. Whole sectors are written without a
merge read (R249). Answers whether a merged sector stayed poisoned. -/
def State.writeRange (s : State) (ppa len b node : Nat) (v : Nat → Option Byte) : State × Bool :=
  if len = 0 then (s, false)
  else
    (upTo (ppa / 64) ((ppa + len - 1) / 64 + 1)).foldl (fun acc k =>
      let put (i : Nat) : Option Byte :=
        let a := k * 64 + i
        if ppa ≤ a ∧ a < ppa + len then v (a - ppa) else none
      let full := (List.range 64).all fun i => (put i).isSome
      let none' := (List.range 64).all fun i => (put i).isNone
      if none' then acc
      else if full then (acc.1.writeSector (k * 64) ((List.range 64).map fun i => (put i).getD 0), acc.2)
      else
        let m := acc.1.mergeSector (k * 64) b node put
        (m.1, acc.2 || m.2)) (s, false)

/-- Read bytes at a PPA within one granule: the bytes and the mask of poisoned sectors of the granule (R18). -/
def State.readRange (s : State) (ppa len b node : Nat) : State × List Byte × Nat :=
  if len = 0 then (s, [], 0)
  else
    (upTo (ppa / 64) ((ppa + len - 1) / 64 + 1)).foldl (fun acc k =>
      let d := acc.1.demandSector (k * 64) b node []
      let lo := max ppa (k * 64)
      let hi := min (ppa + len) (k * 64 + 64)
      (d.1, acc.2.1 ++ slice d.2.1 (lo - k * 64) (hi - lo), if d.2.2 then acc.2.2 + 2 ^ (k % 64) else acc.2.2))
      (s, [], 0)

/-! ### Availability -/

/-- A channel of the stack that serves a sector is quiesced (R244). -/
def State.channelHeld (s : State) (ppa : Nat) : Bool :=
  let a := s.phys ppa
  bit (s.f (Reg.SC_CH_QSC.QSC (s.part.stackOf a))) (chOf (s.part.localOf a))

/-- Some sector of a range waits for a locked granule or a quiesced channel (R244, R277). -/
def State.memHeld (s : State) (ppa len : Nat) : Bool :=
  s.granuleLocked (ppa / 4096)
  || (decide (0 < len) && (upTo (ppa / 64) ((ppa + len - 1) / 64 + 1)).any fun k => s.channelHeld (k * 64))

/-- Park a request until a granule is unlocked or a channel released (R244, R277). -/
def State.park (s : State) (id : Nat) : State := { s with sc := { s.sc with parked := s.sc.parked ++ [id] } }

/-! ### Real-time panic (R252) -/

/-- Real-time accesses a requester has pending on a stack. -/
def State.rtPending (s : State) (n i : Nat) : Nat :=
  (s.sc.pend.filter fun x => x.stack == n && x.requester == i && x.rt).length

/-- A requester is in panic on a stack. -/
def State.inPanic (s : State) (n i : Nat) : Bool := s.sc.panic.contains (n * 32 + i)

/-- Enter and leave panic on a stack. -/
def State.panicTest (s : State) (n : Nat) : State :=
  let th := s.f (Reg.SC_RT.PANIC_THR n)
  (List.range 17).foldl (fun acc i =>
    let c := acc.rtPending n i
    if acc.inPanic n i then
      (if c ≤ th / 2 then { acc with sc := { acc.sc with panic := acc.sc.panic.filter fun x => x != n * 32 + i } } else acc)
    else if th ≤ c then
      { acc with sc := { acc.sc with panic := acc.sc.panic ++ [n * 32 + i] } }.bump (Reg.SC_PANIC_CNT.OFF n)
    else acc) s

/-- Some requester is in panic on a stack. -/
def State.panicking (s : State) (n : Nat) : Bool := s.sc.panic.any fun x => x / 32 == n

/-! ### Accesses (R253, R254, R258) -/

/-- Arbiter requester of an ingress port (R253): SWP0 to SWP3, CXL, hinge. -/
def requesterOf (port : Nat) (cxl : Bool) : Nat := if cxl then 4 else if port < 4 then port else 5

/-- The requester of the local ward engine that owns a PPA (R241, R253). -/
def State.wardRequester (s : State) (ppa : Nat) : Nat := 6 + s.engineAt ppa % 8

/-- A requester's pending queue on a stack is full. -/
def State.pendFull (s : State) (n i : Nat) : Bool := decide (32 ≤ (s.sc.pend.filter fun x => x.stack == n && x.requester == i).length)

/-- The head of a requester's pending queue on a stack becomes the head now (R257). -/
def State.newHead (s : State) (n i : Nat) : State :=
  { s with sc := { s.sc with heads := SMap.set (fun _ => 0) s.sc.heads (n * 32 + i) (s.time * 2 ^ 64 + s.sc.turn) } }

/-- An access enters its pending queue; its requester may enter panic with it (R252). -/
def State.enqueue (s : State) (x : Access) : State :=
  let first := !(s.sc.pend.any fun y => y.stack == x.stack && y.requester == x.requester)
  let s1 := { s with sc := { s.sc with pend := s.sc.pend ++ [{ x with since := s.time }] } }
  (if first then s1.newHead x.stack x.requester else s1).panicTest x.stack

/-- Offer an access of a class to its stack's arbiter; behind a full pending queue its requester waits to offer it (R258). A failed stack
takes none. -/
def State.queueAccess (s : State) (requester ppa len c : Nat) (write : Bool) (puts : List (Nat × Bool)) : State :=
  let n := s.stackAt ppa
  let rt := bit (s.f (Reg.SC_RT.RT_MASK n)) requester || (s.flag (Reg.SC_RT.RT_INTERACTIVE n) && c == 0)
  let x : Access := ⟨n, requester, ppa, len, write, rt, s.time, puts⟩
  if s.stackFailed n then s
  else if s.pendFull n requester || s.sc.wait.any (fun y => y.stack == n && y.requester == requester) then
    { s with sc := { s.sc with wait := s.sc.wait ++ [x] } }
  else s.enqueue x

/-- The sectors of a range, as a write of all its bytes writes them: whole where it covers all 64 bytes. -/
def rangePuts (ppa len : Nat) : List (Nat × Bool) :=
  if len = 0 then []
  else (upTo (ppa / 64) ((ppa + len - 1) / 64 + 1)).map fun k => (k, decide (ppa ≤ k * 64) && decide (k * 64 + 64 ≤ ppa + len))

/-- The accesses of one requester to a range, granule by granule. -/
def State.rangeAccess (s : State) (i ppa len : Nat) (write : Bool) : State :=
  if len = 0 then s
  else (upTo (ppa / 4096) ((ppa + len - 1) / 4096 + 1)).foldl (fun (u : State) g =>
    let lo := max ppa (g * 4096)
    let hi := min (ppa + len) (g * 4096 + 4096)
    u.queueAccess i lo (hi - lo) 3 write (if write then rangePuts lo (hi - lo) else [])) s

/-- The context's save area (R15, R129): 4 KiB for each context at the start of the internal tables (DESIGN CHOICE, log entry 93). -/
def Part.savePpa (p : Part) (ctx : Nat) : Nat := p.regionPpa 3 (4096 * ctx)

/-- The merge unit stages some bytes of a context's open partials (R129, R253). -/
def State.stage (s : State) (ctx bytes : Nat) : State := s.rangeAccess 16 (s.part.savePpa ctx) (min 4096 bytes) true

/-- The accesses of the engines that own the bytes of a stretch (R91): each engine's own 512 bytes of a granule (R240, R241). -/
def State.wardAccess (s : State) (ppa len c : Nat) (write : Bool) : State :=
  if len = 0 then s
  else (upTo (ppa / 512) ((ppa + len - 1) / 512 + 1)).foldl (fun (u : State) k =>
    let lo := max ppa (k * 512)
    let hi := min (ppa + len) (k * 512 + 512)
    u.queueAccess (u.wardRequester lo) lo (hi - lo) c write (if write then rangePuts lo (hi - lo) else [])) s

end Sys2Proof.Machine
end

