-- ==== Sys2Proof/Machine/Keyway.lean ====
section
/-! DEFINITION. The keyway translation unit: descriptors (R59 to R62), the checks of R67, the range cache (R69, R70), the walker
(R71 to R73), malformed tables (R64, R66), invalidation (R74 to R79). -/

namespace Sys2Proof.Machine

open Sys2Proof

/-! ### Descriptors (R60) -/

/-- A keyway's descriptor as a 256-bit number. -/
def State.desc (s : State) (k : Nat) : Nat := SMap.get (fun _ => 0) s.ktu.descs k

def descValid (d : Nat) : Bool := bit d 0
def descSpan (d : Nat) : Bool := bit d 1
def descOwner (d : Nat) : Nat := bits d 13 8
def descN1 (d : Nat) : Nat := bits d 19 16
def descIdx (d : Nat) : Nat := bits d 23 20
def descCount (d : Nat) : Nat := bits d 48 32
def descRoot (d : Nat) : Nat := bits d 127 69 * 32

/-- The bits of a descriptor that R60 defines. -/
def descMask (d : Nat) : Nat :=
  bits d 1 0 + bits d 13 8 * 2 ^ 8 + bits d 23 16 * 2 ^ 16 + bits d 48 32 * 2 ^ 32 + bits d 127 69 * 2 ^ 69

/-! ### Spans (R38) -/

/-- The stripe unit. -/
def stripe : Nat := 2097152

/-- The member that holds a span offset. -/
def spanMember (n o : Nat) : Nat := o / stripe % n

/-- The chip-local offset of a span offset on its member. -/
def spanLocal (n o : Nat) : Nat := o / (stripe * n) * stripe + o % stripe

/-- Bytes of member c's stripes below a span offset. -/
def spanBelow (n c o : Nat) : Nat := o / (stripe * n) * stripe + min stripe (o % (stripe * n) - c * stripe)

/-! ### Checks of R67 -/

/-- What an access needs of its range (R34). -/
structure Need where
  r : Bool
  w : Bool
  ward : Bool
  deriving DecidableEq, Repr

/-- Steps 1 and 2 of R67: the chip-local offset, or the cause. -/
def State.kwLocal (s : State) (sub kw off : Nat) : Cause ⊕ Nat :=
  let d := s.desc kw
  if descValid d = false ∨ descOwner d ≠ sub then .inl .noMapping
  else if descSpan d then
    let n := descN1 d + 1
    if spanMember n off = descIdx d then .inr (spanLocal n off) else .inl .foreignStripe
  else .inr off

/-- The permission bits a subscriber holds on a partition (R33), none where it neither owns it nor holds a grant on it. -/
def State.ptnPerm (s : State) (sub n : Nat) : Option Nat :=
  if s.f (Reg.PTN_OWNER.OWNER n) = sub then some 7
  else
    let gs := (List.range 256).filter fun k => s.flag (Reg.PTN_GNT.VALID k) && s.f (Reg.PTN_GNT.PARTITION k) == n
      && s.f (Reg.PTN_GNT.GRANTEE k) == sub
    if gs.isEmpty then none
    else some (gs.foldl (fun acc k => acc ||| bits (s.word (Reg.PTN_GNT.OFF k)) 18 16) 0)

/-- Whether permission bits (R, W, WARD) meet a need; the cause where they do not. -/
def permLacks (p : Nat) (n : Need) : Option Cause :=
  if (n.r && !bit p 0) || (n.w && !bit p 1) then some .permission
  else if n.ward && !bit p 2 then some .wardPermission
  else none

/-- Steps 4 to 6 of R67 for a PPA reached through a range of permissions perm, and the write of a MIRRORED partition that a member
without the lease may not make (R401). -/
def State.accessLacks (s : State) (sub perm ppa : Nat) (n : Need) : Option Cause :=
  match permLacks perm n with
  | some c => some c
  | none =>
    if s.part.carve ≤ ppa then some .carveOut
    else match s.ptnOf ppa with
      | none => some .partition
      | some e => match s.ptnPerm sub e with
        | none => some .partition
        | some p => match permLacks p n with
          | some c => some c
          | none => if n.w && s.flag Reg.HPS_CTRL.PAIR_EN && !s.flag Reg.RTB_NODE.PAIR_VALID
              && s.flag (Reg.PTN_FLAGS.MIRRORED e) then some .permission else none

/-! ### The range cache (R69, R70) -/

def noEnt : CacheEnt := ⟨0, 0, 0, 0, 0, false⟩

/-- The set of a keyway. -/
def kwSet (k : Nat) : Nat := bits k 6 0 ^^^ bits k 11 7

def State.way (s : State) (set w : Nat) : CacheEnt := SMap.get (fun _ => noEnt) s.ktu.cache (set * 16 + w)

def State.setWay (s : State) (set w : Nat) (e : CacheEnt) : State :=
  { s with ktu := { s.ktu with cache := SMap.set (fun _ => noEnt) s.ktu.cache (set * 16 + w) e } }

/-- The path of a way in the set's tree, level by level from the root: node index and direction bit (log entry 6). -/
def plruPath (w : Nat) : List (Nat × Bool) :=
  [(1, bit w 3), (2 + bits w 3 3, bit w 2), (4 + bits w 3 2, bit w 1), (8 + bits w 3 1, bit w 0)]

/-- Note a use of a way: each node on its path points away from it. -/
def State.touchWay (s : State) (set w : Nat) : State :=
  let t := (plruPath w).foldl (fun acc e => putBit acc e.1 (!e.2)) (SMap.get (fun _ => 0) s.ktu.plru set)
  { s with ktu := { s.ktu with plru := SMap.set (fun _ => 0) s.ktu.plru set t } }

/-- The way to which a tree leads among the ways a test accepts: at each node the way the node points, where a way below it is accepted. From a
node at a height. -/
def plruAmong (t : Nat) (ok : Nat → Bool) : Nat → Nat → Nat
  | 0, n => n - 16
  | h + 1, n =>
    let a := 2 * n + b2n (bit t n)
    plruAmong t ok h (if (List.range (2 ^ h)).any fun i => ok (a * 2 ^ h + i - 16) then a else a ^^^ 1)

/-- The way the set's tree names. -/
def State.plruWay (s : State) (set : Nat) : Nat := plruAmong (SMap.get (fun _ => 0) s.ktu.plru set) (fun _ => true) 4 1

/-- The way that covers an offset of a keyway, the lowest where several do (log entry 6). -/
def State.findWay (s : State) (kw loc : Nat) : Option (Nat × CacheEnt) :=
  ((List.range 16).map fun w => (w, s.way (kwSet kw) w)).find? fun e =>
    e.2.kw == kw && decide (e.2.vstart ≤ loc) && decide (loc < e.2.vstart + e.2.len)

/-- Install an entry over the victim R70 names: a gap entry of the keyway, else any gap entry, else the way of the set's tree, which
also gives the empty ways of the set their turn (log entry 6). -/
def State.install (s : State) (e : CacheEnt) : State :=
  let set := kwSet e.kw
  let ways := (List.range 16).map fun w => (w, s.way set w)
  let pick (t : CacheEnt → Bool) : Option Nat := (ways.find? fun x => t x.2).map (·.1)
  let w := ((pick fun x => x.gap && x.kw == e.kw).orElse fun _ => pick fun x => x.gap).getD (s.plruWay set)
  (s.setWay set w e).touchWay set w

/-- Look up an offset: a hit uses its way and counts, a miss counts (R87). DESIGN CHOICE: a look-up made again after a walk or a wait
counts again; the spec is silent on it (log entry 87). -/
def State.lookup (s : State) (kw loc : Nat) : State × Option CacheEnt :=
  match s.findWay kw loc with
  | some (w, e) => ((s.touchWay (kwSet kw) w).bump Reg.KTU_HIT_CNT.OFF, some e)
  | none => (s.bump Reg.KTU_MISS_CNT.OFF, none)

/-! ### Translation (R67, R68) -/

/-- What the translation of the byte at an offset finds: a PPA with the range it came through, a violation with the extent to
which the same cause is known to hold and the entry (start, length) that gave it, if one did, or a miss at a chip-local offset. -/
inductive Xl where
  | ok (ppa : Nat) (vstart len room : Nat)
  | viol (c : Cause) (room : Nat) (via : Option (Nat × Nat))
  | miss (loc : Nat)
  deriving DecidableEq, Repr

/-- Bytes from an offset to the next multiple of m. -/
def toNext (o m : Nat) : Nat := m - o % m

/-- What a cached entry makes of the byte at a chip-local offset (R67 steps 3 to 6); at most `cap` bytes share the outcome. -/
def State.xlateIn (s : State) (sub loc cap : Nat) (n : Need) (e : CacheEnt) : Xl :=
  let rest := min cap (e.vstart + e.len - loc)
  if e.gap then .viol .noMapping rest (some (e.vstart, e.len))
  else
    let ppa := e.ppa + (loc - e.vstart)
    let room := min rest (toNext ppa (2 ^ 30))
    match s.accessLacks sub e.perm ppa n with
    | some c => .viol c room (some (e.vstart, e.len))
    | none => .ok ppa e.vstart e.len room

/-- Bytes from an offset of a keyway that lie in one stripe. -/
def State.stripeRoom (s : State) (kw off : Nat) : Nat := if descSpan (s.desc kw) then toNext off stripe else 2 ^ 44

/-- A violation met before the range cache is asked (R67 steps 1 and 2). -/
def kwViol (c : Cause) (off : Nat) : Xl := .viol c (if c = .foreignStripe then toNext off stripe else 2 ^ 44) none

/-- Translate the byte at an offset (R67); `room` is how many bytes from it share the outcome. -/
def State.xlate (s : State) (sub kw off : Nat) (n : Need) : State × Xl :=
  match s.kwLocal sub kw off with
  | .inl c => (s, kwViol c off)
  | .inr loc => match s.lookup kw loc with
    | (s1, none) => (s1, .miss loc)
    | (s1, some e) => (s1, s1.xlateIn sub loc (s.stripeRoom kw off) n e)

/-- The same without a use of the range cache or a count of it: what the cache holds now. -/
def State.peek (s : State) (sub kw off : Nat) (n : Need) : Xl :=
  match s.kwLocal sub kw off with
  | .inl c => kwViol c off
  | .inr loc => match s.findWay kw loc with
    | none => .miss loc
    | some e => s.xlateIn sub loc (s.stripeRoom kw off) n e.2

/-! ### The walker (R71 to R73) -/

/-- Entry i of a range table from its 32 bytes (R64). -/
def tblEnt (b : List Byte) : TblEnt :=
  ⟨leNat (slice b 0 8), leNat (slice b 8 8), leNat (slice b 16 8), leNat (slice b 24 8)⟩

/-- An entry that breaks a reserved bit, alignment or bound of R64 (R66). -/
def Part.entBad (p : Part) (e : TblEnt) : Bool :=
  decide (2 ^ 44 ≤ e.vstart) || decide (2 ^ 45 ≤ e.len) || decide (2 ^ 40 ≤ e.ppa) || decide (8 ≤ e.perm)
  || e.vstart % 4096 != 0 || e.len % 4096 != 0 || e.ppa % 4096 != 0 || e.len == 0
  || decide (2 ^ 44 < e.vstart + e.len) || decide (p.ppaEnd < e.ppa + e.len)

/-- Entry i is out of order with one the walk has read (R66). -/
def outOfOrder (seen : List (Nat × TblEnt)) (i : Nat) (e : TblEnt) : Bool :=
  seen.any fun x => (decide (x.1 < i) && decide (e.vstart < x.2.vstart + x.2.len))
    || (decide (i < x.1) && decide (x.2.vstart < e.vstart + e.len))

/-- The walk running in a slot. -/
def State.walkAt (s : State) (i : Nat) : Option Walk := (s.ktu.walks.find? fun e => e.1 == i).map (·.2)

def State.setWalk (s : State) (i : Nat) (w : Walk) : State :=
  { s with ktu := { s.ktu with walks := (s.ktu.walks.filter fun e => e.1 != i) ++ [(i, w)] } }

def State.dropWalk (s : State) (i : Nat) : State :=
  { s with ktu := { s.ktu with walks := s.ktu.walks.filter fun e => e.1 != i } }

/-- Tell a waiter something within this step. -/
def State.wake (s : State) (w : Waiter) (k : Wake) : State :=
  { s with ktu := { s.ktu with wakes := s.ktu.wakes ++ [(w, k)] } }

/-- Host address and length of the read a walk waits for (R72). -/
def Walk.read (w : Walk) (d : Nat) : Nat × Nat :=
  if w.lo < w.hi then (descRoot d + 32 * ((w.lo + w.hi + 1) / 2), 32)
  else
    let a := descRoot d + 32 * w.lo
    if w.half.isSome then (a + 32, 32)
    else if w.lo + 1 < descCount d ∧ a / 4096 = (a + 32) / 4096 then (a, 64)
    else (a, 32)

/-- Subscriber and source node of a waiter's request; 0xFFF for CXL requests (R82). -/
def State.waiterFrom (s : State) (who : Waiter) : Nat × Nat :=
  match s.req? (match who with
    | .req id => id
    | .chunk op _ => op) with
  | some r => (r.pkt.sub, if r.cxl.isSome then 0xFFF else r.pkt.src)
  | none => (0, 0xFFF)

/-- A walk or miss that ends under R73: counted, recorded for the request whose miss it was, its event set. -/
def State.fetchFailed (s : State) (kw off : Nat) (who : Waiter) : State :=
  let f := s.waiterFrom who
  ((s.bump Reg.KTU_FETCH_ERR_CNT.OFF).evt Pg.KTU 2).fault
    { mkRec 2 2 0x0111 with addr := off, kw := kw, kwValid := true, sub := f.1, node := f.2 }

/-- End a walk under R73: the owner and every queued miss of the keyway back off with hint 0xFF. -/
def State.walkFail (s : State) (i : Nat) (w : Walk) : State :=
  let mine := s.ktu.missq.filter fun m => m.kw == w.kw
  let s1 := (s.dropWalk i).fetchFailed w.kw w.off w.owner
  let s2 := { s1 with ktu := { s1.ktu with missq := s1.ktu.missq.filter fun m => m.kw != w.kw } }
  mine.foldl (fun acc m => acc.wake m.who (.retry 0xFF)) (s2.wake w.owner (.retry 0xFF))

/-- Whether the walker can read host memory (R71, R73). -/
def State.walkerOn (s : State) : Bool := s.flag Reg.KTU_CTRL.WALK_EN && s.bme (s.f Reg.KTU_CTRL.WALK_LD)

/-- Issue a walk's next read, through the logical device of WALK_LD (R71); without the walker the walk ends under R73. -/
def State.walkRead (s : State) (i : Nat) (w : Walk) : State :=
  if s.walkerOn = false then s.walkFail i w
  else
    let r := w.read (s.desc w.kw)
    ((s.setWalk i w).bump Reg.KTU_FETCH_CNT.OFF).emit (.walkRead (s.f Reg.KTU_CTRL.WALK_LD) i r.1 r.2)

/-- Start a walk in a slot from the beginning: with no entries it installs the whole gap at once (R72). -/
def State.walkStart (s : State) (i kw off : Nat) (owner : Waiter) : State :=
  let n := descCount (s.desc kw)
  if n = 0 then
    ((s.dropWalk i).install ⟨kw, 0, 2 ^ 44, 0, 0, true⟩).wake owner .again
  else s.walkRead i ⟨kw, off, owner, 0, n - 1, [], none⟩

/-- End a walk at a malformed entry (R66). -/
def State.walkMalformed (s : State) (i : Nat) (w : Walk) : State :=
  (((s.dropWalk i).bump Reg.KTU_MALFORMED_CNT.OFF).evt Pg.KTU 3).wake w.owner .malformed

/-- What a finished search installs (R72). -/
def State.walkInstall (s : State) (i : Nat) (w : Walk) (e : TblEnt) (n : Option TblEnt) : State :=
  let ent (x : TblEnt) : CacheEnt := ⟨w.kw, x.vstart, x.len, x.ppa, x.perm, false⟩
  let gap (a b : Nat) : CacheEnt := ⟨w.kw, a, b - a, 0, 0, true⟩
  let s0 := s.dropWalk i
  let s1 :=
    if w.off < e.vstart then s0.install (gap 0 e.vstart)
    else if w.off < e.vstart + e.len then
      (match n with
       | some x => (s0.install (ent e)).install (ent x)
       | none => s0.install (ent e))
    else s0.install (gap (e.vstart + e.len) (match n with
      | some x => x.vstart
      | none => 2 ^ 44))
  s1.wake w.owner .again

/-- A walk's read returns data (R72). -/
def State.walkData (s : State) (i : Nat) (w : Walk) (data : List Byte) : State :=
  let bad (seen : List (Nat × TblEnt)) (k : Nat) (e : TblEnt) : Bool := s.part.entBad e || outOfOrder seen k e
  let e := tblEnt (slice data 0 32)
  if w.lo < w.hi then
    let mid := (w.lo + w.hi + 1) / 2
    if bad w.seen mid e then s.walkMalformed i w
    else
      let seen := w.seen ++ [(mid, e)]
      s.walkRead i (if w.off < e.vstart then { w with hi := mid - 1, seen := seen } else { w with lo := mid, seen := seen })
  else match w.half with
    | some first =>
      if bad w.seen (w.lo + 1) e then s.walkMalformed i w else s.walkInstall i w first (some e)
    | none =>
      if bad w.seen w.lo e then s.walkMalformed i w
      else if w.lo + 1 < descCount (s.desc w.kw) then
        let seen := w.seen ++ [(w.lo, e)]
        if (w.read (s.desc w.kw)).2 = 64 then
          let x := tblEnt (slice data 32 32)
          if bad seen (w.lo + 1) x then s.walkMalformed i w else s.walkInstall i w e (some x)
        else s.walkRead i { w with seen := seen, half := some e }
      else s.walkInstall i w e none

/-- A miss (R71): it starts a walk, or waits, or, where it cannot, its waiter is told to back off. DESIGN CHOICE: KTU_MISSQ_FULL_CNT
counts a ward chunk that meets the full queue too, though a chunk is not answered RETRY (log entry 87). -/
def State.miss (s : State) (kw off : Nat) (who : Waiter) : State :=
  if s.walkerOn = false then (s.fetchFailed kw off who).wake who (.retry 0xFF)
  else if s.ktu.walks.any (fun e => e.2.kw == kw) ∨ 32 ≤ s.ktu.walks.length then
    if 256 ≤ s.ktu.missq.length then (s.bump Reg.KTU_MISSQ_FULL_CNT.OFF).wake who (.retry 0x05)
    else { s with ktu := { s.ktu with missq := s.ktu.missq ++ [⟨kw, off, who⟩] } }
  else match (List.range 32).find? fun i => (s.walkAt i).isNone with
    | some i => s.walkStart i kw off who
    | none => s

/-- Start again every running walk that a test names (R62, R75), each under the current descriptor. -/
def State.restartWalks (s : State) (t : Walk → Bool) : State :=
  (s.ktu.walks.filter fun e => t e.2).foldl (fun acc e => acc.walkStart e.1 e.2.kw e.2.off e.2.owner) s

/-- Without the walker every walk and every queued miss ends at once (R71, R73). -/
def State.walkerGone (s : State) : State :=
  if s.walkerOn || (s.ktu.walks.isEmpty && s.ktu.missq.isEmpty) then s
  else
    let s1 := s.ktu.walks.foldl (fun acc e => acc.walkFail e.1 e.2) s
    s1.ktu.missq.foldl (fun acc m => (acc.fetchFailed m.kw m.off m.who).wake m.who (.retry 0xFF))
      { s1 with ktu := { s1.ktu with missq := [] } }

/-- A waiter leaves the walker: its miss is forgotten, and a walk it owns ends without a result (R62, R349). -/
def State.dropWaiter (s : State) (who : Waiter) : State :=
  { s with ktu := { s.ktu with
      walks := s.ktu.walks.filter fun e => e.2.owner != who
      missq := s.ktu.missq.filter fun m => m.who != who
      stalled := s.ktu.stalled.filter fun m => m.who != who
      wakes := s.ktu.wakes.filter fun w => w.1 != who } }

/-! ### Invalidation (R74 to R77) -/

/-- An interval of chip-local offsets of a keyway (none: all keyways) that an invalidation covers. -/
structure InvScope where
  kw : Option Nat
  lo : Nat
  hi : Nat
  deriving DecidableEq, Repr

/-- Whether an interval of a keyway meets a scope. -/
def InvScope.meets (c : InvScope) (kw vstart len : Nat) : Bool :=
  match c.kw with
  | none => true
  | some k => k == kw && decide (vstart < c.hi) && decide (c.lo < vstart + len) && decide (c.lo < c.hi)

/-- The scope of a command (R74): RANGE is widened to KEYWAY while the descriptor is not VALID; on a span the offsets are span
offsets, and this member's stripes among them are covered. -/
def State.invScope (s : State) (v : Nat) : InvScope :=
  let kw := bits v 11 0
  let d := s.desc kw
  if bits v 13 12 = 2 then ⟨none, 0, 2 ^ 44⟩
  else if bits v 13 12 = 1 ∨ descValid d = false then ⟨some kw, 0, 2 ^ 44⟩
  else
    let a := s.f Reg.KTU_INV_START.START / 4096 * 4096
    let b := a + s.f Reg.KTU_INV_LEN.LEN
    let lo := if descSpan d then spanBelow (descN1 d + 1) (descIdx d) a else a
    let hi := if descSpan d then spanBelow (descN1 d + 1) (descIdx d) b else b
    if hi ≤ lo then ⟨some kw, lo, lo⟩ else ⟨some kw, lo / 4096 * 4096, roundUp hi 4096⟩

/-- The work that translated through a scope and has not ended (R75). -/
def State.invWaits (s : State) (c : InvScope) : List Waiter :=
  let hit (l : List (Nat × Nat × Nat)) : Bool := l.any fun x => c.meets x.1 x.2.1 x.2.2
  ((s.reqs.filter fun r => hit r.xl).map fun r => Waiter.req r.id)
  ++ s.wrd.ops.flatMap fun o => (o.live.filter fun k => hit k.xl).map fun k => Waiter.chunk o.id k.idx

/-- Remove the cached entries of a scope. -/
def State.invRemove (s : State) (c : InvScope) : State :=
  { s with ktu := { s.ktu with cache := s.ktu.cache.filter fun e => !c.meets e.2.kw e.2.vstart e.2.len } }

/-- Whether a waiter's work has ended. -/
def State.waiterEnded (s : State) (w : Waiter) : Bool :=
  match w with
  | .req id => !(s.reqs.any fun r => r.id == id)
  | .chunk op k => !(s.wrd.ops.any fun o => o.id == op && o.live.any fun c => c.idx == k)

/-- Start an invalidation (R74, R75). -/
def State.invStart (s : State) (v : Nat) (notify : Option Nat) : State :=
  let c := s.invScope v
  let waits := s.invWaits c
  let s1 := s.invRemove c
  let s2 := { s1 with ktu := { s1.ktu with invs := s1.ktu.invs ++ [Inval.mk (bits v 31 16) (bits v 11 0) notify waits] } }
  s2.restartWalks fun w => match c.kw with
    | none => true
    | some k => w.kw == k

/-- Report the oldest open invalidation complete (R75, R77), once nothing it waits for remains. -/
def State.invFinish (s : State) : State :=
  match s.ktu.invs with
  | [] => s
  | x :: rest =>
    if x.waits.all s.waiterEnded then
      let s1 := { s with ktu := { s.ktu with invs := rest, doneTag := x.tag } }.evt Pg.KTU 1
      match x.notify with
      | some n => s1.notifySpecific n 0x0120 (x.tag + x.kw * 65536) []
      | none => s1
    else s

end Sys2Proof.Machine
end

