-- ==== Sys2Proof/Machine/Allowance.lean ====
section
/-! DEFINITION. The allowances by which the planner paces ward chunks, maintenance and resync (R387). -/

namespace Sys2Proof.Machine

open Sys2Proof

/-- An allowance register that reads all ones is unlimited (R387). -/
def unlimited (v : Nat) : Bool := v == 2 ^ 64 - 1

/-- Something is left of the ward allowance's sub-slot (log entry 12). -/
def State.wardAllowed (s : State) : Bool := unlimited (s.f Reg.EPL_PLAN_WARD.BYTES) || decide (0 < s.epl.wardLeft)

/-- Something is left of the maintenance allowance's sub-slot. -/
def State.maintAllowed (s : State) : Bool := unlimited (s.f Reg.EPL_PLAN_MAINT.BYTES) || decide (0 < s.epl.maintLeft)

/-- Something is left of the resync allowance's sub-slot. -/
def State.resyncAllowed (s : State) : Bool := unlimited (s.f Reg.EPL_PLAN_RESYNC.BYTES) || decide (0 < s.epl.resyncLeft)

/-- Take ward bytes from the allowance; they were wanted (R390). -/
def State.takeWard (s : State) (n : Nat) : State :=
  { s with epl := { s.epl with wardLeft := s.epl.wardLeft - n, wanted := s.epl.wanted + n } }

/-- A chunk's issue held by the planner (R387, R390). DESIGN CHOICE: each held issue counts the chunk's bytes as held and as wanted, and its
issue counts them as wanted (log entry 12). -/
def State.holdWard (s : State) (n : Nat) : State :=
  { s with epl := { s.epl with wanted := s.epl.wanted + n, held := s.epl.held + n } }.bump Reg.EPL_HOLD_CNT.OFF

/-- Take maintenance bytes from the allowance. -/
def State.takeMaint (s : State) (n : Nat) : State :=
  { s with epl := { s.epl with maintLeft := s.epl.maintLeft - n } }

/-- Maintenance was held in this interval (R396). -/
def State.noteMaintHeld (s : State) : State := { s with epl := { s.epl with maintHeld := true } }

/-- Resync was held in this interval (R396). -/
def State.noteResyncHeld (s : State) : State := { s with epl := { s.epl with resyncHeld := true } }

/-- Take resync bytes from the allowance. -/
def State.takeResync (s : State) (n : Nat) : State :=
  { s with epl := { s.epl with resyncLeft := s.epl.resyncLeft - n } }

end Sys2Proof.Machine
end

