-- ==== Sys2Proof/Machine/Crc.lean ====
section
/-! DEFINITION. The cyclic redundancy checks of flits (R291) and of control blocks and flash records (R309). -/

namespace Sys2Proof.Machine

open Sys2Proof

/-- One bit of a reflected CRC. -/
def crcBit (poly c : Nat) : Nat := if c % 2 = 1 then (c / 2) ^^^ poly else c / 2

/-- One byte of a reflected CRC. -/
def crcByte (poly c : Nat) (b : Byte) : Nat :=
  crcBit poly (crcBit poly (crcBit poly (crcBit poly (crcBit poly (crcBit poly (crcBit poly (crcBit poly (c ^^^ b.toNat))))))))

/-- CRC-64 of R291 before its final exclusive OR: polynomial 0x42F0_E1EB_A9EA_3693, reflected. -/
def crc64State (c : Nat) (l : List Byte) : Nat := l.foldl (crcByte 0xC96C5795D7870F42) c

/-- CRC-64 of R291. -/
def crc64 (l : List Byte) : Nat := crc64State 0xFFFFFFFFFFFFFFFF l ^^^ 0xFFFFFFFFFFFFFFFF

/-- CRC-32 of R309: polynomial 0x04C1_1DB7, reflected. -/
def crc32 (l : List Byte) : Nat := l.foldl (crcByte 0xEDB88320) 0xFFFFFFFF ^^^ 0xFFFFFFFF

end Sys2Proof.Machine
end

