-- ==== Sys2Proof/Machine/RegApply.lean ====
section
/-! DEFINITION. The access codes of R11 as one function: what a write leaves in a register of the tables, with its RW, RWS and
RW1C bits and its clamps (R11, R13, R537). -/

namespace Sys2Proof.Machine

open Sys2Proof

/-- A field of a register value brought into its range (R11, R13). -/
def Clamp.apply (c : Clamp) (v : Nat) : Nat :=
  putBits v (c.lo + c.width - 1) c.lo (max c.least (min c.most (bits v (c.lo + c.width - 1) c.lo)))

/-- The bits of a register a write replaces: RW and RWS, FT in factory test mode, and the firmware's own. -/
def RegRow.mask (r : RegRow) (factory fw : Bool) : Nat :=
  r.rw ||| r.rws ||| (if factory then r.ft else 0) ||| (if fw then r.fw else 0)

/-- A register after a write of v: writable bits replaced and clamped, RW1C bits cleared where v has ones, others kept. -/
def RegRow.after (r : RegRow) (factory fw : Bool) (old v : Nat) : Nat :=
  let all := 2 ^ 64 - 1
  let m := r.mask factory fw
  let kept := (old &&& (all ^^^ m)) &&& (all ^^^ (v &&& r.w1c))
  r.clamps.foldl (fun acc c => c.apply acc) (kept ||| (v &&& m))

/-- Write a whole register of the tables at its LO offset; a counter is kept apart (R444). -/
def State.regPut (s : State) (o : Nat) (r : RegRow) (fw : Bool) (v : Nat) : State :=
  if r.cnt then { s with cnts := SMap.set (fun _ => 0) s.cnts o (r.after s.factory fw (s.cnt o) v) }
  else if r.wide then s.setWord64 o (r.after s.factory fw (s.word64 o) v)
  else s.setWord o (r.after s.factory fw (s.word o) v)

/-- Write the 32-bit register at an offset, where the tables hold one. -/
def State.regStore (s : State) (o v : Nat) : State :=
  match findReg o with
  | none => s
  | some (r, _) => s.regPut o r false v

end Sys2Proof.Machine
end

