-- ==== Sys2Proof/Machine/Link.lean ====
section
/-! DEFINITION. The Swiette link layer's state and messages (R287, R301 to R307, R309 to R320, R466 to R468): port states, going down,
retrains, bring-up, authentication and rekeys. Flits are in Machine/Flit.lean. -/

namespace Sys2Proof.Machine

open Sys2Proof

/-! ### One port -/

/-- A link layer with nothing in it. -/
def Lnk.none : Lnk where
  trained := false
  hello := []
  nonce := 0
  peerNonce := 0
  msgs := []
  msgSeq := 1
  inSeq := 0
  pieces := []
  chain := .none
  priv := 0
  share := []
  peerShare := []
  slot := 0
  next := 0
  acked := 65535
  buf := []
  rep := .none
  repK := 0
  cntK := 0
  numK := 0
  cur := []
  flying := []
  sent := []
  limit := []
  report := []
  passed := []
  askReplay := false
  askRetrain := false
  txPhase := false
  rxPhase := false
  txKey := []
  rxKey := []
  newTx := .none
  newRx := .none
  txNum := 0
  rxNum := 0
  e := 0
  part := []
  partLen := 0
  partKey := []
  partNum := 0
  partDrop := false
  got := []
  alloc := []
  tries := 0
  target := 0
  peerE := .none
  follow := false
  own := false
  again := false
  rekey := false
  rekeyN := 0
  slow := false
  mine := []
  chained := false
  partVc := 0
  partUnits := 0
  partAt := 0

/-- The link layer of a port. -/
def State.lnk (s : State) (p : Nat) : Lnk := SMap.get (fun _ => Lnk.none) s.lnks p

def State.setLnk (s : State) (p : Nat) (l : Lnk) : State := { s with lnks := SMap.set (fun _ => Lnk.none) s.lnks p l }

/-- The page that holds a port's common header (R321), and an event bit of the port on it (R322). -/
def linkPage (p : Nat) : Nat := if p < 4 then Pg.SWP p else Pg.HNG
def linkBit (p b : Nat) : Nat := if p = 5 then b + 8 else b

/-- Raise an event of a port. -/
def State.linkEvt (s : State) (p b : Nat) : State := s.evt (linkPage p) (linkBit p b)

/-- Write a record of a port (R322, R430). -/
def State.linkFault (s : State) (p cls code : Nat) : State := s.fault (mkRec (112 + p) cls code)

/-- The part has a port (R2). -/
def Part.hasPort (q : Part) (p : Nat) : Bool := decide (p < 4) || (decide (p < 6) && q.hinge)

/-- Units of the receive buffer a packet occupies (R301). -/
def units (len : Nat) : Nat := (len + 239) / 240

/-- Units of a channel that complete packets hold in a port's buffer: packets held for the pair ID (R415), requests held for a full pending
queue (R258), and packets in transit that have not started to leave (R301). -/
def State.wholeHeld (s : State) (p v : Nat) : Nat :=
  ((s.hps.hold.filter fun h => h.1 == p && h.2.1.vc == v).map fun h => units h.2.1.packetLen).sum
    + ((s.sc.held.filter fun h => h.port == p && h.vc == v).map (·.units)).sum
    + ((s.txq.filter fun t => t.rx == some (p, v)).map fun t => units t.p.packetLen).sum

/-- Units of a channel occupied in a port's buffer, those of the packet being received included (R301, R321). -/
def State.unitsHeld (s : State) (p v : Nat) : Nat :=
  s.wholeHeld p v + (if (s.lnk p).partVc = v then (s.lnk p).partUnits else 0)

/-- The cumulative credit count of a channel (R302): a packet's units count as received when it is complete, and are not free while it is
held. -/
def State.creditCount (s : State) (p v : Nat) : Nat :=
  let l := s.lnk p
  (l.alloc.getD v 0 + SMap.get (fun _ => 0) l.got v + 65536 - s.wholeHeld p v % 65536) % 65536

/-- Note that a channel's credit count changed. -/
def State.creditChanged (s : State) (p v : Nat) : State :=
  let l := s.lnk p
  if l.report.contains v then s else s.setLnk p { l with report := l.report ++ [v] }

/-- A packet has come in at a port: its units count as received (those of a held packet are left out of the credit count). -/
def State.unitsFreed (s : State) (p v n : Nat) : State :=
  let l := s.lnk p
  (s.setLnk p { l with got := SMap.set (fun _ => 0) l.got v ((SMap.get (fun _ => 0) l.got v + n) % 65536) }).creditChanged p v

/-- Units of a packet held for the pair ID come free at its port, where that has not gone down since. -/
def State.holdFreed (s : State) (port v : Nat) : State := if port < 8 then s.creditChanged port v else s

/-- A packet that waited for a port leaves the buffer it came in by (R301). -/
def State.leftBuffer (s : State) (t : TxPkt) : State :=
  match t.rx with
  | some (p, v) => s.creditChanged p v
  | none => s

/-- Units that may still be sent on a channel (R302). -/
def State.creditLeft (s : State) (p v : Nat) : Nat :=
  let l := s.lnk p
  (SMap.get (fun _ => 0) l.limit v + 65536 - SMap.get (fun _ => 0) l.sent v % 65536) % 65536

/-! ### Pool time in holdover (R357) -/

/-- A port leaves ACTIVE: the unit whose upstream port it is goes into holdover. -/
def State.leaveActive (s : State) (p : Nat) : State :=
  if s.flag Reg.RTB_ENUM_STAT.UP_VALID && s.f Reg.RTB_ENUM_STAT.UPSTREAM == p && !s.flag Reg.RTB_ENUM_CTRL.CHAIN_HEAD
      && !s.flag Reg.RTB_TIME_STAT.HOLDOVER then
    ((s.setFlag Reg.RTB_TIME_STAT.HOLDOVER true).evt Pg.RTB 5).fault (mkRec 120 0 0x0909)
  else s

/-! ### Going down (R314) -/

/-- Hand a packet that a port had queued and not started to the router. The two hinge ports are one port (R403): the other takes it while it is
up. One for the neighbour itself, or a copy for this port alone (R346), is lost with the link. -/
def State.handBack (s : State) (t : TxPkt) : State :=
  if 4 ≤ t.port ∧ s.linkUp (9 - t.port) then { s with txq := s.txq ++ [{ t with port := 9 - t.port }] }
  else if t.p.dest = 0xFFE ∨ t.copy then s.leftBuffer t
  else
    let r := s.route t.p
    match r.2 with
    | .here p => (r.1.emit (.self p)).leftBuffer t
    | .send q p => { r.1 with txq := r.1.txq ++ [{ t with port := q, p := p }] }
    | .dropped => r.1.leftBuffer t

/-- The buffer of a port is given up with its link (R314): packets that came in by it go on, but occupy nothing there. -/
def State.bufferLost (s : State) (p : Nat) : State :=
  { s with
    txq := mapIf (fun t => t.rx.any fun x => x.1 == p) (fun t => { t with rx := none }) s.txq
    sc := { s.sc with held := mapIf (fun h => h.port == p) (fun h => { h with units := 0 }) s.sc.held }
    hps := { s.hps with hold := mapIf (fun h => h.1 == p) (fun h => (h.1 + 8, h.2)) s.hps.hold } }

/-- Set a port's state, drop what R314 drops, and hand back what it had queued. -/
def State.portReset (s : State) (p st : Nat) : State :=
  let l := s.lnk p
  let lost := l.flying.length + (if l.cur.isEmpty then 0 else 1)
  let s0 := s.bufferLost p
  let mine := s0.txq.filter fun t => t.port == p
  let s1 := { s0 with txq := s0.txq.filter fun t => t.port != p }.setF (Reg.SWP_STAT.STATE p) st
  let s2 := (s1.addCnt (Reg.SWP_DROP_CNT.OFF p) lost).setLnk p { Lnk.none with slow := l.slow }
  mine.foldl (fun acc t => acc.handBack t) s2

/-- A port enters DOWN (R314): recorded when it leaves ACTIVE or RETRAIN. -/
def State.portDown (s : State) (p : Nat) : State :=
  let st := s.portState p
  let s1 := s.portReset p 1
  if st = 4 ∨ st = 5 then
    let s2 := ((s1.bump (Reg.SWP_DOWN_CNT.OFF p)).linkEvt p 2).linkFault p 2 0x0801
    if st = 4 then s2.leaveActive p else s2
  else s1

/-- A port is disabled (R320, R546): only the drop actions of R314 apply. -/
def State.portDisable (s : State) (p : Nat) : State :=
  let s1 := s.portReset p 0
  if s.portState p = 4 then s1.leaveActive p else s1

/-! ### Messages (R309) -/

/-- Queue a message for a port's control blocks. -/
def Lnk.say (l : Lnk) (ty : Nat) (body : List Byte) : Lnk := { l with msgs := l.msgs ++ [(ty, body)] }

/-- A 256-byte control block (R309). -/
def lcbBytes (ty seq ack : Nat) (body : List Byte) : List Byte :=
  let b := leBytes 8 0xA55A0FF03CC39669 ++ leBytes 2 ty ++ leBytes 2 seq ++ leBytes 2 ack ++ leBytes 2 body.length ++ slice body 0 232
  b ++ leBytes 4 (crc32 b) ++ zeros 4

/-- The control block a port sends next (R309): its first message until it is acknowledged. -/
def Lnk.block (l : Lnk) : List Byte :=
  match l.msgs with
  | [] => lcbBytes 0 0 l.inSeq []
  | (ty, body) :: _ => lcbBytes ty l.msgSeq l.inSeq body

/-- Fields of a control block. -/
def lcbType (b : List Byte) : Nat := leNat (slice b 8 2)
def lcbSeq (b : List Byte) : Nat := leNat (slice b 10 2)
def lcbAck (b : List Byte) : Nat := leNat (slice b 12 2)
def lcbBody (b : List Byte) : List Byte := slice b 16 232

/-- A control block whose CRC-32 holds. -/
def lcbOk (b : List Byte) : Bool := b.length == 256 && crc32 (slice b 0 248) == leNat (slice b 248 4)

/-- Take the MSG_ACK of a block: the messages it covers are done. -/
def Lnk.acked' (l : Lnk) (ack : Nat) : Lnk :=
  let n := (ack + 65536 + 1 - l.msgSeq) % 65536
  if n ≤ l.msgs.length then { l with msgs := l.msgs.drop n, msgSeq := (l.msgSeq + n) % 65536 } else l

/-- Take a block: its acknowledgement, and whether its message is a new one of the type asked for. -/
def State.takeBlock (s : State) (p : Nat) (b : List Byte) (ty : Nat) : State × Bool :=
  if s.part.hasPort p = false ∨ s.portState p < 2 ∨ lcbOk b = false then (s, false)
  else
    let l := (s.lnk p).acked' (lcbAck b)
    if lcbType b ≠ 0 ∧ lcbSeq b = (l.inSeq + 1) % 65536 then
      (s.setLnk p { l with inSeq := lcbSeq b }, decide (lcbType b = ty))
    else (s.setLnk p l, false)

/-! ### Retrains (R310 to R313) -/

/-- This end's own target: width, and speed * 4. -/
def State.ownTarget (s : State) (p : Nat) : Nat := s.f (Reg.SWP_CTRL.TGT_WIDTH p) + 4 * s.f (Reg.SWP_CTRL.TGT_SPEED p)

/-- The narrower width and the lower speed of two targets: the greater codes (R312). -/
def meetTarget (a b : Nat) : Nat := max (a % 4) (b % 4) + 4 * max (a / 4) (b / 4)

/-- The RETRAIN message: where the E of R312 step 3 stands in it is not stated; here bytes 4 and 5 (log entry 22). -/
def retrainBody (target : Nat) (follow : Bool) (node e nonce : Nat) : List Byte :=
  leBytes 1 (target % 16 + b2n follow * 16) ++ zeros 1 ++ leBytes 2 node ++ leBytes 2 e ++ zeros 2 ++ leBytes 8 nonce

/-- Queue the RETRAIN message of a port with a fresh nonce. -/
def State.sayRetrain (s : State) (p : Nat) : State :=
  let w := s.fresh (2 ^ 64)
  let l := w.2.lnk p
  w.2.setLnk p ({ l with nonce := w.1 }.say 5 (retrainBody l.target l.follow s.ownId l.e w.1))

/-- Start a retrain of an ACTIVE port; one that already retrains is followed by another when `more` holds. -/
def State.retrainStart (s : State) (p : Nat) (own more : Bool) : State :=
  if s.portState p = 4 then
    let s1 := (s.setF (Reg.SWP_STAT.STATE p) 5).leaveActive p
    let l := s1.lnk p
    (s1.setLnk p { l with
        askRetrain := true, tries := 1, target := s.ownTarget p, peerE := none, follow := false, own := own,
        again := false, rep := none }).sayRetrain p
  else if s.portState p = 5 ∧ more then
    let l := s.lnk p
    s.setLnk p { l with again := true }
  else s

/-- A protocol error (R311). -/
def State.protocolErr (s : State) (p : Nat) : State := (s.linkFault p 0 0x0807).retrainStart p true false

/-- A RETRAIN message (R312, R313). A peer that has acknowledged this end's own answers it and gives its target; only while this end's own
waits for its acknowledgement have both started. Its own messages stay queued (R309). -/
def State.retrainMsg (s : State) (p : Nat) (body : List Byte) : State :=
  let t := (byteAt body 0).toNat % 16
  let follow := bit (byteAt body 0).toNat 4
  let node := leNat (slice body 2 2)
  let e := leNat (slice body 4 2)
  let nonce := leNat (slice body 8 8)
  let s0 := s.retrainStart p false false
  if s0.portState p ≠ 5 then s0
  else
    let l := s0.lnk p
    let l1 := { l with peerE := some e, peerNonce := nonce }
    if follow then s0.setLnk p l1
    else if l.own = false ∨ l.msgs.all (fun m => m.1 != 5) then s0.setLnk p { l1 with target := meetTarget l.target t }
    else if node = s.ownId ∧ nonce = l.nonce then (s0.setLnk p l1).sayRetrain p
    else if node < s.ownId ∨ (node = s.ownId ∧ nonce < l.nonce) then
      (s0.setLnk p { l1 with follow := true, target := t }).sayRetrain p
    else s0.setLnk p l1

/-- The flit from which replay resumes after a retrain: the peer's E where the buffer reaches it, else the oldest held (R312). -/
def Lnk.resumeAt (l : Lnk) : Nat :=
  match l.peerE with
  | some e => if (l.buf.any fun f => f.1 == e) || e == l.next then e else (l.buf.headD (l.next, [])).1
  | none => (l.buf.headD (l.next, [])).1

/-- A retrain reaches ACTIVE at a width and speed (R312): replay resumes from the peer's E, and counts as one of that flit (R300). The speed is
the target's and the width no greater than the target's, for the device never lowers the speed by itself: lanes that come to anything else have
not completed. A change of width or speed writes no RETRAIN record (R313, log entry 95). -/
def State.retrainDone (s : State) (p w sp : Nat) : State :=
  let l := s.lnk p
  if s.portState p ≠ 5 ∨ sp ≠ l.target / 4 ∨ w < l.target % 4 then s
  else
    let k0 := l.resumeAt
    let keep := l.buf.dropWhile fun f => f.1 != k0
    let reduced := decide (l.target % 4 < w)
    let changed := !reduced && !l.chained && (w != s.f (Reg.SWP_STAT.WIDTH p) || sp != s.f (Reg.SWP_STAT.SPEED p))
    let l1 := { l with
        buf := keep, acked := (k0 + 65535) % 65536, rep := (keep.head?).map (·.1), repK := k0, cntK := k0,
        numK := if keep.isEmpty then 0 else if l.cntK = k0 ∧ l.numK ≠ 0 then l.numK + 1 else 1,
        flying := l.flying.filter (fun f => keep.any fun b => b.1 == f), tries := 0, askRetrain := false, own := false,
        follow := false, askReplay := false, chained := false }
    let s1 := (((s.setLnk p l1).setF (Reg.SWP_STAT.STATE p) 4).setF (Reg.SWP_STAT.WIDTH p) w).setF (Reg.SWP_STAT.SPEED p) sp
    let s2 := (s1.setFlag (Reg.SWP_STAT.WIDTH_REDUCED p) reduced).bump (Reg.SWP_RETRAIN_CNT.OFF p)
    let s3 := if keep.isEmpty then s2 else s2.bump (Reg.SWP_REPLAY_CNT.OFF p)
    let s4 := if changed then s3.linkEvt p 3 else (s3.linkEvt p 3).linkFault p 0 0x0802
    let s5 := if reduced then (s4.linkEvt p 4).linkFault p 0 0x0803 else s4
    if l.again then
      let s6 := s5.retrainStart p true false
      s6.setLnk p { (s6.lnk p) with chained := true }
    else s5

/-- A retrain fails: tried once more, then the port goes DOWN (R312). -/
def State.retrainFail (s : State) (p : Nat) : State :=
  if s.portState p ≠ 5 then s
  else
    let l := s.lnk p
    if l.tries ≤ 1 then (s.setLnk p { l with tries := 2 }).sayRetrain p else s.portDown p

/-- A field of SWP_CTRL written 0b11 keeps its value (R321). -/
def swpField (old v lo : Nat) : Nat := if bits v (lo + 1) lo = 3 then putBits v (lo + 1) lo (bits old (lo + 1) lo) else v

/-- What SWP_CTRL takes of a write: 0b11 leaves a width, a speed and a maximum payload unchanged. -/
def swpKeep (old v : Nat) : Nat := swpField old (swpField old (swpField old v 0) 2) 4

/-- A write of SWP_CTRL (R310, R321): RETRAIN, or a change of the target, starts a retrain. -/
def State.swpCtrlWrite (s : State) (p v : Nat) : State :=
  let old := s.word (Reg.SWP_CTRL.OFF p)
  let s1 := s.regStore (Reg.SWP_CTRL.OFF p) (swpKeep old v)
  if bit v 7 || bits (swpKeep old v) 3 0 != bits old 3 0 then s1.retrainStart p true true else s1

/-! ### Bring-up (R320) -/

/-- HELLO's body (R309): this device can encrypt, and its widest width is x4. -/
def State.helloBody (s : State) (p nonce : Nat) (alloc : List Nat) : List Byte :=
  leBytes 2 (if s.hasId then s.ownId else 0xFFF)
  ++ leBytes 1 (s.f (Reg.SWP_CTRL.MAX_PL p) + 4 * s.f (Reg.SWP_CTRL.ENC_REQ p) + 8) ++ zeros 5 ++ leBytes 8 nonce
  ++ alloc.flatMap fun u => leBytes 2 u

/-- A DOWN port tries a bring-up. -/
def State.bringup (s : State) (p : Nat) : State :=
  if s.part.hasPort p = false ∨ s.portState p ≠ 1 then s
  else
    let w := s.fresh (2 ^ 64)
    let alloc := (List.range 8).map fun v => if v = 7 then 0 else s.f (Reg.SWP_VCBUF.UNITS p v)
    let l := { Lnk.none with nonce := w.1, alloc := alloc, mine := s.helloBody p w.1 alloc }
    (w.2.setLnk p (l.say 1 l.mine)).setF (Reg.SWP_STAT.STATE p) 2

/-- Authentication of a port fails (R316): it goes DOWN and tries again every 1 s. -/
def State.authFail (s : State) (p : Nat) : State :=
  let s1 := s.portReset p 1
  let s2 := s1.setLnk p { (s1.lnk p) with slow := true }
  (((s2.bump Reg.KPR_AUTH_FAIL_CNT.OFF).evt Pg.KPR 2).linkEvt p 5).linkFault p 2 0x0804

/-- The digest of what the device runs, to which its Alias key belongs (R457, R460). -/
def State.identity (s : State) : List Byte :=
  s.fw.keeperDigest ++ leBytes 2 s.kpr.startSvn ++ s.fw.runDigest

/-- The private Alias key of what runs (R457). -/
def State.aliasKey (s : State) : Nat := Machine.aliasKey s.fw.keeperDigest s.kpr.startSvn s.fw.runDigest

/-- The pieces of a certificate chain as IDENTITY messages (R466). -/
def identityBodies (chain : List Byte) : List (List Byte) :=
  let n := (chain.length + 225) / 226
  (List.range n).map fun i => leBytes 1 i ++ leBytes 1 n ++ leBytes 2 chain.length ++ zeros 2 ++ slice chain (226 * i) (min 226 (chain.length - 226 * i))

/-- What a share's signature covers (R466). -/
def shareText (re : Bool) (own peer : List Byte) (node count : Nat) (pub : List Byte) : List Byte :=
  ascii (if re then "SWIETTE REKEY SHARE" else "SWIETTE KEY SHARE")
  ++ own ++ peer ++ leBytes 2 node ++ leBytes 4 count ++ pub

/-- The node ID and the training nonce that a HELLO gave: what the keys of its bring-up rest on (R315, R466, R467). -/
def helloNode (b : List Byte) : Nat := leNat (slice b 0 2) % 4096
def helloNonce (b : List Byte) : List Byte := slice b 8 8

/-- Make and queue this end's key share. -/
def State.sayShare (s : State) (p : Nat) (re : Bool) (count : Nat) : State :=
  let w := s.fresh (2 ^ 256)
  let l := w.2.lnk p
  let pub := slice (x25519Base w.1) 0 32
  let sig := slice (edSign s.aliasKey
    (shareText re (helloNonce l.mine) (helloNonce l.hello) (helloNode l.mine) count pub)) 0 64
  let body := pub ++ sig ++ leBytes 4 count
  w.2.setLnk p ({ l with priv := w.1, share := body }.say (if re then 6 else 3) body)

/-- A trained port that has the peer's HELLO goes to AUTH (R315, R320), or fails on encryption or the random source (R481). What the two HELLOs
say is agreed: encryption, the maximum payload, the width that both ends have. -/
def State.enterAuth (s : State) (p : Nat) : State :=
  let l := s.lnk p
  if s.portState p ≠ 2 ∨ l.trained = false ∨ l.hello.isEmpty then s
  else
    let h := (byteAt l.hello 2).toNat
    let o := (byteAt l.mine 2).toNat
    if (bit o 2 && !bit h 3) || !s.flag Reg.KPR_STAT.RNG_OK then s.authFail p
    else
      let s1 := ((s.setF (Reg.SWP_STAT.STATE p) 3).setF (Reg.SWP_STAT.PEER_NODE p) (helloNode l.hello)).setF
        (Reg.SWP_STAT.MAX_PL p) (min (o % 4) (h % 4))
      let s2 := (s1.setFlag (Reg.SWP_STAT.ENCRYPTED p) (bit o 2 || bit h 2)).setFlag (Reg.SWP_STAT.WIDTH_REDUCED p)
        (decide (max (s.f (Reg.SWP_CTRL.TGT_WIDTH p)) (bits h 5 4) < s.f (Reg.SWP_STAT.WIDTH p)))
      let s3 := (identityBodies (Config.ownChain s.identity)).foldl (fun acc b => acc.setLnk p ((acc.lnk p).say 2 b)) s2
      s3.sayShare p false 0

/-- A HELLO arrives. -/
def State.helloMsg (s : State) (p : Nat) (body : List Byte) : State :=
  if s.portState p ≠ 2 then s
  else
    let l := s.lnk p
    (s.setLnk p { l with
        hello := slice body 0 32, peerNonce := leNat (slice body 8 8),
        limit := (List.range 8).map fun v => (v, leNat (slice body (16 + 2 * v) 2)) }).enterAuth p

/-- The lanes train at a width and speed; whether the width is below what the ends can is known with the peer's HELLO. -/
def State.lanesTrained (s : State) (p w sp : Nat) : State :=
  if s.portState p ≠ 2 then s
  else
    let s1 := ((s.setF (Reg.SWP_STAT.WIDTH p) w).setF (Reg.SWP_STAT.SPEED p) sp).setFlag (Reg.SWP_STAT.WIDTH_REDUCED p) false
    (s1.setLnk p { (s1.lnk p) with trained := true }).enterAuth p

/-! ### Authentication and rekeys (R316, R317, R466 to R468) -/

/-- A chain's root is accepted for link peers. -/
def State.rootAccepted (s : State) (chain : List Byte) (stream : Bool) : Bool :=
  match Config.chainRoot chain with
  | none => false
  | some d =>
    (!stream && s.flag Reg.KPR_CTRL.VENDOR_LINK && d == Config.vendorRoot)
    || (List.range 8).any fun a => s.flag (Reg.KPR_ANCHOR.VALID a)
        && s.flag (if stream then Reg.KPR_ANCHOR.STREAM a else Reg.KPR_ANCHOR.LINK a)
        && (s.kpr.anchors.find? fun e => e.1 == a).map (·.2) == some d

/-- An IDENTITY piece. -/
def State.identityMsg (s : State) (p : Nat) (body : List Byte) : State :=
  if s.portState p ≠ 3 then s
  else
    let i := (byteAt body 0).toNat
    let n := (byteAt body 1).toNat
    let total := leNat (slice body 2 2)
    if n = 0 ∨ 16 < n ∨ n ≤ i ∨ 3616 < total then s.authFail p
    else
      let l := s.lnk p
      let pieces := SMap.set (fun _ => []) l.pieces i (slice body 6 226)
      if pieces.length < n then s.setLnk p { l with pieces := pieces }
      else
        let chain := (pieces.flatMap (·.2)).take total
        if s.rootAccepted chain false then s.setLnk p { l with pieces := pieces, chain := some chain } else s.authFail p

/-- This end is the lower one of a link (R466, R467): by the node IDs of the HELLOs, then by their nonces. -/
def Lnk.lower (l : Lnk) : Bool :=
  decide (helloNode l.mine < helloNode l.hello)
    || (helloNode l.mine == helloNode l.hello && decide (leNat (helloNonce l.mine) < leNat (helloNonce l.hello)))

/-- Keys derived from two shares (R467): to the peer, from the peer, and the confirm key. -/
def State.linkKeys (s : State) (p count : Nat) : List Byte × List Byte × List Byte :=
  let l := s.lnk p
  let low := l.lower
  let nl := helloNonce (if low then l.mine else l.hello)
  let nh := helloNonce (if low then l.hello else l.mine)
  let prk := hkdfExtract (nl ++ nh) (x25519 l.priv (slice l.peerShare 0 32))
  let okm := hkdfExpand prk (ascii "swiette link v1" ++ leBytes 4 count) 136
  let lh := slice okm 0 36
  let hl := slice okm 36 36
  (if low then lh else hl, if low then hl else lh, slice okm 72 64)

/-- The confirmation of two shares (R466). -/
def State.confirmation (s : State) (p count : Nat) : List Byte :=
  let l := s.lnk p
  let low := l.lower
  slice (hmac512 (s.linkKeys p count).2.2
    (sha512 (if low then l.share ++ l.peerShare else l.peerShare ++ l.share))) 0 64

/-- A share's signature and count hold. -/
def State.shareGood (s : State) (p : Nat) (re : Bool) (count : Nat) (body : List Byte) : Bool :=
  let l := s.lnk p
  match l.chain with
  | none => false
  | some c =>
    leNat (slice body 96 4) == count
    && edVerify (Config.chainLeaf c)
        (shareText re (helloNonce l.hello) (helloNonce l.mine) (helloNode l.hello) count (slice body 0 32)) (slice body 32 64)

/-- A KEY_SHARE. -/
def State.shareMsg (s : State) (p : Nat) (body : List Byte) : State :=
  if s.portState p ≠ 3 then s
  else if s.shareGood p false 0 body = false then s.authFail p
  else
    let s1 := s.setLnk p { (s.lnk p) with peerShare := slice body 0 100 }
    s1.setLnk p ((s1.lnk p).say 4 (s1.confirmation p 0))

/-- A KEY_CONFIRM: the port becomes ACTIVE, credits and sequences start (R320). -/
def State.confirmMsg (s : State) (p : Nat) (body : List Byte) : State :=
  if s.portState p ≠ 3 then s
  else if (s.lnk p).peerShare.isEmpty || slice body 0 64 != s.confirmation p 0 then s.authFail p
  else
    let k := s.linkKeys p 0
    let s1 := s.setLnk p { (s.lnk p) with txKey := k.1, rxKey := k.2.1, priv := 0, slow := false }
    ((((s1.setF (Reg.SWP_STAT.STATE p) 4).setFlag (Reg.SWP_STAT.KEY_PHASE p) false).bump Reg.KPR_AUTH_CNT.OFF).linkEvt p 1)

/-- A rekey of a port begins (R317); while the random source fails no share is made (R481). -/
def State.rekeyStart (s : State) (p : Nat) : State :=
  if s.linkUp p = false then s
  else
    let s1 := s.setLnk p { (s.lnk p) with rekey := true, peerShare := [], newRx := none }
    if s.flag Reg.KPR_STAT.RNG_OK then s1.sayShare p true ((s.lnk p).rekeyN + 1) else s1

/-- A rekey that failed ends with AUTH_FAIL; the old keys stay in use (R319, R467). -/
def State.rekeyFail (s : State) (p : Nat) : State :=
  let s1 := s.setLnk p { (s.lnk p) with peerShare := [], priv := 0, newRx := none }
  (((s1.bump Reg.KPR_AUTH_FAIL_CNT.OFF).evt Pg.KPR 2).linkEvt p 5).linkFault p 2 0x0804

/-- A REKEY_SHARE. The keys are derived, and this end can receive under the new one, before the peer confirms (R317). -/
def State.rekeyShareMsg (s : State) (p : Nat) (body : List Byte) : State :=
  if s.linkUp p = false then s
  else
    let n := (s.lnk p).rekeyN + 1
    if s.shareGood p true n body = false then s.rekeyFail p
    else
      let s1 := if (s.lnk p).rekey then s else s.rekeyStart p
      if s1.flag Reg.KPR_STAT.RNG_OK = false then s1
      else
        let s2 := s1.setLnk p { (s1.lnk p) with peerShare := slice body 0 100 }
        s2.setLnk p ({ s2.lnk p with newRx := some (s2.linkKeys p n).2.1 }.say 7 (s2.confirmation p n))

/-- A REKEY_CONFIRM: the new key to send under stands ready; KEY_PHASE flips with the next packet (R317). -/
def State.rekeyConfirmMsg (s : State) (p : Nat) (body : List Byte) : State :=
  let l := s.lnk p
  if s.linkUp p = false ∨ l.rekey = false then s
  else if l.peerShare.isEmpty || slice body 0 64 != s.confirmation p (l.rekeyN + 1) then s.rekeyFail p
  else
    let k := s.linkKeys p (l.rekeyN + 1)
    (s.setLnk p { l with newTx := some k.1, rekey := false, rekeyN := l.rekeyN + 1, priv := 0 }).bump
      (Reg.SWP_REKEY_CNT.OFF p)

/-- A rekey has not completed in 100 ms (R319). -/
def State.rekeyLate (s : State) (p : Nat) : State :=
  if (s.lnk p).rekey then (s.linkFault p 2 0x0809).rekeyStart p else s

end Sys2Proof.Machine
end

