-- ==== Sys2Proof/Machine/Stack.lean ====
section
/-! DEFINITION. The stack controllers' own steps: quiescing channels (R244), the stack-gate arbiter (R253 to R258), real-time
panic (R251, R252), sector command issue (R246 to R250), refresh (R260), returning reads (R267), the scrubber (R270 to R273),
retirement (R277 to R279), temperature (R284). -/

namespace Sys2Proof.Machine

open Sys2Proof

/-! ### Waiting requests -/

/-- Start again the requests held for a locked granule or a quiesced channel. -/
def State.releaseParked (s : State) : State :=
  { s with
    sc := { s.sc with parked := [] }
    ktu := { s.ktu with wakes := s.ktu.wakes ++ s.sc.parked.map fun id => (Waiter.req id, Wake.again) } }

/-! ### Channels (R243, R244) -/

/-- Channel of a sector queue within its stack. -/
def queueCh (q : Nat) : Nat := q % 64 / 2

/-- A write of SC_CH_QSC: cleared bits release their channels. -/
def State.chQscWrite (s : State) (n v : Nat) : State :=
  ((s.setF (Reg.SC_CH_QSC.QSC n) v).setF (Reg.SC_CH_QSD.QSD n) (s.f (Reg.SC_CH_QSD.QSD n) &&& v)).releaseParked

/-- A quiesced channel whose queues are empty shows idle. -/
def State.chQuiesced (s : State) (n c : Nat) : State :=
  if bit (s.f (Reg.SC_CH_QSC.QSC n)) c && !(s.sc.cmds.any fun x => x.q / 64 == n && queueCh x.q == c)
      && !(s.sc.reads.any fun x => x.q / 64 == n && queueCh x.q == c)
  then s.setF (Reg.SC_CH_QSD.QSD n) (putBit (s.f (Reg.SC_CH_QSD.QSD n)) c true) else s

/-- Whether a write at an offset within a stack's sub-pages finds the channels quiesced that R243 asks for. -/
def State.timingOpen (s : State) (n off : Nat) : Bool :=
  let q := s.f (Reg.SC_CH_QSD.QSD n)
  if off < 0x2000 then q == 0xFFFFFFFF
  else if off < 0x2A00 then bit q ((off - 0x2100) / 64)
  else bit q ((off - 0x2A00) / 4)

/-- A write to SC_TIM0, SC_TIM1, SC_TIM_REF or an SC_DLY register. -/
def State.timingWrite (s : State) (a : Path) (n off v : Nat) : State :=
  if s.timingOpen n off then s.regStore (Pg.SC n + off) v
  else s.cfgReject a (Pg.SC n) (100 + n) 0x0709 (Pg.SC n + off) none

/-- An offset within a stack's sub-pages is one of the registers of R243. -/
def timingReg (off : Nat) : Bool :=
  off == 0x1040 || off == 0x1044 || off == 0x1048 || (decide (0x2100 ≤ off) && decide (off < 0x2900) && decide (off % 32 < 20))
  || (decide (0x2A00 ≤ off) && decide (off < 0x2A80))

/-! ### The arbiter (R253 to R258) -/

/-- The command of an access for one of its sectors: a read, a write, or the merge read of a partial write (R249). -/
def State.sectorCmd (s : State) (x : Access) (k : Nat) (w m : Bool) : SecCmd :=
  let a := s.phys (k * 64)
  let l := s.part.localOf a
  ⟨s.part.stackOf a * 64 + chOf l * 2 + pcOf l, bankOf l, rowOf l, k * 64, w, x.rt, m, x.requester == 15, s.time⟩

/-- The first commands of an access, sector by sector. -/
def State.sectorCmds (s : State) (x : Access) : List SecCmd :=
  if x.write then x.puts.map fun e => s.sectorCmd x e.1 e.2 (!e.2)
  else if x.len = 0 then []
  else (upTo (x.ppa / 64) ((x.ppa + x.len - 1) / 64 + 1)).map fun k => s.sectorCmd x k false false

/-- A write of a sector waits in its write queue. -/
def State.writeQueued (s : State) (ppa : Nat) : Bool := s.sc.cmds.any fun x => x.ppa == ppa && x.write

/-- The commands an access puts in the queues: a read of a sector with a write queued is served from the write queue, and a merge there
leaves its write at once (R248). -/
def State.queuedCmds (s : State) (x : Access) : List SecCmd :=
  (s.sectorCmds x).filterMap fun c =>
    if !c.write && s.writeQueued c.ppa then (if c.merge then some { c with write := true, merge := false } else none) else some c

/-- Commands in a read or write queue. -/
def State.queueLen (s : State) (q : Nat) (w : Bool) : Nat := (s.sc.cmds.filter fun x => x.q == q && x.write == w).length

/-- Entries of a read or write queue in use: a merge keeps one of the write queue for the write it leaves (R249). -/
def State.queueUsed (s : State) (q : Nat) (w : Bool) : Nat :=
  s.queueLen q w + (if w then (s.sc.cmds.filter fun x => x.q == q && x.merge).length + (s.sc.reads.filter fun x => x.q == q && x.merge).length else 0)

/-- An access is eligible (R254): its granule is free, every channel it needs is released and every queue has room. -/
def State.accessEligible (s : State) (x : Access) : Bool :=
  !s.granuleLocked (x.ppa / 4096)
  && (s.sectorCmds x).all fun c =>
      !bit (s.f (Reg.SC_CH_QSC.QSC x.stack)) (queueCh c.q) && decide (s.queueUsed c.q c.write < 64)
        && (!c.merge || decide (s.queueUsed c.q true < 64))

/-- A requester's head access: the oldest eligible one in its pending queue. -/
def State.headAccess (s : State) (n i : Nat) : Option Access :=
  s.sc.pend.find? fun x => x.stack == n && x.requester == i && s.accessEligible x

/-- One advance of the lottery state (R256). -/
def lfsrNext (l : Nat) : Nat :=
  let b := (b2n (bit l 0) + b2n (bit l 2) + b2n (bit l 3) + b2n (bit l 5)) % 2
  l / 2 + b * 32768

/-- The longest waiting of some heads by when each became its requester's head; ties go to the earlier in the list. Counted so, no requester
waits for more than one starvation grant of every other (R257, R259). -/
def longest (since : Nat → Nat) : List (Nat × Access) → Option (Nat × Access)
  | [] => none
  | h :: t => match longest since t with
    | none => some h
    | some g => if since g.1 < since h.1 then some g else some h

/-- When a requester's head access on a stack became the head. -/
def State.headSince (s : State) (n i : Nat) : Nat := SMap.get (fun _ => 0) s.sc.heads (n * 32 + i)

/-- Walk the candidates adding tickets: the first whose running sum exceeds r (R255). -/
def lottery (tickets : Nat → Nat) : List (Nat × Access) → Nat → Nat → Option (Nat × Access)
  | [], _, _ => none
  | h :: t, sum, r => if r < sum + tickets h.1 then some h else lottery tickets t (sum + tickets h.1) r

/-- Take the first element that equals a value out of a list. -/
def dropOne {α : Type} [DecidableEq α] (v : α) : List α → List α
  | [] => []
  | a :: r => if a = v then r else a :: dropOne v r

/-- Room came free in a requester's pending queue on a stack (R258): what it waits to offer there enters, and a port's oldest held request
goes on, with its buffer units given back. -/
def State.offerNext (s : State) (n i : Nat) : State :=
  match s.sc.wait.find? fun x => x.stack == n && x.requester == i with
  | some x => { s with sc := { s.sc with wait := dropOne x s.sc.wait } }.enqueue x
  | none => match s.sc.held.find? fun h => h.stack == n && h.requester == i with
    | some h =>
      let u := { s with
        sc := { s.sc with held := s.sc.held.filter fun x => x.id != h.id }
        ktu := { s.ktu with wakes := s.ktu.wakes ++ [(Waiter.req h.id, Wake.again)] } }
      if h.units = 0 then u else u.creditChanged h.port h.vc
    | none => s

/-- Grant an access: it leaves its pending queue for the channel queues. -/
def State.grantAccess (s : State) (n i : Nat) (x : Access) : State :=
  let s1 := { s with sc := { s.sc with
      pend := dropOne x s.sc.pend
      cmds := s.sc.cmds ++ s.queuedCmds x
      turn := s.sc.turn + 1 } }.newHead n i
  ((s1.bump (Reg.SC_ARB_GRANT_CNT.OFF n i)).panicTest n).offerNext n i

/-- Grants since the last oldest-first grant of a stack. -/
def State.starv (s : State) (n : Nat) : Nat := SMap.get (fun _ => 0) s.sc.starv n

def State.setStarv (s : State) (n v : Nat) : State :=
  { s with sc := { s.sc with starv := SMap.set (fun _ => 0) s.sc.starv n v } }

/-- One cycle of a stack's arbiter (R255, R257). -/
def State.arbitrate (s : State) (n : Nat) : State :=
  let s0 := s.panicTest n
  let heads := (List.range 17).filterMap fun i => (s0.headAccess n i).map fun x => (i, x)
  if s0.f (Reg.SC_ARB_CTRL.STARV_N n) ≤ s0.starv n + 1 then
    match longest (s0.headSince n) heads with
    | none => s0
    | some h => ((s0.setStarv n 0).bump (Reg.SC_ARB_STARV_CNT.OFF n)).grantAccess n h.1 h.2
  else
    let cand := if s0.panicking n then heads.filter fun h => s0.inPanic n h.1 else heads
    if cand.isEmpty then s0
    else
      let tk (i : Nat) : Nat := s0.f (Reg.SC_ARB_TKT.TICKETS n i)
      let t := (cand.map fun h => tk h.1).foldl (· + ·) 0
      let l := s0.f (Reg.SC_ARB_LFSR.LFSR n)
      let pick := if t = 0 then longest (s0.headSince n) cand else lottery tk cand 0 (l * t / 65536)
      let s1 := (s0.setF (Reg.SC_ARB_LFSR.LFSR n) (lfsrNext l)).setStarv n (s0.starv n + 1)
      match pick with
      | none => s1
      | some h => s1.grantAccess n h.1 h.2

/-! ### Refresh (R260) -/

/-- Key of a bank: queue * 32 + bank. -/
def State.postponed (s : State) (k : Nat) : Nat := SMap.get (fun _ => 0) s.sc.postponed k

def State.setPostponed (s : State) (k v : Nat) : State :=
  { s with sc := { s.sc with postponed := SMap.set (fun _ => 0) s.sc.postponed k v } }

/-- Issue some refreshes to a bank: its row is closed. -/
def State.refresh (s : State) (k count : Nat) : State :=
  { s with
    sc := { s.sc with rows := SMap.drop s.sc.rows fun x => x == k }
    epl := { s.epl with refreshes := s.epl.refreshes + count } }

/-- A waiting read would lose an open row, or is real-time, at a bank. -/
def State.refreshDeferrable (s : State) (q bank : Nat) : Bool :=
  s.sc.cmds.any fun x => x.q == q && x.bank == bank && !x.write
    && (x.rt || (s.sc.rows.any fun r => r.1 == q * 32 + bank && r.2 == x.row))

/-- Refreshes issued to a bank ahead of time. -/
def State.ahead (s : State) (k : Nat) : Nat := SMap.get (fun _ => 0) s.sc.ahead k

def State.setAhead (s : State) (k v : Nat) : State := { s with sc := { s.sc with ahead := SMap.set (fun _ => 0) s.sc.ahead k v } }

/-- A bank is idle: no command waits for it. -/
def State.bankIdle (s : State) (q bank : Nat) : Bool := !(s.sc.cmds.any fun x => x.q == q && x.bank == bank)

/-- A bank's refresh falls due: one issued ahead of time stands for it; else postponed for a row hit or a real-time read, up to 8, else issued
with those postponed. On an idle bank up to 8 more may be issued ahead: how many the controller issues is open, a free value (log entry 93). -/
def State.refreshDue (s : State) (q bank : Nat) : State :=
  let k := q * 32 + bank
  if s.f (Reg.SC_STAT.STATE (q / 64)) ≠ 1 then s
  else if 0 < s.ahead k then s.setAhead k (s.ahead k - 1)
  else if s.refreshDeferrable q bank && decide (s.postponed k < 8) then
    (s.setPostponed k (s.postponed k + 1)).bump (Reg.SC_REF_POSTPONE_CNT.OFF (q / 64))
  else
    let s1 := (s.setPostponed k 0).refresh k (1 + s.postponed k)
    if s1.bankIdle q bank then
      let z := s1.fresh 9
      (z.2.setAhead k z.1).refresh k z.1
    else s1

/-! ### Sector commands (R246 to R250) -/

/-- Commands of a channel in the present microsecond. -/
def State.issuedNow (s : State) (ch : Nat) : Nat :=
  match s.sc.issued.find? fun e => e.1 == ch with
  | some e => if e.2.1 = s.time / 1000 then e.2.2 else 0
  | none => 0

def State.noteIssued (s : State) (ch : Nat) : State :=
  let n := s.issuedNow ch + 1
  { s with sc := { s.sc with issued := (s.sc.issued.filter fun e => e.1 != ch) ++ [(ch, s.time / 1000, n)] } }

/-- The order of R247 among ready commands: those older than AGE_MAX, then row hits, then the rest; the oldest first within each. -/
def State.oneOf (s : State) (n q : Nat) (cs : List SecCmd) : Option SecCmd :=
  let old (x : SecCmd) : Bool := decide (x.since + s.f (Reg.SC_SCHED.AGE_MAX n) < s.time)
  let hit (x : SecCmd) : Bool := s.sc.rows.any fun r => r.1 == q * 32 + x.bank && r.2 == x.row
  ((cs.find? old).orElse fun _ => cs.find? hit).orElse fun _ => cs.head?

/-- The next read: merge reads go ahead of other reads (R249), and in panic real-time reads of the rest (R252). -/
def State.nextRead (s : State) (n q : Nat) (cs : List SecCmd) : Option SecCmd :=
  ((s.oneOf n q (cs.filter (·.merge))).orElse
    fun _ => if s.panicking n then s.oneOf n q (cs.filter (·.rt)) else none).orElse
    fun _ => s.oneOf n q cs

/-- The state of a queue's write drain after the tests of R246 and R250. -/
def State.drainTest (s : State) (n q : Nat) : State :=
  let w := s.queueLen q true
  let forced := decide (64 ≤ w) || (s.sc.drain.contains (q * 2 + 1) && decide (s.f (Reg.SC_SCHED.WR_HIGH n) < w))
  let normal := (decide (s.f (Reg.SC_SCHED.WR_HIGH n) ≤ w) && !s.panicking n)
    || (s.sc.drain.contains (q * 2) && decide (s.f (Reg.SC_SCHED.WR_LOW n) < w))
  { s with sc := { s.sc with
      drain := (s.sc.drain.filter fun x => x / 2 != q) ++ (if forced then [q * 2 + 1] else []) ++ (if normal then [q * 2] else []) } }

/-- Issue a sector command: a bank with 8 postponed refreshes is refreshed first (R260). -/
def State.issueCmd (s : State) (n q : Nat) (x : SecCmd) : State :=
  let k := q * 32 + x.bank
  let s0 := if s.postponed k = 8 then (s.setPostponed k 0).refresh k 8 else s
  let s1 := { s0 with sc := { s0.sc with
      cmds := dropOne x s0.sc.cmds
      reads := if x.write then s0.sc.reads else s0.sc.reads ++ [x]
      rows := SMap.drop s0.sc.rows (fun y => y == k) ++ [(k, x.row)] } }
  (s1.noteIssued (q / 2)).bump (if x.write then Reg.SC_WR_CNT.OFF n else Reg.SC_RD_CNT.OFF n)

/-- Issue the next sector command of a pseudo-channel. Commands for one sector go in queue order (R248); panic is tested first (R252). The
planner's cap holds all but forced drains and the commands of retirement copies and poison writes (R386 to R388). -/
def State.issueNext (s : State) (n q : Nat) : State :=
  let s0 := (s.panicTest n).drainTest n q
  let forced := s0.sc.drain.contains (q * 2 + 1)
  let cap := s0.f Reg.EPL_PLAN_CMD.CAP
  let held := cap != 0 && decide (cap ≤ s0.issuedNow (q / 2)) && !forced
  let mine := s0.sc.cmds.filter fun x => x.q == q
  let first (x : SecCmd) : Bool := (mine.find? fun y => y.ppa == x.ppa) == some x
  let open' (x : SecCmd) : Bool := first x && (!held || x.exempt)
  let reads := mine.filter fun x => !x.write && open' x
  let writes := mine.filter fun x => x.write && open' x
  let useW := forced || (s0.sc.drain.contains (q * 2) && !s0.panicking n) || reads.isEmpty
  if s0.f (Reg.SC_STAT.STATE n) ≠ 1 then s0
  else match if useW && !writes.isEmpty then s0.oneOf n q writes else s0.nextRead n q reads with
    | none => s0
    | some x => (s0.issueCmd n q x).drainTest n q

/-! ### Reads that return (R265 to R269) -/

/-- A sector read of a requester returns with symbol errors of the interface laid over the stored word. The data of a request's own
read were taken when it ran (log entry 18), so such a read that returns without errors only leaves the pins. A merge read leaves its write in
the write queue (R249). -/
def State.readReturns (s : State) (ppa : Nat) (flips : List (Nat × Nat)) : State :=
  let k := ppa / 64 * 64
  match s.sc.reads.find? fun x => x.ppa == k with
  | some x =>
    let s1 := { s with sc := { s.sc with
      reads := dropOne x s.sc.reads
      cmds := if x.merge then s.sc.cmds ++ [{ x with write := true, merge := false, since := s.time }] else s.sc.cmds } }
    if flips.isEmpty then s1 else (s1.demandSector k 0 0xFFF flips).1
  | none => (s.demandSector k 0 0xFFF flips).1

/-! ### The scrubber (R270 to R273) -/

/-- The slot of the stack-interleave table that holds a stack (R37). -/
def Part.slotOf (p : Part) (n : Nat) : Nat := if n < p.stacks / 2 then 2 * n else 2 * (n - p.stacks / 2) + 1

/-- Granule of stored addresses at a granule of a stack (R36 inverted). -/
def Part.storedGranule (p : Part) (n l : Nat) : Nat :=
  let f := rowFold l % p.stacks
  l * p.stacks + (p.slotOf n + p.stacks - f) % p.stacks

/-- Granules of one stack. -/
def Part.stackGranules (p : Part) : Nat := p.ppaEnd / 4096 / p.stacks

/-- The PPA granule whose data a stored granule holds and the scrubber reads: a granule of an INITIALISED partition that is not
retired, or the granule a spare in use serves. -/
def State.scrubbable (s : State) (g : Nat) : Option Nat :=
  let spare0 := s.part.sparePpa 0 / 4096
  if spare0 ≤ g then (s.sc.remap.find? fun e => spare0 + e.2.2 == g).map (·.2.1)
  else if (s.spareOf g).isSome then none
  else match s.ptnOf (g * 4096) with
    | some n => if s.flag (Reg.PTN_FLAGS.INITIALISED n) then some g else none
    | none => none

/-- First granule of a stack at or after l that may be scrubbable: outside INITIALISED partitions and the spares the search leaps to
the next GiB. -/
def State.scrubFrom (s : State) (n : Nat) : Nat → Nat → Option (Nat × Nat)
  | 0, _ => none
  | fuel + 1, l =>
    if s.part.stackGranules ≤ l then none
    else
      let g := s.part.storedGranule n l
      match s.scrubbable g with
      | some p => some (l, p)
      | none =>
        let inPtn := match s.ptnOf (g * 4096) with
          | some m => s.flag (Reg.PTN_FLAGS.INITIALISED m)
          | none => decide (s.part.sparePpa 0 / 4096 ≤ g)
        s.scrubFrom n fuel (if inPtn then l + 1 else max (l + 1) ((g / 262144 + 1) * 262144 / s.part.stacks))

/-- Nanoseconds of a scrub pass (R270). -/
def State.scrubPeriod (s : State) (n : Nat) : Nat := s.f (Reg.SC_SCRUB_CTRL.PERIOD_H n) * 3600000000000

/-- Bytes of scrub one interval needs for the programmed period (R270). -/
def State.scrubMin (s : State) : Nat :=
  (List.range s.part.stacks).foldl (fun acc n =>
    acc + (s.part.stackGranules * 4096) / (s.f (Reg.SC_SCRUB_CTRL.PERIOD_H n) * 3600000) + 1) 0

/-- The planner lets a scrub read issue: within the allowance, or below the minimum up to this sub-slot while a plan is in force (R387). -/
def State.scrubAllowed (s : State) : Bool :=
  s.maintAllowed || (s.f Reg.EPL_PLAN_MAINT.BYTES != 0 && decide (s.epl.scrubbed * 100 < s.scrubMin * (s.epl.slot + 1)))

/-- A pass ends at the top of the stack (R270, R273, R276). -/
def State.scrubPassEnd (s : State) (n : Nat) : State :=
  let t0 := SMap.get (fun _ => 0) s.sc.passStart n
  let late := decide (s.scrubPeriod n * 11 < (s.time - t0) * 10)
  let s1 := { s with sc := { s.sc with
      track := s.sc.track.filter fun e => e.1 != n
      scrubSec := SMap.set (fun _ => 0) s.sc.scrubSec n 0
      passStart := SMap.set (fun _ => 0) s.sc.passStart n s.time } }
  let s2 := ((s1.setF (Reg.SC_SCRUB_POS.GRANULE n) 0).bump (Reg.SC_SCRUB_PASS_CNT.OFF n)).setFlag (Reg.SC_SCRUB_STAT.LATE n) late
  if late then (s2.evt (Pg.SC n) 6).fault (mkRec (100 + n) 0 0x0708) else s2

/-- Read one sector of a granule and go on to the next (R270 to R272), as the scrubber's access (R253, R273); it waits for its pending queue, a
locked granule and a quiesced channel. -/
def State.scrubSector (s : State) (n l g : Nat) : State :=
  let sec := if l = s.f (Reg.SC_SCRUB_POS.GRANULE n) then SMap.get (fun _ => 0) s.sc.scrubSec n else 0
  let ppa := g * 4096 + sec * 64
  if s.memHeld ppa 64 ∨ s.pendFull n 14 then s else
  let s1 := match s.decodeSector ppa [] with
    | .clean _ => s
    | .corrected d => s.corrected ppa d
    | .poisoned exact => if exact then s else s.putSector (s.phys ppa) (zeros 64) poisonChecks
    | .uncorrectable => s.uncorrectable ppa 0x0702 0 0xFFF
  let s2 := (((s1.queueAccess 14 ppa 64 3 false []).bump (Reg.SC_SCRUB_SECT_CNT.OFF n)).memBytes none 11 64).takeMaint 64
  let next := if sec = 63 then l + 1 else l
  { s2 with
    sc := { s2.sc with scrubSec := SMap.set (fun _ => 0) s2.sc.scrubSec n ((sec + 1) % 64) }
    epl := { s2.epl with scrubbed := s2.epl.scrubbed + 64 } }.setF
    (Reg.SC_SCRUB_POS.GRANULE n) next

/-- One read of a stack's scrubber. The planner holds it beyond its allowance (R387). -/
def State.scrub (s : State) (n : Nat) : State :=
  if s.flag (Reg.SC_SCRUB_CTRL.EN n) = false ∨ s.f (Reg.SC_STAT.STATE n) ≠ 1 then s
  else if s.scrubAllowed = false then s.noteMaintHeld
  else
    match s.scrubFrom n 40000 (s.f (Reg.SC_SCRUB_POS.GRANULE n)) with
    | some (l, g) => s.scrubSector n l g
    | none =>
      let s1 := s.scrubPassEnd n
      match s1.scrubFrom n 40000 0 with
      | some (l, g) => s1.scrubSector n l g
      | none => s1

/-- The correctable-error bucket leaks for one second (R274). -/
def State.bucketLeak (s : State) (n : Nat) : State :=
  s.setF (Reg.SC_CE_BUCKET.LEVEL n) (s.f (Reg.SC_CE_BUCKET.LEVEL n) - s.f (Reg.SC_CE_CTRL.LEAK n))

/-! ### Retirement (R277, R278) -/

/-- Copy one sector of a granule to its spare: a sector newly found uncorrectable is counted and recorded (R277 step 3). -/
def State.retireSector (s : State) (n spare a : Nat) : State :=
  let dst := s.part.sparePpa spare + a % 4096
  match s.decodeSector a [] with
  | .clean d => s.putSector dst d (rsEncode (dataSymbols d))
  | .corrected d => (s.putSector dst d (rsEncode (dataSymbols d))).countCorrected n
  | .poisoned _ => s.putSector dst (zeros 64) poisonChecks
  | .uncorrectable =>
    let s1 := ((s.putSector dst (zeros 64) poisonChecks).poisonList a false).bump (Reg.SC_UE_CNT.OFF n)
    ((s1.evt (Pg.SC n) 2).fault { mkRec (100 + n) 1 0x0701 with addr := a, addrPpa := true }).noteUe n

/-- Lowest free remap entry. -/
def State.freeRemap (s : State) : Nat :=
  ((List.range 16384).find? fun i => !(s.sc.remap.any fun e => e.1 == i)).getD 0

/-- Install the remap entry of a retirement: a retired granule's entry is updated and its old spare not reused (R278). -/
def State.installRemap (s : State) (r : Retire) : State :=
  match s.sc.remap.find? fun e => e.2.1 == r.granule with
  | some e => { s with sc := { s.sc with
      remap := mapIf (fun x => x.1 == e.1) (fun x => (x.1, x.2.1, r.spare)) s.sc.remap
      superseded := s.sc.superseded ++ [e.2.2] } }
  | none => { s with sc := { s.sc with remap := s.sc.remap ++ [(s.freeRemap, r.granule, r.spare)] } }

/-- Pending accesses of a granule go to the stack that serves it now (R278). -/
def State.movePending (s : State) (g : Nat) : State :=
  let n := s.stackAt (g * 4096)
  let move (l : List Access) : List Access := mapIf (fun x => x.ppa / 4096 == g) (fun x => { x with stack := n }) l
  { s with sc := { s.sc with pend := move s.sc.pend, wait := move s.sc.wait } }

/-- Some channel of a granule's stack is quiesced: its sectors lie on every channel (R240). -/
def State.granuleQuiesced (s : State) (ppa : Nat) : Bool := s.f (Reg.SC_CH_QSC.QSC (s.stackAt ppa)) != 0

/-- The copy of a retirement on the stack that serves the granule ends (R277 steps 3 to 6): its reads and writes are the maintenance
requester's accesses, and wait for quiesced channels. A stack that failed meanwhile ends it without effect (R282). -/
def State.retireDone (s : State) (n g : Nat) : State :=
  match s.sc.retire.find? fun r => r.granule == g && s.stackAt (g * 4096) == n with
  | none => s
  | some r =>
    let out (u : State) : State := { u with sc := { u.sc with retire := u.sc.retire.filter fun x => x.granule != g } }
    let dst := s.part.sparePpa r.spare
    if s.stackFailed n || s.stackFailed (s.part.stackOf dst) then (out s).releaseParked
    else if s.granuleQuiesced (g * 4096) || s.granuleQuiesced dst then s
    else
      let s0 := (s.queueAccess 15 (g * 4096) 4096 3 false []).queueAccess 15 dst 4096 3 true (rangePuts dst 4096)
      let s1 := (List.range 64).foldl (fun acc i => acc.retireSector n r.spare (g * 4096 + 64 * i)) s0
      let s2 := (out (s1.installRemap r)).movePending g
      let s3 := { s2 with sc := { s2.sc with unlogged := s2.sc.unlogged ++ [(n, g)] } }.memBytes none 11 8192
      (((s3.bump (Reg.SC_RETIRE_CNT.OFF n)).evt (Pg.SC n) 3).fault
        { mkRec (100 + n) 0 0x0704 with addr := g * 4096, addrPpa := true }).releaseParked

/-! ### Temperature (R284) -/

/-- A reading of a stack's temperature. -/
def State.stackTemp (s : State) (n t : Nat) : State :=
  let s1 := s.setF (Reg.SC_STAT.TEMP n) (min t 255)
  if 85 < t then
    (if s1.flag (Reg.SC_STAT.HOT n) then s1
     else ((s1.setFlag (Reg.SC_STAT.HOT n) true).evt (Pg.SC n) 7).fault (mkRec (100 + n) 0 0x070A))
  else if t < 82 then s1.setFlag (Reg.SC_STAT.HOT n) false
  else s1

end Sys2Proof.Machine
end

