-- ==== Sys2Proof/Machine/Energy.lean ====
section
/-! DEFINITION. The energy planner (R378 to R394): meters, the budget and its derating, interval boundaries, plans and their
sub-slots, energy pressure, accounting. The factory constants of R385 and the split of energy over classes are not given, so they
are free values (log entries 17 and 19). -/

namespace Sys2Proof.Machine

open Sys2Proof

/-! ### Meters (R378, R380) -/

/-- A meter's island is present (R2, R378). -/
def Part.meterPresent (p : Part) (i : Nat) : Bool :=
  if i < 12 then decide (i < p.stacks)
  else if i < 24 then decide (i - 12 < p.stacks)
  else if i < 120 then decide (i - 24 < p.engines)
  else if i = 125 then p.hinge
  else if i = 130 then p.full
  else decide (i < 136)

/-- Design maximum of an island over one interval, in microjoules: a factory constant. -/
def meterMax (i : Nat) : Nat := Config.factory (1000 + i)

/-- One update of a meter; a fault of the meter is recorded once (R380). -/
def State.meter (s : State) (i uj : Nat) (faulty : Bool) : State :=
  if s.part.meterPresent i = false then s
  else
    let s1 := (s.addCnt (Reg.EPL_MTR_UJ.OFF i) uj).addCnt Reg.EPL_TOTAL_UJ.OFF uj
    let s2 := { s1 with epl := { s1.epl with metered := addTally s1.epl.metered i uj } }
    if faulty && !s2.epl.faulty.contains i && !s2.epl.faultyNew.contains i then
      { s2 with epl := { s2.epl with faultyNew := s2.epl.faultyNew ++ [i] } }.fault (mkRec 135 2 0x0B04)
    else s2

/-- Sum of what the meters counted in the interval (R378). -/
def State.countedUj (s : State) : Nat := (List.range 136).foldl (fun acc i => acc + SMap.get (fun _ => 0) s.epl.metered i) 0

/-- Metered energy of the interval: a meter found faulty in an earlier interval is taken as its island's design maximum (R380). -/
def State.intervalUj (s : State) : Nat :=
  (List.range 136).foldl (fun acc i =>
    acc + (if s.epl.faulty.contains i then meterMax i else SMap.get (fun _ => 0) s.epl.metered i)) 0

/-! ### The budget (R381, R382) -/

/-- The manager's budget and the sideband limit, before derating. -/
def State.powerLimit (s : State) : Nat :=
  let m := s.f Reg.EPL_BUDGET.MW
  let b := s.f Reg.EPL_SB_LIMIT.MW
  if b = 0 then m else min m (max b 250000)

/-- The effective budget for a derating. -/
def State.effBudget (s : State) (derate : Nat) : Nat := max 250000 (s.powerLimit * (100 - derate) / 100)

/-- Whether every temperature is at least `by` degrees below its threshold. -/
def State.coolBy (s : State) (d : Nat) : Bool :=
  (List.range s.part.stacks).all (fun n => decide (s.f (Reg.SC_STAT.TEMP n) + d ≤ s.f Reg.EPL_THERM.STACK_SOFT))
  && s.epl.temps.all fun t => decide (t + d ≤ s.f Reg.EPL_THERM.CTRL_SOFT)

/-- Derating at a boundary (R382). -/
def State.derate (s : State) : State :=
  let d := s.f Reg.EPL_EFF.DERATE_PCT
  let d1 := if s.coolBy 2 then d - 1 else if s.coolBy 1 then d else min 75 (d + 5)
  let s1 := (((s.setF Reg.EPL_EFF.DERATE_PCT d1).setF Reg.EPL_EFF.MW (s.effBudget d1)).setFlag Reg.EPL_STAT.DERATING (d1 != 0))
  if d = 0 ∧ d1 ≠ 0 then (s1.evt Pg.EPL 1).fault (mkRec 135 0 0x0B02) else s1

/-! ### Energy pressure (R390) and the overspent interval (R389) -/

/-- EP of the interval just ended. -/
def State.pressure (s : State) (uj : Nat) : Nat :=
  let eff := s.f Reg.EPL_EFF.MW
  let f8 := if s.epl.wanted = 0 then 0 else 8 * s.epl.held / s.epl.wanted
  if s.f Reg.EPL_PLAN_CMD.CAP ≠ 0 then max 12 (min 15 (8 + f8))
  else if 0 < s.epl.held then min 15 (8 + f8)
  else min 7 (8 * uj / eff)

/-- Publish EP in EPL_STAT and TSH_STAT. -/
def State.publishEp (s : State) (ep : Nat) : State := (s.setF Reg.EPL_STAT.EP ep).setF Reg.TSH_STAT.EP ep

/-- Note an interval over or within budget. -/
def State.overBudget (s : State) (uj : Nat) : State :=
  let eff := s.f Reg.EPL_EFF.MW
  if eff < uj then
    let s1 := { s with epl := { s.epl with debt := s.epl.debt ++ [(uj - eff, 10)] } }.bump Reg.EPL_OVER_CNT.OFF
    if s1.flag Reg.EPL_STAT.OVER then s1
    else ((s1.setFlag Reg.EPL_STAT.OVER true).evt Pg.EPL 0).fault (mkRec 135 0 0x0B01)
  else s.setFlag Reg.EPL_STAT.OVER false

/-- Pay back from one interval's energy: at most a tenth of it; what remains of a debt is forgiven after 10 intervals. -/
def payDebt : List (Nat × Nat) → Nat → Nat × List (Nat × Nat)
  | [], _ => (0, [])
  | (owed, left) :: r, room =>
    let p := min owed room
    let rest := payDebt r (room - p)
    (p + rest.1, if owed - p = 0 ∨ left ≤ 1 then rest.2 else (owed - p, left - 1) :: rest.2)

/-! ### Accounting (R393, R394) -/

/-- Divide an energy over classes 0 to 14: how is not stated, so the parts are free values that sum to it (log entry 19). -/
def State.splitUj (s : State) (uj : Nat) : State × List Nat :=
  let r := (List.range 14).foldl (fun (acc : State × Nat × List Nat) _ =>
    let w := acc.1.fresh (acc.2.1 + 1)
    (w.2, acc.2.1 - w.1, acc.2.2 ++ [w.1])) (s, uj, [])
  (r.1, r.2.2 ++ [r.2.1])

/-- Energy of a class over the last 16 intervals, and its bytes. -/
def State.classHist (s : State) (k : Nat) : Nat × Nat :=
  s.epl.hist.foldl (fun acc h => (acc.1 + SMap.get (fun _ => 0) h k, acc.2 + SMap.get (fun _ => 0) h (16 + k))) (0, 0)

/-- Bytes that an energy buys in some classes, at their energy per byte over the last 16 intervals (R385). -/
def State.bytesFor (s : State) (ks : List Nat) (uj : Nat) : Nat :=
  let h := ks.foldl (fun (acc : Nat × Nat) k => (acc.1 + (s.classHist k).1, acc.2 + (s.classHist k).2)) (0, 0)
  if h.1 = 0 ∨ h.2 = 0 then uj * Config.factory (100 + ks.headD 0) else uj * h.2 / h.1

/-- Energy of bytes of a class. -/
def State.ujFor (s : State) (k bytes : Nat) : Nat :=
  let h := s.classHist k
  if h.1 = 0 ∨ h.2 = 0 then bytes / (Config.factory (100 + k) + 1) else bytes * h.1 / h.2

/-- Charge the interval's energy to classes and subscribers (R393, R394). -/
def State.chargeUj (s : State) (uj : Nat) : State :=
  let w := s.splitUj uj
  let e (k : Nat) : Nat := w.2.getD k 0
  let s1 := (List.range 15).foldl (fun acc k => acc.addCnt (Reg.EPL_CLS_UJ.OFF k) (e k)) w.1
  let entry := (List.range 15).foldl (fun acc k =>
    addTally (addTally acc k (e k)) (16 + k) (SMap.get (fun _ => 0) s.epl.bytes k)) []
  let s2 := { s1 with epl := { s1.epl with hist := (s1.epl.hist ++ [entry]).drop (s1.epl.hist.length + 1 - 16) } }
  let dyn := (List.range 11).foldl (fun acc k => acc + e k) 0
  let weight (b : Nat) : Nat :=
    (List.range 11).foldl (fun acc k => acc + s2.ujFor k (SMap.get (fun _ => 0) s.epl.charges (b * 16 + k)))
      (SMap.get (fun _ => 0) s.epl.linkBytes b * Config.factory 1)
  let total := (List.range 64).foldl (fun acc b => acc + weight b) 0
  let share (b : Nat) : Nat := if total = 0 then 0 else dyn * weight b / total
  let given := (List.range 64).foldl (fun acc b => acc + share b) 0
  ((List.range 64).foldl (fun acc b => acc.addCnt (Reg.EPL_SUB_UJ.OFF b) (share b)) s2).addCnt Reg.EPL_UNATTR_UJ.OFF (uj - given)

/-! ### Plans (R385 to R387) -/

/-- Open the first sub-slot of each allowance. -/
def State.openSlots (s : State) : State :=
  { s with epl := { s.epl with
      slot := 0
      wardLeft := s.f Reg.EPL_PLAN_WARD.BYTES / 100
      maintLeft := s.f Reg.EPL_PLAN_MAINT.BYTES / 100
      resyncLeft := s.f Reg.EPL_PLAN_RESYNC.BYTES / 100 } }

/-- What one sub-slot carries to the next: what it did not use of its own share (R387). -/
def nextSlot (plan left : Nat) : Nat := plan / 100 + min left (plan / 100)

/-- The next sub-slot opens. -/
def State.subSlot (s : State) : State :=
  if 99 ≤ s.epl.slot then s
  else { s with epl := { s.epl with
      slot := s.epl.slot + 1
      wardLeft := nextSlot (s.f Reg.EPL_PLAN_WARD.BYTES) s.epl.wardLeft
      maintLeft := nextSlot (s.f Reg.EPL_PLAN_MAINT.BYTES) s.epl.maintLeft
      resyncLeft := nextSlot (s.f Reg.EPL_PLAN_RESYNC.BYTES) s.epl.resyncLeft } }

/-- Firmware's plan (R385, R386) from what the last interval used. -/
def State.makePlan (s : State) : State :=
  let eff := s.f Reg.EPL_EFF.MW
  let pay := payDebt s.epl.debt (eff / 10)
  let e0 := eff * (100 - s.f Reg.EPL_CTRL.GUARD_PCT) / 100 - pay.1
  let last (k : Nat) : Nat := match s.epl.hist.getLast? with
    | some h => SMap.get (fun _ => 0) h k
    | none => 0
  let floorV := s.fresh (2 ^ 20)
  let ref := s.epl.refreshes * Config.factory 0 / 1000 * 110 / 100
  let hinge := if s.flag Reg.HPS_CTRL.PAIR_EN then last 12 * 125 / 100 else 0
  let resyncMin := s.f Reg.EPL_RESYNC_MIN.MBS * 1000
  let mins := s.ujFor 11 s.scrubMin + s.ujFor 12 resyncMin
  let e4 := e0 - ref - floorV.1 - hinge - mins
  let demand := (last 0 + last 9 + last 10 + last 13) * 125 / 100
  let short := decide (e4 < demand)
  let e5 := e4 - demand
  let wards := [8, 1, 2, 3, 4, 5, 6, 7]
  let full := Config.factory 3
  let bytes := s.bytesFor wards e5
  let wide := decide (full ≤ bytes)
  let rest := if wide && !short && bytes != 0 then e5 - e5 * full / bytes else 0
  let cap := if short then 64 + (floorV.2.fresh 1137).1 else 0
  let s1 := if short then (floorV.2.fresh 1137).2 else floorV.2
  let s2 := { s1 with epl := { s1.epl with debt := pay.2 } }
  let s3 := (((s2.setF Reg.EPL_RSV_REF.MW (min ref (2 ^ 20 - 1))).setF Reg.EPL_RSV_FLOOR.MW floorV.1).setF
    Reg.EPL_RSV_HINGE.MW (min hinge (2 ^ 20 - 1)))
  let s4 := ((s3.setF Reg.EPL_PLAN_WARD.BYTES (if wide && !short then 2 ^ 64 - 1 else min bytes (2 ^ 64 - 2))).setF
    Reg.EPL_PLAN_MAINT.BYTES (min (s.scrubMin + s.bytesFor [11] (rest / 2)) (2 ^ 64 - 2))).setF
    Reg.EPL_PLAN_RESYNC.BYTES (min (resyncMin + s.bytesFor [12] (rest / 2)) (2 ^ 64 - 2))
  let was := s.f Reg.EPL_PLAN_CMD.CAP
  let s5 := (s4.setF Reg.EPL_PLAN_CMD.CAP cap).setFlag Reg.EPL_STAT.CAP_ACTIVE (cap != 0)
  let s6 := if was = 0 ∧ cap ≠ 0 then s5.evt Pg.EPL 3 else s5
  let seq := (s.f Reg.EPL_PLAN_SEQ.INTERVAL + 1) % 4294967296
  { ((s6.setF Reg.EPL_PLAN_SEQ.INTERVAL seq).setFlag Reg.EPL_STAT.PLAN_STALE false) with
    epl := { s6.epl with stale := 0 } }

/-- Firmware plans: the Vorer core runs, the planner island is in service (R391). -/
def State.planning (s : State) : Bool := !s.fwDown && !s.epl.out

/-- Clear the interval's tallies, showing what was held in it (R396). -/
def State.newInterval (s : State) : State :=
  let s1 := ((s.setFlag Reg.EPL_STAT.WARD_HELD (s.epl.held != 0)).setFlag Reg.EPL_STAT.MAINT_HELD s.epl.maintHeld).setFlag
    Reg.EPL_STAT.RESYNC_HELD s.epl.resyncHeld
  { s1 with epl := { s1.epl with
      metered := []
      bytes := []
      charges := []
      linkBytes := []
      faulty := s1.epl.faulty ++ s1.epl.faultyNew
      faultyNew := []
      wanted := 0
      held := 0
      scrubbed := 0
      maintHeld := false
      resyncHeld := false
      refreshes := 0 } }

/-- An interval boundary (R384). While the planner island is out of service EP and the plan keep their last values (R391); EP is held in
basic service too (R441). What is charged
is what the meters counted, so that the charges sum to EPL_TOTAL_UJ (R393, R394). -/
def State.planBoundary (s : State) : State :=
  let uj := s.intervalUj
  let s1 := if s.planning && s.service == 0 then s.publishEp (s.pressure uj) else s
  let s2 := ((s1.overBudget uj).derate).chargeUj s.countedUj
  let s3 := if s2.planning then s2.makePlan.bump Reg.EPL_INTERVAL_CNT.OFF
    else { s2 with epl := { s2.epl with stale := s2.epl.stale + 1 } }.bump Reg.EPL_STALE_CNT.OFF
  let s4 := if s3.f Reg.EPL_PLAN_CMD.CAP = 0 then s3 else s3.bump Reg.EPL_CAP_CNT.OFF
  s4.newInterval.openSlots

/-- PLAN_TMO intervals have passed without a new plan (R391): the ward allowance is cut to what fits 250 W, a factory constant. -/
def State.planStale (s : State) : State :=
  if s.epl.stale < s.f Reg.EPL_CTRL.PLAN_TMO ∨ s.flag Reg.EPL_STAT.PLAN_STALE then s
  else
    let s1 := s.setF Reg.EPL_PLAN_WARD.BYTES (min (s.f Reg.EPL_PLAN_WARD.BYTES) (Config.factory 4))
    let share := s1.f Reg.EPL_PLAN_WARD.BYTES / 100
    let s2 := { s1 with epl := { s1.epl with wardLeft := min s1.epl.wardLeft (2 * share) } }
    ((s2.setFlag Reg.EPL_STAT.PLAN_STALE true).evt Pg.EPL 2).fault (mkRec 135 2 0x0B03)

end Sys2Proof.Machine
end

