-- ==== Sys2Proof/Machine/Stream.lean ====
section
/-! DEFINITION. Context streams (R469 to R474): the stream number of a packet, the opening of a request under a stream and the sealing
of a response. -/

namespace Sys2Proof.Machine

/-- Bytes exclusive-or the key stream from a position. -/
def cipherFrom (key nonce : List Byte) (i : Nat) (b : List Byte) : List Byte :=
  (List.range b.length).map fun j => byteAt b j ^^^ keyStream (slice key 0 32) nonce (i + j)

/-- The stream of a context with a requester node. -/
def State.streamOf (s : State) (c n : Nat) : Option Stream := s.kpr.streams.find? fun t => t.ctx == c && t.node == n

/-- A 16-bit number extended around a base (R471). -/
def extendNear (base s16 : Nat) : Nat :=
  let d := (s16 + 65536 - base % 65536) % 65536
  if d ≤ 32768 then base + d else base + d - 65536

/-- Position of a request number among a source's numbers, extended from its committed-through value (R471). -/
def State.sourceNum (s : State) (t : Stream) (s16 : Nat) : Nat :=
  match s.seqEntry t.node with
  | some e => extendNear e.c s16
  | none => 65536 + s16

/-- The stream number of a request number; none where it would be negative (R471, R472). -/
def State.streamNum (s : State) (t : Stream) (s16 : Nat) : Option Nat :=
  let n := s.sourceNum t s16
  let b := t.base.getD (extendNear n t.first)
  if b ≤ n then some (n - b) else none

/-- Nonce of a stream packet (R471): the salt, two zero bytes, n in 6 bytes. -/
def streamNonce (key : List Byte) (n : Nat) : List Byte := slice key 32 4 ++ zeros 2 ++ leBytes 6 n

/-- Additional data of a stream packet (R469). -/
def streamAad (p : Packet) : List Byte :=
  leBytes 8 p.xact.toNat ++ leBytes 8 p.addr.toNat ++ leBytes 8 p.op.toNat ++ leBytes 3 (bits p.route.toNat 23 0)

/-- Open a request under a stream: its payload in clear, or none where its tag fails. The first packet fixes where FIRST_SEQ lies in
the source's numbering. -/
def State.openStream (s : State) (p : Packet) : Option (State × Packet) :=
  match s.streamOf p.ctx p.src with
  | none => none
  | some t =>
    match s.streamNum t p.seq with
    | none => none
    | some n =>
      if gcmTag (slice t.reqKey 0 32) (streamNonce t.reqKey n) (streamAad p) p.payload = p.tag then
        let b := s.sourceNum t p.seq - n
        some ({ s with kpr := { s.kpr with streams := mapIf (fun x => x.ctx == t.ctx) (fun x => { x with base := some b }) s.kpr.streams } },
          { p with payload := cipherFrom t.reqKey (streamNonce t.reqKey n) 0 p.payload })
      else none

/-- A response that leaves without its stream: its status only (R474). -/
def bareResponse (p : Packet) : Packet :=
  { p with
    route := BitVec.ofNat 64 (putBits p.route.toNat 55 43 0)
    xact := BitVec.ofNat 64 (putBits (putBits p.xact.toNat 55 55 0) 63 56 0)
    addr := 0, op := 0, payload := [], tag := [] }

/-- Seal a response as it leaves (R469, R471): under a retired stream it carries its status only. -/
def State.sealResponse (s : State) (p : Packet) : Packet :=
  if !p.streamEn then p
  else match s.streamOf p.stream p.dest with
    | none => bareResponse p
    | some t => match s.streamNum t p.seq with
      | none => bareResponse p
      | some n =>
        let c := cipherFrom t.rspKey (streamNonce t.rspKey n) 0 p.payload
        { p with payload := c, tag := gcmTag (slice t.rspKey 0 32) (streamNonce t.rspKey n) (streamAad p) c }

end Sys2Proof.Machine
end

