-- ==== Sys2Proof/Machine/Flit.lean ====
section
/-! DEFINITION. Flits: building them from the queued packets (R289 to R294, R297 to R303, R308, R315, R369), taking them apart (R295 to
R304, R307, R311, R315, R318), replay. -/

namespace Sys2Proof.Machine

open Sys2Proof

/-! ### Packets as bytes -/

/-- The bytes of a packet (R323, R328). -/
def packetBytes (p : Packet) : List Byte :=
  leBytes 8 p.route.toNat ++ leBytes 8 p.xact.toNat ++ leBytes 8 p.addr.toNat ++ leBytes 8 p.op.toNat ++ p.payload ++ p.tag

/-- A packet's length from the first 16 bytes (R328). -/
def lengthOf (b : List Byte) : Nat :=
  32 + bits (leNat (slice b 0 8)) 55 43 + (if bit (leNat (slice b 8 8)) 55 then 16 else 0)

/-- The packet of some bytes. -/
def packetOf (b : List Byte) : Packet :=
  let n := bits (leNat (slice b 0 8)) 55 43
  { route := BitVec.ofNat 64 (leNat (slice b 0 8)), xact := BitVec.ofNat 64 (leNat (slice b 8 8)),
    addr := BitVec.ofNat 64 (leNat (slice b 16 8)), op := BitVec.ofNat 64 (leNat (slice b 24 8)),
    payload := slice b 32 n, tag := if bit (leNat (slice b 8 8)) 55 then slice b (32 + n) 16 else [] }

/-- Bytes padded to whole 16-byte slots (R292). -/
def padSlots (b : List Byte) : List Byte := b ++ zeros (roundUp b.length 16 - b.length)

/-- The nonce of packet n under a key with its salt (R315). -/
def linkNonce (key : List Byte) (n : Nat) : List Byte := slice key 32 4 ++ leBytes 8 n

/-- A packet's slots on an encrypted link: the ciphertext, then its link tag (R315). -/
def sealed (key : List Byte) (n : Nat) (b : List Byte) : List Byte :=
  let c := cipherFrom key (linkNonce key n) 0 b
  padSlots c ++ slice (gcmTag (slice key 0 32) (linkNonce key n) [] c) 0 16

/-! ### LOAD (R56, R372, R418) -/

/-- The packet names this chip, or its pair, as its source. -/
def State.ownSource (s : State) (p : Packet) : Bool := p.src == 0xFFF || p.src == s.ownId || s.f Reg.RTB_NODE.PAIR_ID == p.src

/-- A response of this chip's own, which takes its LOAD as it leaves. -/
def State.ownResponse (s : State) (p : Packet) : Bool := isResponse p && s.ownSource p

/-- Bytes of a packet that goes out, counted for its energy class: hinge traffic, or transit and MGT (R394). -/
def State.countSent (s : State) (port : Nat) (p : Packet) : State :=
  if hingeTraffic port p then s.classBytes 12 p.packetLen
  else if s.ownSource p = false || mgtTraffic p then s.classBytes 13 p.packetLen
  else s

/-- A NOTIFY of this chip's own. -/
def State.ownNotify (s : State) (p : Packet) : Bool := p.opcode == 0x63 && p.src == s.ownId

/-- LOAD of a packet that leaves a link port (R372). DESIGN CHOICE: the hinge ports are not shaped (R360, R403) and have no C_p, so
only EP and S count there (log entry 90). -/
def State.linkLoad (s : State) (port : Nat) (b : Option Nat) : Nat :=
  max (match shapedPort port with
    | some p => s.congestion p
    | none => 0) (max s.ep (match b with
    | some x => s.subState x
    | none => 0))

/-- Place LOAD in a response as it leaves a port, and in a NOTIFY, which no request has asked for. -/
def State.placeLoad (s : State) (t : TxPkt) : State × Packet :=
  if s.ownNotify t.p then (s, setXact t.p 51 48 (s.linkLoad t.port none))
  else if s.ownResponse t.p = false then (s, t.p)
  else
    let own := s.linkLoad t.port t.who
    let pair := t.p.src == s.f Reg.RTB_NODE.PAIR_ID && s.f Reg.RTB_NODE.PAIR_ID != 0xFFF
    let l := if pair && decide (s.time < s.hps.loadUntil) then max own s.hps.pLoad else own
    let s1 := if l = 15 then s.evt Pg.TSH 1 else s
    ({ s1 with hps := { s1.hps with lastLoad := if pair then l else s1.hps.lastLoad } },
      s.sealResponse (setXact t.p 51 48 l))

/-! ### Choosing a packet (R308, R369) -/

/-- Key of a class queue: port * 8 + set * 4 + class; set 0 holds responses, set 1 requests (R360). -/
def classQueue (p set c : Nat) : Nat := p * 8 + set * 4 + c

/-- Packets of a set of a port, in order (R360): VC3, or VC0 and VC1. -/
def State.setPackets (s : State) (p set : Nat) : List TxPkt :=
  s.txq.filter fun t => t.port == p && (if set = 0 then t.p.vc == 3 else t.p.vc == 0 || t.p.vc == 1)

/-- A packet's channel has credit on its port (R302); the CXL port's own flow control is not a command's (log entry 24). -/
def State.hasCredit (s : State) (t : TxPkt) : Bool := t.port == 6 || decide (units t.p.packetLen ≤ s.creditLeft t.port t.p.vc)

/-- The packet of a lane that may go: the first of its channel in the lane, where that channel has credit and is the one asked for (R308,
R369). A channel without credit holds up no other. -/
def State.laneFirst (s : State) (v : Option Nat) (ts : List TxPkt) : Option TxPkt :=
  ts.find? fun t => (ts.find? fun x => x.p.vc == t.p.vc) == some t && s.hasCredit t && v.all (· == t.p.vc)

/-- Bytes a packet counts by: its length, or a CXL message's data and 16 (R363, R368). -/
def TxPkt.size (t : TxPkt) : Nat := if t.port = 6 then t.p.payload.length + 16 else t.p.packetLen

/-- The packet a class queue sends next: one of its CONFORM lane, but after 7 in a row one of the EXCESS lane. -/
def State.laneHead (s : State) (q : Nat) (v : Option Nat) (ts : List TxPkt) : Option TxPkt :=
  let c := s.laneFirst v (ts.filter fun t => !t.excess)
  let e := s.laneFirst v (ts.filter fun t => t.excess)
  if 7 ≤ SMap.get (fun _ => 0) s.tsh.run q then e.orElse fun _ => c else c.orElse fun _ => e

/-- Rate of a class queue, by its key. -/
def State.queueRate (s : State) (q : Nat) : Nat := s.f (Reg.TSH_PCLS.RATE (q / 8) (q % 4))

/-- A class queue is eligible (R368). -/
def State.queueEligible (s : State) (q : Nat) : Bool := s.queueRate q == 0 || decide (SMap.get (fun _ => 0) s.tsh.elig q ≤ s.time)

/-- Take a packet from a class queue: its next eligible time, rounded up to a whole 64 ns slot (R368), its lane's run. -/
def State.takeFrom (s : State) (q : Nat) (t : TxPkt) : State :=
  let rate := s.queueRate q
  let e := (max (SMap.get (fun _ => 0) s.tsh.elig q) s.time * rate + t.size * 1000 + rate * 64 - 1) / (rate * 64) * 64
  { s with
    tsh := { s.tsh with
      elig := if rate = 0 then s.tsh.elig else SMap.set (fun _ => 0) s.tsh.elig q e
      run := SMap.set (fun _ => 0) s.tsh.run q (if t.excess then 0 else SMap.get (fun _ => 0) s.tsh.run q + 1) } }

/-- The class served last of a set, and whether it is still being served. -/
def State.served (s : State) (p set : Nat) : Nat := SMap.get (fun _ => 0) s.tsh.serving (p * 2 + set)

def State.setServed (s : State) (p set v : Nat) : State :=
  { s with tsh := { s.tsh with serving := SMap.set (fun _ => 0) s.tsh.serving (p * 2 + set) v } }

def State.setDeficit (s : State) (q d : Nat) : State :=
  { s with tsh := { s.tsh with deficit := SMap.set (fun _ => 0) s.tsh.deficit q d } }

/-- One round of the deficit round robin over queues c (R369). -/
def State.drrRound (s : State) (p set : Nat) (v : Option Nat) (ts : List TxPkt) : List Nat → State × Option (Nat × TxPkt)
  | [] => (s, none)
  | c :: r =>
    let q := classQueue p set c
    let mine := ts.filter fun t => t.p.cls == c
    if mine.isEmpty then State.drrRound (s.setDeficit q 0) p set v ts r
    else if s.queueEligible q = false then State.drrRound s p set v ts r
    else match s.laneHead q v mine with
      | none => State.drrRound s p set v ts r
      | some t =>
        let d := SMap.get (fun _ => 0) s.tsh.deficit q
          + (if s.served p set = c + 8 then 0 else s.f (Reg.TSH_PCLS.QUANTUM p c))
        if t.size ≤ d then
          ((s.setDeficit q (if mine.length = 1 then 0 else d - t.size)).setServed p set (c + 8), some (c, t))
        else
          let s1 := s.setDeficit q d
          State.drrRound (if s.served p set = c + 8 then s1.setServed p set c else s1) p set v ts r

/-- Rounds until a packet's length fits its queue's deficit. -/
def State.drr (s : State) (p set : Nat) (v : Option Nat) (ts : List TxPkt) : Nat → State × Option (Nat × TxPkt)
  | 0 => (s, none)
  | n + 1 =>
    let last := s.served p set % 8
    let order := if last = 1 then [2, 3, 1] else if last = 2 then [3, 1, 2] else [1, 2, 3]
    let r := s.drrRound p set v ts order
    match r.2 with
    | some x => (r.1, some x)
    | none => State.drr r.1 p set v ts n

/-- A class queue of a set has a packet that may go. -/
def State.classReady (s : State) (p set : Nat) (v : Option Nat) (ts : List TxPkt) (c : Nat) : Bool :=
  s.queueEligible (classQueue p set c) && (s.laneHead (classQueue p set c) v (ts.filter fun t => t.p.cls == c)).isSome

/-- The scheduler of a set of a port (R369), for packets of one channel where one is asked for; a hinge port, which is not shaped, sends its packets
as they came. -/
def State.schedule (s : State) (port set : Nat) (v : Option Nat) : State × Option TxPkt :=
  let ts := s.setPackets port set
  match shapedPort port with
  | none => (s, s.laneFirst v ts)
  | some p =>
    if s.classReady p set v ts 0 then
      match s.laneHead (classQueue p set 0) v (ts.filter fun t => t.p.cls == 0) with
      | some t => (s.takeFrom (classQueue p set 0) t, some t)
      | none => (s, none)
    else if ([1, 2, 3] : List Nat).any (s.classReady p set v ts) then
      let r := s.drr p set v ts 24
      match r.2 with
      | none => (r.1, none)
      | some (c, t) => (r.1.takeFrom (classQueue p set c) t, some t)
    else (s, none)

/-- The scheduler has a packet of a channel to give. -/
def State.canGive (s : State) (port set v : Nat) : Bool :=
  let ts := s.setPackets port set
  match shapedPort port with
  | none => (s.laneFirst (some v) ts).isSome
  | some p => (List.range 4).any (s.classReady p set (some v) ts)

/-- The oldest packet of a channel with credit. -/
def State.channelHead (s : State) (p v : Nat) : Option TxPkt :=
  (s.txq.find? fun t => t.port == p && t.p.vc == v).bind fun t => if s.hasCredit t then some t else none

/-- Channels of a port with a packet that may go, in the order of precedence (R308). -/
def State.readyChannels (s : State) (p : Nat) : List Nat :=
  ([6, 3, 2, 4, 5, 0, 1] : List Nat).filter fun v =>
    if v = 3 then s.canGive p 0 3 else if v ≤ 1 then s.canGive p 1 v else (s.channelHead p v).isSome

/-- Take a packet out of the queues. -/
def State.unqueue (s : State) (t : TxPkt) : State := { s with txq := s.txq.erase t }.leftBuffer t

/-- The packet a port sends next (R308): by precedence, but a channel passed over for 64 packets comes first. -/
def State.pickPacket (s : State) (p : Nat) : State × Option TxPkt :=
  let ready := s.readyChannels p
  let passed (v : Nat) : Nat := SMap.get (fun _ => 0) (s.lnk p).passed v
  let late := ready.find? fun v => decide (64 ≤ passed v)
  match late.orElse fun _ => ready.head? with
  | none => (s, none)
  | some v =>
    let r := if v = 3 then s.schedule p 0 none else if v ≤ 1 then s.schedule p 1 late else (s, s.channelHead p v)
    match r.2 with
    | none => (r.1, none)
    | some t =>
      let u := r.1.unqueue t
      let l := u.lnk p
      let missed := ready.foldl (fun m x => SMap.set (fun _ => 0) m x (if x = t.p.vc then 0 else SMap.get (fun _ => 0) m x + 1)) l.passed
      (u.setLnk p { l with passed := missed }, some t)

/-- A TIME_REQ or its answer as its first slot leaves: it carries the time of that slot (R351, R356). -/
def State.stamped (s : State) (t : TxPkt) : State × TxPkt :=
  let time := bits t.p.opw 1 0 == 1 && t.rx.isNone
  if time && t.p.opcode == 0x60 then
    ({ s with rtb := { s.rtb with treqT1 := s.time } }, { t with p := { t.p with payload := leBytes 8 s.time } })
  else if time && t.p.opcode == 0xE0 && t.p.length == 16 then
    (s, { t with p := { t.p with payload := slice t.p.payload 0 8 ++ leBytes 8 s.time } })
  else (s, t)

/-! ### Sending -/

/-- Start a packet on a port: its LOAD, its units, its bytes and their encryption. -/
def State.startPacket (s : State) (p : Nat) (t0 : TxPkt) : State :=
  let st := s.stamped t0
  let t := st.2
  let r := st.1.placeLoad t
  let l := r.1.lnk p
  let b := packetBytes r.2
  let enc := s.flag (Reg.SWP_STAT.ENCRYPTED p)
  let v := t.p.vc
  let flip := l.newTx.isSome
  let key := l.newTx.getD l.txKey
  let num := if flip then 0 else l.txNum
  let l1 := { l with
    cur := if enc then sealed key num b else padSlots b
    txKey := key
    newTx := none
    txPhase := if flip then !l.txPhase else l.txPhase
    txNum := num + 1
    sent := SMap.set (fun _ => 0) l.sent v ((SMap.get (fun _ => 0) l.sent v + units t.p.packetLen) % 65536) }
  (((r.1.countSent p t.p).setLnk p l1).addCnt (Reg.SWP_TX_BYTE_CNT.OFF p) t.p.packetLen).setFlag (Reg.SWP_STAT.KEY_PHASE p) l1.txPhase

/-- A direction has sent 2^32 packets under its key, and no new one stands ready (R319). -/
def State.keySpent (s : State) (p : Nat) : Bool :=
  s.flag (Reg.SWP_STAT.ENCRYPTED p) && decide (2 ^ 32 ≤ (s.lnk p).txNum) && (s.lnk p).newTx.isNone

/-- Fill the slots of a flit body: its bytes, its START_MASK, whether a packet ended in it. No packet starts under a spent key. -/
def State.fillBody (s : State) (p : Nat) : Nat → List Byte → Nat → Nat → State × List Byte × Nat × Nat
  | 0, body, mask, ends => (s, body, mask, ends)
  | n + 1, body, mask, ends =>
    let l := s.lnk p
    if l.cur.isEmpty then
      if s.keySpent p then (s, body, mask, ends) else
      let r := s.pickPacket p
      match r.2 with
      | none => (r.1, body, mask, ends)
      | some t =>
        let s1 := r.1.startPacket p t
        let l1 := s1.lnk p
        let rest := l1.cur.drop 16
        State.fillBody (s1.setLnk p { l1 with cur := rest }) p n (body ++ l1.cur.take 16) (mask + 2 ^ (body.length / 16))
          (if rest.isEmpty then ends + 1 else ends)
    else
      let rest := l.cur.drop 16
      State.fillBody (s.setLnk p { l with cur := rest }) p n (body ++ l.cur.take 16) mask (if rest.isEmpty then ends + 1 else ends)

/-- The channel a flit reports credit of: the one whose count has waited longest, else VC0 (R303). -/
def State.takeReport (s : State) (p : Nat) : State × Nat :=
  let l := s.lnk p
  match l.report with
  | [] => (s, 0)
  | v :: r => (s.setLnk p { l with report := r }, v)

/-- The 256 bytes of a flit (R290). -/
def flitBytes (body : List Byte) (ack v count : Nat) (replay retrain idle phase : Bool) (mask seq : Nat) : List Byte :=
  let b := slice body 0 240 ++ leBytes 8 (ack + v * 2 ^ 16 + count * 2 ^ 19 + b2n replay * 2 ^ 35 + b2n retrain * 2 ^ 36
    + b2n idle * 2 ^ 37 + b2n phase * 2 ^ 38 + mask * 2 ^ 39)
  b ++ leBytes 8 (crc64 (b ++ leBytes 2 seq))

/-- Form a flit with this port's acknowledgement and credit. -/
def State.formFlit (s : State) (p : Nat) (body : List Byte) (mask : Nat) (idle : Bool) : State × List Byte :=
  let r := s.takeReport p
  let l := r.1.lnk p
  (r.1, flitBytes body ((l.e + 65535) % 65536) r.2 (r.1.creditCount p r.2) l.askReplay l.askRetrain idle l.txPhase mask l.next)

/-- Send an idle flit (R293). -/
def State.sendIdle (s : State) (p : Nat) : State :=
  let r := s.formFlit p [] 0 true
  (r.1.setLnk p { (r.1.lnk p) with askRetrain := false }).emit (.flit p (s.lnk p).next r.2)

/-- Send a new flit, or an idle one when nothing may be sent. A direction whose key has sent 2^32 packets takes the port DOWN (R319). -/
def State.sendNew (s : State) (p : Nat) : State :=
  let l := s.lnk p
  if s.keySpent p && l.cur.isEmpty && !(s.readyChannels p).isEmpty then s.portDown p
  else if 512 ≤ l.buf.length then s.sendIdle p
  else
    let r := s.fillBody p 15 [] 0 0
    if r.2.1.isEmpty then r.1.sendIdle p
    else
      let f := r.1.formFlit p r.2.1 r.2.2.1 false
      let l1 := f.1.lnk p
      ((f.1.setLnk p { l1 with
          buf := l1.buf ++ [(l1.next, f.2)]
          next := (l1.next + 1) % 65536
          flying := l1.flying ++ List.replicate r.2.2.2 l1.next }).bump (Reg.SWP_TX_FLIT_CNT.OFF p)).emit (.flit p l1.next f.2)

/-- Send the next flit of a running replay, bit-identical (R298, R299). -/
def State.sendReplay (s : State) (p k : Nat) : State :=
  let l := s.lnk p
  match l.buf.find? fun f => f.1 == k with
  | none => (s.setLnk p { l with rep := none }).sendNew p
  | some f =>
    let nx := (k + 1) % 65536
    ((s.setLnk p { l with rep := if l.buf.any (fun x => x.1 == nx) then some nx else none }).bump
      (Reg.SWP_TX_FLIT_CNT.OFF p)).emit (.flit p k f.2)

/-- A flit slot of a port comes due (R289). -/
def State.flitSlot (s : State) (p : Nat) : State :=
  if s.part.hasPort p = false ∨ s.portState p < 2 then s
  else
    let l := s.lnk p
    let s1 := s.setLnk p { l with slot := l.slot + 1 }
    if l.slot % 16 = 15 then s1.emit (.linkMsg p l.block)
    else if s.portState p = 4 then
      (if l.askRetrain then s1.sendIdle p
       else match l.rep with
         | some k => s1.sendReplay p k
         | none => s1.sendNew p)
    else if s.portState p = 5 ∧ l.askRetrain then s1.sendIdle p
    else s1

/-! ### Replay (R298, R300) -/

/-- Start a replay from flit k; the fourth of the same flit retrains instead. -/
def State.replayFrom (s : State) (p k : Nat) : State :=
  let l := s.lnk p
  if l.buf.any (fun f => f.1 == k) = false ∨ (l.rep.isSome ∧ l.repK = k) then s
  else
    let n := if l.cntK = k ∧ l.numK ≠ 0 then l.numK + 1 else 1
    let s1 := s.setLnk p { l with cntK := k, numK := n }
    if 4 ≤ n then s1.retrainStart p true false
    else (s1.setLnk p { (s1.lnk p) with rep := some k, repK := k }).bump (Reg.SWP_REPLAY_CNT.OFF p)

/-- No acknowledgement has advanced for REPLAY_TMO. -/
def State.replayTimeout (s : State) (p : Nat) : State :=
  if s.portState p ≠ 4 then s
  else match (s.lnk p).buf with
    | [] => s
    | f :: _ => s.replayFrom p f.1

/-! ### Receiving -/

/-- Take an ACK_SEQ (R297); one that does not advance is out of date (R299, log entry 23). -/
def State.takeAck (s : State) (p a : Nat) : State :=
  let l := s.lnk p
  let d := (a + 65536 - l.acked) % 65536
  if d = 0 ∨ 32768 ≤ d then s
  else if d ≤ l.buf.length then
    let keep := l.buf.drop d
    s.setLnk p { l with
      acked := a
      buf := keep
      flying := l.flying.filter fun f => keep.any fun b => b.1 == f
      rep := match l.rep with
        | some k => if keep.any (fun b => b.1 == k) then some k else (keep.head?).map (·.1)
        | none => none
      numK := if keep.any (fun b => b.1 == l.cntK) then l.numK else 0 }
  else s.protocolErr p

/-- Take a credit count (R303). -/
def State.takeCredit (s : State) (p v c : Nat) : State :=
  let l := s.lnk p
  let d := (c + 65536 - SMap.get (fun _ => 0) l.limit v) % 65536
  if v < 7 ∧ 1 ≤ d ∧ d ≤ 32767 then s.setLnk p { l with limit := SMap.set (fun _ => 0) l.limit v c } else s

/-- The trailer of an accepted flit. -/
def State.takeTrailer (s : State) (p t : Nat) : State :=
  let a := bits t 15 0
  let s1 := (s.takeAck p a).takeCredit p (bits t 18 16) (bits t 34 19)
  if s1.portState p ≠ 4 then s1
  else if bit t 36 then s1.retrainStart p false false
  else if bit t 35 then s1.replayFrom p ((a + 1) % 65536)
  else s1

/-- A received packet is complete: its link tag is checked (R318), its payload and channel (R307, R305). It comes with the time of its first
slot. -/
def State.endPacket (s : State) (p : Nat) : State × List (Packet × Nat) :=
  let l := s.lnk p
  let enc := s.flag (Reg.SWP_STAT.ENCRYPTED p)
  let len := lengthOf (if enc then cipherFrom l.partKey (linkNonce l.partKey l.partNum) 0 (l.part.take 16) else l.part)
  let text := l.part.take len
  let plain := if enc then cipherFrom l.partKey (linkNonce l.partKey l.partNum) 0 text else text
  let good := !enc || slice (gcmTag (slice l.partKey 0 32) (linkNonce l.partKey l.partNum) [] text) 0 16
    == slice l.part (roundUp len 16) 16
  let s1 := s.setLnk p { l with part := [], partLen := 0, partDrop := false, partUnits := 0 }
  if l.partDrop then (s1, [])
  else if good = false then
    (((s1.bump (Reg.SWP_TAG_FAIL_CNT.OFF p)).linkEvt p 6).linkFault p 2 0x0805 |>.portDown p, [])
  else
    let q := packetOf plain
    let s2 := s1.addCnt (Reg.SWP_RX_BYTE_CNT.OFF p) len
    if s.maxPayload p < q.length ∨ q.vc = 7 then
      ((((s2.unitsFreed p q.vc (units len)).bump (Reg.SWP_MALFORMED_CNT.OFF p)).linkEvt p 7).linkFault p 0 0x0806, [])
    else (s2, [(q, l.partAt)])

/-- The first slot of a packet: its key, number and length, the units it occupies from now on (R301) and the room they need (R304). -/
def State.firstSlot (s : State) (p : Nat) (b : List Byte) : State :=
  let l := s.lnk p
  let enc := s.flag (Reg.SWP_STAT.ENCRYPTED p)
  let plain := if enc then cipherFrom l.rxKey (linkNonce l.rxKey l.rxNum) 0 b else b
  let len := lengthOf plain
  let v := bits (leNat (slice plain 0 8)) 38 36
  let n := roundUp len 16 / 16 + (if enc then 1 else 0)
  let room := decide (units len + s.unitsHeld p v ≤ l.alloc.getD v 0) || v == 7
  let s1 := s.setLnk p { l with
      part := b, partLen := n, partKey := l.rxKey, partNum := l.rxNum, partDrop := !room, rxNum := l.rxNum + 1,
      partVc := v, partUnits := if room then units len else 0, partAt := s.time }
  if room then s1 else s1.protocolErr p

/-- The packet being received is dropped: its units are free again (R302, R311). -/
def State.dropPart (s : State) (p : Nat) : State :=
  let l := s.lnk p
  let s1 := s.setLnk p { l with part := [], partLen := 0, partDrop := false, partUnits := 0 }
  if l.partUnits = 0 then s1 else s1.unitsFreed p l.partVc l.partUnits

/-- Take the slots of a body (R292, R311). -/
def State.takeSlots (s : State) (p mask : Nat) (body : List Byte) : List Nat → State × List (Packet × Nat)
  | [] => (s, [])
  | i :: r =>
    let b := slice body (16 * i) 16
    let l := s.lnk p
    let start := bit mask i
    let s1 := if start then
        (let s0 := if l.part.isEmpty then s else (s.dropPart p).protocolErr p
         s0.firstSlot p b)
      else if l.part.isEmpty then s
      else s.setLnk p { l with part := l.part ++ b }
    let l1 := s1.lnk p
    let e := if l1.part.isEmpty || decide (l1.part.length < 16 * l1.partLen) then (s1, []) else s1.endPacket p
    if e.1.portState p = 1 then e
    else
      let t := State.takeSlots e.1 p mask body r
      (t.1, e.2 ++ t.2)

/-- Change to the new receive key with the first flit of the new phase in which a packet starts (R317). -/
def State.takePhase (s : State) (p : Nat) (phase : Bool) (mask : Nat) : State :=
  let l := s.lnk p
  match l.newRx with
  | some k => if mask ≠ 0 ∧ phase ≠ l.rxPhase then
      s.setLnk p { l with rxKey := k, newRx := none, rxPhase := phase, rxNum := 0 } else s
  | none => s

/-- How a flit is classified (R295): its distance from E, none where no candidate sequence fits. -/
def flitDistance (b : List Byte) (e : Nat) : Option Nat :=
  let c := crc64State 0xFFFFFFFFFFFFFFFF (slice b 0 248)
  let want := leNat (slice b 248 8)
  (List.range 512 ++ upTo 65024 65536).find? fun d =>
    crc64State c (leBytes 2 ((e + d) % 65536)) ^^^ 0xFFFFFFFFFFFFFFFF == want

/-- Ask for replay (R296). -/
def State.askReplay (s : State) (p : Nat) : State := s.setLnk p { (s.lnk p) with askReplay := true }

/-- A flit arrives: the state, and the packets that are complete with it, each with the time of its first slot. -/
def State.flitReceive (s : State) (p : Nat) (f : Flit) : State × List (Packet × Nat) :=
  if s.part.hasPort p = false ∨ s.portState p ≠ 4 ∨ f.bytes.length ≠ 256 then (s, [])
  else
    let l := s.lnk p
    match flitDistance f.bytes l.e with
    | none => ((s.bump (Reg.SWP_BAD_FLIT_CNT.OFF p)).askReplay p, [])
    | some d =>
      if d = 0 then
        let t := leNat (slice f.bytes 240 8)
        let idle := bit t 37
        let mask := bits t 53 39
        let s1 := (s.setLnk p { l with e := if idle then l.e else (l.e + 1) % 65536, askReplay := false }).bump (Reg.SWP_RX_FLIT_CNT.OFF p)
        let r := if idle then (s1, []) else (s1.takePhase p (bit t 38) mask).takeSlots p mask f.bytes (List.range 15)
        if r.1.portState p = 4 ∨ r.1.portState p = 5 then (r.1.takeTrailer p t, r.2) else r
      else if d < 512 then ((s.bump (Reg.SWP_DISCARD_CNT.OFF p)).askReplay p, [])
      else (s.bump (Reg.SWP_DUP_CNT.OFF p), [])

end Sys2Proof.Machine
end

