-- ==== Sys2Proof/Machine/Flash.lean ====
section
/-! DEFINITION. The serial flash (R484 to R496): its regions, the descriptor, image headers and their verification, the log area. -/

namespace Sys2Proof.Machine

/-- What an unlisted flash byte reads as: erased. -/
def flashReset (_ : Nat) : Byte := 0xFF

/-- One byte of the flash. -/
def State.flashByte (s : State) (a : Nat) : Byte := SMap.get flashReset s.flash a

/-- Bytes of the flash. -/
def State.flashRead (s : State) (a n : Nat) : List Byte := SMap.getRun flashReset s.flash a n

/-- Write bytes of the flash; after PWR_GOOD has fallen nothing is written (R560). -/
def State.flashWrite (s : State) (a : Nat) (l : List Byte) : State :=
  if s.pins.pwrGood then { s with flash := SMap.setRun flashReset s.flash a l } else s

/-- Erase a region. -/
def State.flashErase (s : State) (a n : Nat) : State :=
  if s.pins.pwrGood then { s with flash := SMap.drop s.flash fun k => decide (a ≤ k ∧ k < a + n) } else s

/-- The regions of R484. -/
def flKeeper (c : Nat) : Nat := 0x10000 + c * 0x100000
def flBoard : Nat := 0x210000
def flSettings (c : Nat) : Nat := 0x220000 + c * 0x40000
def flImage : Nat := 0x1000000
def flStaging : Nat := 0x2000000
def flLog : Nat := 0x3000000

/-- A 64-byte header whose last four bytes are the CRC of the rest. -/
def headerOk (b : List Byte) : Bool := crc32 (slice b 0 60) == leNat (slice b 60 4)

/-- The descriptor in force (R486): LAYOUT, ACTIVE_KEEPER, COMMIT_PENDING. -/
def State.descriptor (s : State) : Nat × Nat × Bool :=
  let b := s.flashRead 0 64
  if headerOk b && leNat (slice b 0 4) == 0x46535643 then
    ((byteAt b 4).toNat, (if (byteAt b 5).toNat = 1 then 1 else 0), (byteAt b 6).toNat == 1)
  else (1, 0, false)

/-- Rewrite the descriptor. -/
def State.setDescriptor (s : State) (keeper : Nat) (pending : Bool) : State :=
  let b := leBytes 4 0x46535643 ++ leBytes 1 1 ++ leBytes 1 keeper ++ leBytes 1 (b2n pending) ++ zeros 53
  ((s.flashErase 0 0x10000).flashWrite 0 (b ++ leBytes 4 (crc32 b))).setFlag Reg.GLB_FW_STAT.COMMIT_PENDING pending

/-! ### Images (R487, R488) -/

def imgKind (b : List Byte) : Nat := (byteAt b 4).toNat
def imgSlot (b : List Byte) : Nat := (byteAt b 5).toNat
def imgSvn (b : List Byte) : Nat := (byteAt b 6).toNat
def imgLen (b : List Byte) : Nat := leNat (slice b 8 4)
def imgVersion (b : List Byte) : Nat := leNat (slice b 16 8)
/-- COMPAT byte i: CUR of version i div 2 where i is even, its MIN where odd. -/
def imgCompat (b : List Byte) (i : Nat) : Nat := (byteAt b (24 + i)).toNat
def imgDigest (b : List Byte) : List Byte := slice b 32 64
def imgBody (b : List Byte) : List Byte := slice b 256 (imgLen b)

/-- The bit of PARTS for a part. -/
def Part.imageBit : Part → Nat
  | .cv1275 => 0
  | .cv1273 => 1
  | .cv1269 => 2

/-- The header check of R488. -/
def imageHeaderOk (b : List Byte) : Bool :=
  leNat (slice b 0 4) == 0x4D495643 && (byteAt b 7).toNat == 1
    && (imgKind b == 1 || imgKind b == 2)
    && decide (imgLen b ≤ if imgKind b = 2 then 0x100000 - 256 else 0x1000000 - 256)
    && decide ((byteAt b 12).toNat < 8) && slice b 13 3 == zeros 3 && slice b 30 2 == zeros 2 && slice b 160 96 == zeros 96
    && [0, 2, 4].all fun i => imgCompat b (i + 1) == imgCompat b i || imgCompat b (i + 1) + 1 == imgCompat b i

/-- An image read from a region; a header that fails its check gives no body. -/
def State.imageAt (s : State) (a : Nat) : List Byte :=
  let h := s.flashRead a 256
  if imageHeaderOk h then h ++ s.flashRead (a + 256) (imgLen h) else h

/-- The fused version for an image's kind. -/
def State.fusedSvn (s : State) (b : List Byte) : Nat :=
  if imgKind b = 2 then s.f Reg.KPR_SVN.KEEPER_FUSED else s.f Reg.KPR_SVN.MGMT_FUSED

/-- A vendor key slot is unrevoked and its key verifies a signature (R463). -/
def State.slotSigned (s : State) (slot : Nat) (msg sig : List Byte) : Bool :=
  decide (slot < 4) && !bit (s.f Reg.KPR_SLOTS.REVOKED) slot && edVerify (Config.vendorKey slot) msg sig

/-- RESULT of verifying an image: the first check that fails, 0 where none does. -/
def State.imageResult (s : State) (b : List Byte) : Nat :=
  if !imageHeaderOk b then 4
  else if !bit (byteAt b 12).toNat s.part.imageBit then 5
  else if !s.slotSigned (imgSlot b) (slice b 0 96) (slice b 96 64) then 1
  else if imgSvn b < s.fusedSvn b then 2
  else if sha512 (imgBody b) ≠ imgDigest b then 3
  else 0

/-- An image of a kind that verifies. -/
def State.imageGood (s : State) (b : List Byte) (kind : Nat) : Bool := s.imageResult b == 0 && imgKind b == kind

/-- A GLB record of start-up and update (R511, R574). -/
def State.glbFault (s : State) (cls code : Nat) : State := s.fault (mkRec 0 cls code)

/-- Refuse an image or an activation: RESULT, FW_REFUSED, its event; a ROLLBACK is recorded by the Keeper too (R465, R488). -/
def State.fwRefused (s : State) (result : Nat) : State :=
  let s1 := ((s.setF Reg.GLB_FW_XFER.RESULT result).evt Pg.GLB 7).glbFault 0 0x0F03
  if result = 2 then s1.fault (mkRec 138 2 0x0E06) else s1

/-! ### The log area (R495, R496) -/

/-- Entry i as it stands in the flash. -/
def State.logEntry (s : State) (i : Nat) : List Byte := s.flashRead (flLog + 64 * i) 64

/-- The position the next entry takes. -/
def State.logHead (s : State) : Nat :=
  let n := s.f Reg.GLB_LOG_NEWEST.INDEX
  if s.flashByte (flLog + 64 * n) = 0xFF then n else (n + 1) % 65536

/-- Write an entry of a type and body at the head. -/
def State.logPut (s : State) (ty : Nat) (body : List Byte) : State :=
  let b := leBytes 4 ty ++ leBytes 4 s.fw.logSeq ++ leBytes 8 s.time ++ slice body 0 32 ++ zeros 12
  let i := s.logHead
  let s1 := (s.flashWrite (flLog + 64 * i) (b ++ leBytes 4 (crc32 b))).setF Reg.GLB_LOG_NEWEST.INDEX i
  { s1 with fw := { s1.fw with logSeq := (s.fw.logSeq + 1) % 2 ^ 32 } }

/-- Words 0 and 1 of a remap entry as registers and log show it (R285, R495): the stack-local granule, its stack, the spare. -/
def Part.remapWords (p : Part) (g spare : Nat) : Nat × Nat :=
  (p.localOf (g * 4096) / 4096 % 2 ^ 24 + p.stackOf (g * 4096) * 2 ^ 24, spare)

/-- A RETIRE entry whose remap is still installed (R496). -/
def State.logLive (s : State) (b : List Byte) : Bool :=
  (byteAt b 0).toNat == 2 && crc32 (slice b 0 60) == leNat (slice b 60 4) &&
    s.sc.remap.any fun e => s.part.remapWords e.2.1 e.2.2 == (leNat (slice b 16 4), leNat (slice b 20 4))

/-- Append an entry. As the head enters a 64 KiB sector the next one is made room: its live RETIRE entries are rewritten at the
head, then it is erased (R496). -/
def State.logAppend (s : State) (ty : Nat) (body : List Byte) : State :=
  let i := s.logHead
  let s1 := s.logPut ty body
  if i % 1024 ≠ 0 then s1
  else
    let j := (i + 1024) % 65536
    let live := ((List.range 1024).map fun k => s1.logEntry (j + k)).filter s1.logLive
    (live.foldl (fun (u : State) b => u.logPut 2 (slice b 16 32)) s1).flashErase (flLog + 64 * j) 0x10000

/-- Log an UPDATE (R495). -/
def State.logUpdate (s : State) (version result event : Nat) : State :=
  s.logAppend 3 (leBytes 8 version ++ leBytes 1 result ++ leBytes 1 event)

/-- Positions of log entries that hold something. -/
def State.logUsed (s : State) : List Nat :=
  (((s.flash.filter fun c => decide (flLog ≤ c.1 ∧ c.1 < flLog + 0x400000)).map fun c => (c.1 - flLog) / 64).eraseDups).filter
    fun i => let b := s.logEntry i
      b.head? != some 0xFF && crc32 (slice b 0 60) == leNat (slice b 60 4)

/-- SEQ of an entry. -/
def logSeqOf (b : List Byte) : Nat := leNat (slice b 4 4)

/-- Find the newest entry at a start: the one whose SEQ no other follows. -/
def State.logScan (s : State) : State :=
  match s.logUsed with
  | [] => { s.setF Reg.GLB_LOG_NEWEST.INDEX 0 with fw := { s.fw with logSeq := 0 } }
  | i :: l =>
    let later (a b : Nat) : Nat :=
      let d := (logSeqOf (s.logEntry b) + 2 ^ 32 - logSeqOf (s.logEntry a)) % 2 ^ 32
      if 1 ≤ d ∧ d ≤ 2 ^ 31 then b else a
    let n := l.foldl later i
    { s.setF Reg.GLB_LOG_NEWEST.INDEX n with fw := { s.fw with logSeq := (logSeqOf (s.logEntry n) + 1) % 2 ^ 32 } }

/-- Firmware appends the FATAL records of this step (R439). -/
def State.logFatals (s : State) : State :=
  s.logq.foldl (fun (u : State) r => u.logAppend 1 r.bytes) { s with logq := [] }

/-- Firmware appends a retirement (R280): granule, stack, spare. -/
def State.logRetire (s : State) (n g : Nat) : State :=
  match s.sc.remap.find? fun e => e.2.1 == g with
  | some e =>
    let w := s.part.remapWords g e.2.2
    let s1 := s.logAppend 2 (leBytes 4 w.1 ++ leBytes 4 w.2)
    { s1 with sc := { s1.sc with unlogged := s1.sc.unlogged.filter fun x => x != (n, g) } }
  | none => { s with sc := { s.sc with unlogged := s.sc.unlogged.filter fun x => x != (n, g) } }

end Sys2Proof.Machine
end

