-- ==== Sys2Proof/Machine/Fp.lean ====
section
/-! DEFINITION. Number formats of the ward engines (R100 to R106): binary32 arithmetic with round to nearest even, the formats' row
layouts, conversions of elements to and from binary32, microscaling blocks. -/

namespace Sys2Proof.Machine

open Sys2Proof

/-- A value: not a number, an infinity, or (-1)^neg * m * 2^e. -/
inductive FVal where
  | nan
  | inf (neg : Bool)
  | fin (neg : Bool) (m : Nat) (e : Int)
  deriving DecidableEq, Repr

/-- m / 2^d rounded to nearest even. -/
def rneShift (m d : Nat) : Nat :=
  let q := m / 2 ^ d
  let r := m % 2 ^ d
  if 2 * r > 2 ^ d ∨ (2 * r = 2 ^ d ∧ q % 2 = 1) then q + 1 else q

/-- m * 2^e as a multiple of 2^q, rounded to nearest even. -/
def alignTo (m : Nat) (e q : Int) : Nat := if q ≤ e then m * 2 ^ (e - q).toNat else rneShift m (q - e).toNat

/-- Magnitude code of m * 2^e in a format of eb exponent bits, mb fraction bits and bias b, rounded to nearest even, with no bound
above. -/
def roundMag (mb : Nat) (b : Int) (m : Nat) (e : Int) : Nat :=
  if m = 0 then 0
  else
    let qmin : Int := 1 - b - mb
    let q := max qmin (e + (Nat.log2 m : Int) - mb)
    (q - qmin).toNat * 2 ^ mb + alignTo m e q

/-- Encode in an IEEE format of eb exponent and mb fraction bits; the NaN is the canonical quiet one (R105). -/
def encodeIeee (eb mb : Nat) (v : FVal) : Nat :=
  let top := (2 ^ eb - 1) * 2 ^ mb
  let sign (n : Bool) : Nat := if n then 2 ^ (eb + mb) else 0
  match v with
  | .nan => top + 2 ^ (mb - 1)
  | .inf n => sign n + top
  | .fin n m e => sign n + min top (roundMag mb (2 ^ (eb - 1) - 1 : Nat) m e)

/-- Decode a code of eb exponent and mb fraction bits with bias b, all exponents finite. -/
def decodeFin (eb mb : Nat) (b : Int) (c : Nat) : FVal :=
  let f := c % 2 ^ mb
  let x := c / 2 ^ mb % 2 ^ eb
  let n := c / 2 ^ (eb + mb) % 2 == 1
  if x = 0 then .fin n f (1 - b - mb) else .fin n (2 ^ mb + f) ((x : Int) - b - mb)

/-- Decode an IEEE code. -/
def decodeIeee (eb mb : Nat) (c : Nat) : FVal :=
  if c / 2 ^ mb % 2 ^ eb = 2 ^ eb - 1 then
    (if c % 2 ^ mb = 0 then .inf (c / 2 ^ (eb + mb) % 2 == 1) else .nan)
  else decodeFin eb mb (2 ^ (eb - 1) - 1 : Nat) c

/-- binary32 of a value, and back. -/
def toF32 (v : FVal) : Nat := encodeIeee 8 23 v
def ofF32 (c : Nat) : FVal := decodeIeee 8 23 c

/-- The exact sum of two finite values as a signed multiple of a power of two. -/
def sumFin (n1 : Bool) (m1 : Nat) (e1 : Int) (n2 : Bool) (m2 : Nat) (e2 : Int) : FVal :=
  let e := min e1 e2
  let a : Int := (m1 * 2 ^ (e1 - e).toNat : Nat)
  let b : Int := (m2 * 2 ^ (e2 - e).toNat : Nat)
  let t := (if n1 then -a else a) + (if n2 then -b else b)
  .fin (if t = 0 then n1 && n2 else decide (t < 0)) t.natAbs e

/-- Exact sum. -/
def FVal.add (a b : FVal) : FVal :=
  match a, b with
  | .nan, _ => .nan
  | _, .nan => .nan
  | .inf x, .inf y => if x = y then .inf x else .nan
  | .inf x, _ => .inf x
  | _, .inf y => .inf y
  | .fin n1 m1 e1, .fin n2 m2 e2 => sumFin n1 m1 e1 n2 m2 e2

/-- Exact product. -/
def FVal.mul (a b : FVal) : FVal :=
  match a, b with
  | .nan, _ => .nan
  | _, .nan => .nan
  | .inf x, .inf y => .inf (x != y)
  | .inf x, .fin y m _ => if m = 0 then .nan else .inf (x != y)
  | .fin x m _, .inf y => if m = 0 then .nan else .inf (x != y)
  | .fin n1 m1 e1, .fin n2 m2 e2 => .fin (n1 != n2) (m1 * m2) (e1 + e2)

/-- A value times 2^k. -/
def FVal.scale (a : FVal) (k : Int) : FVal :=
  match a with
  | .fin n m e => .fin n m (e + k)
  | v => v

def FVal.isNan (a : FVal) : Bool := a == .nan
def FVal.isInf (a : FVal) : Bool :=
  match a with
  | .inf _ => true
  | _ => false

/-- binary32 sum and product, rounded to nearest even (R103). -/
def f32Add (a b : Nat) : Nat := toF32 ((ofF32 a).add (ofF32 b))
def f32Mul (a b : Nat) : Nat := toF32 ((ofF32 a).mul (ofF32 b))

def f32NaN : Nat := 0x7FC00000
def f32Inf : Nat := 0x7F800000
def f32NegInf : Nat := 0xFF800000

/-- Order of binary32 numbers, with -0 below +0 (R103). -/
def f32Key (c : Nat) : Int := if c < 2 ^ 31 then (c : Int) else -((c - 2 ^ 31 : Nat) : Int) - 1

def f32IsNaN (c : Nat) : Bool := (ofF32 c).isNan

/-- MIN and MAX of binary32 numbers (R103). -/
def f32Min (a b : Nat) : Nat := if f32IsNaN a || f32IsNaN b then f32NaN else if f32Key a ≤ f32Key b then a else b
def f32Max (a b : Nat) : Nat := if f32IsNaN a || f32IsNaN b then f32NaN else if f32Key a ≤ f32Key b then b else a

/-! ### Formats (R100, R101) -/

/-- Bits of an element. -/
def fmtBits (f : Nat) : Nat :=
  if f = 0 ∨ f = 0x0A then 32
  else if f = 1 ∨ f = 2 then 16
  else if f = 5 ∨ f = 6 then 6
  else if f = 7 then 4
  else 8

/-- A microscaling format. -/
def fmtMx (f : Nat) : Bool := decide (3 ≤ f) && decide (f ≤ 8)

/-- Bytes of a row of n elements. -/
def rowBytes (f n : Nat) : Nat := n * fmtBits f / 8 + (if fmtMx f then n / 32 else 0)

/-- emax of a microscaling element. -/
def fmtEmax (f : Nat) : Int :=
  if f = 3 then 8 else if f = 4 then 15 else if f = 5 then 4 else if f = 6 ∨ f = 7 then 2 else 0

/-- Exponent bits, fraction bits, bias and largest finite magnitude code of a microscaling floating element. -/
def fmtElem (f : Nat) : Nat × Nat × Int × Nat :=
  if f = 3 then (4, 3, 7, 0x7E)
  else if f = 4 then (5, 2, 15, 0x7B)
  else if f = 5 then (3, 2, 3, 0x1F)
  else if f = 6 then (2, 3, 1, 0x1F)
  else (2, 1, 1, 0x7)

/-- Two's complement value of w bits. -/
def signed (w n : Nat) : Int := if n < 2 ^ (w - 1) then (n : Int) else (n : Int) - (2 ^ w : Nat)

/-- An integer as a value. -/
def ofInt (z : Int) : FVal := .fin (decide (z < 0)) z.natAbs 0

/-- An element's value without its block scale (R100). -/
def elemVal (f c : Nat) : FVal :=
  if f = 0 then ofF32 c
  else if f = 1 then ofF32 (c * 65536)
  else if f = 2 then decodeIeee 5 10 c
  else if f = 8 then (ofInt (signed 8 c)).scale (-6)
  else if f = 9 then ofInt (signed 8 c)
  else if f = 0x0A then ofInt (signed 32 c)
  else if f = 3 then (if c % 128 = 0x7F then .nan else decodeFin 4 3 7 c)
  else if f = 4 then decodeIeee 5 2 c
  else
    let x := fmtElem f
    decodeFin x.1 x.2.1 x.2.2.1 c

/-- An input element as binary32 (R102): INT32 and scaled elements are rounded, the rest are exact. -/
def elemF32 (f c scale : Nat) : Nat :=
  if fmtMx f then
    (if scale = 0xFF then f32NaN else toF32 ((elemVal f c).scale ((scale : Int) - 127)))
  else toF32 (elemVal f c)

/-- Round to an integer, nearest even, and saturate to w bits (R105). -/
def toIntSat (w : Nat) (v : FVal) : Nat :=
  let lim : Int := (2 ^ (w - 1) : Nat)
  let pack (z : Int) : Nat := (max (-lim) (min (lim - 1) z) % (2 ^ w : Nat)).toNat
  match v with
  | .nan => 0
  | .inf n => pack (if n then -lim else lim - 1)
  | .fin n m e => let k : Int := (alignTo m e 0 : Nat); pack (if n then -k else k)

/-- An output element of a format without block scales (R105). -/
def outElem (f c : Nat) : Nat :=
  if f = 0 then (if f32IsNaN c then f32NaN else c)
  else if f = 1 then encodeIeee 8 7 (ofF32 c)
  else if f = 2 then encodeIeee 5 10 (ofF32 c)
  else if f = 9 then toIntSat 8 (ofF32 c)
  else toIntSat 32 (ofF32 c)

/-- Largest finite magnitude of a list of values, as (m, e) compared exactly. -/
def amaxOf (l : List FVal) : Nat × Int :=
  l.foldl (fun acc v => match v with
    | .fin _ m e =>
      let q := min acc.2 e
      if acc.1 * 2 ^ (acc.2 - q).toNat < m * 2 ^ (e - q).toNat then (m, e) else acc
    | _ => acc) (0, 0)

/-- Quantise a block to a microscaling format (R105, R106): element codes and the scale byte. -/
def mxBlock (f : Nat) (vals : List FVal) : List Nat × Nat :=
  let bad := vals.any fun v => v.isNan || (f != 4 && v.isInf)
  if bad then (vals.map fun _ => 0, 0xFF)
  else
    let a := amaxOf vals
    let x : Int := if a.1 = 0 then -127 else max (-127) (min 127 (a.2 + (Nat.log2 a.1 : Int) - fmtEmax f))
    let code (v : FVal) : Nat :=
      if f = 8 then
        (match v with
         | .fin n m e =>
           let k := min 127 (alignTo m (e - x) (-6))
           if n && k != 0 then 256 - k else k
         | _ => 0)
      else
        let t := fmtElem f
        let sign (n : Bool) : Nat := if n then 2 ^ (t.1 + t.2.1) else 0
        match v with
        | .fin n m e => sign n + min t.2.2.2 (roundMag t.2.1 t.2.2.1 m (e - x))
        | .inf n => sign n + 0x7C
        | .nan => 0
    (vals.map code, (x + 127).toNat)

/-! ### Packed rows (R101) -/

/-- Element i of packed element bytes. -/
def unpackElem (f : Nat) (bytes : List Byte) (i : Nat) : Nat :=
  let b := fmtBits f
  let o := i * b
  let w := (byteAt bytes (o / 8)).toNat + 256 * (byteAt bytes (o / 8 + 1)).toNat + 65536 * (byteAt bytes (o / 8 + 2)).toNat
    + 16777216 * (byteAt bytes (o / 8 + 3)).toNat
  w / 2 ^ (o % 8) % 2 ^ b

/-- Element codes as packed bytes. -/
def packElems (f : Nat) (codes : List Nat) : List Byte :=
  leBytes (codes.length * fmtBits f / 8) (codes.foldr (fun c acc => c + 2 ^ fmtBits f * acc) 0)

/-! ### Free order of sums (R103, R104) -/

/-- Remove an element of a list by index. -/
def takeAt (l : List Nat) (i : Nat) : Nat × List Nat := (l.getD i 0, l.eraseIdx i)

/-- Sum of binary32 numbers in an order the spec leaves open: each addition takes two terms that a free value names. -/
def sumFree : Nat → State → List Nat → State × Nat
  | 0, s, l => (s, l.headD 0)
  | k + 1, s, l =>
    match l with
    | [] => (s, 0)
    | [a] => (s, a)
    | _ =>
      let i := Config.freeNat s.free % l.length
      let a := takeAt l i
      let j := Config.freeNat (s.free + 1) % a.2.length
      let b := takeAt a.2 j
      sumFree k { s with free := s.free + 2 } (f32Add a.1 b.1 :: b.2)

/-- FUNC of a reduction over binary32 terms (R103, R115): 0 SUM, 1 MIN, 2 MAX; one term is itself. -/
def reduceTerms (s : State) (func : Nat) (l : List Nat) : State × Nat :=
  match l with
  | [] => (s, 0)
  | a :: r =>
    if func = 1 then (s, r.foldl f32Min a)
    else if func = 2 then (s, r.foldl f32Max a)
    else sumFree l.length s l

end Sys2Proof.Machine
end

