-- ==== Sys2Proof/Machine/WardDesc.lean ====
section
/-! DEFINITION. The descriptor of a ward data operation (R94, R95, R575), the bytes of its ranges (R97, R100), its division into
chunks (R90), what makes it malformed (R96, R116 to R119, R121). -/

namespace Sys2Proof.Machine

open Sys2Proof

/-! ### Operation word (R94) and head (R95) -/

def wFunc (p : Packet) : Nat := bits p.opw 3 0
def wIn (p : Packet) : Nat := bits p.opw 8 4
def wOut (p : Packet) : Nat := bits p.opw 13 9
def wTile (p : Packet) : Bool := bit p.opw 14
def wToResp (p : Packet) : Bool := bit p.opw 15
def wUsePat (p : Packet) : Bool := bit p.opw 16
def wAtomSize (p : Packet) : Nat := bits p.opw 18 17
def wNrange (p : Packet) : Nat := bits p.opw 23 19

/-- 64-bit word i of the payload. -/
def pw (p : Packet) (i : Nat) : Nat := leNat (slice p.payload (8 * i) 8)

def wRowLen (p : Packet) : Nat := bits (pw p 0) 39 0
def wRows (p : Packet) : Nat := bits (pw p 0) 63 40
def wPattern (p : Packet) : Nat := pw p 1
def wParam (p : Packet) : Nat := pw p 2
def wNidx (p : Packet) : Nat := bits (wParam p) 12 0
def wNbag (p : Packet) : Nat := bits (wParam p) 25 13

/-- The word with an operation's latches (R95, R142, R148): none in an ATOMIC, and none that a member of a tree acts on. -/
def latchWord (p : Packet) : Nat :=
  if p.opcode = 0x18 ∨ p.opcode = 0x22 ∨ (p.opcode = 0x23 ∧ 4 ≤ p.vc) then 0
  else if p.opcode = 0x21 then pw p 5 else pw p 3

def lwWait (w : Nat) : Nat := bits w 15 0
def lwDone (w : Nat) : Nat := bits w 31 16
def lwThr (w : Nat) : Nat := bits w 47 32
def lwWaitEn (w : Nat) : Bool := bit w 48
def lwConsume (w : Nat) : Bool := bit w 49
def lwDoneEn (w : Nat) : Bool := bit w 50

/-- A latch word with reserved bits, or a wait for a count of 0 (R95, log entry 14). -/
def lwBad (w : Nat) : Bool := bits w 63 51 != 0 || (lwWaitEn w && lwThr w == 0)

/-! ### Ranges (R97, R100, R116) -/

/-- Element operations. -/
def wElem (op : Nat) : Bool := op == 0x13 || op == 0x14 || op == 0x23

/-- A range: keyway, first byte, stride, bytes a row, rows, whether it is a tile. -/
structure Rng where
  kw : Nat
  off : Nat
  stride : Nat
  b : Nat
  rows : Nat
  tile : Bool
  deriving DecidableEq, Repr

/-- Format of range j of an element operation. -/
def rngFmt (p : Packet) (j : Nat) : Nat := if j = 0 then wOut p else wIn p

/-- Range j of an operation. -/
def rng (p : Packet) (j : Nat) : Rng :=
  let w0 := pw p (4 + 2 * j)
  let w1 := pw p (5 + 2 * j)
  let row := if wElem p.opcode then rowBytes (rngFmt p j) (wRowLen p) else wRowLen p
  let g : Rng := ⟨bits w0 11 0, bits w0 55 12, bits w1 43 0, row, wRows p, wTile p⟩
  if p.opcode = 0x14 then
    (if j = 0 then { g with rows := wNbag p, tile := true }
     else if j = 1 then { g with rows := 1, tile := true }
     else { g with b := if j = 3 then 2 * wNbag p else 4 * wNidx p, rows := 1, tile := false })
  else g

/-- Keyway offset of the byte at a traversal position. -/
def Rng.at (g : Rng) (pos : Nat) : Nat :=
  if g.tile && g.b != 0 then g.off + pos / g.b * g.stride + pos % g.b else g.off + pos

/-- First keyway offset past the range. -/
def Rng.stop (g : Rng) : Nat := g.off + (if g.tile then (g.rows - 1) * g.stride else 0) + g.b

/-- Bytes of the range. -/
def Rng.len (g : Rng) : Nat := g.rows * g.b

/-- Whether a keyway offset lies in the range. -/
def Rng.covers (g : Rng) (x : Nat) : Bool :=
  decide (g.off ≤ x) &&
    (let r := if g.tile && g.stride != 0 then min (g.rows - 1) ((x - g.off) / g.stride) else 0
     decide (x < g.off + r * g.stride + g.b))

/-- The pieces of traversal positions [lo, hi) of range j. -/
def Rng.pieces (g : Rng) (j : Nat) (w : Bool) (lo hi : Nat) : List Piece :=
  if hi ≤ lo then []
  else if g.tile = false then [⟨j, lo, g.kw, g.off + lo, hi - lo, w⟩]
  else (upTo (lo / g.b) ((hi - 1) / g.b + 1)).map fun r =>
    let a := max lo (r * g.b)
    let z := min hi ((r + 1) * g.b)
    ⟨j, a, g.kw, g.off + r * g.stride + (a - r * g.b), z - a, w⟩

/-! ### Blocks of 32 elements -/

/-- Blocks in a row of E elements. -/
def rowBlocks (e : Nat) : Nat := (e + 31) / 32

/-- Bytes a block of a format takes at most. -/
def blockBytes (f : Nat) : Nat := 4 * fmtBits f + (if fmtMx f then 1 else 0)

/-- Blocks a chunk covers (R90): as many as keep every range within 65,536 bytes, a multiple of 64. -/
def blocksPer (p : Packet) : Nat := 65536 / max (blockBytes (wIn p)) (blockBytes (wOut p)) / 64 * 64

/-- Where block k of a row of e elements lies within the row in a format: bytes of its elements, and of its scale. -/
def blockAt (f e k : Nat) : (Nat × Nat) × Option Nat :=
  let w := fmtBits f
  ((4 * w * k, min (4 * w * (k + 1)) (e * w / 8)), if fmtMx f then some (e * w / 8 + k) else none)

/-- The pieces of blocks [b0, b1) of range j in a format, elements and scales. -/
def Rng.blockPieces (g : Rng) (f e j : Nat) (w : Bool) (b0 b1 : Nat) : List Piece :=
  let n := rowBlocks e
  if b1 ≤ b0 ∨ n = 0 then []
  else (upTo (b0 / n) ((b1 - 1) / n + 1)).flatMap fun r =>
    let lo := max b0 (r * n) - r * n
    let hi := min b1 ((r + 1) * n) - r * n
    let a := blockAt f e lo
    let z := blockAt f e (hi - 1)
    g.pieces j w (r * g.b + a.1.1) (r * g.b + z.1.2)
      ++ (match a.2, z.2 with
          | some x, some y => g.pieces j w (r * g.b + x) (r * g.b + y + 1)
          | _, _ => [])

/-! ### Chunks of the byte operations, REDUCE and COL_REDUCE (R90) -/

/-- Shift that puts chunk borders of a byte operation at sector borders of range 0. -/
def chunkShift (p : Packet) : Nat := (rng p 0).off % 64

/-- Chunks of a byte operation, of a block operation. -/
def byteChunks (p : Packet) : Nat := ((rng p 0).len + chunkShift p + 65535) / 65536
def blockChunks (p : Packet) : Nat := (wRows p * rowBlocks (wRowLen p) + blocksPer p - 1) / blocksPer p

/-- Traversal positions of chunk k of a byte operation. -/
def byteSpan (p : Packet) (k : Nat) : Nat × Nat :=
  (65536 * k - chunkShift p, min (rng p 0).len (65536 * (k + 1) - chunkShift p))

/-- Blocks of chunk k. -/
def blockSpan (p : Packet) (k : Nat) : Nat × Nat :=
  (blocksPer p * k, min (wRows p * rowBlocks (wRowLen p)) (blocksPer p * (k + 1)))

/-! ### GATHER_REDUCE (R116 to R118) -/

/-- Table rows a chunk reads; bags a chunk writes. -/
def gatherRows (p : Packet) : Nat := max 1 (65536 / max 1 (rng p 1).b)
def gatherBags (p : Packet) : Nat := max 1 (65536 / max 1 (rng p 0).b)

/-- Bag counts as used (R118): clamped to 256 and cut at NIDX. -/
def bagUse : List Nat → Nat → List Nat
  | [], _ => []
  | c :: r, left => let n := min (min c 256) left; n :: bagUse r (left - n)

/-- Whether one of the cases of R118 applies: an empty bag, a count above 256, counts past NIDX or short of it. -/
def bagClamped (counts : List Nat) (nidx : Nat) : Bool :=
  let t := (counts.map (min · 256)).sum
  counts.any (fun c => c == 0 || decide (256 < c)) || t != nidx

/-! ### ATOMIC (R119) -/

def atomBytes (p : Packet) : Nat := 4 * 2 ^ wAtomSize p

/-- Sizes a FUNC of ATOMIC may have. -/
def atomFits (f z : Nat) : Bool :=
  if f = 1 ∨ f = 2 ∨ f = 3 ∨ f = 8 ∨ f = 9 then decide (z ≤ 2)
  else if f = 0 ∨ (4 ≤ f ∧ f ≤ 7) then decide (z ≤ 1)
  else if f = 10 ∨ f = 11 then z == 0
  else false

def atomMalformed (p : Packet) : Bool :=
  p.addrRsv != 0 || bits p.opw 63 24 != 0 || wNrange p != 0 || !atomFits (wFunc p) (wAtomSize p)
  || p.length != (if wFunc p = 9 then 2 * atomBytes p else atomBytes p)
  || p.offset % atomBytes p != 0

/-! ### Malformed descriptors (R96) -/

/-- Ranges an operation takes. -/
def rangesFit (p : Packet) : Bool :=
  let n := wNrange p
  if p.opcode = 0x10 then n == 1
  else if p.opcode = 0x11 ∨ p.opcode = 0x15 ∨ p.opcode = 0x23 then n == 2
  else if p.opcode = 0x12 then n == (if wUsePat p then 1 else 2)
  else if p.opcode = 0x13 then decide (2 ≤ n) && decide (n ≤ 17)
  else n == (if wFunc p = 3 then 5 else 4)

/-- FUNC and formats of an operation. -/
def funcFits (p : Packet) : Bool :=
  (if wElem p.opcode then decide (wFunc p ≤ (if p.opcode = 0x14 then 3 else 2)) && decide (wIn p ≤ 10) && decide (wOut p ≤ 10)
   else wFunc p == 0)

/-- The limits of GATHER_REDUCE, COPY_REMOTE and COL_REDUCE on their own fields. -/
def ownLimits (p : Packet) : Bool :=
  if p.opcode = 0x14 then
    !wTile p && wRows p == 1 && bits (wParam p) 63 26 == 0
    && decide (1 ≤ wNidx p) && decide (wNidx p ≤ 4096) && decide (1 ≤ wNbag p) && decide (wNbag p ≤ 4096)
    && decide ((rng p 1).b ≤ 4096)
    && (!wToResp p || (decide (wNbag p * (rng p 0).b ≤ 4096) && pw p 4 == 0 && pw p 5 == 0))
  else if p.opcode = 0x15 then bits (wParam p) 63 12 == 0
  else if p.opcode = 0x23 then bits (wParam p) 63 8 == 0
  else true

/-- Whether range 0 is a destination whose stride counts. -/
def strideUsed (p : Packet) : Bool :=
  if p.opcode = 0x12 then false else if p.opcode = 0x14 then !wToResp p else wTile p

/-- A malformed ward data operation (R96); the tree of a COL_REDUCE is checked apart. -/
def wardMalformed (p : Packet) : Bool :=
  if p.opcode = 0x18 then atomMalformed p
  else
    bits p.opw 63 24 != 0 || !rangesFit p || !funcFits p || p.length != 32 + 16 * wNrange p
    || wRowLen p == 0 || wRows p == 0 || (!wTile p && wRows p != 1) || lwBad (pw p 3)
    || ((List.range (wNrange p)).any fun j => bits (pw p (4 + 2 * j)) 63 56 != 0 || bits (pw p (5 + 2 * j)) 63 44 != 0
        || (decide ((2 : Nat) ^ 44 < (rng p j).stop) && !(p.opcode == 0x14 && j == 0 && wToResp p)))
    || (strideUsed p && decide ((rng p 0).stride < (rng p 0).b))
    || (wElem p.opcode && (fmtMx (wIn p) || fmtMx (wOut p)) && wRowLen p % 32 != 0)
    || !ownLimits p

end Sys2Proof.Machine
end

