-- ==== Sys2Proof/Machine/Latch.lean ====
section
/-! DEFINITION. The latch unit: permissions (R177 to R179), counts and their changes (R184 to R189), waiters and their examination
(R190 to R195), the deadlock detector (R197, R198). -/

namespace Sys2Proof.Machine

open Sys2Proof

/-! ### Who may use a latch -/

/-- The subscriber of a fabric packet is bound to its source node now (R35). -/
def State.boundNow (s : State) (p : Packet) : Bool := bit (s.word64 (Reg.PTN_NODE_SUBS.OFF p.src)) p.sub

/-- The share mask of a latch's group names a subscriber now (R178). -/
def State.shared (s : State) (b l : Nat) : Bool := bit (s.f (Reg.LCH_GRP_SHARE.MASK (l / 256))) b

/-- The latch's group is valid and the subscriber may use it (R178); sh is what the share mask said when the request was admitted
(R180). -/
def State.latchMay (s : State) (b l : Nat) (sh : Bool) : Bool :=
  s.flag (Reg.LCH_GRP.VALID (l / 256)) && (s.f (Reg.LCH_GRP.OWNER (l / 256)) == b || sh)

/-- A latch violation (R179): one record, one count of the subscriber; a ward operation's names its context. -/
def State.latchViolation (s : State) (p : Packet) (l : Nat) : State :=
  let w := decide (p.opcode < 0x30)
  (s.fault { mkRec 133 0 0x0502 with addr := l, sub := p.sub, node := p.src, ctx := if w then p.ctx else 0, ctxValid := w }).bump (Reg.PTN_VIOL_CNT.OFF p.sub)

/-! ### Counts -/

/-- The count of a latch. -/
def State.latch (s : State) (l : Nat) : Nat := SMap.get (fun _ => 0) s.lch.counts l

/-- Change a count: journalled on the active of a pair (R199), and the deadlock interval starts again (R197). -/
def State.setLatch (s : State) (l v : Nat) : State :=
  if v = s.latch l then s
  else
    { s with lch := { s.lch with
        counts := SMap.set (fun _ => 0) s.lch.counts l v
        changed := s.time
        raised := false } }.journal (.latch [(l, v)])

/-- A waiter leaves the wait table or the watch list; a freed table entry ends a full spell (R194). -/
def State.unpark (s : State) (p : Park) : State :=
  { s with lch := { s.lch with
      parks := s.lch.parks.filter fun q => q.r.id != p.r.id
      full := if p.ward then s.lch.full else false } }

/-- Answer a parked LATCH_WAIT. -/
def State.answerPark (s : State) (p : Park) (st : Nat) : State := (s.unpark p).reply p.r st 0 (s.latch p.latch) []

/-- Ward operation changed in place. -/
def State.modWop (s : State) (id : Nat) (g : Wop → Wop) : State :=
  { s with wrd := { s.wrd with ops := mapIf (fun o => o.id == id) g s.wrd.ops } }

/-- Release a waiter whose threshold the count meets (R191, R192, R195). -/
def State.release (s : State) (p : Park) : State :=
  let s1 := if p.consume then s.setLatch p.latch (s.latch p.latch - p.thr) else s
  if p.ward then (s1.unpark p).modWop p.r.id fun o => { o with wait := false }
  else (s1.bump Reg.LCH_WAIT_CNT.OFF).answerPark p stOK

/-- Visit waiters in parking order (R192). -/
def State.examineOf : List Park → State → State
  | [], s => s
  | p :: r, s => State.examineOf r (if p.thr ≤ s.latch p.latch then s.release p else s)

/-- Examine the waiters of a latch. -/
def State.examine (s : State) (l : Nat) : State := State.examineOf (s.lch.parks.filter fun p => p.latch == l) s

/-- A saturated add or a refused subtract (R189). -/
def State.latchRange (s : State) (p : Packet) (l : Nat) : State :=
  ((s.bump Reg.LCH_RANGE_CNT.OFF).evt Pg.LCH 1).fault { mkRec 133 0 0x0501 with addr := l, sub := p.sub, node := p.src }

/-- Add to a latch (R184, R187, R189): answers the count after the add, before any release, and whether it saturated. -/
def State.latchAdd (s : State) (p : Packet) (l v : Nat) : State × Nat × Bool :=
  let t := s.latch l + v
  let sat := decide (0xFFFFFFFF < t)
  let n := min t 0xFFFFFFFF
  let s1 := (s.setLatch l n).bump Reg.LCH_ADD_CNT.OFF
  ((if sat then s1.latchRange p l else s1), n, sat)

/-! ### Latch requests (R184) -/

def latchOf (p : Packet) : Nat := bits p.opw 15 0
def latchConsume (p : Packet) : Bool := bit p.opw 16
def latchTmo (p : Packet) : Nat := bits p.opw 31 24
def latchValue (p : Packet) : Nat := bits p.opw 63 32

/-- A malformed latch request (R183). -/
def latchMalformed (p : Packet) : Bool :=
  decide (bits p.opw 23 17 ≠ 0)
  || ((p.opcode == 0x30 || p.opcode == 0x31 || p.opcode == 0x32) && latchValue p == 0)
  || (p.opcode != 0x32 && (latchConsume p || latchTmo p != 0))
  || (p.opcode == 0x33 && latchValue p != 0)
  || p.length != 0

/-- A malformed latch request is counted and recorded. -/
def State.latchBad (s : State) (p : Packet) : State :=
  (s.bump Reg.LCH_MALFORMED_CNT.OFF).fault { mkRec 133 0 0x0503 with addr := latchOf p, sub := p.sub, node := p.src }

/-- A latch request whose answer is the OK, COUNT 0 of a violation (R179). -/
def State.latchRefuse (s : State) (r : Req) : State := (s.latchViolation r.pkt (latchOf r.pkt)).finish r.id stOK 0 0 []

/-- Whether R178 allows a request's latch. -/
def State.latchAllowed (s : State) (r : Req) : Bool := r.bnd && s.latchMay r.pkt.sub (latchOf r.pkt) (bit r.shr 0)

/-- Response operation word of a request that ends ABORTED before it runs: a LATCH_ADD, LATCH_SUB or LATCH_WAIT shows the count that
stands (R184), zero where R178 does not allow the latch (DEDUCED, log entry 89); any other request shows none. -/
def State.abortWord (s : State) (r : Req) : Nat :=
  if 0x30 ≤ r.pkt.opcode ∧ r.pkt.opcode ≤ 0x32 ∧ s.latchAllowed r then s.latch (latchOf r.pkt) else 0

/-- The latches a packet names, and whether the share masks let its subscriber use them now (R180): bit 0 the latch of a latch request or
WAIT_LATCH, bit 1 DONE_LATCH. -/
def State.shareBits (s : State) (p : Packet) : Nat :=
  if 0x30 ≤ p.opcode then b2n (s.shared p.sub (latchOf p))
  else b2n (s.shared p.sub (lwWait (latchWord p))) + 2 * b2n (s.shared p.sub (lwDone (latchWord p)))

/-- LATCH_ADD: the waiters are examined before its answer is formed; COUNT is the count after the add (R184, R187). -/
def State.runLatchAdd (s : State) (r : Req) : State :=
  let l := latchOf r.pkt
  if s.latchAllowed r = false then s.latchRefuse r
  else
    let a := s.latchAdd r.pkt l (latchValue r.pkt)
    ((a.1.classBytes 10 1).examine l).finish r.id (if a.2.2 then stLATCH_RANGE else stOK) 0 a.2.1 []

/-- LATCH_SUB (R184, R189). -/
def State.runLatchSub (s : State) (r : Req) : State :=
  let l := latchOf r.pkt
  if s.latchAllowed r = false then s.latchRefuse r
  else if s.latch l < latchValue r.pkt then
    ((s.classBytes 10 1).latchRange r.pkt l).finish r.id stLATCH_RANGE 0 (s.latch l) []
  else
    let n := s.latch l - latchValue r.pkt
    (((s.classBytes 10 1).setLatch l n).bump Reg.LCH_SUB_CNT.OFF).finish r.id stOK 0 n []

/-- Parked LATCH_WAITs. -/
def State.parked (s : State) : List Park := s.lch.parks.filter fun p => !p.ward

/-- LATCH_WAIT (R184, R190, R191, R194). A parked wait's number commits; its request leaves the chip's list for the wait
table. -/
def State.runLatchWait (s : State) (r : Req) : State :=
  let l := latchOf r.pkt
  let v := latchValue r.pkt
  if s.latchAllowed r = false then s.latchRefuse r
  else
    let s0 := s.classBytes 10 1
    if v ≤ s.latch l then
      let s1 := if latchConsume r.pkt then s0.setLatch l (s.latch l - v) else s0
      (s1.bump Reg.LCH_WAIT_CNT.OFF).finish r.id stOK 0 (s1.latch l) []
    else if 4096 ≤ s.parked.length then
      let s1 := if s.lch.full then s0 else s0.evt Pg.LCH 3
      ({ s1 with lch := { s1.lch with full := true } }.bump Reg.LCH_WAIT_FULL_CNT.OFF).finishRetry r.id 0x14
    else if s.f (Reg.LCH_WAIT_QUOTA.QUOTA r.pkt.sub) ≤ (s.parked.filter fun p => p.r.pkt.sub == r.pkt.sub).length then
      ((s0.evt Pg.LCH 3).bump Reg.LCH_WAIT_FULL_CNT.OFF).finishRetry r.id 0x14
    else
      let t := if latchTmo r.pkt = 0 then s.f Reg.LCH_CTRL.DEF_TMO else latchTmo r.pkt
      let s1 := { s0 with lch := { s0.lch with parks := s0.lch.parks ++ [Park.mk false r l v (latchConsume r.pkt) t s.time] } }
      let s2 := s1.dropReq r.id
      if r.seqd then s2.seqCommit (s2.seqKey r.pkt) r.n false else s2

/-- LATCH_READ. -/
def State.runLatchRead (s : State) (r : Req) : State :=
  if s.latchAllowed r = false then s.latchRefuse r
  else (s.classBytes 10 1).finish r.id stOK 0 (s.latch (latchOf r.pkt)) []

/-- LATCH_SET (R182, R184): from the manager node only; R178's binding is not asked of it. -/
def State.runLatchSet (s : State) (r : Req) : State :=
  let l := latchOf r.pkt
  if s.isMgr (r.pkt.src) = false then s.latchRefuse r
  else
    let v := latchValue r.pkt
    (((s.classBytes 10 1).setLatch l v).examine l).finish r.id stOK 0 v []

/-- A parked wait's number has committed; its ABORTED breaks a segment that has not been checked yet (R47). -/
def State.seqSpoil (s : State) (r : Req) : State :=
  match s.seqEntry (s.seqKey r.pkt) with
  | some e => if r.seqd then s.setSeq (s.seqKey r.pkt) (e.note ⟨r.n, r.pkt.ordered, true, true⟩).settle else s
  | none => s

/-- End parked LATCH_WAITs that a test names with ABORTED (R27, R180, R199). -/
def State.abortParks (s : State) (t : Park → Bool) : State :=
  (s.parked.filter t).foldl (fun acc p => (acc.answerPark p stABORTED).seqSpoil p.r) s

/-! ### The deadlock detector (R197, R198) -/

/-- A snapshot entry (R198) as a 128-bit number. -/
def State.snapEntry (s : State) (p : Park) : Nat :=
  p.latch + p.thr * 2 ^ 16 + b2n p.consume * 2 ^ 48 + b2n p.ward * 2 ^ 49 + p.r.pkt.sub * 2 ^ 50
  + (if p.ward then p.r.pkt.ctx * 2 ^ 56 else 0)
  + (p.r.pkt.src + p.r.pkt.tagOf * 2 ^ 16 + min ((s.time - p.since) / 1000) 0xFFFFFFFF * 2 ^ 32) * 2 ^ 64

/-- The three conditions of R197, and none raised since a count last changed. -/
def State.deadlocked (s : State) : Bool :=
  s.flag Reg.LCH_CTRL.DL_EN && !s.parked.isEmpty
  && decide (s.lch.changed + s.f Reg.LCH_DL_CTRL.INTERVAL * 1000000 ≤ s.time)
  && s.wrd.ops.all (fun o => o.wait) && !(s.reqs.any fun r => r.started && r.pkt.opcode == 0x18)
  && !s.lch.raised

/-- A detector test. -/
def State.deadlockTest (s : State) : State :=
  if s.deadlocked = false then s
  else
    let s1 := ({ s with lch := { s.lch with raised := true } }.bump Reg.LCH_DEADLOCK_CNT.OFF).evt Pg.LCH 2
    let s2 := s1.fault (mkRec 133 2 0x0504)
    if s2.flag Reg.LCH_DL_STAT.SNAP_VALID then s2
    else
      let es := s2.lch.parks.map s2.snapEntry
      ({ s2 with lch := { s2.lch with snap := es } }.setF Reg.LCH_DL_STAT.SNAP_ENTRIES es.length).setFlag
        Reg.LCH_DL_STAT.SNAP_VALID true

end Sys2Proof.Machine
end

