-- ==== Sys2Proof/Machine/Directory.lean ====
section
/-! DEFINITION. The coherence directory: agents (R203), entries (R206 to R208), snoops (R209, R212, R233), transactions (R217 to
R221), victims and pending requests (R225, R226), accesses of other requests to coherent lines (R227), fence walks (R228 to
R230), flushes (R231). -/

namespace Sys2Proof.Machine

open Sys2Proof

/-! ### Agents (R203) -/

/-- The valid slot that names a fabric node. -/
def State.nodeAgent (s : State) (n : Nat) : Option Nat :=
  (List.range 512).find? fun a => s.flag (Reg.DIR_AGENT.VALID a) && !s.flag (Reg.DIR_AGENT.CXL a) && s.f (Reg.DIR_AGENT.NODE a) == n

/-- The valid slot that names a logical device. -/
def State.ldAgent (s : State) (ld : Nat) : Option Nat :=
  (List.range 512).find? fun a => s.flag (Reg.DIR_AGENT.VALID a) && s.flag (Reg.DIR_AGENT.CXL a) && s.f (Reg.DIR_AGENT.LD a) == ld

/-- The slot of a request's sender. -/
def State.agentOf (s : State) (r : Req) : Option Nat :=
  match r.cxl with
  | some (ld, _) => s.ldAgent ld
  | none => s.nodeAgent r.pkt.src

def State.agentCxl (s : State) (a : Nat) : Bool := s.flag (Reg.DIR_AGENT.CXL a)
def State.agentFenced (s : State) (a : Nat) : Bool := s.flag (Reg.DIR_AGENT.FENCED a)

/-! ### Entries (R206 to R208) -/

def noDirEnt : DirEnt := ⟨0, 0, false, 0, [], 0, false⟩

/-- Slice and set of a line. -/
def State.dirSlice (s : State) (ppa : Nat) : Nat := s.part.stackOf ppa
def State.dirSet (s : State) (ppa : Nat) : Nat :=
  let l := s.part.localOf ppa
  bits l 18 6 ^^^ bits l 31 19 ^^^ bits l 35 32

/-- Key of way 0 of a line's set. -/
def State.dirBase (s : State) (ppa : Nat) : Nat := s.dirSlice ppa * 131072 + s.dirSet ppa * 16

/-- The entry of a line, with its key. -/
def State.dirFind (s : State) (line : Nat) : Option (Nat × DirEnt) := s.dir.ents.find? fun e => e.2.line == line

/-- Fault source of a line's slice (R430). -/
def State.dirSource (s : State) (ppa : Nat) : Nat := 121 + s.dirSlice ppa

/-- DATA1 and DATA2-3 of an entry (R207). -/
def DirEnt.data1 (e : DirEnt) : Nat := e.dstate + b2n e.coarse * 8 + e.lead * 16 + (if e.coarse then 0 else e.sharers.length) * 2 ^ 16
def DirEnt.sharerWord (e : DirEnt) : Nat :=
  if e.coarse then e.groups else e.sharers.foldr (fun a acc => a + 512 * acc) 0

/-- Add a sharer beyond LEAD (R208). -/
def DirEnt.join (e : DirEnt) (a : Nat) : DirEnt :=
  if e.lead = a then e
  else if e.coarse then { e with groups := putBit e.groups (a / 8) true }
  else if e.sharers.contains a then e
  else if e.sharers.length < 7 then { e with sharers := e.sharers ++ [a] }
  else { e with coarse := true, sharers := [], groups := (e.sharers ++ [a]).foldl (fun m x => putBit m (x / 8) true) 0 }

/-- Owned by one agent. -/
def DirEnt.own (line a : Nat) (pin : Bool) : DirEnt := ⟨line, 3, false, a, [], 0, pin⟩

/-- The form in which a pinned entry is journalled: it names the requester of its open transaction too, so that a takeover finds it (R236, log
entry 94). -/
def DirEnt.naming (e : DirEnt) (x : Nat) : DirEnt := if e.dstate = 0 then DirEnt.own e.line x e.pin else e.join x

/-- Store an entry; a change on a MIRRORED line is journalled (R236). -/
def State.setEnt (s : State) (k : Nat) (e : DirEnt) : State :=
  let s1 := { s with dir := { s.dir with ents := SMap.set (fun _ => noDirEnt) s.dir.ents k e } }
  let who := if e.pin then (s.dir.txns.find? fun t => t.line == e.line).bind (·.agent) else none
  let j := match who with
    | some x => e.naming x
    | none => e
  if s1.mirrored e.line then s1.journal (.dir [(e.line, j.data1, j.sharerWord, j.pin)]) else s1

/-- Free an entry. -/
def State.freeEnt (s : State) (k : Nat) : State :=
  let e := SMap.get (fun _ => noDirEnt) s.dir.ents k
  let s1 := { s with dir := { s.dir with ents := SMap.set (fun _ => noDirEnt) s.dir.ents k noDirEnt } }
  if s1.mirrored e.line then s1.journal (.dir [(e.line, 0, 0, false)]) else s1

/-- Use of a way: the tree's nodes on its path point away from it. -/
def State.touchDir (s : State) (k : Nat) : State :=
  let t := (plruPath (k % 16)).foldl (fun acc x => putBit acc x.1 (!x.2)) (SMap.get (fun _ => 0) s.dir.plru (k / 16))
  { s with dir := { s.dir with plru := SMap.set (fun _ => 0) s.dir.plru (k / 16) t } }

/-- Holders an entry counts for the choice of a victim (R225). -/
def DirEnt.weight (e : DirEnt) : Nat := if e.coarse then 9 else 1 + e.sharers.length

/-- Every agent that may hold the line (R208). -/
def State.holders (s : State) (e : DirEnt) : List Nat :=
  if e.dstate = 0 then [] else
  let group := if e.coarse then (List.range 512).filter fun a => bit e.groups (a / 8) && s.flag (Reg.DIR_AGENT.VALID a) else []
  (e.lead :: (if e.coarse then group.filter (· != e.lead) else e.sharers)).filter fun a => !s.agentFenced a

/-- Whether the directory shows an agent as a holder. -/
def DirEnt.names (e : DirEnt) (a : Nat) : Bool :=
  e.dstate != 0 && (e.lead == a || (if e.coarse then bit e.groups (a / 8) else e.sharers.contains a))

/-- The directory knows that an agent held the line when it last named it: a COARSE entry names only an F holder exactly (R208, log entry 94). -/
def DirEnt.exact (e : DirEnt) (a : Nat) : Bool :=
  e.dstate != 0 && ((e.lead == a && (!e.coarse || e.dstate == 2)) || (!e.coarse && e.sharers.contains a))

/-- Make an agent LEAD; an old LEAD that still holds the line joins the sharers. -/
def DirEnt.leadBy (e : DirEnt) (a : Nat) (keepOld : Bool) : DirEnt :=
  let e1 := { e with lead := a, sharers := e.sharers.filter (· != a), dstate := 2 }
  if keepOld && e.lead != a then e1.join e.lead else e1

/-- The other agents a group vector stands for that may hold lines. -/
def State.groupOthers (s : State) (groups a : Nat) : List Nat :=
  (List.range 512).filter fun b => b != a && bit groups (b / 8) && s.flag (Reg.DIR_AGENT.VALID b) && !s.agentFenced b

/-- An entry without one agent (R217 EVICT_CLEAN, R228): none where no holder is left. An eviction leaves a COARSE entry's group bit set (R208); a
fence clears it where no other agent of the group can hold the line. A COARSE entry that loses its LEAD takes the lowest agent its groups stand for
(log entry 94). -/
def State.without (s : State) (e : DirEnt) (a : Nat) (fence : Bool) : Option DirEnt :=
  if e.dstate = 3 then (if e.lead = a then none else some { e with sharers := e.sharers.filter (· != a) })
  else if e.coarse then
    let g := if fence && (s.groupOthers (2 ^ (a / 8)) a).isEmpty then putBit e.groups (a / 8) false else e.groups
    if e.lead = a then (s.groupOthers g a).head?.map fun b => { e with dstate := 1, lead := b, groups := g }
    else some { e with groups := g }
  else if e.lead = a then
    match e.sharers with
      | [] => none
      | x :: r => some { e with dstate := 1, lead := x, sharers := r }
  else some { e with sharers := e.sharers.filter (· != a) }

/-- Store an entry or, without holders, free it; a pinned one is freed when it is unpinned. -/
def State.putEnt (s : State) (k : Nat) (pin : Bool) (line : Nat) (e : Option DirEnt) : State :=
  match e with
  | some x => s.setEnt k { x with pin := pin }
  | none => if pin then s.setEnt k ⟨line, 0, false, 0, [], 0, true⟩ else s.freeEnt k

/-- Entries whose line lies in a partition (DIR_PTN_HELD). -/
def State.ptnHeld (s : State) (n : Nat) : Nat := (s.dir.ents.filter fun e => s.ptnOf e.2.line == some n).length

/-! ### Transactions -/

def State.txnOf (s : State) (num : Nat) : Option Txn := s.dir.txns.find? fun t => t.num == num
def State.modTxn (s : State) (num : Nat) (g : Txn → Txn) : State :=
  { s with dir := { s.dir with txns := mapIf (fun t => t.num == num) g s.dir.txns } }

/-- The class of a waiter's request (R361); COHERENCE for what no request asked for. -/
def State.waiterClass (s : State) (w : Option Waiter) : Nat :=
  let id := match w with
    | some (.req id) => id
    | some (.chunk id _) => id
    | none => s.nextId
  match s.req? id with
  | some r => r.pkt.cls
  | none => 2

/-- Tag of the request a transaction serves (R212). -/
def State.txnTag (s : State) (t : Txn) : Nat :=
  match t.who with
  | .req id => match s.req? id with
    | some r => r.pkt.tagOf
    | none => 0
  | _ => 0

/-- Back-invalidate snoops outstanding to a logical device (R234). -/
def State.biOpen (s : State) (a : Nat) : Nat :=
  (s.dir.txns.flatMap fun t => t.snoops.filter fun x => x.agent == a && x.sent && !x.done).length

/-- A snoop takes the line from its holder (R222). -/
def snoopTakes (op : Nat) : Bool := op != 0x49

/-- A CXL snoop that must still wait: inside the hold time (R222) or above BI_MAX (R234). -/
def State.biWaits (s : State) (line : Nat) (x : Snoop) : Bool :=
  (snoopTakes x.op && s.dir.hold.contains (line, x.agent)) || decide (s.f Reg.DIR_CTRL.BI_MAX ≤ s.biOpen x.agent)

/-- Issue one snoop (R212, R233). -/
def State.sendSnoop (s : State) (t : Txn) (x : Snoop) : State :=
  let s1 := s.bump Reg.DIR_SNOOP_CNT.OFF
  if s.agentCxl x.agent then
    (s1.bump Reg.DIR_BISNP_CNT.OFF).emit (.biSnp (s.f (Reg.DIR_AGENT.LD x.agent)) t.line x.op)
  else
    let reqNode := if x.op = 0x48 then 0xFFF else match t.agent with
      | some a => if s.agentCxl a then 0xFFF else s.f (Reg.DIR_AGENT.NODE a)
      | none => 0xFFF
    let f : Form := {
      dest := s.f (Reg.DIR_AGENT.NODE x.agent), src := s.ownId, vc := 2, cls := t.cls, opcode := x.op
      addr := s.txnTag t + t.num * 65536
      op := t.line / 64 * 64 + reqNode * 2 ^ 40 + b2n x.home * 2 ^ 52 }
    s1.inject f.packet none

/-- A transaction with an agent's snoop marked issued. -/
def snoopSent (a : Nat) (t : Txn) : Txn := { t with
  snoops := mapIf (fun z => z.agent == a) (fun z => { z with sent := true }) t.snoops }

/-- Issue the snoops of a transaction that may go now. -/
def State.sendSnoops (s : State) (num : Nat) : State :=
  match s.txnOf num with
  | none => s
  | some t => t.snoops.foldl (fun acc x =>
      if x.sent || x.done || (acc.agentCxl x.agent && acc.biWaits t.line x) then acc
      else (acc.sendSnoop t x).modTxn num (snoopSent x.agent)) s

/-- Open a transaction: the entry is pinned (R219) and its snoops are issued. -/
def State.openTxn (s : State) (k : Nat) (e : DirEnt) (who : TxnFor) (op cls : Nat) (agent : Option Nat)
    (targets : List (Nat × Nat × Bool)) : State × Nat :=
  let num := s.dir.next
  let snoops := targets.map fun x => Snoop.mk x.1 x.2.1 x.2.2 false false false false false 0 false
  let s1 := { s with
    dir := { s.dir with
      next := num % 65535 + 1
      txns := s.dir.txns ++ [Txn.mk num e.line who op agent snoops false false false cls] } }
  ((s1.setEnt k { e with pin := true }).sendSnoops num, num)

/-- Close a transaction: unpin, or free what has no holder left. -/
def State.closeTxn (s : State) (num : Nat) : State :=
  match s.txnOf num with
  | none => s
  | some t =>
    let s1 := { s with dir := { s.dir with txns := s.dir.txns.filter fun x => x.num != num } }
    match s1.dirFind t.line with
    | none => s1
    | some (k, e) => if e.dstate = 0 then s1.freeEnt k else s1.setEnt k { e with pin := false }

/-! ### Data (R217) -/

/-- The line as memory holds it: data and whether it is poison. -/
def State.lineData (s : State) (line b node : Nat) : State × List Byte × Bool := s.demandSector line b node []

/-- Write returned dirty data of a line, unless its stack has failed (R282). -/
def State.writeLine (s : State) (line : Nat) (data : List Byte) : State :=
  if s.mediaFail line then s else s.writeSector line data

/-- Write the data of a WB_DIRTY, unless its line is lost to the sender (R282, R402). -/
def State.writeBack (s : State) (p : Packet) (line : Nat) : State :=
  if s.lostTo p line then s else s.writeSector line p.payload

/-- Operation word of a grant (R211). -/
def grantWord (grant line txn : Nat) : Nat := grant + line / 64 * 64 + txn * 2 ^ 40

/-- A fenced slot's agent holds lines again (R230). -/
def State.notBare (s : State) (x : Nat) : State := { s with dir := { s.dir with bare := s.dir.bare.filter (· != x) } }

/-- The access by which the home reads or writes a line for a request (R253). -/
def State.lineAccess (s : State) (r : Req) (line : Nat) (write : Bool) : State :=
  if r.queued then s
  else (s.queueAccess (requesterOf r.port r.cxl.isSome) line 64 r.pkt.cls write (if write then rangePuts line 64 else [])).modReq r.id fun q =>
    { q with queued := true }

/-- Answer a coherence request with a grant from the home. A grant to a CXL agent starts its hold time (R222). -/
def State.grantFrom (s : State) (t : Txn) (id grant : Nat) (withData : Bool) : State :=
  match s.req? id with
  | none => s
  | some r =>
    let s0 := match t.agent with
      | some a => if s.agentCxl a && grant != 0 && s.f Reg.DIR_CTRL.HOLD != 0 then
          { s with dir := { s.dir with hold := s.dir.hold ++ [(t.line, a)] } } else s
      | none => s
    if withData then
      let d := (s0.lineAccess r t.line false).lineData t.line r.pkt.sub r.pkt.src
      d.1.finish id (if d.2.2 then stPOISON else stOK) 0 (grantWord grant t.line t.num) d.2.1
    else s0.finish id stOK 0 (grantWord grant t.line t.num) []

/-- The request's answer came from another cache (R213): it ends here without one. -/
def State.endForwarded (s : State) (id : Nat) : State :=
  match s.req? id with
  | none => s
  | some r =>
    let s1 := s.dropReq id
    if r.seqd then s1.seqCommit (s1.seqKey r.pkt) r.n false else s1

/-- The snoop that a transaction sent to an entry's LEAD. -/
def Txn.leadSnoop (t : Txn) (e : DirEnt) : Option Snoop := t.snoops.find? fun z => z.agent == e.lead

/-- LEAD still holds the line once a transaction's snoops are answered: it was not asked, or it shares the line, and no write-back or eviction of it
crossed the snoop. An F holder that answers I has an EVICT_CLEAN under way, which removes it. -/
def Txn.leadStays (t : Txn) (e : DirEnt) : Bool :=
  match t.leadSnoop e with
  | none => true
  | some z => !z.wb && (e.dstate == 2 || z.final == 1 || z.final == 2)

/-- LEAD's write-back or eviction crossed the snoop of an access that leaves the entry unchanged: X has given the line up (R217, R220). -/
def Txn.leadGone (t : Txn) (e : DirEnt) : Bool := (t.leadSnoop e).any (·.wb)

/-- The entry that a transaction leaves when its requester gets no grant: it was fenced, or the line's stack failed (R228, R282). -/
def Txn.leftEnt (t : Txn) (e : DirEnt) : Option DirEnt :=
  if e.dstate = 0 then none
  else if t.op = 0x43 then (if t.leadGone e then none else some e)
  else if t.op = 0x40 then
    (if (t.leadSnoop e).isNone then some e
     else if e.dstate = 3 then (if t.leadStays e then some { e with dstate := 1, sharers := [] } else none)
     else if t.leadStays e then some { e with dstate := 1 } else none)
  else match t.agent with
    | some x => if t.op == 0x42 && e.exact x then some ⟨e.line, 1, false, x, [], 0, true⟩ else none
    | none => none

/-- The entry after RD_SHARED (R217, R218): a CXL requester joins beside LEAD, a fabric requester becomes LEAD with F. -/
def Txn.sharedEnt (t : Txn) (e : DirEnt) (x : Nat) (cxl : Bool) : DirEnt :=
  let old := e.dstate != 0 && t.leadStays e
  let base := if e.dstate = 1 ∨ e.dstate = 2 then e else { e with sharers := [], coarse := false, groups := 0 }
  if cxl then (if old then { base with dstate := if e.dstate = 2 then 2 else 1 }.join x
    else ⟨e.line, 1, false, x, [], 0, true⟩)
  else if e.dstate = 0 then ⟨e.line, 2, false, x, [], 0, true⟩
  else base.leadBy x old

/-- A fenced agent's fence walk counts one more poisoned line (R228). -/
def State.countPoisoned (s : State) (a line : Nat) : State :=
  let s1 := s.bump Reg.DIR_POISONED_CNT.OFF
  { s1 with
    dir := { s1.dir with
      fences := mapIf (fun j => j.agent == a)
        (fun j => { j with count := j.count + 1, first := some (j.first.getD line) }) s1.dir.fences } }

/-- Write the poison pattern to a line that an agent owned (R228, R447), with the maintenance requester. -/
def State.poisonOwned (s : State) (a line : Nat) : State :=
  (if s.mediaFail line then s else ((s.rangeAccess 15 line 64 true).poisonSector line).poisonList line false).countPoisoned a line

/-- Write the poison pattern to a line that a fenced agent owned; one whose channel is quiesced or whose granule is locked waits (R228, R244). -/
def State.fencePoison (s : State) (a line : Nat) : State :=
  if !s.mediaFail line && s.memHeld line 64 then { s with
    dir := { s.dir with fences := mapIf (fun j => j.agent == a) (fun j => { j with wait := j.wait ++ [line] }) s.dir.fences } }
  else s.poisonOwned a line

/-- A fence walk has still to poison a line. -/
def State.poisonWaits (s : State) (line : Nat) : Bool := s.dir.fences.any fun j => j.wait.contains line

/-- The entry and the grant once every snoop of a request's transaction is answered (R217, R218, R233). RD_OWN grants M where LEAD's modified data
came back through the home. A MemRdData, which carries 1 in its top operation byte, is granted E where no other holder is left. No grant is made
to a requester that has been fenced (R228), or of a line whose stack has failed (R282); data that a fenced requester was forwarded with ownership is
poisoned. -/
def State.txnGrant (s : State) (t : Txn) (id : Nat) : State :=
  match s.dirFind t.line, t.agent with
  | some (k, e), some x =>
    let cxl := s.agentCxl x
    let fwd := t.snoops.any (·.fwd)
    let own := t.op == 0x41 || t.op == 0x42
    let granted (u : State) : State := (u.modTxn t.num fun y => { y with granted := true, owes := !cxl && t.op != 0x43 }).notBare x
    let lost := !fwd && (s.req? id).any fun r => s.lostTo r.pkt t.line
    if s.agentFenced x ∨ lost then
      let s1 := (s.putEnt k true t.line (t.leftEnt e)).modTxn t.num fun y => { y with granted := true, owes := false }
      if s.agentFenced x then (if own && fwd then s1.fencePoison x t.line else s1) else s1.finish id stMEDIA_FAIL 0 0 []
    else if t.op = 0x40 then
      let e1 := t.sharedEnt e x cxl
      let alone := cxl && ((s.req? id).any fun r => r.pkt.hint == 1) && s.holders e1 == [x]
      let s1 := granted (s.setEnt k (if alone then DirEnt.own t.line x true else { e1 with line := t.line, pin := true }))
      if fwd then s1.endForwarded id else s1.grantFrom t id (if alone then 3 else if cxl then 1 else 2) true
    else if t.op = 0x43 then
      let s1 := (s.putEnt k true t.line (if e.dstate = 0 ∨ t.leadGone e then none else some e)).modTxn t.num fun y =>
        { y with granted := true, owes := false }
      if fwd then s1.endForwarded id else s1.grantFrom t id 0 true
    else
      let s1 := granted (s.setEnt k (DirEnt.own t.line x true))
      let m := !cxl && e.dstate == 3 && (t.leadSnoop e).any (·.dirty)
      if fwd then s1.endForwarded id
      else s1.grantFrom t id (if m then 4 else 3) (t.op != 0x42 && !(cxl && (s.req? id).any fun r => r.pkt.opcode == 0x42))
  | _, _ => s

/-- A transaction moves on once every snoop is answered and no poison of its line waits: the grant, then, with the COMP_ACK where one is owed, its
end. -/
def State.txnStep (s : State) (num : Nat) : State :=
  match s.txnOf num with
  | none => s
  | some t =>
    if t.snoops.any (fun x => !x.done) || s.poisonWaits t.line then s
    else
      let drop (u : State) (gone : DirEnt → Bool) : State := match u.dirFind t.line with
        | some (k, e) => if gone e then u.putEnt k true t.line none else u
        | none => u
      let s1 := if t.granted then s else match t.who with
        | .req id => s.txnGrant t id
        | .access w wr =>
          let u := if wr then drop s fun _ => true
            else drop { s with dir := { s.dir with fresh := s.dir.fresh ++ [(w, t.line)] } } t.leadGone
          (u.modTxn num fun y => { y with granted := true }).wake w .again
        | _ => (drop s fun _ => true).modTxn num fun y => { y with granted := true }
      match s1.txnOf num with
      | none => s1
      | some t1 => if t1.granted && (!t1.owes || t1.acked) then s1.closeTxn num else s1

/-! ### Serving a request at the home (R217, R219, R225, R226) -/

/-- Pending requests of a slice. -/
def State.pendIn (s : State) (slice : Nat) : List Pend := s.dir.pend.filter fun p => s.dirSlice p.line == slice && p.who.isSome

/-- A slice's pending queue is full. -/
def State.pendIsFull (s : State) (slice : Nat) : Bool := decide (64 ≤ (s.pendIn slice).length)

/-- A waiter is in a pending queue, or waits to enter one. -/
def State.pends (s : State) (w : Waiter) : Bool := s.dir.pend.any fun p => p.who == some w

/-- Wait in the slice's queue; a fabric request that finds it full is answered RETRY, hint 0x05. A CXL request or a ward chunk behind a full queue
waits to enter it (R226). -/
def State.pendOn (s : State) (line : Nat) (w : Waiter) (fabric way : Bool) : State :=
  if s.pends w then s
  else if fabric && s.pendIsFull (s.dirSlice line) then (s.bump Reg.DIR_RETRY_CNT.OFF).wake w (.retry 0x05)
  else { s with dir := { s.dir with pend := s.dir.pend ++ [⟨line, some w, way⟩] } }

/-- The ways of a line's set. -/
def State.dirWays (s : State) (line : Nat) : List (Nat × DirEnt) :=
  (List.range 16).map fun w => (s.dirBase line + w, SMap.get (fun _ => noDirEnt) s.dir.ents (s.dirBase line + w))

/-- A free way of a line's set. -/
def State.dirFree (s : State) (line : Nat) : Option Nat :=
  ((s.dirWays line).find? fun e => e.2 == noDirEnt).map (·.1)

/-- The victim of a line's set (R225): fewest holders among the unpinned ways, and among equals the way to which the set's tree leads. -/
def State.dirVictim (s : State) (line : Nat) : Option (Nat × DirEnt) :=
  let l := (s.dirWays line).filter fun e => !e.2.pin
  let m := l.foldl (fun acc e => min acc e.2.weight) 99
  let best := l.filter fun e => e.2.weight == m
  let w := plruAmong (SMap.get (fun _ => 0) s.dir.plru (s.dirBase line / 16)) (fun w => best.any fun e => e.1 % 16 == w) 4 1
  best.find? fun e => e.1 % 16 == w

/-- Take a way for a line without an entry, or start an eviction and wait for it, or answer RETRY: hint 0x02 where every way is pinned, 0x05 where
the queue is full (R225, R226). A line for which a request waits already starts no eviction of its own. -/
def State.dirAlloc (s : State) (line : Nat) (w : Waiter) (fabric : Bool) : State × Option Nat :=
  match s.dirFree line with
  | some k => (s, some k)
  | none => match s.dirVictim line with
    | none =>
      if fabric then ((s.bump Reg.DIR_RETRY_CNT.OFF).wake w (.retry 0x02), none)
      else (s.pendOn line w fabric true, none)
    | some (k, e) =>
      if (fabric && s.pendIsFull (s.dirSlice line)) || s.dir.pend.any fun p => p.line == line && p.way then (s.pendOn line w fabric true, none)
      else
        let o := (s.bump Reg.DIR_VICTIM_CNT.OFF).openTxn k e .victim 0x48 (s.waiterClass (some w)) none ((s.holders e).map fun a => (a, 0x48, true))
        ((o.1.pendOn line w fabric true).txnStep o.2, none)

/-- Snoops of a request by agent x to an entry (R217, R218). -/
def State.snoopsFor (s : State) (op : Nat) (e : DirEnt) (x : Nat) : List (Nat × Nat × Bool) :=
  let home := s.agentCxl x
  let snp (a o : Nat) : Nat × Nat × Bool := (a, o, home || s.agentCxl a)
  if e.dstate = 3 then
    (if s.agentFenced e.lead then []
     else if op = 0x40 then [snp e.lead 0x4A] else if op = 0x43 then [snp e.lead 0x49] else [snp e.lead 0x4B])
  else if op = 0x40 then (if e.dstate = 2 && !s.agentFenced e.lead then [snp e.lead 0x4A] else [])
  else if op = 0x43 then []
  else ((s.holders e).filter (· != x)).map fun a => (a, 0x48, true)

/-- The line a coherence request names: where it translated to, or, for a return, what its operation word gives. -/
def Req.cohLine (r : Req) : Option Nat :=
  if r.pkt.opcode = 0x44 ∨ r.pkt.opcode = 0x45 then (if r.cxl.isSome then r.ppa.map (· / 64 * 64) else some (bits r.pkt.opw 39 6 * 64))
  else r.ppa.map (· / 64 * 64)

/-- A coherence request for a line must wait for lower-numbered ones of its agent (R219, R221): one that has come for that line and has not
committed, or, where the directory shows the agent as a holder, numbers that have not come (log entry 94). -/
def State.cohBehind (s : State) (r : Req) (line : Nat) : Bool :=
  (s.reqs.any fun q => q.id != r.id && s.sourceOf q == s.sourceOf r && decide (0x40 ≤ q.pkt.opcode)
    && decide (q.pkt.opcode ≤ 0x45) && decide (q.n < r.n) && q.cohLine == some line)
  || (r.seqd && (match s.dirFind line, s.agentOf r with
      | some (_, e), some x => e.names x
      | _, _ => false)
    && (match s.seqEntry (s.seqKey r.pkt) with
      | some q => !(q.missing r.n).isEmpty
      | none => false))

/-- Grant at once what no snoop is needed for. An UPGRADE that takes the line's data reads it, and is charged for it (R363). -/
def State.grantNow (s : State) (r : Req) (x k line : Nat) : State :=
  let op := r.pkt.opcode
  let shared := op == 0x40 && r.cxl.isSome && r.pkt.hint != 1
  let e1 : DirEnt := if shared then ⟨line, 1, false, x, [], 0, true⟩ else DirEnt.own line x true
  let data := !(op == 0x42 && r.cxl.isSome)
  let o := ((s.notBare x).chargeReq r (if op = 0x42 ∧ data then 64 else 0)).openTxn k e1 (.req r.id) op r.pkt.cls (some x) []
  let u := match o.1.txnOf o.2 with
    | some t => o.1.grantFrom t r.id (if shared then 1 else 3) data
    | none => o.1
  (u.modTxn o.2 fun y => { y with granted := true, owes := r.cxl.isNone }).txnStep o.2

/-- Answer RD_CUR, or a request that gets no grant, from memory (R216, R217). -/
def State.plainLine (s : State) (r : Req) (line : Nat) : State :=
  let u := (s.lineAccess r line false).lineData line r.pkt.sub r.pkt.src
  u.1.finish r.id (if u.2.2 then stPOISON else stOK) 0 (grantWord 0 line 0) u.2.1

/-- A coherence request of agent x at the home for a line that translated and lies on a working stack. A requester that is LEAD of an OWNED entry
has given the line up. -/
def State.cohServe (s : State) (r : Req) (x line : Nat) : State :=
  let fabric := r.cxl.isNone
  let op := r.pkt.opcode
  let s0 := s.bump Reg.DIR_LOOKUP_CNT.OFF
  match s0.dirFind line with
  | some (k, e) =>
    if e.pin || s0.cohBehind r line then s0.pendOn line (.req r.id) fabric false
    else
      let s1 := s0.touchDir k
      if e.dstate = 3 ∧ e.lead = x then
        (if op = 0x43 then (s1.freeEnt k).plainLine r line else s1.grantNow r x k line)
      else
        let op1 := if op = 0x42 ∧ e.exact x = false then 0x41 else op
        let o := (s1.chargeReq r (if op1 = op then 0 else 64)).openTxn k e (.req r.id) op1 r.pkt.cls (some x) (s1.snoopsFor op1 e x)
        o.1.txnStep o.2
  | none =>
    if s0.cohBehind r line then s0.pendOn line (.req r.id) fabric false
    else if op = 0x43 then s0.plainLine r line
    else
      let a := s0.dirAlloc line (.req r.id) fabric
      match a.2 with
      | none => a.1
      | some k => (a.1.touchDir k).grantNow r x k line

/-! ### Write-backs and evictions (R215, R217, R220) -/

/-- The open snoop of an agent on a line. -/
def State.openSnoop (s : State) (line a : Nat) : Option (Txn × Snoop) :=
  s.dir.txns.findSome? fun t =>
    if t.line = line then ((t.snoops.find? fun x => x.agent == a && (!x.done || x.await)).map fun x => (t, x)) else none

/-- A packet the directory does not accept (R215). -/
def State.cohStale (s : State) (p : Packet) (line : Nat) : State :=
  (s.bump Reg.DIR_DROP_CNT.OFF).fault
    { mkRec (s.dirSource line) 0 0x0604 with addr := line, addrPpa := true, sub := if isResponse p then 0 else p.sub, node := p.src }

/-- The snoop an agent's write-back or eviction crossed no longer waits for it (R220). -/
def State.crossed (s : State) (t : Txn) (a : Nat) (dirty : Bool) : State :=
  (s.modTxn t.num fun y => { y with
    snoops := mapIf (fun z => z.agent == a) (fun z => { z with wb := true, dirty := dirty, done := z.done || z.await, await := false }) y.snoops }).txnStep t.num

/-- WB_DIRTY of agent x (R217, R220, R282); never put in the pending queue, but its write waits for a quiesced channel (R244). -/
def State.runWbDirty (s : State) (r : Req) (x : Nat) : State :=
  let line := bits r.pkt.opw 39 6 * 64
  let lost := s.lostTo r.pkt line
  let st := if lost then stMEDIA_FAIL else stOK
  let s0 := s.bump Reg.DIR_LOOKUP_CNT.OFF
  let put (k : State → State) : State :=
    if !lost && s0.memHeld line 64 then (s.lineAccess r line true).park r.id
    else k (((if lost then s0 else s0.lineAccess r line true).chargeReq r 64).writeBack r.pkt line)
  match s0.openSnoop line x with
  | some (t, _) => put fun u => (u.finish r.id st 0 0 []).crossed t x true
  | none => match s0.dirFind line with
    | some (k, e) =>
      if e.dstate = 3 ∧ e.lead = x then put fun u => (u.putEnt k e.pin line none).finish r.id st 0 0 []
      else ((s0.cohStale r.pkt line).uncharge r).endForwarded r.id
    | none => ((s0.cohStale r.pkt line).uncharge r).endForwarded r.id

/-- EVICT_CLEAN of agent x (R217): waits for a pinned line unless it crosses a snoop of that line, and for lower-numbered requests of the agent for
the line (R219). -/
def State.runEvictClean (s : State) (r : Req) (x : Nat) : State :=
  let line := bits r.pkt.opw 39 6 * 64
  let s0 := s.bump Reg.DIR_LOOKUP_CNT.OFF
  match s0.openSnoop line x with
  | some (t, _) => (s0.finish r.id stOK 0 0 []).crossed t x false
  | none => match s0.dirFind line with
    | some (k, e) =>
      if e.names x = false then ((s0.cohStale r.pkt line).uncharge r).endForwarded r.id
      else if e.pin || s0.cohBehind r line then s0.pendOn line (.req r.id) r.cxl.isNone false
      else (s0.putEnt k false line (s0.without e x false)).finish r.id stOK 0 0 []
    | none => ((s0.cohStale r.pkt line).uncharge r).endForwarded r.id

/-- A write-back of a line by an agent has come and is not written yet. A CXL write that has not translated may be one. -/
def State.wbComing (s : State) (line a : Nat) : Bool :=
  s.reqs.any fun q => s.agentOf q == some a && (match q.cxl with
    | some _ => (q.pkt.opcode == 0x44 || q.pkt.opcode == 3) && (q.ppa.isNone || q.ppa.any fun p => p / 64 * 64 == line)
    | none => q.pkt.opcode == 0x44 && q.cohLine == some line)

/-- Whether the home waits for a WB_DIRTY after a snoop that a fabric LEAD of an OWNED line answered I without data (R220). A snoop that asks for
the data is so answered only by a holder that has given the line up. SNP_INV is answered in the same way by an E holder that has not, and the answer
does not tell the two apart: a write-back that has come decides, else a free value (log entry 94). -/
def State.crossWait (s : State) (line a op : Nat) : Bool × State :=
  if op != 0x48 || s.wbComing line a then (true, s)
  else
    let f := s.fresh 2
    (f.1 == 1, f.2)

/-- Record a snoop's answer (R213, R220): dirty data is written; a holder of an OWNED line that returns nothing has a write-back
or an eviction under way, which a fabric home waits for. -/
def State.snoopTaken (s : State) (x : LateAns) : State :=
  match s.txnOf x.num with
  | none => s
  | some t =>
    let a := x.agent
    let s1 := match x.data with
      | some d => (s.queueAccess (requesterOf x.port x.cxl) t.line 64 t.cls true (rangePuts t.line 64)).writeLine t.line d
      | none => s
    let owned := match s1.dirFind t.line with
      | some (_, e) => e.dstate == 3 && e.lead == a
      | none => false
    let z := t.snoops.find? fun z => z.agent == a
    let c := if owned && x.final == 0 && !x.fwd && x.data.isNone && !x.cxl && z.any (fun z => !z.wb) then
      s1.crossWait t.line a ((z.map (·.op)).getD 0) else (false, s1)
    let s2 := c.2.modTxn x.num fun y => { y with
      snoops := mapIf (fun z => z.agent == a)
        (fun z => { z with done := !c.1, await := c.1, final := x.final, fwd := x.fwd, dirty := z.dirty || x.data.isSome }) y.snoops }
    -- a slot of BI_MAX may have come free (R234)
    (s2.dir.txns.foldl (fun acc y => acc.sendSnoops y.num) s2).txnStep x.num

/-- A snoop's answer must wait: its data's channel is quiesced or granule locked (R244, R277), or a host's write-back before it is not written. -/
def State.ansWaits (s : State) (x : LateAns) : Bool :=
  match s.txnOf x.num with
  | none => false
  | some t => (x.data.isSome && !s.mediaFail t.line && s.memHeld t.line 64) || (x.cxl && s.wbComing t.line x.agent)

/-- A snoop's answer arrives. -/
def State.snoopAnswered (s : State) (x : LateAns) : State :=
  if s.dir.late.any fun y => y.num == x.num && y.agent == x.agent then s
  else if s.ansWaits x then { s with dir := { s.dir with late := s.dir.late ++ [x] } }
  else s.snoopTaken x

/-- Snoop answers that no longer wait are taken, in order. -/
def State.lateGo (s : State) : State :=
  (s.dir.late.filter fun x => !s.ansWaits x).foldl (fun (u : State) x => u.snoopTaken x)
    { s with dir := { s.dir with late := s.dir.late.filter s.ansWaits } }

/-! ### Other requests at coherent lines (R227) -/

/-- A line at which a write, or a read, of other requests than the coherence opcodes waits for an open transaction. -/
def State.lineBusy (s : State) (w : Waiter) (write : Bool) (line : Nat) : Bool :=
  s.coherent line && match s.dirFind line with
    | none => false
    | some (_, e) => !(write == false && (e.dstate != 3 || s.dir.fresh.contains (w, line))) && e.pin

/-- An access is told RETRY: a fabric request that has to wait, and has taken no line from a cache yet, where the queue is full (R226). -/
def State.accessRetry (s : State) (w : Waiter) (write : Bool) (lines : List Nat) : Bool :=
  !s.pends w && !(s.dir.fresh.any fun f => f.1 == w)
    && (lines.filter (s.lineBusy w write)).any fun line => s.pendIsFull (s.dirSlice line)

/-- Whether an access may go on now at the lines it touches; where it may not, snoops are sent or it waits, and it is told. A write takes lines from
every cache but that of one agent, its own. -/
def State.cohAccess (s : State) (w : Waiter) (fabric write : Bool) (self : Option Nat) (lines : List Nat) : State × Bool :=
  if fabric && s.accessRetry w write lines then ((s.bump Reg.DIR_RETRY_CNT.OFF).wake w (.retry 0x05), false)
  else lines.foldl (fun acc line =>
    let u := acc.1
    if u.coherent line = false then acc
    else
      let v := u.bump Reg.DIR_LOOKUP_CNT.OFF
      match v.dirFind line with
      | none => (v, acc.2)
      | some (k, e) =>
        if write = false ∧ (e.dstate ≠ 3 ∨ v.dir.fresh.contains (w, line)) then (v, acc.2)
        else if e.pin then (v.pendOn line w false false, false)
        else
          let v1 := if write then { v with dir := { v.dir with fresh := v.dir.fresh ++ [(w, line)] } } else v
          let o := v1.openTxn k e (.access w write) (if write then 0x48 else 0x49) (v.waiterClass (some w)) none
            (if write then ((v.holders e).filter fun a => some a != self).map fun a => (a, 0x48, true)
             else if v.agentFenced e.lead then [] else [(e.lead, 0x49, true)])
          (o.1.txnStep o.2, false)) (s, true)

/-- An access waits on a snoop or on a pinned line. -/
def State.snoopWaits (s : State) (w : Waiter) : Bool :=
  s.pends w || s.dir.txns.any fun t => match t.who with
    | .access x _ => x == w && !t.granted
    | _ => false

/-- An access is over: its marks go. -/
def State.cohDone (s : State) (w : Waiter) : State :=
  { s with dir := { s.dir with fresh := s.dir.fresh.filter fun x => x.1 != w } }

/-- The lines of a range of bytes. -/
def linesOf (ppa len : Nat) : List Nat :=
  if len = 0 then [] else (upTo (ppa / 64) ((ppa + len - 1) / 64 + 1)).map (· * 64)

/-! ### Pending work that can go on -/

/-- Whether a pending request or flush line can go on. -/
def State.pendReady (s : State) (p : Pend) : Bool :=
  (match s.dirFind p.line with
   | some (_, e) => !e.pin
   | none => !p.way || (s.dirFree p.line).isSome
      || !(s.dir.txns.any fun t => t.who == .victim && s.dirBase t.line == s.dirBase p.line))
  && (match p.who with
      | some (.req id) => match s.req? id with
        | some r => !(decide (0x40 ≤ r.pkt.opcode) && decide (r.pkt.opcode ≤ 0x45) && s.cohBehind r p.line)
        | none => true
      | _ => true)

/-- Recall one line for a flush or a clean-up (R231, R236). -/
def State.recall (s : State) (line : Nat) (who : TxnFor) : State :=
  match s.dirFind line with
  | none => s
  | some (k, e) =>
    let o := s.openTxn k e who 0x48 (s.waiterClass none) none ((s.holders e).map fun a => (a, 0x48, true))
    o.1.txnStep o.2

/-- Take the first pending item that can go on, if any. -/
def State.pendNext (s : State) : Option State :=
  match s.dir.pend.find? s.pendReady with
  | none => none
  | some p =>
    let s1 := { s with dir := { s.dir with pend := s.dir.pend.erase p } }
    match p.who with
    | some w => some (s1.wake w .again)
    | none => some (s1.recall p.line .flush)

/-! ### Fences (R228, R230) -/

/-- Steps 1 and 2 of R228 for one entry. -/
def State.fenceEntry (s : State) (a : Nat) (k : Nat) (e : DirEnt) : State :=
  if e.names a = false then s
  else if e.dstate = 3 then
    let u := s.fencePoison a e.line
    u.putEnt k (e.pin || u.poisonWaits e.line) e.line none
  else s.putEnt k e.pin e.line (s.without e a true)

/-- Steps 3 and 4 for one open transaction: the walk waits for those it closes that have snoops to others open. -/
def State.fenceTxn (s : State) (a : Nat) (t : Txn) : State :=
  let hit := t.snoops.any fun x => x.agent == a && !x.done
  let mine := t.agent == some a
  let s1 := if hit then { s.modTxn t.num fun y => { y with
      snoops := mapIf (fun z => z.agent == a && !z.done) (fun z => { z with done := true, await := false, final := 0 }) y.snoops } with
      dir.late := s.dir.late.filter fun x => !(x.num == t.num && x.agent == a) }
    else s
  let s2 := if mine then
      (match t.who with
       | .req id => (s1.forget id).modTxn t.num fun y => { y with owes := false }
       | _ => s1)
    else s1
  let s3 := if hit || mine then { s2 with
    dir := { s2.dir with
      fences := mapIf (fun j => j.agent == a) (fun j => { j with txns := j.txns ++ [t.num] }) s2.dir.fences } } else s2
  s3.txnStep t.num

/-- Start the fence of an agent (R228): it shows FENCED, and the walk's steps 1 to 4 are taken. -/
def State.fenceAgent (s : State) (a : Nat) : State :=
  let s0 : State := s.setFlag (Reg.DIR_AGENT.FENCED a) true
  let s1 : State := { s0 with
    dir := { s0.dir with
      fences := (s.dir.fences.filter fun j => j.agent != a) ++ [DirFence.mk a 0 none [] false
        ((s.dir.fences.filter fun j => j.agent == a).flatMap (·.wait))]
      told := s.dir.told.filter (· != a)
      bare := a :: s.dir.bare.filter (· != a)
      linkFenced := s.dir.linkFenced.filter (· != a)
      hold := s.dir.hold.filter fun h => h.2 != a } }
  let s2 := s1.setF Reg.DIR_FENCE_STAT.BUSY 1
  let s3 := s2.dir.ents.foldl (fun acc e => acc.fenceEntry a e.1 e.2) s2
  let s4 := s3.dir.txns.foldl (fun acc t => acc.fenceTxn a t) s3
  -- step 4: the agent's pending requests
  let gone := (s4.dir.pend.filterMap fun p => match p.who with
    | some (.req id) => (s4.req? id).bind fun r => if decide (0x40 ≤ r.pkt.opcode) && decide (r.pkt.opcode ≤ 0x45)
        && s4.agentOf r == some a then some id else none
    | _ => none)
  gone.foldl (fun acc id => { acc.forget id with dir := { acc.dir with pend := acc.dir.pend.filter fun p => p.who != some (.req id) } }) s4

/-- Note that an agent is fenced because of the CXL link, unless it was fenced for another cause before (R230). -/
def State.linkFence (s : State) (a : Nat) (before : Bool) : State :=
  if before then s else { s with dir := { s.dir with linkFenced := a :: s.dir.linkFenced.filter (· != a) } }

/-- Lift a fence; one whose walk runs is lifted when the walk ends (R230). -/
def State.liftFence (s0 : State) (a : Nat) : State :=
  let s := { s0 with dir := { s0.dir with linkFenced := s0.dir.linkFenced.filter (· != a) } }
  if s.dir.fences.any fun j => j.agent == a then
    { s with dir := { s.dir with fences := mapIf (fun j => j.agent == a) (fun j => { j with lift := true }) s.dir.fences } }
  else s.setFlag (Reg.DIR_AGENT.FENCED a) false

/-- Poison a line that a fence walk had to leave because its channel was quiesced or its granule locked; its entry, or the transaction on it, goes
on. -/
def State.poisonLate (s : State) (a line : Nat) : State :=
  let s0 := { s with
    dir := { s.dir with fences := mapIf (fun j => j.agent == a) (fun j => { j with wait := j.wait.filter (· != line) }) s.dir.fences } }
  let s1 := s0.fencePoison a line
  match s1.dir.txns.find? fun t => t.line == line with
  | some t => s1.txnStep t.num
  | none => match s1.dirFind line with
    | some (k, e) => if e.dstate = 0 then s1.freeEnt k else s1
    | none => s1

/-- Lines that fence walks left are poisoned once they can be. -/
def State.poisonGo (s : State) : State :=
  (s.dir.fences.flatMap fun j => (j.wait.filter fun l => s.mediaFail l || !s.memHeld l 64).map fun l => (j.agent, l)).foldl
    (fun (u : State) x => u.poisonLate x.1 x.2) s

/-- End an agent's fence walk once the transactions it waits for are closed and its lines are poisoned (R228 step 5). -/
def State.fenceWalkEnd (s : State) (a : Nat) : State :=
  match s.dir.fences.find? fun j => j.agent == a with
  | none => s
  | some j =>
    if (j.txns.any fun n => (s.txnOf n).isSome) || !j.wait.isEmpty then s
    else
      let s1 := { s with dir := { s.dir with fences := s.dir.fences.filter fun x => x.agent != a } }
      let s2 := (if s1.dir.fences.isEmpty then s1.setF Reg.DIR_FENCE_STAT.BUSY 0 else s1).setF Reg.DIR_FENCE_STAT.DONE 1
      let s3 := s2.evt Pg.DIR 2
      let s4 := (if j.count = 0 then s3 else s3.evt Pg.DIR 4).fault
        { mkRec (match j.first with
            | some l => s3.dirSource l
            | none => 121) 1 0x0602 with addr := j.first.getD 0, addrPpa := true, count := j.count }
      if j.lift then s4.setFlag (Reg.DIR_AGENT.FENCED a) false else s4

/-! ### Flushes (R231) -/

/-- Start a flush of the range the registers hold. -/
def State.flushStart (s : State) : State :=
  let a := s.f Reg.DIR_FLUSH_START.PPA / 64 * 64
  let b := roundUp (a + s.f Reg.DIR_FLUSH_LEN.LEN) 64
  let lines := (s.dir.ents.filter fun e => decide (a ≤ e.2.line) && decide (e.2.line < b)).map fun e => e.2.line
  let s1 := (s.setF Reg.DIR_FLUSH_STAT.BUSY 1).setF Reg.DIR_FLUSH_STAT.DONE 0
  let s2 := { s1 with dir := { s1.dir with flush := lines } }
  lines.foldl (fun acc l => match acc.dirFind l with
    | some (_, e) => if e.pin then { acc with dir := { acc.dir with pend := acc.dir.pend ++ [Pend.mk l none false] } } else acc.recall l .flush
    | none => acc) s2

/-- Lines of a flush not yet freed: a line that has been recalled once counts as freed (R231). -/
def State.flushOpen (s : State) : Bool :=
  s.dir.flush.any fun l => s.dir.pend.any (fun p => p.line == l && p.who.isNone)
    || s.dir.txns.any (fun t => t.line == l && t.who == .flush)

/-- End a flush whose last line is freed. -/
def State.flushEnd (s : State) : State :=
  if s.flag Reg.DIR_FLUSH_STAT.BUSY && !s.flushOpen then
    (({ s with dir := { s.dir with flush := [] } }.setF Reg.DIR_FLUSH_STAT.BUSY 0).setF Reg.DIR_FLUSH_STAT.DONE 1).evt Pg.DIR 3
  else s

end Sys2Proof.Machine
end

