-- ==== Sys2Proof/Machine/Partition.lean ====
section
/-! DEFINITION. Partition entries (R20 to R25, R232), share grants (R31, R32), quiescing (R26, R27), PTN_INIT (R30). -/

namespace Sys2Proof.Machine

open Sys2Proof

/-! ### Quiesce -/

/-- The quiesce of a subscriber is complete (R26). -/
def State.quiesced (s : State) (b : Nat) : Bool := bit (s.f Reg.PTN_SUB_QSD.QSD) b

/-- A subscriber is being quiesced or is quiesced. -/
def State.quiescing (s : State) (b : Nat) : Bool := bit (s.f Reg.PTN_SUB_QSC.QSC) b

/-- An admitted request of a subscriber remains in the chip (R27). Requests of the MGT class are the manager's own and do not
count. -/
def State.subBusy (s : State) (b : Nat) : Bool :=
  s.reqs.any (fun r => r.pkt.sub == b && !(decide (0x60 ≤ r.pkt.opcode) && decide (r.pkt.opcode ≤ 0x67)))
  || s.parked.any (fun p => p.r.pkt.sub == b) || s.tsh.hold.any (fun h => h.2.1.ld == b)

/-- Show a quiesce complete once nothing remains. -/
def State.quiesceDone (s : State) (b : Nat) : State :=
  if s.quiescing b && !s.subBusy b then s.setF Reg.PTN_SUB_QSD.QSD (putBit (s.f Reg.PTN_SUB_QSD.QSD) b true) else s

/-- A write of PTN_SUB_QSC: newly set bits end the subscriber's parked waits, cleared bits end the quiesce. -/
def State.qscWrite (s : State) (v : Nat) : State :=
  let old := s.f Reg.PTN_SUB_QSC.QSC
  let s1 := (s.setF Reg.PTN_SUB_QSC.QSC v).setF Reg.PTN_SUB_QSD.QSD (s.f Reg.PTN_SUB_QSD.QSD &&& v)
  (List.range 64).foldl (fun acc b =>
    if bit v b && !bit old b then (acc.abortParks fun p => p.r.pkt.sub == b).quiesceDone b else acc) s1

/-! ### Entries -/

/-- The range [base, base + size) in GiB overlaps a valid entry other than n. -/
def State.ptnOverlaps (s : State) (n base size : Nat) : Bool :=
  (List.range 64).any fun m =>
    let sz := s.f (Reg.PTN_SIZE.SIZE_GIB m)
    let b := s.f (Reg.PTN_BASE.BASE_GIB m)
    m != n && sz != 0 && decide (base < b + sz) && decide (b < base + size)

/-- Bits of the flags register that a part lets be set (R4). -/
def Part.ptnFlags (p : Part) (v : Nat) : Nat :=
  bits v 0 0 + (if p.full then bits v 1 1 * 2 else 0) + (if p.hinge then bits v 2 2 * 4 else 0) + bits v 3 3 * 8

/-- A valid grant names a partition. -/
def State.granted (s : State) (n : Nat) : Bool :=
  (List.range 256).any fun k => s.flag (Reg.PTN_GNT.VALID k) && s.f (Reg.PTN_GNT.PARTITION k) == n

/-- R24 for a change of flags. -/
def State.flagsOk (s : State) (n old new : Nat) : Bool :=
  !(bit old 3 && !bit new 3 && s.granted n) && !(bit old 0 && bits old 2 1 != bits new 2 1)

/-- Stop a fill of an entry that is moved, resized or freed (R30). -/
def State.initStop (s : State) (n : Nat) : State :=
  match s.init with
  | some j => if j.entry = n then { s with init := some { j with stop := true } } else s
  | none => s

/-- Whether a write to register `reg` (0 BASE, 1 SIZE, 2 OWNER, 3 FLAGS) of an entry is accepted (R21, R22, R24, R232). -/
def State.ptnAccepts (s : State) (n reg v : Nat) : Bool :=
  let base := s.f (Reg.PTN_BASE.BASE_GIB n)
  let size := s.f (Reg.PTN_SIZE.SIZE_GIB n)
  let owner := s.f (Reg.PTN_OWNER.OWNER n)
  let flags := s.word (Reg.PTN_FLAGS.OFF n)
  let held := bit flags 1 && s.ptnHeld n != 0
  if size = 0 then
    if reg = 1 then
      let z := bits v 9 0
      z == 0 || (decide (base + z ≤ s.part.gib) && !s.ptnOverlaps n base z && s.quiesced owner
        && (bit flags 3 || !s.granted n))
    else true
  else if reg = 0 then
    let b := bits v 9 0
    b == base || (s.quiesced owner && decide (b + size ≤ s.part.gib) && !s.ptnOverlaps n b size && !held)
  else if reg = 1 then
    let z := bits v 9 0
    z == size || (s.quiesced owner && !held && (z == 0 || (decide (base + z ≤ s.part.gib) && !s.ptnOverlaps n base z)))
  else if reg = 2 then bits v 5 0 == owner || s.quiesced owner
  else
    let g := s.part.ptnFlags v
    (bits g 3 1 == bits flags 3 1 || s.quiesced owner) && s.flagsOk n flags g

/-- Apply an accepted write to an entry (R25, R30). -/
def State.ptnApply (s : State) (n reg v : Nat) : State :=
  let size := s.f (Reg.PTN_SIZE.SIZE_GIB n)
  if reg = 0 then
    let s1 := s.setF (Reg.PTN_BASE.BASE_GIB n) (bits v 9 0)
    if size ≠ 0 ∧ bits v 9 0 ≠ s.f (Reg.PTN_BASE.BASE_GIB n) then (s1.setFlag (Reg.PTN_FLAGS.INITIALISED n) false).initStop n else s1
  else if reg = 1 then
    let s1 := s.setF (Reg.PTN_SIZE.SIZE_GIB n) (bits v 9 0)
    if size ≠ 0 ∧ bits v 9 0 ≠ size then (s1.setFlag (Reg.PTN_FLAGS.INITIALISED n) false).initStop n else s1
  else if reg = 2 then s.setF (Reg.PTN_OWNER.OWNER n) (bits v 5 0)
  else s.setWord (Reg.PTN_FLAGS.OFF n) (s.part.ptnFlags v)

/-- A write to a partition entry register. -/
def State.ptnWrite (s : State) (a : Path) (n reg v : Nat) : State :=
  if s.ptnAccepts n reg v then s.ptnApply n reg v
  else s.cfgReject a Pg.PTN 1 0x0201 (Reg.PTN_BASE.OFF n + 4 * reg) none

/-! ### Grants -/

/-- The bits of a grant that R31 defines. -/
def gntMask (v : Nat) : Nat := bits v 5 0 + bits v 13 8 * 2 ^ 8 + bits v 18 16 * 2 ^ 16 + bits v 31 31 * 2 ^ 31

/-- The conditions for a grant to be valid (R32). -/
def State.gntOk (s : State) (v : Nat) : Bool :=
  let n := bits v 5 0
  s.f (Reg.PTN_SIZE.SIZE_GIB n) != 0 && s.flag (Reg.PTN_FLAGS.SHAREABLE n) && s.f (Reg.PTN_OWNER.OWNER n) != bits v 13 8

/-- A write to a share grant (R32). -/
def State.gntWrite (s : State) (a : Path) (k v : Nat) : State :=
  let old := s.word (Reg.PTN_GNT.OFF k)
  let new := gntMask v
  let was := bit old 31
  let now := bit new 31
  let ok := if was then
      (old == new || (s.quiesced (bits old 13 8) && (!now || s.gntOk new)))
    else !now || s.gntOk new
  if ok then s.setWord (Reg.PTN_GNT.OFF k) new else s.cfgReject a Pg.PTN 1 0x0201 (Reg.PTN_GNT.OFF k) none

/-! ### PTN_INIT (R30) -/

/-- A write of PTN_INIT. -/
def State.initWrite (s : State) (a : Path) (v : Nat) : State :=
  let n := bits v 5 0
  if s.init.isSome || s.f (Reg.PTN_SIZE.SIZE_GIB n) == 0 || !s.quiesced (s.f (Reg.PTN_OWNER.OWNER n)) then
    s.cfgReject a Pg.PTN 1 0x0201 Reg.PTN_INIT.OFF none
  else
    { s with init := some ⟨n, bits v 31 8, s.f (Reg.PTN_BASE.BASE_GIB n), s.f (Reg.PTN_SIZE.SIZE_GIB n), false⟩ }.setWord
      Reg.PTN_INIT_STAT.OFF 1

/-- The 64 bytes of a sector filled with an 8-byte pattern (R107). -/
def patternSector (pattern : Nat) : List Byte := (List.range 64).map fun i => byteAt (leBytes 8 pattern) (i % 8)

/-- Fill whole sectors from a sector-aligned PPA, granules of failed stacks left out (R282); on a MIRRORED partition a FILL record
is journalled (R406). -/
def State.fillSectors (s : State) (ppa count pattern : Nat) : State :=
  let s1 := (List.range count).foldl (fun acc i =>
    let a := ppa + 64 * i
    if acc.mediaFail a then acc else (acc.storeSector a (patternSector pattern)).unpoisonList a) s
  if s1.mirrored ppa then s1.journal (.fill ppa (64 * count) pattern) else s1

/-- A channel of a working stack is quiesced: a fill, which writes every channel of every stack, waits for it (R244). -/
def State.fillWaits (s : State) : Bool :=
  (List.range s.part.stacks).any fun n => !s.stackFailed n && s.f (Reg.SC_CH_QSC.QSC n) != 0

/-- The fill completes: INITIALISED and DONE (R30). The planner holds it while the maintenance allowance is spent (R387). -/
def State.initDone (s : State) : State :=
  match s.init with
  | none => s
  | some j =>
    if j.stop || s.fillWaits then s
    else if s.maintAllowed = false then s.noteMaintHeld
    else
      let n := j.size * 16777216
      let s1 := ((s.fillSectors (j.base * 2 ^ 30) n j.pattern).memBytes none 11 (64 * n)).takeMaint (64 * n)
      ({ s1 with init := none }.setFlag (Reg.PTN_FLAGS.INITIALISED j.entry) true |>.setWord Reg.PTN_INIT_STAT.OFF (2 + j.entry * 256)).evt Pg.PTN 1

/-- A fill ends before it is through: how far it came is not stated, so it is a free value (log entry 13). -/
def State.initCut (s : State) (j : InitJob) : State :=
  let w := s.fresh (j.size * 16777216)
  let s1 := (w.2.fillSectors (j.base * 2 ^ 30) w.1 j.pattern).memBytes none 11 (64 * w.1)
  { s1 with init := none }

/-- The fill stops at its next chunk: DONE and STOPPED show (R30). -/
def State.initStopped (s : State) : State :=
  match s.init with
  | none => s
  | some j => if j.stop then ((s.initCut j).setWord Reg.PTN_INIT_STAT.OFF (6 + j.entry * 256)).evt Pg.PTN 1 else s

end Sys2Proof.Machine
end

