-- ==== Sys2Proof/Machine/Plain.lean ====
section
/-! DEFINITION. READ, WRITE and WRITE_MASKED (R18, R19), and the way every request with one range reaches the pool: binding
(R35), translation (R67, R68), violations (R53 to R55), failed stacks (R282), basic service (R441), coherent lines (R227), held
memory (R244, R277), journal back-pressure (R410). -/

namespace Sys2Proof.Machine

open Sys2Proof

/-- Who a request's violation is charged to (R55, R83). -/
def whoOf (r : Req) (addr : Nat) : Who :=
  { sub := r.pkt.sub, ctx := if r.pkt.opcode = 0x18 then some r.pkt.ctx else none, node := if r.cxl.isSome then 0xFFF else r.pkt.src
    kw := some (r.pkt.keyway), addr := addr, ppa := false }

/-- A violation of a request with one range: recorded once, then answered as R54 says. -/
def State.violate (s : State) (r : Req) (c : Cause) (refuse : State → State) : State :=
  refuse (s.violation c (whoOf r (r.pkt.offset)))

/-- Journal back-pressure stops a request that writes a MIRRORED partition (R410). -/
def State.bpHolds (s : State) (ppa : Nat) (write : Bool) : Bool := write && s.flag Reg.HPS_STAT.BP && s.mirrored ppa

/-- Offer a request's access to its stack's arbiter, once (R253, R254); false where its port's pending queue is full, and the port holds the
request (R258). An ATOMIC's access comes from the engine that owns its sector. -/
def State.offer (s : State) (r : Req) (ppa len : Nat) (write : Bool) (puts : List (Nat × Bool)) : State × Bool :=
  let i := if r.pkt.opcode = 0x18 then s.wardRequester ppa else requesterOf r.port r.cxl.isSome
  let n := s.stackAt ppa
  if r.queued then (s, true)
  else if r.pkt.opcode ≠ 0x18 && s.pendFull n i then
    ({ s with sc := { s.sc with held := s.sc.held ++ [⟨r.id, n, i, r.port, r.pkt.vc, 0⟩] } }, false)
  else ((s.queueAccess i ppa len r.pkt.cls write puts).modReq r.id fun q => { q with queued := true }, true)

/-- The sectors a write of enabled bytes writes, and whether it writes each of them whole (R249). -/
def storePuts (off len : Nat) (en : Nat → Bool) : List (Nat × Bool) :=
  if len = 0 then []
  else (upTo (off / 64) ((off + len - 1) / 64 + 1)).filterMap fun k =>
    let on := (List.range 64).filter fun i => decide (off ≤ k * 64 + i) && decide (k * 64 + i < off + len) && en (k * 64 + i - off)
    if on.isEmpty then none else some (k, on.length == 64)

/-- Memory bytes of a write (R363): 64 per sector, and 64 more for the merge read of each partial one. -/
def writeCharge (off len : Nat) (en : Nat → Bool) : Nat := ((storePuts off len en).map fun e => if e.2 then 64 else 128).sum

/-- Byte i of a WRITE_MASKED where its enable bit is set (R19). -/
def maskedByte (p : Packet) (i : Nat) : Option Byte :=
  if bit (byteAt p.payload (i / 8)).toNat (i % 8) then p.payload[32 + i]? else none

/-- Memory bytes of an admitted request at its PPA (R363): 64 for each sector it reads or writes, merge reads included. -/
def Req.memCost (r : Req) (ppa : Nat) : Nat :=
  let o := r.pkt.opcode
  if o = 1 then 64 * (linesOf ppa (bits r.pkt.opw 12 0)).length
  else if o = 2 then writeCharge ppa r.pkt.length fun i => (r.pkt.payload[i]?).isSome
  else if o = 3 then writeCharge ppa (r.pkt.length - 32) fun i => (maskedByte r.pkt i).isSome
  else if o = 0x18 then 128
  else 0

/-- Keep what the translation of an admitted request gave, and charge its memory bytes (R68, R363). -/
def State.reached (s : State) (r : Req) (ppa v l : Nat) : State :=
  (s.modReq r.id fun q => { q with ppa := some ppa, xl := q.xl ++ [(r.pkt.keyway, v, l)] }).chargeReq r (r.memCost ppa)

/-- Take a request with one range to its PPA. `puts` are the sectors it writes, `refuse` answers a violation, `poison` a request basic
service refuses, `go` runs it at its PPA. -/
def State.reach (s : State) (r : Req) (n : Need) (len : Nat) (puts : Nat → List (Nat × Bool)) (refuse poison : State → State)
    (go : State → Nat → State) : State :=
  let k (s1 : State) (ppa : Nat) : State :=
    let p := s1.coherent ppa
    if s1.lostTo r.pkt ppa then s1.finish r.id stMEDIA_FAIL 0 0 []
    else if s1.cohShut && p then poison s1
    else if s1.bpHolds ppa n.w then { s1 with hps := { s1.hps with bpWait := s1.hps.bpWait ++ [.req r.id] } }
    else
      let o := s1.offer r ppa len n.w (if n.w then puts ppa else [])
      if o.2 = false then o.1
      else if o.1.memHeld ppa len then o.1.park r.id
      else if p then
        let c := o.1.cohAccess (.req r.id) r.cxl.isNone n.w none (linesOf ppa len)
        if c.2 then go (c.1.cohDone (.req r.id)) ppa else c.1
      else go o.1 ppa
  match r.bad, r.ppa with
  | some c, _ => s.violate r c refuse
  | none, some ppa => k s ppa
  | none, none =>
    if r.bnd = false then s.violate r .subscriber refuse
    else match s.xlate r.pkt.sub r.pkt.keyway r.pkt.offset n with
      | (s1, .viol c _ _) => s1.violate r c refuse
      | (s1, .miss loc) => s1.miss r.pkt.keyway loc (.req r.id)
      | (s1, .ok ppa v l _) => k (s1.reached r ppa v l) ppa

/-- Mask bits of the sectors a payload touches in its 4 KiB window (R18). -/
def sectorMask (off len : Nat) : Nat :=
  if len = 0 then 0 else (upTo (off / 64) ((off + len - 1) / 64 + 1)).foldl (fun m k => m ||| 2 ^ (k % 64)) 0

/-- READ (R19): the payload and the poison mask. -/
def State.runRead (s : State) (r : Req) : State :=
  let n := bits r.pkt.opw 12 0
  s.reach r ⟨true, false, false⟩ n (fun _ => [])
    (fun u => u.finish r.id stOK 0 0 (zeros n))
    (fun u => u.finish r.id stPOISON (sectorMask (r.pkt.offset) n) 0 (zeros n))
    fun u ppa =>
      let d := u.readRange ppa n r.pkt.sub (if r.cxl.isSome then 0xFFF else r.pkt.src)
      d.1.finish r.id (if d.2.2 = 0 then stOK else stPOISON) d.2.2 0 d.2.1

/-- A write of enabled bytes at the request's offset; a poisoned merge answers POISON (R249). -/
def State.runStore (s : State) (r : Req) (len : Nat) (v : Nat → Option Byte) : State :=
  s.reach r ⟨false, true, false⟩ len (fun ppa => storePuts ppa len fun i => (v i).isSome)
    (fun u => u.finish r.id stOK 0 0 [])
    (fun u => u.finish r.id stPOISON 0 0 [])
    fun u ppa =>
      let d := u.writeRange ppa len r.pkt.sub (if r.cxl.isSome then 0xFFF else r.pkt.src) v
      d.1.finish r.id (if d.2 then stPOISON else stOK) 0 0 []

/-- WRITE (R19). -/
def State.runWrite (s : State) (r : Req) : State := s.runStore r r.pkt.length fun i => r.pkt.payload[i]?

/-- WRITE_MASKED (R19). -/
def State.runWriteMasked (s : State) (r : Req) : State := s.runStore r (r.pkt.length - 32) (maskedByte r.pkt)

/-- Malformed READ, WRITE and WRITE_MASKED (R18, R19, R327, R330). -/
def plainMalformed (p : Packet) : Bool :=
  let n := (footprint p).2
  p.addrRsv != 0 || (if p.opcode = 1 then bits p.opw 63 13 != 0 else p.opw != 0)
  || (if p.opcode = 1 then n == 0 || decide (4096 < n) || p.length != 0
   else if p.opcode = 2 then p.length == 0
   else decide (p.length < 33) || decide (288 < p.length))
  || decide (4096 < p.offset % 4096 + n) || decide (2 ^ 44 < p.offset + n)

/-! ### Coherence requests (R209 to R221) -/

/-- RD_SHARED, RD_OWN, UPGRADE and RD_CUR: translated and checked (R215), served from memory outside COHERENT partitions (R216),
by the home inside them (R217). -/
def State.runCoh (s : State) (r : Req) : State :=
  let op := r.pkt.opcode
  let own := op == 0x41 || op == 0x42
  let go (u : State) (ppa0 : Nat) : State :=
    let line := ppa0 / 64 * 64
    if u.lostTo r.pkt line then u.finish r.id stMEDIA_FAIL 0 0 []
    else if u.memHeld line 64 then (u.lineAccess r line false).park r.id
    else if u.coherent line = false then
      (if op = 0x42 then u.finish r.id stOK 0 (grantWord 0 line 0) [] else u.plainLine r line)
    else if u.cohShut then u.finish r.id stPOISON 0 0 (zeros 64)
    else match u.agentOf r with
      | some x => if u.agentFenced x then u.finish r.id stPOISON 0 0 (zeros 64) else u.cohServe r x line
      | none => u.plainLine r line
  match r.ppa with
  | some ppa => go s ppa
  | none =>
    let refuse (u : State) : State := u.finish r.id stOK 0 0 (zeros 64)
    if r.bnd = false then s.violate r .subscriber refuse
    else match s.xlate r.pkt.sub r.pkt.keyway r.pkt.offset ⟨true, own, false⟩ with
      | (s1, .viol c _ _) => s1.violate r c refuse
      | (s1, .miss loc) => s1.miss r.pkt.keyway loc (.req r.id)
      | (s1, .ok ppa v l _) =>
        go ((s1.modReq r.id fun q => { q with ppa := some (ppa / 64 * 64), xl := q.xl ++ [(r.pkt.keyway, v, l)] }).chargeReq r
          (if op = 0x42 then 0 else 64)) ppa

/-- WB_DIRTY and EVICT_CLEAN (R35, R215, R217): in basic service, and before COH_RESUME, the data is discarded and the
answer is POISON (R441, R448). A violation names the line by its PPA. -/
def State.runReturn (s : State) (r : Req) : State :=
  if r.bnd = false then
    (s.violation .subscriber { whoOf r (bits r.pkt.opw 39 6 * 64) with kw := none, ppa := true }).finish r.id stOK 0 0 []
  else if s.cohShut then s.finish r.id stPOISON 0 0 []
  else match s.agentOf r with
    | none => s.finish r.id stOK 0 0 []
    | some x => if r.pkt.opcode = 0x44 then s.runWbDirty r x else s.runEvictClean r x

end Sys2Proof.Machine
end

