-- ==== Sys2Proof/Machine/Ward.lean ====
section
/-! DEFINITION. Chunks of ward and attention operations: translation segment by segment (R68, R98), boundaries between allowed and
forbidden bytes (R80, R81), issue on an engine (R89 to R91, R128 to R130, R367), the bytes a chunk reads and writes, with poison
and failed stacks (R132, R133), and undefined destinations (R99, R132). -/

namespace Sys2Proof.Machine

open Sys2Proof

/-! ### Operations and engines -/

/-- An admitted operation by identity, and the request it came in. -/
def State.wop (s : State) (id : Nat) : Option Wop := s.wrd.ops.find? fun o => o.id == id

/-- The packet of an operation. -/
def State.wopPkt (s : State) (id : Nat) : Option Req := s.req? id

def noEngine : Engine := ⟨0, none, 0, false, false, false, 0⟩

/-- A ward engine. -/
def State.engine (s : State) (n : Nat) : Engine := SMap.get (fun _ => noEngine) s.wrd.engines n

def State.setEngine (s : State) (n : Nat) (e : Engine) : State :=
  { s with wrd := { s.wrd with engines := SMap.set (fun _ => noEngine) s.wrd.engines n e } }

/-- An engine is in service (R136, R546). -/
def State.engineOn (s : State) (n : Nat) : Bool :=
  decide (n < s.part.engines) && s.flag (Hdr.ENABLE (Pg.WE n)) && !(s.engine n).out

/-- A chunk of an operation that has left the dispatcher. -/
def Wop.chunk (o : Wop) (k : Nat) : Option Chunk := o.live.find? fun c => c.idx == k

/-- Change a chunk in place. -/
def State.modChunk (s : State) (id k : Nat) (g : Chunk → Chunk) : State :=
  s.modWop id fun o => { o with live := mapIf (fun c => c.idx == k) g o.live }

/-- A chunk runs on its engine: it has issued, and has not given the engine up (R227). -/
def Chunk.onEngine (c : Chunk) : Bool := c.run && c.away.isNone

/-- A chunk runs on an engine. -/
def State.engineBusy (s : State) (n : Nat) : Bool := s.wrd.ops.any fun o => o.live.any fun c => c.onEngine && c.engine == n

/-! ### Translation (R68) -/

/-- Permissions a piece needs (R34). -/
def Piece.need (x : Piece) : Need := if x.write then ⟨false, true, true⟩ else ⟨true, false, true⟩

/-- The translated stretch at the head of a piece. -/
def Piece.seg (x : Piece) (n : Nat) (ppa : Option Nat) (c : Option Cause) : Seg := ⟨x.rng, x.pos, x.off, n, x.write, ppa, c⟩

/-- What is left of a piece after n bytes. -/
def Piece.rest (x : Piece) (n : Nat) : List Piece :=
  if x.len ≤ n then [] else [{ x with pos := x.pos + n, off := x.off + n, len := x.len - n }]

/-- Note a translated stretch of a chunk; a translation that succeeds ends a run of failures (R68). -/
def chunkTook (t : Seg) (todo : List Piece) (r : Option (Nat × Nat × Nat)) (c : Chunk) : Chunk :=
  { c with segs := c.segs ++ [t], todo := todo, failing := none, xl := c.xl ++ r.toList }

/-- Translate what is left of a chunk until it is through or meets a miss. In a COL_REDUCE (col), which is span-aware, another member's
stripes are no violation: the stretch has neither a PPA nor a cause (R40). A table row that an index of a GATHER_REDUCE places past keyway
offset 2^44 - 1 is a stretch without a mapping, not malformed (DESIGN CHOICE, log entry 87). A stretch that a cached entry refused counts as
translated through that entry (R75). -/
def State.chunkXlate (col : Bool) (sub id k : Nat) : Nat → List Piece → State → State
  | 0, _, s => s
  | _, [], s => s
  | n + 1, x :: r, s =>
    if 2 ^ 44 ≤ x.off then
      State.chunkXlate col sub id k n r (s.modChunk id k (chunkTook (x.seg x.len none (some .noMapping)) r none))
    else match s.xlate sub x.kw x.off x.need with
      | (s1, .miss loc) => s1.miss x.kw loc (.chunk id k)
      | (s1, .viol c room via) =>
        let m := min x.len room
        let todo := x.rest m ++ r
        let t := x.seg m none (if col && c == .foreignStripe then none else some c)
        State.chunkXlate col sub id k n todo (s1.modChunk id k (chunkTook t todo (via.map fun v => (x.kw, v))))
      | (s1, .ok ppa v l room) =>
        let m := min x.len room
        let todo := x.rest m ++ r
        State.chunkXlate col sub id k n todo (s1.modChunk id k (chunkTook (x.seg m (some ppa) none) todo (some (x.kw, v, l))))

/-- Bound on the stretches of a list of pieces: a stretch ends at a piece's end or at a 4 KiB border. -/
def pieceFuel (l : List Piece) : Nat := (l.map fun x => x.len / 4096 + 2).sum

/-- Go on with a chunk's translation. -/
def State.chunkGo (s : State) (id k : Nat) : State :=
  match s.wop id, s.wopPkt id with
  | some o, some r => match o.chunk k with
    | some c => State.chunkXlate (r.pkt.opcode == 0x23) r.pkt.sub id k (pieceFuel c.todo) c.todo s
    | none => s
  | _, _ => s

/-- A waiter of the walker or the directory is a chunk: what it is told (R66, R68). At a malformed entry the rest of that range's part
of the chunk is a violation. A running chunk has nothing to translate; one that gave its engine up
may have one again. -/
def State.chunkTold (s : State) (id k : Nat) (w : Wake) : State :=
  match (s.wop id).bind fun o => o.chunk k with
  | none => s
  | some c =>
    if c.run then (if c.away = some false then s.modChunk id k fun y => { y with away := some true } else s)
    else match w with
      | .again => s.chunkGo id k
      | .retry h => s.modChunk id k fun y => { y with
          stopped := some h
          failing := if h = 0xFF then some (y.failing.getD s.time) else y.failing }
      | .malformed => match c.todo with
        | [] => s
        | x :: r =>
          let rest := r.filter fun y => y.rng != x.rng
          (((x :: r).filter fun y => y.rng == x.rng).foldl (fun (u : State) y =>
            u.modChunk id k (chunkTook (y.seg y.len none (some .malformedTable)) rest none)) s).chunkGo id k

/-! ### Boundaries (R80, R81) -/

/-- The cause of the byte before a position, where it is known: the state is allowed at the start of each range. -/
def Wop.leftOf (o : Wop) (j pos : Nat) : Option (Option Cause) :=
  if pos = 0 then some none
  else (o.known.find? fun e => e.1 == j && e.2.1 + e.2.2.1 == pos).map (·.2.2.2)

/-- The cause of the byte at a position that starts a known stretch. -/
def Wop.rightOf (o : Wop) (j pos : Nat) : Option (Option Cause) :=
  (o.known.find? fun e => e.1 == j && e.2.1 == pos).map (·.2.2.2)

/-- One boundary record: the cause after it, or, where the bytes after it are allowed, the cause left with LEAVING. DESIGN CHOICE: bytes
refused for a malformed table and bytes without a mapping differ in their cause here, so a boundary between them is recorded (log entry 87). -/
def State.boundary (s : State) (w : Who) (before after : Option Cause) : State :=
  match before, after with
  | _, some c => if before = some c then s else (s.fault (violRec c w false)).bump (Reg.PTN_VIOL_CNT.OFF w.sub)
  | some c, none => s.fault (violRec c w true)
  | none, none => s

/-- Take a translated stretch into what is known of its range; boundaries at its ends with known bytes are recorded. -/
def State.knowSeg (s : State) (id kw : Nat) (r : Req) (at' : Nat → Nat) (t : Seg) : State :=
  match s.wop id with
  | none => s
  | some o =>
    let w (off : Nat) : Who := ⟨r.pkt.sub, some r.pkt.ctx, r.pkt.src, some kw, off, false⟩
    let s1 := match o.leftOf t.rng t.pos with
      | some c => s.boundary (w t.off) c t.cause
      | none => s
    let s2 := match o.rightOf t.rng (t.pos + t.len) with
      | some c => s1.boundary (w (at' (t.pos + t.len))) t.cause c
      | none => s1
    s2.modWop id fun y => { y with known := y.known ++ [(t.rng, t.pos, t.len, t.cause)] }

/-! ### Sectors and charges -/

/-- Sectors of a translated stretch. -/
def Seg.sectors (t : Seg) : List Nat :=
  match t.ppa with
  | some p => if t.len = 0 then [] else upTo (p / 64) ((p + t.len - 1) / 64 + 1)
  | none => []

/-- Bytes a chunk is charged: 64 for each sector it reads and for each it writes (R363). -/
def chunkBytes (l : List Seg) : Nat :=
  let n (w : Bool) : Nat := ((l.filter fun t => t.write == w).flatMap (·.sectors)).dedup.length
  64 * (n false + n true)

/-- Lines that a translated stretch touches. -/
def Seg.lines (t : Seg) : List Nat := t.sectors.map (· * 64)

/-! ### Engines take contexts (R128, R129) -/

/-- An engine takes a chunk of a context: a switch clears its scratch; the same context starts a new round only after its quanta were
used. -/
def State.engineTake (s : State) (n c : Nat) : State :=
  let e := s.engine n
  if e.scratch = some c then
    s.setEngine n { e with held := false, expired := false, quanta := if e.expired then 0 else e.quanta, last := c }
  else
    let s1 := s.setEngine n { e with ctx := c, scratch := some c, quanta := 0, expired := false, held := false, last := c }
    if e.scratch.isSome then s1.bump Reg.WRD_SWITCH_CNT.OFF else s1

/-- The accesses of a chunk: the engines that own its bytes read and write them (R91, R253). -/
def State.chunkAccess (s : State) (cls : Nat) (l : List Seg) : State :=
  l.foldl (fun (u : State) t => match t.ppa with
    | some p => u.wardAccess p t.len cls t.write
    | none => u) s

/-- Run a chunk whose translation is complete: boundaries recorded, bytes charged, accesses offered, counted. -/
def State.chunkRun (s : State) (id k n : Nat) (r : Req) (c : Chunk) (at' : Nat → Nat → Nat) (kwOf : Nat → Nat) : State :=
  let bytes := chunkBytes c.segs
  let s1 := c.segs.foldl (fun acc t => acc.knowSeg id (kwOf t.rng) r (at' t.rng) t) s
  let s2 := (s1.engineTake n r.pkt.ctx).modChunk id k fun y => { y with run := true, engine := n, since := s.time }
  let s3 := ((s2.memBytes (some r.pkt.sub) (energyClass r.pkt.opcode) bytes).takeWard bytes).bump Reg.WRD_CHUNK_CNT.OFF
  (s3.chunkAccess r.pkt.cls c.segs).bump (Reg.WE_CHUNK_CNT.OFF + 0x1000 * n)

/-! ### Bytes of a chunk -/

/-- A byte with its condition: 0 as stored, 1 from a poisoned sector, 2 on a failed stack, 3 left open, 4 in another member's stripe of a
COL_REDUCE (R40). -/
structure SB where
  v : Byte
  bad : Nat
  deriving DecidableEq, Repr

/-- A run of bytes of a range from a position. -/
structure Run where
  rng : Nat
  pos : Nat
  data : Array SB

/-- The byte of range j at a position; zero where no run holds it. -/
def fetchSB (l : List Run) (j pos : Nat) : SB :=
  match l.find? fun r => r.rng == j && decide (r.pos ≤ pos) && decide (pos < r.pos + r.data.size) with
  | some r => r.data.getD (pos - r.pos) ⟨0, 0⟩
  | none => ⟨0, 0⟩

/-- n bytes of range j from a position. -/
def fetchN (l : List Run) (j pos n : Nat) : List SB := (List.range n).map fun i => fetchSB l j (pos + i)

/-- The worst condition of some bytes. -/
def worst (l : List SB) : Nat := l.foldl (fun a b => max a b.bad) 0

/-- Keep the earlier of two places in the traversal. -/
def earlier (a : Option (Nat × Nat × Nat)) (b : Nat × Nat × Nat) : Option (Nat × Nat × Nat) :=
  match a with
  | none => some b
  | some x => if b.1 < x.1 ∨ (b.1 = x.1 ∧ b.2.1 < x.2.1) then some b else some x

/-- A poisoned source sector is consumed: counted and recorded once per operation (R133) with its keyway offset; in an attention
read it is recorded as KV_EXCLUDED with its PPA (R162, R521). -/
def State.eatPoison (s : State) (id : Nat) (r : Req) (sector kw off : Nat) : State :=
  match s.wop id with
  | none => s
  | some o =>
    if o.eaten.contains sector then s
    else
      let s1 := s.modWop id fun y => { y with eaten := y.eaten ++ [sector], poison := true }
      let z : Rec := { mkRec 3 1 0x0306 with sub := r.pkt.sub, ctx := r.pkt.ctx, ctxValid := true, node := r.pkt.src }
      if r.pkt.opcode = 0x21 ∨ r.pkt.opcode = 0x22 then s1.fault { z with code := 0x0401, addr := sector, addrPpa := true }
      else (s1.fault { z with addr := off, kw := kw, kwValid := true }).bump Reg.WRD_POISON_CNT.OFF

/-- An attention read: what poison and failed stacks exclude is decided token by token (R162, R163). -/
def attnRead (p : Packet) : Bool := p.opcode == 0x21 || p.opcode == 0x22

/-- Read one translated stretch; a COHERENT partition that is shut reads as poison (R448). -/
def State.readSeg (s : State) (id : Nat) (r : Req) (t : Seg) : State × Run :=
  match t.ppa with
  | none => (s, ⟨t.rng, t.pos, Array.replicate t.len ⟨0, if t.cause.isNone then 4 else 0⟩⟩)
  | some ppa =>
    let z := t.sectors.foldl (fun (acc : State × List SB) k =>
      let lo := max ppa (k * 64)
      let hi := min (ppa + t.len) (k * 64 + 64)
      let fill (b : Nat) : List SB := List.replicate (hi - lo) ⟨0, b⟩
      if acc.1.lostTo r.pkt (k * 64) then
        (acc.1.modWop id fun y => { y with media := y.media || !attnRead r.pkt }, acc.2 ++ fill 2)
      else
        let d := if acc.1.cohShut && acc.1.coherent (k * 64) then (acc.1, zeros 64, true)
          else acc.1.demandSector (k * 64) r.pkt.sub r.pkt.src []
        if d.2.2 && attnRead r.pkt then (d.1, acc.2 ++ fill 1)
        else if d.2.2 then
          let off := (t.off + (lo - ppa)) / 64 * 64
          let u := d.1.eatPoison id r (k * 64) (rng r.pkt t.rng).kw off
          let p := t.pos + (lo - ppa)
          (u.modWop id (fun y => if r.pkt.opcode = 0x12 then y
              else { y with first := earlier y.first (t.rng, p, off) }), acc.2 ++ fill 1)
        else (d.1, acc.2 ++ (slice d.2.1 (lo - k * 64) (hi - lo)).map fun b => ⟨b, 0⟩)) (s, [])
    (z.1, ⟨t.rng, t.pos, z.2.toArray⟩)

/-- Read every source stretch of a chunk. -/
def State.readSegs (s : State) (id : Nat) (r : Req) (l : List Seg) : State × List Run :=
  l.foldl (fun acc t =>
    if t.write then acc
    else
      let z := acc.1.readSeg id r t
      (z.1, acc.2 ++ [z.2])) (s, [])

/-- A byte to store: one left open takes a free value. -/
def State.openByte (s : State) (b : SB) : State × Byte :=
  if b.bad = 3 then
    let w := s.fresh 256
    (w.2, BitVec.ofNat 8 w.1)
  else (s, b.v)

/-- What the bytes of a sector become: none where the chunk writes nothing. -/
def sectorPut (segs : List Seg) (val : Nat → Nat → SB) (k i : Nat) : Option SB :=
  segs.findSome? fun t => match t.ppa with
    | some p => if p ≤ k * 64 + i ∧ k * 64 + i < p + t.len then some (val t.rng (t.pos + (k * 64 + i - p))) else none
    | none => none

/-- A sector the chunk leaves poisoned because its merge met poison (R249): the operation's status is POISON; KV_APPEND names the
lowest such sector (R145). -/
def State.mergePoisoned (s : State) (id : Nat) (r : Req) (off : Nat) : State :=
  s.modWop id fun y => { y with
    poison := true
    first := if r.pkt.opcode = 0x20 then earlier y.first (0, off / 64 * 64, off / 64 * 64) else y.first }

/-- Write one sector of a chunk's destination (R132, R249, R441). `whole` stores a sector of which every byte is written. -/
def State.putOne (s : State) (id : Nat) (r : Req) (segs : List Seg) (val : Nat → Nat → SB)
    (whole : State → Nat → List Byte → State) (k : Nat) : State :=
  let put := (List.range 64).map (sectorPut segs val k)
  if s.lostTo r.pkt (k * 64) then s.modWop id fun y => { y with media := true }
  else if s.cohShut && s.coherent (k * 64) then s.modWop id fun y => { y with poison := true }
  else if put.any fun b => match b with
      | some x => x.bad == 1 || x.bad == 2
      | none => false
  then s.poisonSector (k * 64)
  else
    let z := put.foldl (fun (acc : State × List (Option Byte)) b => match b with
      | some x => let o := acc.1.openByte x; (o.1, acc.2 ++ [some o.2])
      | none => (acc.1, acc.2 ++ [none])) (s, [])
    if z.2.all (·.isSome) then whole z.1 (k * 64) (z.2.map fun b => b.getD 0)
    else
      let m := z.1.mergeSector (k * 64) r.pkt.sub r.pkt.src fun i => (z.2.getD i none)
      if m.2 then
        let off := match segs.find? fun t => t.sectors.contains k with
          | some t => (t.off / 64 + (k - t.ppa.getD 0 / 64)) * 64
          | none => 0
        m.1.mergePoisoned id r off
      else m.1

/-- Write the destination stretches of a chunk, sector by sector, pieces of one sector together. -/
def State.putSegs (s : State) (id : Nat) (r : Req) (l : List Seg) (val : Nat → Nat → SB)
    (whole : State → Nat → List Byte → State) : State :=
  let segs := l.filter fun t => t.write && t.ppa.isSome
  let sectors := (segs.flatMap (·.sectors)).dedup
  let s1 := sectors.foldl (fun acc k => acc.putOne id r segs val whole k) s
  s1.modWop id fun y => { y with wrote := y.wrote ++ segs.map fun t => (t.ppa.getD 0, t.len) }

/-! ### Undefined destinations (R132) -/

/-- The extents of some pieces that the range cache translates now. -/
def State.extents (s : State) (sub : Nat) : Nat → List Piece → List (Nat × Nat)
  | 0, _ => []
  | _, [] => []
  | n + 1, x :: r => match s.peek sub x.kw x.off x.need with
    | .ok ppa _ _ room => (ppa, min x.len room) :: s.extents sub n (x.rest (min x.len room) ++ r)
    | .viol _ room _ => s.extents sub n (x.rest (min x.len room) ++ r)
    | .miss loc => s.extents sub n (x.rest (min x.len (toNext loc 4096)) ++ r)

/-- Leave bytes of one sector undefined: each takes a free value; on a failed stack nothing is written. -/
def State.scrambleSector (s : State) (b node lo hi : Nat) : State :=
  if s.mediaFail lo ∨ hi ≤ lo then s
  else
    let z := s.fresh (256 ^ (hi - lo))
    (z.2.writeRange lo (hi - lo) b node fun i => some (byteAt (leBytes (hi - lo) z.1) i)).1

/-- Leave extents undefined (R132). -/
def State.scramble (s : State) (b node : Nat) (l : List (Nat × Nat)) : State :=
  l.foldl (fun acc e =>
    (upTo (e.1 / 64) ((e.1 + e.2 + 63) / 64)).foldl (fun (u : State) k =>
      u.scrambleSector b node (max e.1 (k * 64)) (min (e.1 + e.2) (k * 64 + 64))) acc) s

end Sys2Proof.Machine
end

