-- ==== Sys2Proof/Machine/WardData.lean ====
section
/-! DEFINITION. What a chunk of each ward data operation does with its bytes: FILL, COPY, COMPARE, REDUCE (R107, R108, R113 to
R115), GATHER_REDUCE (R116 to R118), COPY_REMOTE and its remote WRITEs (R109 to R112). -/

namespace Sys2Proof.Machine

open Sys2Proof

/-! ### Overlap (R99) -/

/-- Source j of a REDUCE is its destination: same keyway, offset, format, and stride where strides are used (R575). -/
def sameAsDest (p : Packet) (j : Nat) : Bool :=
  p.opcode == 0x13 && wIn p == wOut p && (rng p j).kw == (rng p 0).kw && (rng p j).off == (rng p 0).off
    && (!wTile p || (rng p j).stride == (rng p 0).stride)

/-- A byte lies in a row of a table that indices name. -/
def rowCovers (g : Rng) (rows : List Nat) (x : Nat) : Bool :=
  rows.any fun i => decide (g.off + i * g.stride ≤ x) && decide (x < g.off + i * g.stride + g.b)

/-- A destination byte that a source range also holds; of the table of a GATHER_REDUCE, the rows read. -/
def overlapped (p : Packet) (rows : List Nat) (x : Nat) : Bool :=
  (upTo 1 (wNrange p)).any fun j =>
    !sameAsDest p j && (rng p j).kw == (rng p 0).kw
      && (if p.opcode = 0x14 ∧ j = 1 then rowCovers (rng p j) rows x else (rng p j).covers x)

/-- A destination value, left open where source and destination overlap. -/
def overVal (p : Packet) (rows : List Nat) (val : Nat → Nat → SB) (j pos : Nat) : SB :=
  let b := val j pos
  if b.bad = 0 ∧ overlapped p rows ((rng p 0).at pos) then ⟨0, 3⟩ else b

/-! ### Journal records of extents (R406) -/

/-- Two records of adjoining extents as one. -/
def joinRec (a b : JRec) : Option JRec :=
  match a, b with
  | .fill p l q, .fill p' l' q' => if p + l = p' ∧ q = q' then some (.fill p (l + l') q) else none
  | .copy p x l, .copy p' x' l' => if p + l = p' ∧ x + l = x' then some (.copy p x (l + l')) else none
  | _, _ => none

/-- Journal an extent, joined to the record before it where that one is still to be sent. -/
def State.journalJoin (s : State) (r : JRec) : State :=
  match s.hps.cur.getLast? with
  | none => s.journal r
  | some a => match joinRec a r with
    | none => s.journal r
    | some j =>
      let e := s.f Reg.HPS_EPOCH_NUM.EPOCH
      if s.journalling && (!s.journalSends || s.hps.unsent.getLast? == some (e, a)) then
        { s with hps := { s.hps with
            cur := s.hps.cur.dropLast ++ [j]
            unsent := if s.journalSends then s.hps.unsent.dropLast ++ [(e, j)] else s.hps.unsent
            touched := true } }
      else s.journal r

/-- Store a whole sector of a FILL: journalled as FILL. -/
def fillWhole (pattern : Nat) (s : State) (a : Nat) (d : List Byte) : State :=
  let s1 := (s.storeSector a d).unpoisonList a
  if s1.mirrored a then s1.journalJoin (.fill a 64 pattern) else s1

/-- The source PPA of a whole destination sector of a COPY, where both lie in one stretch each. -/
def copySource (p : Packet) (segs : List Seg) (a : Nat) : Option Nat :=
  (segs.find? fun t => t.write && match t.ppa with
    | some x => decide (x ≤ a) && decide (a + 64 ≤ x + t.len)
    | none => false).bind fun t =>
      let pos := t.pos + (a - t.ppa.getD 0)
      (segs.findSome? fun q =>
        if q.write = false ∧ q.pos ≤ pos ∧ pos + 64 ≤ q.pos + q.len ∧ ¬ overlapped p [] ((rng p 0).at pos) then
          q.ppa.map fun x => x + (pos - q.pos)
        else none).filter fun x => x % 64 == 0

/-- Store a whole sector of a COPY: journalled as COPY when its source is MIRRORED. -/
def copyWhole (p : Packet) (segs : List Seg) (s : State) (a : Nat) (d : List Byte) : State :=
  match copySource p segs a with
  | some x =>
    if s.mirrored x && s.mirrored a then ((s.storeSector a d).unpoisonList a).journalJoin (.copy a x 64) else s.writeSector a d
  | none => s.writeSector a d

/-! ### FILL, COPY, COMPARE -/

/-- The pattern's byte at a keyway offset (R107). -/
def patByte (p : Packet) (x : Nat) : Byte := byteAt (leBytes 8 (wPattern p)) (x % 8)

/-- A chunk of a FILL. -/
def State.effFill (s : State) (id : Nat) (r : Req) (c : Chunk) : State :=
  s.putSegs id r c.segs (fun j pos => ⟨patByte r.pkt ((rng r.pkt j).at pos), 0⟩) (fillWhole (wPattern r.pkt))

/-- A chunk of a COPY. -/
def State.effCopy (s : State) (id : Nat) (r : Req) (c : Chunk) : State :=
  let z := s.readSegs id r c.segs
  z.1.putSegs id r c.segs (overVal r.pkt [] fun _ pos => fetchSB z.2 1 pos) (copyWhole r.pkt c.segs)

/-- A chunk of a COMPARE (R113, R114): bytes on a failed stack are not compared. -/
def State.effCompare (s : State) (id : Nat) (r : Req) (c : Chunk) : State :=
  let p := r.pkt
  let z := s.readSegs id r c.segs
  let sp := byteSpan p c.idx
  (upTo sp.1 sp.2).foldl (fun acc pos =>
    let x := (rng p 0).at pos
    let a := fetchSB z.2 0 pos
    let b := if wUsePat p then SB.mk (patByte p x) 0 else fetchSB z.2 1 pos
    let w := max a.bad b.bad
    if w = 2 ∨ (w = 0 ∧ a.v = b.v) then acc
    else acc.modWop id fun y => { y with
      miss := y.miss || w == 0
      poison := y.poison || w == 1
      first := earlier y.first (0, pos, x) }) z.1

/-! ### Blocks -/

/-- Elements of block k of row r of range j as binary32, with the condition of each. -/
def readBlock (l : List Run) (p : Packet) (j r k : Nat) : List Nat × List Nat :=
  let f := rngFmt p j
  let e := wRowLen p
  let base := r * (rng p j).b
  let a := blockAt f e k
  let bytes := fetchN l j (base + a.1.1) (a.1.2 - a.1.1)
  let sc := a.2.map fun x => fetchSB l j (base + x)
  let vs := bytes.map (·.v)
  let w := fmtBits f
  let n := min 32 (e - 32 * k)
  let scale := match sc with
    | some b => b.v.toNat
    | none => 0
  let scBad := match sc with
    | some b => b.bad
    | none => 0
  ((List.range n).map fun i => elemF32 f (unpackElem f vs i) scale,
   (List.range n).map fun i => max scBad (worst ((upTo (i * w / 8) ((i * w + w - 1) / 8 + 1)).map fun q => bytes.getD q ⟨0, 0⟩)))

/-- Bytes of block k of row r of range 0 from binary32 results (R105, R106): runs of elements and of the scale byte. -/
def writeBlock (p : Packet) (r k : Nat) (vals bads : List Nat) : List Run :=
  let f := wOut p
  let base := r * (rng p 0).b
  let a := blockAt f (wRowLen p) k
  if fmtMx f then
    let m := mxBlock f (vals.map ofF32)
    let w := bads.foldl max 0
    [⟨0, base + a.1.1, ((packElems f m.1).map fun b => SB.mk b w).toArray⟩,
     ⟨0, base + a.2.getD 0, #[⟨BitVec.ofNat 8 m.2, w⟩]⟩]
  else
    let bytes := packElems f (vals.map (outElem f))
    let per := fmtBits f / 8
    [⟨0, base + a.1.1, (bytes.zipIdx.map fun b => SB.mk b.1 (bads.getD (b.2 / per) 0)).toArray⟩]

/-- Reduce columns: element i of every list of terms under FUNC. -/
def reduceCols (s : State) (func n : Nat) (cols : List (List Nat)) : State × List Nat :=
  (List.range n).foldl (fun acc i =>
    let z := reduceTerms acc.1 func (cols.map fun c => c.getD i 0)
    (z.1, acc.2 ++ [z.2])) (s, [])

/-- Worst condition of element i over lists of conditions. -/
def worstCols (n : Nat) (cols : List (List Nat)) : List Nat :=
  (List.range n).map fun i => cols.foldl (fun a c => max a (c.getD i 0)) 0

/-- A chunk of a REDUCE (R115). -/
def State.effReduce (s : State) (id : Nat) (r : Req) (c : Chunk) : State :=
  let p := r.pkt
  let z := s.readSegs id r c.segs
  let sp := blockSpan p c.idx
  let n := rowBlocks (wRowLen p)
  let out := (upTo sp.1 sp.2).foldl (fun (acc : State × List Run) b =>
    let srcs := (upTo 1 (wNrange p)).map fun j => readBlock z.2 p j (b / n) (b % n)
    let m := min 32 (wRowLen p - 32 * (b % n))
    let v := reduceCols acc.1 (wFunc p) m (srcs.map (·.1))
    (v.1, acc.2 ++ writeBlock p (b / n) (b % n) v.2 (worstCols m (srcs.map (·.2))))) (z.1, [])
  out.1.putSegs id r c.segs (overVal p [] fun j pos => fetchSB out.2 j pos) State.writeSector

/-! ### GATHER_REDUCE: results kept between chunks (R129) by key: 0 counts as used, 1 indices, 2 weights, 3 to 5 the conditions of
counts, indices and weights, 16 + i row i as binary32, 2^20 + i its conditions -/

/-- A kept result. -/
def Wop.kept (o : Wop) (k : Nat) : List Nat := ((o.acc.find? fun e => e.1 == k).map (·.2)).getD []

/-- Rows of the table that are used, chunks that read them, chunks that write bags. -/
def gatherUsed (o : Wop) : Nat := (o.kept 0).sum
def gatherT (o : Wop) (p : Packet) : Nat := (gatherUsed o + gatherRows p - 1) / gatherRows p
def gatherD (p : Packet) : Nat := if wToResp p then 0 else (wNbag p + gatherBags p - 1) / gatherBags p

/-- Pieces of chunk k of a GATHER_REDUCE: the operands first, then table rows, then bags. -/
def gatherPieces (o : Wop) (p : Packet) (k : Nat) : List Piece :=
  let t := gatherT o p
  if k = 0 then (upTo 2 (wNrange p)).flatMap fun j => (rng p j).pieces j false 0 (rng p j).b
  else if k ≤ t then
    let g := rng p 1
    (upTo (gatherRows p * (k - 1)) (min (gatherUsed o) (gatherRows p * k))).map fun i =>
      Piece.mk 1 (i * g.b) g.kw (g.off + (o.kept 1).getD i 0 * g.stride) g.b false
  else
    let g := rng p 0
    g.pieces 0 true (gatherBags p * (k - t - 1) * g.b) (min (wNbag p) (gatherBags p * (k - t)) * g.b)

/-- Little-endian numbers of w bytes in a run of bytes, with the condition of each. -/
def numbers (w : Nat) (l : List SB) : List (Nat × Nat) :=
  (List.range (l.length / w)).map fun i =>
    let x := (l.drop (i * w)).take w
    (leNat (x.map (·.v)), worst x)

/-- Result of bag b: binary32 elements and conditions (R118). -/
def gatherBag (s : State) (o : Wop) (p : Packet) (b : Nat) : State × List Nat × List Nat :=
  let counts := o.kept 0
  let start := (counts.take b).sum
  let e := wRowLen p
  let idx := upTo start (start + counts.getD b 0)
  let cbad := ((o.kept 3).take (b + 1)).foldl max 0
  if idx.isEmpty then (s, List.replicate e 0, List.replicate e cbad)
  else
    let rows := idx.map fun i =>
      let v := o.kept (16 + i)
      if wFunc p = 3 then v.map fun x => f32Mul x ((o.kept 2).getD i 0) else v
    let z := reduceCols s (if wFunc p = 3 then 0 else wFunc p) e rows
    let own := idx.foldl (fun a i => max a (max ((o.kept 4).getD i 0) ((o.kept 5).getD i 0))) cbad
    (z.1, z.2, (worstCols e (idx.map fun i => o.kept (2 ^ 20 + i))).map (max own))

/-- Output bytes of bags [b0, b1) as runs. -/
def gatherOut (s : State) (o : Wop) (p : Packet) (b0 b1 : Nat) : State × List Run :=
  (upTo b0 b1).foldl (fun acc b =>
    let z := gatherBag acc.1 o p b
    (z.1, acc.2 ++ (List.range (rowBlocks (wRowLen p))).flatMap fun k =>
      writeBlock p b k ((z.2.1.drop (32 * k)).take 32) ((z.2.2.drop (32 * k)).take 32))) (s, [])

/-- A chunk of a GATHER_REDUCE. -/
def State.effGather (s : State) (id : Nat) (r : Req) (o : Wop) (c : Chunk) : State :=
  let p := r.pkt
  let t := gatherT o p
  if c.idx = 0 then
    let z := s.readSegs id r c.segs
    let idx := numbers 4 (fetchN z.2 2 0 (4 * wNidx p))
    let cnt := numbers 2 (fetchN z.2 3 0 (2 * wNbag p))
    let wts := if wFunc p = 3 then numbers 4 (fetchN z.2 4 0 (4 * wNidx p)) else []
    let s1 := z.1.modWop id fun y => { y with
      clamp := bagClamped (cnt.map (·.1)) (wNidx p)
      acc := [(0, bagUse (cnt.map (·.1)) (wNidx p)), (1, idx.map (·.1)), (2, wts.map (·.1)), (3, cnt.map (·.2)),
        (4, idx.map (·.2)), (5, wts.map (·.2))] }
    if bagClamped (cnt.map (·.1)) (wNidx p) then
      s1.fault { mkRec 3 0 0x0307 with sub := p.sub, ctx := p.ctx, ctxValid := true, node := p.src }
    else s1
  else if c.idx ≤ t then
    let z := s.readSegs id r c.segs
    (upTo (gatherRows p * (c.idx - 1)) (min (gatherUsed o) (gatherRows p * c.idx))).foldl (fun acc i =>
      let blocks := (List.range (rowBlocks (wRowLen p))).map fun k => readBlock z.2 p 1 i k
      acc.modWop id fun y => { y with
        acc := y.acc ++ [(16 + i, blocks.flatMap (·.1)), (2 ^ 20 + i, blocks.flatMap (·.2))] }) z.1
  else
    let z := gatherOut s o p (gatherBags p * (c.idx - t - 1)) (min (wNbag p) (gatherBags p * (c.idx - t)))
    z.1.putSegs id r c.segs (overVal p ((o.kept 1).take (gatherUsed o)) fun j pos => fetchSB z.2 j pos) State.writeSector

/-- The response payload of a GATHER_REDUCE with TO_RESP: the bags' rows; poisoned bytes are zero. -/
def State.gatherPayload (s : State) (o : Wop) (p : Packet) : State × List Byte :=
  if wToResp p then
    let z := gatherOut s o p 0 (wNbag p)
    (z.1, (fetchN z.2 0 0 (wNbag p * (rng p 0).b)).map fun b => if b.bad = 0 then b.v else 0)
  else (s, [])

/-! ### COPY_REMOTE (R109 to R112) -/

/-- Split a chunk's bytes into remote WRITEs: consecutive destination offsets within one 4 KiB window, none from a failed stack. DESIGN
CHOICE: a WRITE has no way to carry poison, so the bytes of a poisoned source sector are sent as the zeros its read gives (log entry 88). -/
def remoteRuns (l : List (Nat × SB)) : List (Nat × List Byte) :=
  (l.foldl (fun (acc : List (Nat × List Byte)) e =>
    if e.2.bad = 2 then (0, []) :: acc
    else match acc with
      | (o, d) :: r =>
        if d ≠ [] ∧ o + d.length = e.1 ∧ e.1 % 4096 ≠ 0 then (o, d ++ [e.2.v]) :: r else (e.1, [e.2.v]) :: acc
      | [] => [(e.1, [e.2.v])]) []).reverse.filter fun x => x.2 ≠ []

/-- Number a request of this chip's own toward a node (R41, R109). -/
def State.takeTx (s : State) (n : Nat) : State × Nat × Nat :=
  let q := (SMap.get (fun _ => 0) s.wrd.txSeq n + 1) % 65536
  ({ s with wrd := { s.wrd with
      txSeq := SMap.set (fun _ => 0) s.wrd.txSeq n q
      txTag := (s.wrd.txTag + 1) % 65536 } }, s.wrd.txTag, q)

/-- Send one remote WRITE (R109). -/
def State.remoteSend (s : State) (id : Nat) (r : Req) (w : RemoteW) : State :=
  let dst := bits (wParam r.pkt) 11 0
  let t := s.takeTx dst
  let v := t.1.pickInter dst
  let f : Form := {
    dest := dst, src := s.ownId, inter := v.1, vc := v.2.1, phase := v.2.1, cls := r.pkt.cls, opcode := 2
    tag := t.2.1, seq := t.2.2, high := r.pkt.sub * 2 ^ 8
    addr := (rng r.pkt 0).kw + w.off * 2 ^ 12, payload := w.data }
  (v.2.2.inject f.packet (some r.pkt.sub)).modWop id fun o => { o with
    remote := mapIf (fun x => x.idx == w.idx) (fun x => { x with tag := t.2.1, seq := t.2.2, st := 1 }) o.remote }

/-- Send what may be sent: at most 64 WRITEs outstanding (R109), none once the operation stops. -/
def State.remotePump (s : State) (id : Nat) : Nat → State
  | 0 => s
  | n + 1 => match s.wop id, s.wopPkt id with
    | some o, some r =>
      if o.ending.isSome ∨ 64 ≤ (o.remote.filter fun x => x.st != 0).length then s
      else match o.remote.find? fun x => x.st == 0 with
        | some w => State.remotePump (s.remoteSend id r w) id n
        | none => s
    | _, _ => s

/-- A chunk of a COPY_REMOTE: its bytes become remote WRITEs. -/
def State.effRemote (s : State) (id : Nat) (r : Req) (c : Chunk) : State :=
  let z := s.readSegs id r c.segs
  let sp := byteSpan r.pkt c.idx
  let runs := remoteRuns ((upTo sp.1 sp.2).map fun pos => ((rng r.pkt 0).at pos, fetchSB z.2 1 pos))
  let s1 := z.1.modWop id fun o => { o with
    remote := o.remote ++ runs.zipIdx.map fun x => RemoteW.mk (o.made + x.2) x.1.1 x.1.2 0 0 0 0
    made := o.made + runs.length }
  s1.remotePump id 64

end Sys2Proof.Machine
end

