-- ==== Sys2Proof/Machine/Attention.lean ====
section
/-! DEFINITION. The attention operations' descriptors, the KV block (R138 to R140), KV_APPEND (R142 to R146), which tokens a query
sees (R152, R153), scores and weights (R154 to R158), excluded tokens (R162, R163), merging of partials (R164), ATTEND_MERGE
packets (R167, R168). -/

namespace Sys2Proof.Machine

open Sys2Proof

/-! ### Geometry (R140) -/

/-- The geometry word of a KV_APPEND or of an ATTEND payload. -/
def geom (p : Packet) : Nat := if p.opcode = 0x20 then pw p 2 else pw p 3

def gH (p : Packet) : Nat := bits (geom p) 6 0
def gFirst (p : Packet) : Nat := bits (geom p) 13 8
def gCount (p : Packet) : Nat := bits (geom p) 22 16
def gD (p : Packet) : Nat := 64 * 2 ^ bits (geom p) 25 24
def gGroup (p : Packet) : Nat := bits (geom p) 36 32
def gqFirst (p : Packet) : Nat := bits (geom p) 43 40
def gqCount (p : Packet) : Nat := bits (geom p) 52 48
def gNQ (p : Packet) : Nat := bits (geom p) 60 56

/-- Format code of R100 for KV_FMT. -/
def gFmt (p : Packet) : Nat :=
  let k := bits (geom p) 27 26
  if k = 0 then 7 else if k = 1 then 3 else 4

/-- Reserved fields, ranges of fields (R140); ATTEND-only fields are zero in a KV_APPEND. -/
def geomBad (p : Packet) : Bool :=
  let g := geom p
  bits g 7 7 != 0 || bits g 15 14 != 0 || bits g 23 23 != 0 || bits g 31 28 != 0 || bits g 39 37 != 0 || bits g 47 44 != 0
  || bits g 55 53 != 0 || bits g 63 61 != 0 || bits g 25 24 == 3 || bits g 27 26 == 3
  || gH p == 0 || decide (64 < gH p) || gCount p == 0 || decide (64 < gCount p) || decide (gH p < gFirst p + gCount p)
  || (if p.opcode = 0x20 then bits g 63 32 != 0
      else gGroup p == 0 || decide (16 < gGroup p) || gqCount p == 0 || decide (16 < gqCount p)
        || decide (gGroup p < gqFirst p + gqCount p) || gNQ p == 0 || decide (16 < gNQ p))

/-! ### The KV block (R138, R139) -/

/-- Re, P and S. -/
def kvRe (p : Packet) : Nat := gD p * fmtBits (gFmt p) / 8
def kvP (p : Packet) : Nat := roundUp (16 * kvRe p + gD p / 2) 64
def kvS (p : Packet) : Nat := 2 * gH p * kvP p

def kvKw (p : Packet) : Nat := bits (pw p 0) 11 0
def kvBase (p : Packet) : Nat := bits (pw p 0) 55 12

/-- Keyway offset of block b. -/
def kvBlock (p : Packet) (span : Bool) (b : Nat) : Nat :=
  if span then
    let nb := stripe / kvS p
    kvBase p + b / nb * stripe + b % nb * kvS p
  else kvBase p + b * kvS p

/-! ### KV_APPEND -/

def apFirst (p : Packet) : Nat := bits (pw p 1) 24 0
def apNew (p : Packet) : Nat := bits (pw p 1) 36 32
def apIn (p : Packet) : Nat := bits (pw p 1) 41 40
def apRow (p : Packet) : Nat := if apIn p = 0 then 2 * gD p else gD p + gD p / 32
def apSlot (p : Packet) : Nat := apFirst p % 16

/-- Keyway offset past the last byte written: the pad of the last value sub-block, or where it has none the scales of its last slot
(R138, R145). -/
def apEnd (p : Packet) (span : Bool) : Nat :=
  let sub := kvBlock p span (apFirst p / 16) + (gH p + gFirst p + gCount p - 1) * kvP p
  if 16 * kvRe p + gD p / 2 < kvP p then sub + kvP p else sub + 16 * kvRe p + (apSlot p + apNew p) * (gD p / 32)

/-- Malformed KV_APPEND (R142, R146); span tells whether the keyway's descriptor is a span. -/
def appendMalformed (p : Packet) (span : Bool) : Bool :=
  p.opw != 0 || geomBad p || bits (pw p 0) 63 56 != 0 || bits (pw p 1) 31 25 != 0 || bits (pw p 1) 39 37 != 0
  || bits (pw p 1) 63 42 != 0 || apIn p == 3 || apNew p == 0 || decide (16 < apNew p) || decide (16777215 < apFirst p)
  || decide (16 < apSlot p + apNew p) || p.length != 32 + apNew p * 2 * gCount p * apRow p
  || kvBase p % (if span then stripe else 64) != 0 || lwBad (pw p 3)
  || decide (2 ^ 44 < apEnd p span)

/-- Bytes written in one head sub-block: rows, scales, pad (R145). -/
def apBytes (p : Packet) : Nat := apNew p * (kvRe p + gD p / 32) + (kvP p - 16 * kvRe p - gD p / 2)

/-- Keyway offset of byte x of what is written in sub-block j: key sub-blocks of the served heads, then their value ones. -/
def apAt (p : Packet) (span : Bool) (pos : Nat) : Nat :=
  let n := apBytes p
  let j := pos / n
  let x := pos % n
  let sub := kvBlock p span (apFirst p / 16) + (j / gCount p * gH p + gFirst p + j % gCount p) * kvP p
  let rows := apNew p * kvRe p
  let scales := apNew p * (gD p / 32)
  if x < rows then sub + apSlot p * kvRe p + x
  else if x < rows + scales then sub + 16 * kvRe p + apSlot p * (gD p / 32) + (x - rows)
  else sub + 16 * kvRe p + gD p / 2 + (x - rows - scales)

/-- Pieces of chunk k: what one served head's sub-blocks take. -/
def apPieces (p : Packet) (span : Bool) (k : Nat) : List Piece :=
  [k, gCount p + k].flatMap fun j =>
    let a := j * apBytes p
    let rows := apNew p * kvRe p
    let scales := apNew p * (gD p / 32)
    let pad := kvP p - 16 * kvRe p - gD p / 2
    ([(a, rows), (a + rows, scales), (a + rows + scales, pad)].filter fun e => e.2 != 0).map fun e =>
      Piece.mk 0 e.1 (kvKw p) (apAt p span e.1) e.2 true

/-- Elements and scale bytes stored for token t of sub-block j (R143, R144). -/
def apQuant (p : Packet) (t j : Nat) : List Byte × List Byte :=
  let row := slice p.payload (32 + (t * 2 * gCount p + j) * apRow p) (apRow p)
  let inF := if apIn p = 1 then 3 else 4
  if apIn p ≠ 0 ∧ inF = gFmt p then (row.take (gD p), row.drop (gD p))
  else
    let blocks := (List.range (gD p / 32)).map fun k =>
      mxBlock (gFmt p) ((List.range 32).map fun i =>
        if apIn p = 0 then ofF32 (elemF32 1 (unpackElem 1 row (32 * k + i)) 0)
        else ofF32 (elemF32 inF (unpackElem inF row (32 * k + i)) (byteAt row (gD p + k)).toNat))
    (packElems (gFmt p) (blocks.flatMap (·.1)), blocks.map fun b => BitVec.ofNat 8 b.2)

/-- Value of the byte at a position of a KV_APPEND's writes. -/
def apVal (p : Packet) (pos : Nat) : Byte :=
  let n := apBytes p
  let j := pos / n
  let x := pos % n
  let rows := apNew p * kvRe p
  let scales := apNew p * (gD p / 32)
  if x < rows then byteAt (apQuant p (x / kvRe p) j).1 (x % kvRe p)
  else if x < rows + scales then byteAt (apQuant p ((x - rows) / (gD p / 32)) j).2 ((x - rows) % (gD p / 32))
  else 0

/-- A chunk of a KV_APPEND. -/
def State.effAppend (s : State) (id : Nat) (r : Req) (c : Chunk) : State :=
  s.putSegs id r c.segs (fun _ pos => ⟨apVal r.pkt pos, 0⟩) State.writeSector

/-! ### The ATTEND head (R148 to R151) -/

def atTokens (p : Packet) : Nat := bits (pw p 1) 24 0
def atScale (p : Packet) : Nat := bits (pw p 1) 63 32
def atWstart (p : Packet) : Nat := bits (pw p 2) 24 0
def atClimit (p : Packet) : Nat := bits (pw p 2) 56 32
def atWin (p : Packet) : Bool := bit (pw p 4) 0
def atCausal (p : Packet) : Bool := bit (pw p 4) 1
def atBf16 (p : Packet) : Bool := bit (pw p 4) 2
def atSpan (p : Packet) : Bool := bit (pw p 4) 3
def atGroup (p : Packet) : Nat := bits (pw p 4) 15 8
def atSpanN (p : Packet) : Nat := bits (pw p 4) 20 16
def atRoot (p : Packet) : Nat := bits (pw p 4) 43 32

/-- Queries of the request, and of one KV head. -/
def atQ (p : Packet) : Nat := gCount p * gqCount p * gNQ p
def atPer (p : Packet) : Nat := gqCount p * gNQ p

/-- Malformed ATTEND payload, without what depends on the receiving chip (R151). -/
def attendBad (p : Packet) : Bool :=
  geomBad p || bits (pw p 0) 63 56 != 0 || bits (pw p 1) 31 25 != 0 || bits (pw p 2) 31 25 != 0 || bits (pw p 2) 63 57 != 0
  || bits (pw p 4) 7 4 != 0 || bits (pw p 4) 31 21 != 0 || bits (pw p 4) 63 44 != 0 || pw p 6 != 0 || pw p 7 != 0
  || lwBad (pw p 5) || decide (32 < atQ p) || p.length != 64 + atQ p * 2 * gD p || decide (4096 < p.length)
  || decide (4096 < atQ p * (8 + gD p * (if atBf16 p then 2 else 4))) || decide (16777216 < atTokens p)
  || bits (atScale p) 30 23 == 255 || kvBase p % (if atSpan p then stripe else 64) != 0
  || (atTokens p != 0 && decide (2 ^ 44 < kvBlock p (atSpan p) ((atTokens p - 1) / 16) + kvS p))
  || (if atSpan p then decide (atSpanN p < 2) || decide (16 < atSpanN p) else atSpanN p != 1)

/-! ### Which tokens a query sees (R152, R153) -/

/-- Query position j sees token t. -/
def seesTok (p : Packet) (j t : Nat) : Bool :=
  decide (t < atTokens p) && (!atWin p || decide (atWstart p + j ≤ t)) && (!atCausal p || decide (t ≤ atClimit p + j))

/-- Some query of the request sees token t. -/
def someSees (p : Packet) (t : Nat) : Bool := (List.range (gNQ p)).any fun j => seesTok p j t

/-- Blocks that hold a token some query sees. -/
def atBlocks (p : Packet) : List Nat :=
  let lo := if atWin p then atWstart p else 0
  let hi := if atCausal p then min (atTokens p) (atClimit p + gNQ p) else atTokens p
  if hi ≤ lo then [] else (upTo (lo / 16) ((hi - 1) / 16 + 1)).filter fun b => (List.range 16).any fun i => someSees p (16 * b + i)

/-- The blocks of a list that this member's stripes hold (R139). -/
def myBlocks (p : Packet) (d : Nat) : List Nat :=
  if atSpan p then (atBlocks p).filter fun b => spanMember (descN1 d + 1) (kvBlock p true b) == descIdx d else atBlocks p

/-- Blocks a chunk reads for one KV head. DESIGN CHOICE: R159 fixes no chunking; a chunk is as many consecutive blocks of one head as keep its
key and value sub-blocks within 65,536 bytes, and stands for the parts of it that the stack slices fold (R165; log entry 91). -/
def blocksOf (p : Packet) : Nat := max 1 (65536 / (2 * kvP p))

/-- Chunks of an ATTEND over n blocks. -/
def attendChunks (p : Packet) (n : Nat) : Nat := gCount p * ((n + blocksOf p - 1) / blocksOf p)

/-- KV head (served index) and blocks (indices into the list) of chunk k. -/
def attendSpan (p : Packet) (n k : Nat) : Nat × Nat × Nat :=
  let m := (n + blocksOf p - 1) / blocksOf p
  (k / m, blocksOf p * (k % m), min n (blocksOf p * (k % m + 1)))

/-- Position in the traversal of sub-block j (key ones of the served heads, then value ones) of the i-th block. -/
def attendPos (p : Packet) (i j : Nat) : Nat := (i * 2 * gCount p + j) * kvP p

/-- Keyway offset of the byte at a position. -/
def attendAt (p : Packet) (blocks : List Nat) (pos : Nat) : Nat :=
  let q := pos / kvP p
  let j := q % (2 * gCount p)
  kvBlock p (atSpan p) (blocks.getD (q / (2 * gCount p)) 0) + (j / gCount p * gH p + gFirst p + j % gCount p) * kvP p + pos % kvP p

/-- Pieces of chunk k of an ATTEND: key and value sub-block of one head in each of its blocks. -/
def attendPieces (p : Packet) (blocks : List Nat) (k : Nat) : List Piece :=
  let z := attendSpan p blocks.length k
  (upTo z.2.1 z.2.2).flatMap fun i => [z.1, gCount p + z.1].map fun j =>
    let pos := attendPos p i j
    Piece.mk 0 pos (kvKw p) (attendAt p blocks pos) (kvP p) false

/-! ### Scores and weights (R154 to R157) -/

/-- Query q as MXINT8: element codes and scale by block (R154). -/
def queryMx (p : Packet) (q : Nat) : List (List Nat × Nat) :=
  let row := slice p.payload (64 + q * 2 * gD p) (2 * gD p)
  (List.range (gD p / 32)).map fun k => mxBlock 8 ((List.range 32).map fun i => ofF32 (elemF32 1 (unpackElem 1 row (32 * k + i)) 0))

/-- The exact sum of 32 products of a block. -/
def dotBlock (f : Nat) (a b : List Nat) : FVal :=
  (a.zip b).foldl (fun acc e => acc.add ((elemVal 8 e.1).mul (elemVal f e.2))) (.fin false 0 0)

/-- Block term in binary32 (R155). -/
def blockTerm (f : Nat) (q : List Nat × Nat) (k : List Nat × Nat) : Nat :=
  toF32 ((dotBlock f q.1 k.1).scale ((q.2 : Int) - 127 + ((k.2 : Int) - 127)))

/-- Score of a query against a key row of block codes and scales (R155); the order of the block terms is open. -/
def scoreOf (s : State) (p : Packet) (q k : List (List Nat × Nat)) : State × Nat :=
  let z := sumFree q.length s ((q.zip k).map fun e => blockTerm (gFmt p) e.1 e.2)
  (z.1, f32Mul (atScale p) z.2)

/-- exp(-a) in 512 fraction bits for a = m * 2^e not above 104: a series at a / 1024, squared ten times. -/
def expFix (m : Nat) (e : Int) : Nat :=
  let one : Nat := 2 ^ 512
  let x := if 0 ≤ e + 502 then m * 2 ^ (e + 502).toNat else m / 2 ^ (-(e + 502)).toNat
  let ser := (List.range 40).foldl (fun (acc : Int × Int) n =>
    (acc.1 + acc.2, -(acc.2 * (x : Int) / (one : Int) / ((n : Int) + 1)))) (0, (one : Int))
  (List.range 10).foldl (fun (y : Nat) _ => y * y / one) ser.1.toNat

/-- Whether the value of a positive binary32 code is at least n / 2^k. -/
def codeAtLeast (c n k : Nat) : Bool :=
  match ofF32 c with
  | .fin _ m e => if 0 ≤ e + k then decide (n ≤ m * 2 ^ (e + k).toNat) else decide (n * 2 ^ (-(e + (k : Int))).toNat ≤ m)
  | _ => true

/-- The exponent unit (R156): exactly 1 for exp(0), +0 below -104, else an open binary32 value within 2^-21 of the true one, or
the nearest one where no binary32 value is so near. -/
def expUnit (s : State) (x : Nat) : State × Nat :=
  match ofF32 x with
  | .fin n m e =>
    if m = 0 then (s, 0x3F800000)
    else if n = false then (s, 0x3F800000)
    else if m.log2 + e ≥ 7 ∨ (if 0 ≤ e then 104 < m * 2 ^ e.toNat else 104 * 2 ^ (-e).toNat < m) then (s, 0)
    else
      let y := expFix m e
      let lo := y * (2 ^ 21 - 1)
      let hi := y * (2 ^ 21 + 1)
      let near := toF32 (.fin false y (-512))
      let a := (toF32 (.fin false lo (-533)))
      let a := if codeAtLeast a lo 533 then a else a + 1
      let b := (toF32 (.fin false hi (-533)))
      let b := if codeAtLeast b (hi + 1) 533 then b - 1 else b
      if a ≤ b then
        let w := s.fresh (b - a + 1)
        (w.2, a + w.1)
      else (s, near)
  | .inf true => (s, 0)
  | _ => (s, f32NaN)

/-- Round the weights of a group of up to 32 tokens (R156 step 3): binary32 codes. -/
def roundWeights (l : List Nat) : List Nat :=
  let vs := l.map fun c => match ofF32 c with
    | .fin _ m e => (m, e)
    | _ => (0, 0)
  let top := amaxOf (l.map ofF32)
  if top.1 = 0 then l.map fun _ => 0
  else
    let k : Int := top.2 + (Nat.log2 top.1 : Int) - 7
    let k := if alignTo top.1 top.2 k = 256 then k + 1 else k
    vs.map fun v => toF32 (.fin false (alignTo v.1 v.2 k) k)

/-- A partial record: m, l and o as binary32 codes. -/
abbrev Partial := List Nat

def nanRecord (d : Nat) : Partial := List.replicate (2 + d) f32NaN
def emptyRecord (d : Nat) : Partial := f32NegInf :: List.replicate (1 + d) 0

/-- A token as a query's fold uses it: key blocks, value row in binary32, whether its value has a NaN scale. -/
structure Tok where
  t : Nat
  key : List (List Nat × Nat)
  val : List Nat
  nan : Bool

/-- Fold the tokens a query sees in a slice's part of a chunk into one partial (R156, R157). DESIGN CHOICE: its weight groups are of 32 tokens
from the first seen one (R156 fixes at most 32 consecutive seen tokens; log entry 91). -/
def foldToks (s : State) (p : Packet) (q : List (List Nat × Nat)) (l : List Tok) : State × Partial :=
  let d := gD p
  let sc := l.foldl (fun (acc : State × List Nat) t => let z := scoreOf acc.1 p q t.key; (z.1, acc.2 ++ [z.2])) (s, [])
  let bad (c : Nat) : Bool := (ofF32 c).isNan || (ofF32 c).isInf
  if l.any (fun t => t.nan || t.key.any fun b => b.2 == 0xFF) || sc.2.any bad then (sc.1, nanRecord d)
  else
    let m := sc.2.foldl f32Max f32NegInf
    let neg := if m < 2 ^ 31 then m + 2 ^ 31 else m - 2 ^ 31
    let ex := sc.2.foldl (fun (acc : State × List Nat) x =>
      let z := expUnit acc.1 (f32Add x neg)
      (z.1, acc.2 ++ [z.2])) (sc.1, [])
    let w := (List.range ((ex.2.length + 31) / 32)).flatMap fun g => roundWeights ((ex.2.drop (32 * g)).take 32)
    let lsum := sumFree w.length ex.1 w
    let o := (List.range d).foldl (fun (acc : State × List Nat) i =>
      let z := sumFree w.length acc.1 ((w.zip l).map fun e => f32Mul e.1 (e.2.val.getD i 0))
      (z.1, acc.2 ++ [z.2])) (lsum.1, [])
    (o.1, m :: lsum.2 :: o.2)

/-- Merge partials of one query (R164). -/
def mergePartials (s : State) (d : Nat) (l : List Partial) : State × Partial :=
  if l.any fun x => f32IsNaN (x.getD 0 0) then (s, nanRecord d)
  else
    let m := (l.map fun x => x.getD 0 0).foldl f32Max f32NegInf
    if m = f32NegInf then (s, emptyRecord d)
    else
      let neg := if m < 2 ^ 31 then m + 2 ^ 31 else m - 2 ^ 31
      let f := l.foldl (fun (acc : State × List Nat) x =>
        let mi := x.getD 0 0
        if mi = m then (acc.1, acc.2 ++ [0x3F800000])
        else if mi = f32NegInf then (acc.1, acc.2 ++ [0])
        else let z := expUnit acc.1 (f32Add mi neg); (z.1, acc.2 ++ [z.2])) (s, [])
      let z := (List.range (1 + d)).foldl (fun (acc : State × List Nat) i =>
        let v := sumFree l.length acc.1 ((f.2.zip l).map fun e => f32Mul e.1 (e.2.getD (i + 1) 0))
        (v.1, acc.2 ++ [v.2])) (f.1, [])
      (z.1, m :: z.2)

/-! ### A chunk of an ATTEND -/

/-- The stretch and sector of a chunk's byte. -/
def segSector (segs : List Seg) (pos : Nat) : Option Nat :=
  segs.findSome? fun t => if t.pos ≤ pos ∧ pos < t.pos + t.len then t.ppa.map fun x => (x + (pos - t.pos)) / 64 else none

/-- Traversal positions a token needs in the i-th block for a served head: key row, key scales, value row, value scales; all
scales of its sub-blocks, since a poisoned scale sector excludes all 16 tokens (R162). -/
def tokSpans (p : Packet) (i h slot : Nat) : List (Nat × Nat) :=
  [h, gCount p + h].flatMap fun j =>
    let a := attendPos p i j
    [(a + slot * kvRe p, kvRe p), (a + 16 * kvRe p, gD p / 2)]

/-- Element codes and scale of each block of a token's row in a sub-block. -/
def tokRow (l : List Run) (p : Packet) (pos slot : Nat) : List (List Nat × Nat) :=
  let vs := (fetchN l 0 (pos + slot * kvRe p) (kvRe p)).map (·.v)
  let sc := (fetchN l 0 (pos + 16 * kvRe p + slot * (gD p / 32)) (gD p / 32)).map (·.v)
  (List.range (gD p / 32)).map fun k =>
    ((List.range 32).map fun i => unpackElem (gFmt p) vs (32 * k + i), (byteAt sc k).toNat)

/-- A token of a head ready for the fold. -/
def tokOf (l : List Run) (p : Packet) (i h t : Nat) : Tok :=
  let key := tokRow l p (attendPos p i h) (t % 16)
  let val := tokRow l p (attendPos p i (gCount p + h)) (t % 16)
  ⟨t, key, val.flatMap (fun b => b.1.map fun c => elemF32 (gFmt p) c b.2), val.any fun b => b.2 == 0xFF⟩

/-- The stack slice that takes a token of the i-th block of a served head: where its key sub-block starts (R165); slice 0 where that byte is
not translated. -/
def State.tokSlice (s : State) (segs : List Seg) (p : Packet) (i h : Nat) : Nat :=
  match segSector segs (attendPos p i h) with
  | some k => s.stackAt (k * 64)
  | none => 0

/-- A chunk of an ATTEND: each stack slice folds its tokens (R156, R165). Partials are kept by key query + 64 * (slice + 16 * chunk)
(R129). -/
def State.effAttend (s : State) (id : Nat) (r : Req) (c : Chunk) (blocks : List Nat) : State :=
  let p := r.pkt
  let rd := s.readSegs id r c.segs
  let z := attendSpan p blocks.length c.idx
  let toks := (upTo z.2.1 z.2.2).flatMap fun i =>
    ((List.range 16).map fun k => (i, 16 * blocks.getD i 0 + k)).filter fun e => someSees p e.2
  let cond (e : Nat × Nat) : Nat := worst ((tokSpans p e.1 z.1 (e.2 % 16)).flatMap fun x => fetchN rd.2 0 x.1 x.2)
  let gone := toks.filter fun e => cond e != 0
  let sectors := (gone.flatMap fun e => (tokSpans p e.1 z.1 (e.2 % 16)).flatMap fun x =>
    (List.range x.2).filterMap fun y =>
      if (fetchSB rd.2 0 (x.1 + y)).bad = 1 then segSector c.segs (x.1 + y) else none).dedup
  let s1 := sectors.foldl (fun acc k => acc.eatPoison id r (k * 64) 0 0) rd.1
  let s2 := (s1.modWop id fun y => { y with
    excl := y.excl ++ gone.map fun e => (z.1, e.2)
    media := y.media || gone.any fun e => cond e == 2 }).addCnt Reg.WRD_ATT_EXCL_CNT.OFF gone.length
  let s3 := s2.addCnt Reg.WRD_ATT_KV_BYTES.OFF ((c.segs.map fun t => if t.ppa.isSome then t.len else 0).sum)
  (List.range (atPer p)).foldl (fun acc k =>
    let q := z.1 * atPer p + k
    let seen := toks.filter fun e => cond e == 0 && seesTok p (k % gNQ p) e.2
    (List.range 12).foldl (fun (u : State) n =>
      let l := (seen.filter fun e => s.tokSlice c.segs p e.1 z.1 == n).map fun e => tokOf rd.2 p e.1 z.1 e.2
      if l.isEmpty then u
      else
        let f := foldToks u p (queryMx p q) l
        (f.1.stage p.ctx (8 + 4 * gD p)).modWop id fun y => { y with acc := y.acc ++ [(q + 64 * (n + 16 * c.idx), f.2)] }) acc) s3

/-- Records that see excluded tokens (R150, R162). -/
def exclMask (p : Packet) (o : Wop) : Nat :=
  ((List.range (atQ p)).map fun q =>
    if o.excl.any fun e => e.1 == q / atPer p && seesTok p (q % gNQ p) e.2 then 2 ^ q else 0).sum

/-- This chip's partial of query q (R157, R158, R165): each slice merges its chunks' partials, the merge unit merges the slices'. -/
def ownPartial (s : State) (p : Packet) (o : Wop) (q : Nat) : State × Partial :=
  if (queryMx p q).any fun b => b.2 == 0xFF then (s, nanRecord (gD p))
  else
    let sl := (List.range 12).foldl (fun (acc : State × List Partial) n =>
      let l := (o.acc.filter fun e => e.1 % 64 == q && e.1 / 64 % 16 == n).map (·.2)
      if l.isEmpty then acc
      else let z := mergePartials acc.1 (gD p) l; (z.1, acc.2 ++ [z.2])) (s, [])
    mergePartials sl.1 (gD p) sl.2

/-- A record's bytes with o in binary32 or BF16 (R150, R160). -/
def recordBytes (bf16 : Bool) (r : Partial) : List Byte :=
  (r.take 2).flatMap (leBytes 4) ++ (r.drop 2).flatMap fun c => if bf16 then leBytes 2 (outElem 1 c) else leBytes 4 (outElem 0 c)

/-! ### ATTEND_MERGE packets (R167, R168) -/

def mgKind (p : Packet) : Nat := bits p.opw 1 0
def mgGroup (p : Packet) : Nat := bits p.opw 15 8
def mgRoot (p : Packet) : Nat := bits p.opw 27 16
def mgNode (p : Packet) : Nat := bits p.opw 39 28
def mgTag (p : Packet) : Nat := bits p.opw 55 40
def mgFirst (p : Packet) : Nat := bits p.opw 60 56

/-- Operation word of an ATTEND_MERGE. -/
def mgWord (kind group root node tag first : Nat) : Nat :=
  kind + group * 2 ^ 8 + root * 2 ^ 16 + node * 2 ^ 28 + tag * 2 ^ 40 + first * 2 ^ 56

/-- Records a PARTIAL carries. -/
def recsPer (d : Nat) : Nat := 4096 / (8 + 4 * d)

/-- Outcome word of a PARTIAL. -/
def outcomeWord (members st excl mask : Nat) : Nat := members + st * 2 ^ 8 + min excl 65535 * 2 ^ 16 + mask % 2 ^ 32 * 2 ^ 32

end Sys2Proof.Machine
end

