-- ==== Sys2Proof/Machine/WardRun.lean ====
section
/-! DEFINITION. Admission of ward and attention operations (R92, R93, R126, R124), issue and completion of their chunks (R90,
R128, R130), trees of COL_REDUCE and ATTEND (R121 to R123, R166 to R172), status and completion (R125, R131, R132), aborts. -/

namespace Sys2Proof.Machine

open Sys2Proof

/-! ### Chunks of an operation -/

/-- Key under which the root of a COL_REDUCE keeps the reduced elements, and of their conditions. -/
def colKey : Nat := 2 ^ 30

/-- The reduced elements of a COL_REDUCE stand. -/
def Wop.colReady (o : Wop) : Bool := o.acc.any fun e => e.1 == colKey

/-- Chunks of an operation, as far as they are known. -/
def wardCount (o : Wop) (p : Packet) : Nat :=
  if p.opcode = 0x13 then blockChunks p
  else if p.opcode = 0x14 then (if o.done.contains 0 then 1 + gatherT o p + gatherD p else 1)
  else if p.opcode = 0x23 then (if o.mismatch then 0 else blockChunks p) + (if o.colReady then blockChunks p else 0)
  else if p.opcode = 0x20 then gCount p
  else if p.opcode = 0x21 ∨ p.opcode = 0x22 then (if o.mismatch then 0 else attendChunks p o.aux.length)
  else byteChunks p

/-- A chunk's predecessors are done. -/
def wardMay (o : Wop) (p : Packet) (k : Nat) : Bool :=
  decide (k < wardCount o p) &&
    (if p.opcode = 0x14 ∧ k ≠ 0 then
      o.done.contains 0 && (decide (k ≤ gatherT o p) || (List.range (gatherT o p + 1)).all fun j => o.done.contains j)
    else true)

/-! ### Contexts and engines (R128, R130) -/

/-- A chunk of an operation is ready to run: its predecessors are done, and it is neither issued nor waiting for its translation; or the snoop is
answered for which it gave its engine up. -/
def chunkReady (o : Wop) (p : Packet) (k : Nat) : Bool :=
  wardMay o p k && !o.done.contains k && (match o.chunk k with
    | some c => if c.run then c.away == some true else c.todo.isEmpty && c.stopped.isNone
    | none => true)

/-- The shaper or the planner holds the chunks of a subscriber (R130, R367). -/
def State.wardHeld (s : State) (b : Nat) : Bool := s.inDeficit b 3 || !s.wardAllowed

/-- The contexts of operations with a chunk that is ready, of subscribers that a test accepts. -/
def State.chunkCtxs (s : State) (t : Nat → Bool) : List Nat :=
  s.wrd.ops.filterMap fun o => (s.wopPkt o.id).bind fun r =>
    if !o.wait && o.ending.isNone && t r.pkt.sub && (List.range (wardCount o r.pkt)).any (chunkReady o r.pkt) then some r.pkt.ctx else none

/-- Contexts with chunks to issue; a held context yields its engines. -/
def State.readyCtxs (s : State) : List Nat := s.chunkCtxs fun b => !s.wardHeld b

/-- Contexts whose chunks are held now. -/
def State.heldCtxs (s : State) : List Nat := s.chunkCtxs s.wardHeld

/-- The next context in round robin after one: the smallest above it, else the smallest. -/
def State.nextCtx (s : State) (c : Nat) : Nat :=
  let l := s.readyCtxs
  let m (t : Nat → Bool) : Option Nat := (l.filter t).min?
  ((m fun x => decide (c < x)).orElse fun _ => m fun _ => true).getD c

/-- The engine is in service and runs no chunk. -/
def State.engineFree (s : State) (n : Nat) : Bool := s.engineOn n && !s.engineBusy n

/-- Whether an engine may take a chunk of a context now (R128): of the context it serves until that context's quanta are used or it has no
chunk ready, then of the next in round robin. -/
def State.engineTakes (s : State) (n c : Nat) : Bool :=
  let e := s.engine n
  s.engineFree n && (e.scratch.isNone
    || (if !e.expired && s.readyCtxs.contains e.ctx then c == e.ctx else c == s.nextCtx e.ctx))

/-- Whether the keyway of a request's KV blocks is a span. -/
def State.kvSpan (s : State) (p : Packet) : Bool := descSpan (s.desc (kvKw p))

/-- Pieces of chunk k, sources first (R80). -/
def State.wardPieces (s : State) (o : Wop) (p : Packet) (k : Nat) : List Piece :=
  let sp := byteSpan p k
  let bs := blockSpan p k
  let e := wRowLen p
  if p.opcode = 0x10 then (rng p 0).pieces 0 true sp.1 sp.2
  else if p.opcode = 0x11 then (rng p 1).pieces 1 false sp.1 sp.2 ++ (rng p 0).pieces 0 true sp.1 sp.2
  else if p.opcode = 0x15 then (rng p 1).pieces 1 false sp.1 sp.2
  else if p.opcode = 0x12 then
    (rng p 0).pieces 0 false sp.1 sp.2 ++ (if wUsePat p then [] else (rng p 1).pieces 1 false sp.1 sp.2)
  else if p.opcode = 0x13 then
    ((upTo 1 (wNrange p)).flatMap fun j => (rng p j).blockPieces (wIn p) e j false bs.1 bs.2)
      ++ (rng p 0).blockPieces (wOut p) e 0 true bs.1 bs.2
  else if p.opcode = 0x14 then gatherPieces o p k
  else if p.opcode = 0x23 then
    let n := if o.mismatch then 0 else blockChunks p
    if k < n then (rng p 1).blockPieces (wIn p) e 1 false bs.1 bs.2
    else let b := blockSpan p (k - n); (rng p 0).blockPieces (wOut p) e 0 true b.1 b.2
  else if p.opcode = 0x20 then apPieces p (s.kvSpan p) k
  else attendPieces p o.aux k

/-- The pieces of an operation's whole destination on this chip; a COL_REDUCE writes at its root only. -/
def State.destPieces (s : State) (o : Wop) (p : Packet) : List Piece :=
  let all := (rng p 0).pieces 0 true 0 (rng p 0).len
  let root := match o.tree with
    | some t => t.parent.isNone
    | none => true
  if p.opcode = 0x10 ∨ p.opcode = 0x11 ∨ p.opcode = 0x13 then all
  else if p.opcode = 0x14 then (if wToResp p then [] else all)
  else if p.opcode = 0x23 then (if root then all else [])
  else if p.opcode = 0x20 then (List.range (gCount p)).flatMap fun k => apPieces p (s.kvSpan p) k
  else []

/-- The extents an operation leaves undefined when it ends ABORTED (R132): what it has written, and the rest of its destination as far as
the range cache translates it (log entry 88). -/
def State.destExtents (s : State) (o : Wop) (p : Packet) : List (Nat × Nat) :=
  let l := s.destPieces o p
  o.wrote ++ s.extents p.sub (pieceFuel l) l

/-- Keyway of range j, and keyway offset of a traversal position. -/
def wardKw (p : Packet) (j : Nat) : Nat := if 0x20 ≤ p.opcode ∧ p.opcode ≤ 0x22 then kvKw p else (rng p j).kw

def State.wardAt (s : State) (o : Wop) (p : Packet) (j pos : Nat) : Nat :=
  if p.opcode = 0x20 then apAt p (s.kvSpan p) pos
  else if p.opcode = 0x21 ∨ p.opcode = 0x22 then attendAt p o.aux pos
  else if p.opcode = 0x14 ∧ j = 1 then
    let g := rng p 1
    g.off + (o.kept 1).getD (pos / g.b) 0 * g.stride + pos % g.b
  else (rng p j).at pos

/-! ### Status (R132) -/

/-- Order of the statuses. -/
def statusRank (st : Nat) : Nat :=
  if st = stABORTED then 0 else if st = stMEDIA_FAIL then 1 else if st = stFENCED then 2 else if st = stPOISON then 3
  else if st = stMISCOMPARE then 4 else 5

/-- The earlier of two statuses in that order. -/
def worseStatus (a b : Nat) : Nat := if statusRank b < statusRank a then b else a

/-- What an operation met on this chip. -/
def Wop.ownStatus (o : Wop) : Nat :=
  if o.mismatch then stABORTED else if o.media then stMEDIA_FAIL else if o.poison then stPOISON
  else if o.miss then stMISCOMPARE else stOK

/-- What a child brings. -/
def Kid.st (k : Kid) : Nat := if k.lost then stABORTED else if k.fenced then stFENCED else bits k.word 15 8

/-- Status of the whole tree as seen here (R123, R170, R171). -/
def Wop.treeStatus (o : Wop) : Nat :=
  match o.tree with
  | none => o.ownStatus
  | some t => t.kids.foldl (fun a k => worseStatus a k.st) o.ownStatus

/-- Members whose data is in the result. -/
def Wop.members (o : Wop) : Nat :=
  (if o.mismatch then 0 else 1) + (match o.tree with
    | some t => ((t.kids.filter fun k => k.done).map fun k => bits k.word 4 0).sum
    | none => 0)

/-! ### Trees (R121, R122, R166 to R169) -/

/-- Child members of a group's tree. -/
def State.treeKids (s : State) (g : Nat) : List Nat :=
  let v := s.word (Reg.RTB_MC_TREE.OFF g + 4) + s.word (Reg.RTB_MC_TREE.OFF g + 8) * 2 ^ 32
    + s.word (Reg.RTB_MC_TREE.OFF g + 12) * 2 ^ 64
  (List.range (min 8 (s.f (Reg.RTB_MC_TREE.NCHILD g)))).map fun i => bits v (12 * i + 11) (12 * i)

/-- The group's tree has this chip as root and at most 8 children here. -/
def State.treeRoot (s : State) (g : Nat) : Bool :=
  s.flag (Reg.RTB_MC_TREE.VALID g) && s.f (Reg.RTB_MC_TREE.PARENT_NODE g) == 0xFFF && decide (s.f (Reg.RTB_MC_TREE.NCHILD g) ≤ 8)

/-- This chip's parent in a group's tree. -/
def State.treeParent (s : State) (g : Nat) : Option Nat :=
  if s.flag (Reg.RTB_MC_TREE.VALID g) && s.f (Reg.RTB_MC_TREE.PARENT_NODE g) != 0xFFF then
    some (s.f (Reg.RTB_MC_TREE.PARENT_NODE g)) else none

/-- A malformed ATTEND as this chip sees it (R151): the pair ID is current while PAIR_VALID is 1, and on a STANDBY in dual-answer mode. -/
def State.attendMalformed (s : State) (p : Packet) : Bool :=
  p.opw != 0 || attendBad p
  || !((s.hasId && atRoot p == s.ownId)
      || (atRoot p == s.f Reg.RTB_NODE.PAIR_ID && (s.flag Reg.RTB_NODE.PAIR_VALID
        || (s.flag Reg.HPS_STAT.DUAL_ON && s.f Reg.HPS_STAT.STATE == 4))))
  || (atSpan p && (!s.treeRoot (atGroup p) || decide (16 < s.f (Reg.RTB_MC_TREE.MEMBERS (atGroup p)))))

/-- A malformed ward or attention request (R96, R121, R146, R151). -/
def State.wardReqMalformed (s : State) (p : Packet) : Bool :=
  if p.opcode = 0x20 then appendMalformed p (s.kvSpan p)
  else if p.opcode = 0x21 then s.attendMalformed p
  else wardMalformed p || (p.opcode == 0x23 && !s.treeRoot (bits (wParam p) 7 0))

/-- Address word of COL_REDUCE packets between members (log entry 15). -/
def colName (t : Tree) : Nat := t.reqTag + t.reqNode * 2 ^ 16 + t.root * 2 ^ 28

/-- Send a COL packet of an operation to a member. -/
def State.sendCol (s : State) (q : Packet) (dst addr op : Nat) (payload : List Byte) : State :=
  let v := s.pickInter dst
  let f : Form := {
    dest := dst, src := s.ownId, inter := v.1, vc := 4 + v.2.1, phase := v.2.1, cls := q.cls
    opcode := if q.opcode = 0x23 then 0x23 else 0x22
    tag := q.tagOf, high := q.ctx + q.sub * 2 ^ 8, addr := addr, op := op, payload := payload }
  v.2.2.inject f.packet (some q.sub)

/-- Send a child the descriptor or DESCEND. -/
def State.sendDown (s : State) (q : Packet) (t : Tree) (dst : Nat) : State :=
  if q.opcode = 0x23 then s.sendCol q dst (colName t) q.opw q.payload
  else s.sendCol q dst 0 (mgWord 0 t.group t.root t.reqNode t.reqTag 0) q.payload

/-- Tell the children of an operation's tree, once (R122, R166). -/
def State.treeStart (s : State) (id : Nat) : State :=
  match s.wop id, s.wopPkt id with
  | some o, some r => match o.tree with
    | some t =>
      if t.started ∨ o.wait ∨ o.ending.isSome then s
      else
        let kids := s.treeKids t.group
        let s1 := kids.foldl (fun acc k => acc.sendDown r.pkt t k) s
        s1.modWop id fun y => { y with
          tree := some { t with started := true, kids := kids.map fun k => Kid.mk k [] 0 false false (s.fenced k) } }
    | none => s
  | _, _ => s

/-- Send a parent the partial of an ATTEND: whole records, some to a packet (R168). -/
def State.sendPartial (s : State) (q : Packet) (t : Tree) (dst : Nat) (word : Nat) (recs : List Partial) : State :=
  let n := recsPer (gD q)
  (List.range ((recs.length + n - 1) / n)).foldl (fun acc i =>
    acc.sendCol q dst word (mgWord 1 t.group t.root t.reqNode t.reqTag (n * i))
      (((recs.drop (n * i)).take n).flatMap (recordBytes false))) s

/-- Send a parent the partial of a COL_REDUCE: 1,024 elements to a packet (R122). Where some of them depend on poison, a second packet
carries a bit for each and the first poisoned source sector met (position, offset), for R131 and R132 (log entry 15). -/
def State.sendElems (s : State) (q : Packet) (t : Tree) (dst members st : Nat) (vals bads : List Nat) (first : Option (Nat × Nat × Nat)) : State :=
  let n := max 1 ((vals.length + 1023) / 1024)
  (List.range n).foldl (fun acc i =>
    let b := (bads.drop (1024 * i)).take 1024
    let bad := b.any (· != 0)
    let addr := colName t + st * 2 ^ 40 + members * 2 ^ 48 + b2n bad * 2 ^ 53
    let s1 := acc.sendCol q dst addr i (((vals.drop (1024 * i)).take 1024).flatMap (leBytes 4))
    let z := first.getD (0, 0, 0)
    if bad then s1.sendCol q dst addr (i + 2 ^ 32)
      (leBytes 128 ((b.zipIdx.map fun e => if e.1 = 0 then 0 else 2 ^ e.2).sum) ++ leBytes 8 z.2.1 ++ leBytes 8 z.2.2) else s1) s

/-! ### Finishing -/

/-- Forget an operation: its chunks wait for nothing. -/
def State.dropWop (s : State) (id : Nat) : State :=
  match s.wop id with
  | none => s
  | some o =>
    let s1 := o.live.foldl (fun acc c => (acc.dropWaiter (.chunk id c.idx)).cohDone (.chunk id c.idx)) s
    { s1 with
      wrd := { s1.wrd with ops := s1.wrd.ops.filter fun x => x.id != id }
      dir := { s1.dir with pend := s1.dir.pend.filter fun x => match x.who with
        | some (.chunk i _) => i != id
        | _ => true }
      lch := { s1.lch with parks := s1.lch.parks.filter fun x => !(x.ward && x.r.id == id) } }

/-- DONE_LATCH (R125, R178, R179, R189). -/
def State.signalDone (s : State) (r : Req) (st : Nat) : State :=
  let p := r.pkt
  let w := latchWord p
  let l := lwDone w
  if lwDoneEn w && (st == stOK || st == stMISCOMPARE || st == stPOISON) then
    if s.latchMay p.sub l (bit r.shr 1) then ((s.latchAdd p l 1).1).examine l else s.latchViolation p l
  else s

/-- Response operation word of a data operation (R131). DESIGN CHOICE: OFFSET stays given where the status is ABORTED or MEDIA_FAIL and
poison or a mismatch was met (log entry 88). -/
def wardWord (o : Wop) (count : Nat) : Nat :=
  (match o.first with
   | some x => x.2.2 + 2 ^ 44
   | none => 0) + min count 65535 * 2 ^ 48

/-- Children's records of query q. -/
def kidRecord (d : Nat) (k : Kid) (q : Nat) : Option Partial :=
  if k.done then k.recs.findSome? fun e =>
    if e.1 ≤ q ∧ q < e.1 + e.2.length / (2 + d) then some ((e.2.drop ((q - e.1) * (2 + d))).take (2 + d)) else none
  else none

/-- Records of an ATTEND with its children's merged in (R164, R166). -/
def State.attendRecords (s : State) (p : Packet) (o : Wop) : State × List Partial :=
  let kids := match o.tree with
    | some t => t.kids
    | none => []
  (List.range (atQ p)).foldl (fun acc q =>
    let own := ownPartial acc.1 p o q
    let others := kids.filterMap fun k => kidRecord (gD p) k q
    if others.isEmpty then (own.1, acc.2 ++ [own.2])
    else let m := mergePartials own.1 (gD p) (own.2 :: others); (m.1, acc.2 ++ [m.2])) (s, [])

/-- Excluded tokens and mask over the subtree (R150, R167). -/
def Wop.exclTotal (o : Wop) : Nat :=
  o.excl.length + (match o.tree with
    | some t => ((t.kids.filter (·.done)).map fun k => bits k.word 31 16).sum
    | none => 0)
def Wop.exclMaskAll (o : Wop) (p : Packet) : Nat :=
  (match o.tree with
   | some t => (t.kids.filter (·.done)).foldl (fun m k => m ||| bits k.word 63 32) (exclMask p o)
   | none => exclMask p o)

/-- Answer an operation and free its slot; st is its status. An ATTEND whose tree lost a member still returns its records
(R171). -/
def State.finishWard (s0 : State) (id : Nat) (o : Wop) (r : Req) : State :=
  let p := r.pkt
  let s := { s0 with hps := { s0.hps with touched := o.wrote.any fun w => s0.mirrored w.1 } }
  let st := o.ending.getD o.treeStatus
  let s1 := if st = stABORTED then
      (((s.scramble p.sub p.src (s.destExtents o p)).bump Reg.WRD_ABORT_CNT.OFF).evt Pg.WRD 2) else s.bump Reg.WRD_OPS_CNT.OFF
  let s2 := s1.signalDone r st
  let ended := o.ending.isSome || o.mismatch && o.tree.isNone
  if p.opcode = 0x21 then
    let z := if ended then (s2, []) else s2.attendRecords p o
    let s3 := if ended then z.1 else z.1.bump Reg.WRD_ATT_CNT.OFF
    (s3.dropWop id).finish r.id st 0
      (if ended then 0 else o.exclMaskAll p + min o.exclTotal 65535 * 2 ^ 32 + o.members * 2 ^ 48)
      (z.2.flatMap (recordBytes (atBf16 p)))
  else if p.opcode = 0x20 then
    let s3 := if ended then s2 else s2.bump Reg.WRD_APPEND_CNT.OFF
    (s3.dropWop id).finish r.id st 0 (wardWord o 0) []
  else if p.opcode = 0x14 then
    let z := if ended then (s2, if wToResp p then zeros (wNbag p * (rng p 0).b) else []) else s2.gatherPayload o p
    (z.1.dropWop id).finish r.id st 0 (wardWord o o.eaten.length) z.2
  else (s2.dropWop id).finish r.id st 0 (wardWord o (if p.opcode = 0x23 then o.members else o.eaten.length)) []

/-- A member's part of a tree ends: its request leaves without an answer. -/
def State.endMember (s : State) (id : Nat) (r : Req) : State := (s.dropWop id).forget r.id

/-! ### COL_REDUCE elements -/

/-- Elements of a COL_REDUCE on this chip, in order, with their conditions. -/
def colOwn (o : Wop) (p : Packet) : List Nat × List Nat :=
  if o.mismatch then ([], [])
  else ((List.range (blockChunks p)).flatMap fun k => o.kept k, (List.range (blockChunks p)).flatMap fun k => o.kept (2 ^ 31 + k))

/-- A child's element and whether it depends on poison: its packet says whether some do, and a second one then which. -/
def kidElem (k : Kid) (e : Nat) : Option (Nat × Nat) :=
  if k.done && bits k.word 4 0 != 0 then
    (k.recs.find? fun x => x.1 == e / 1024).map fun x =>
      (x.2.getD (1 + e % 1024) 0, match k.recs.find? fun y => y.1 == 2 ^ 32 + e / 1024 with
        | some y => if x.2.getD 0 0 = 0 then 0 else b2n (bit (y.2.getD 0 0) (e % 1024))
        | none => 0)
  else none

/-- The first poisoned source sector of a COL_REDUCE in traversal order, of this chip and its children (R131). -/
def colFirst (o : Wop) (t : Tree) : Option (Nat × Nat × Nat) :=
  (t.kids.filter (·.done)).foldl (fun a k => (k.recs.filter fun x => decide (2 ^ 32 ≤ x.1)).foldl (fun b x =>
    earlier b (1, x.2.getD 1 0, x.2.getD 2 0)) a) o.first

/-- The value that leaves a reduction unchanged: -0, +infinity, -infinity. -/
def neutral (f : Nat) : Nat := if f = 0 then 2 ^ 31 else if f = 1 then 0x7F800000 else f32NegInf

/-- Reduce this chip's elements with its children's (R122). An element of which this chip holds no byte, or not all, in its own stripes is
left to the other members (R40, log entry 88); one that nobody holds is the neutral value. -/
def State.colMerge (s : State) (p : Packet) (o : Wop) (t : Tree) : State × List Nat × List Nat :=
  let own := colOwn o p
  (List.range (wRows p * wRowLen p)).foldl (fun acc e =>
    let ks := t.kids.filterMap fun k => kidElem k e
    let cond := own.2.getD e 0
    let terms := (match own.1[e]? with
      | some v => if cond = 4 then [] else [v]
      | none => []) ++ ks.map (·.1)
    let z := if terms.isEmpty then (acc.1, neutral (wFunc p)) else reduceTerms acc.1 (wFunc p) terms
    (z.1, acc.2.1 ++ [z.2], acc.2.2 ++ [ks.foldl (fun a k => max a k.2) (if cond = 4 then 0 else cond)])) (s, [], [])

/-- A chunk of a COL_REDUCE: its own elements, or at the root the destination. -/
def State.effCol (s : State) (id : Nat) (r : Req) (o : Wop) (c : Chunk) : State :=
  let p := r.pkt
  let n := if o.mismatch then 0 else blockChunks p
  let w := rowBlocks (wRowLen p)
  if c.idx < n then
    let z := s.readSegs id r c.segs
    let sp := blockSpan p c.idx
    let bl := (upTo sp.1 sp.2).map fun b => readBlock z.2 p 1 (b / w) (b % w)
    (z.1.stage p.ctx (4 * (bl.map fun b => b.1.length).sum)).modWop id fun y => { y with
      acc := y.acc ++ [(c.idx, bl.flatMap (·.1)), (2 ^ 31 + c.idx, bl.flatMap (·.2))] }
  else
    let sp := blockSpan p (c.idx - n)
    let out := (upTo sp.1 sp.2).flatMap fun b =>
      let e := b / w * wRowLen p + 32 * (b % w)
      let m := min 32 (wRowLen p - 32 * (b % w))
      writeBlock p (b / w) (b % w) (((o.kept colKey).drop e).take m) (((o.kept (colKey + 1)).drop e).take m)
    s.putSegs id r c.segs (overVal p [] fun j pos => fetchSB out j pos) State.writeSector

/-! ### Progress -/

/-- A tree operation whose own chunks are done and whose children have all reported (R122, R123, R166, R171). -/
def State.treeAdvance (s : State) (id : Nat) (o : Wop) (r : Req) (t : Tree) : State :=
  let p := r.pkt
  if !t.started || t.kids.any fun k => !(k.done || k.lost || k.fenced) then s
  else if p.opcode = 0x23 then
    let lost := t.kids.any fun k => k.lost || (k.done && bits k.word 15 8 == stABORTED)
    match t.parent with
    | none =>
      if o.colReady then s.finishWard id o r
      else if lost then (s.modWop id fun y => { y with ending := some stABORTED }).finishWard id { o with ending := some stABORTED } r
      else
        let z := s.colMerge p o t
        z.1.modWop id fun y => { y with acc := y.acc ++ [(colKey, z.2.1), (colKey + 1, z.2.2)], first := colFirst y t }
    | some up =>
      if t.kids.any fun k => k.lost then s.endMember id r
      else
        let st := o.treeStatus
        let z := s.colMerge p o t
        (if st = stABORTED then z.1.sendElems p t up o.members st [] [] none
         else z.1.sendElems p t up o.members st z.2.1 z.2.2 (colFirst o t)).endMember id r
  else match t.parent with
    | none => s.finishWard id o r
    | some up =>
      let z := s.attendRecords p o
      ((z.1.sendPartial p t up (outcomeWord o.members o.treeStatus o.exclTotal (o.exclMaskAll p)) z.2).bump
        Reg.WRD_ATT_CNT.OFF).endMember id r

/-- An operation goes on: it ends once its issued chunks and sent remote WRITEs have ended (R112), or its last chunk and remote WRITE. -/
def State.wardAdvance (s : State) (id : Nat) : State :=
  match s.wop id, s.wopPkt id with
  | some o, some r =>
    if o.wait then s
    else if o.ending.isSome then
      (if o.live.any (·.onEngine) || !o.remote.isEmpty then s
       else match o.tree with
        | some t => if t.parent.isSome then s.endMember id r else s.finishWard id o r
        | none => s.finishWard id o r)
    else if !((List.range (wardCount o r.pkt)).all fun k => o.done.contains k) || !o.remote.isEmpty then s
    else match o.tree with
      | some t => s.treeAdvance id o r t
      | none => s.finishWard id o r
  | _, _ => s

/-- End an operation ABORTED at its next chunk boundary: chunks not issued and remote WRITEs not sent are dropped (R111, R127). -/
def State.abortWop (s : State) (id : Nat) : State :=
  match s.wop id with
  | none => s
  | some o =>
    let s1 := (o.live.filter fun c => !c.onEngine).foldl (fun acc c =>
      (acc.dropWaiter (.chunk id c.idx)).cohDone (.chunk id c.idx)) s
    let s2 := s1.modWop id fun y => { y with
      wait := false, ending := some stABORTED, live := y.live.filter (·.onEngine), remote := y.remote.filter fun w => w.st == 1 }
    ({ s2 with lch := { s2.lch with parks := s2.lch.parks.filter fun x => !(x.ward && x.r.id == id) } }).wardAdvance id

/-- Start and go on with every operation that can. -/
def State.wardSweep (s : State) : State :=
  s.wrd.ops.foldl (fun acc o => (acc.treeStart o.id).wardAdvance o.id) s

/-! ### Admission (R93, R124, R126, R145, R169) -/

/-- Bytes of the response payload of an operation's success (R126). -/
def wardRspLen (p : Packet) : Nat :=
  if p.opcode = 0x21 then atQ p * (8 + gD p * (if atBf16 p then 2 else 4))
  else if p.opcode = 0x14 ∧ wToResp p then wNbag p * (rng p 0).b
  else if p.opcode = 0x18 then atomBytes p
  else 0

/-- The context is valid and owned by the request's subscriber (R126). -/
def State.ctxOk (s : State) (p : Packet) : Bool :=
  s.flag (Reg.WRD_CTX.VALID p.ctx) && s.f (Reg.WRD_CTX.OWNER p.ctx) == p.sub

/-- Who a violation of a ward request is charged to. -/
def wardWho (p : Packet) (kw : Option Nat) (off : Nat) : Who := ⟨p.sub, some p.ctx, p.src, kw, off, false⟩

/-- Requests admitted to the dispatcher (R93): ward and attention operations, and ATOMICs, which hold their slot as requests. -/
def State.dispatched (s : State) : List Req := s.wrd.ops.filterMap (fun o => s.wopPkt o.id) ++ s.reqs.filter (·.slot)

/-- Admitted operations of a context. -/
def State.ctxOps (s : State) (c : Nat) : Nat := (s.dispatched.filter fun r => r.pkt.ctx == c).length

/-- The dispatcher's limits (R93): the hint of the RETRY that an operation of a context meets. -/
def State.slotHint (s : State) (c : Nat) : Option Nat :=
  if 1024 ≤ s.dispatched.length then some 0x14 else if 64 ≤ s.ctxOps c then some 0x0A else none

/-- A new operation. -/
def newWop (id : Nat) : Wop := ⟨id, false, [], [], [], [], none, false, false, false, [], false, [], [], [], [], 0, none, none, false, 0⟩

/-- Wait on WAIT_LATCH if the operation asks (R124, R179, R195). -/
def State.wardWait (s : State) (r : Req) : State :=
  let w := latchWord r.pkt
  let l := lwWait w
  if lwWaitEn w = false then s
  else if s.latchMay r.pkt.sub l (bit r.shr 0) = false then s.latchViolation r.pkt l
  else if lwThr w ≤ s.latch l then (if lwConsume w then s.setLatch l (s.latch l - lwThr w) else s)
  else
    let s1 := s.modWop r.id fun o => { o with wait := true }
    { s1 with lch := { s1.lch with parks := s1.lch.parks ++ [Park.mk true r l (lwThr w) (lwConsume w) 0 s1.time] } }

/-- The keyway of an ATTEND does not match its span (R169). -/
def State.spanMismatch (s : State) (p : Packet) : Bool :=
  let d := s.desc (kvKw p)
  if atSpan p then !(descValid d && descSpan d && descN1 d + 1 == atSpanN p) else descValid d && descSpan d

/-- Record a span mismatch. -/
def State.noteMismatch (s : State) (p : Packet) : State :=
  (s.evt Pg.WRD 7).fault { mkRec 3 0 0x0403 with
    sub := p.sub, ctx := p.ctx, ctxValid := true, node := p.src, kw := kvKw p, kwValid := true }

/-- Put an admitted operation in the dispatcher. -/
def State.wardPut (s : State) (r : Req) (tree : Option Tree) : State :=
  let p := r.pkt
  let att := p.opcode == 0x21 || p.opcode == 0x22
  let bad := att && s.spanMismatch p
  let s1 := if bad then s.noteMismatch p else s
  let o : Wop := { newWop r.id with
    tree := tree, mismatch := bad, since := s.time
    aux := if att && !bad then myBlocks p (s.desc (kvKw p)) else []
    ending := if bad && tree.isNone then some stABORTED else none }
  let s2 := { s1 with wrd := { s1.wrd with ops := s1.wrd.ops ++ [o] } }
  ((if bad && tree.isNone then s2 else s2.wardWait r).treeStart r.id).wardAdvance r.id

/-- Refuse a ward request as a violation: OK with zeros (R54, R126). -/
def State.wardRefuse (s : State) (r : Req) (c : Cause) (kw : Option Nat) (off : Nat) : State :=
  (s.violation c (wardWho r.pkt kw off)).finish r.id stOK 0 0 (zeros (wardRspLen r.pkt))

/-- The tree a root's request opens. -/
def State.rootTree (s : State) (p : Packet) : Option Tree :=
  if p.opcode = 0x23 then some ⟨s.ownId, p.src, p.tagOf, bits (wParam p) 7 0, none, [], false⟩
  else if p.opcode = 0x21 ∧ atSpan p then some ⟨atRoot p, p.src, p.tagOf, atGroup p, none, [], false⟩
  else none

/-- A ward or attention request at the dispatcher. -/
def State.runWard (s : State) (r : Req) : State :=
  let p := r.pkt
  if s.basic && !(p.opcode == 0x10 && !wTile p) then s.finish r.id stUNSUPPORTED 0 0 []
  else if !r.bnd || !s.ctxOk p then s.wardRefuse r .subscriber none 0
  else match s.slotHint p.ctx with
    | some h => (s.bump Reg.WRD_RETRY_CNT.OFF).finishRetry r.id h
    | none =>
      let blk := kvBlock p (s.kvSpan p) (apFirst p / 16)
      if p.opcode = 0x20 ∧ s.kwLocal p.sub (kvKw p) blk = .inl .foreignStripe then
        s.wardRefuse r .foreignStripe (some (kvKw p)) blk
      else s.wardPut r (s.rootTree p)

/-! ### ATOMIC (R119, R120) -/

/-- The value an ATOMIC leaves (R119). -/
def atomNew (f n old a b : Nat) : Nat :=
  let w := 8 * n
  let sg (x : Nat) : Int := signed w x
  if f = 0 then (old + a) % 2 ^ w
  else if f = 1 then old &&& a
  else if f = 2 then old ||| a
  else if f = 3 then old ^^^ a
  else if f = 4 then (if sg a < sg old then a else old)
  else if f = 5 then (if sg old < sg a then a else old)
  else if f = 6 then min old a
  else if f = 7 then max old a
  else if f = 8 then a
  else if f = 9 then (if old = a then b else old)
  else if f = 10 then f32Add old a
  else
    let half (x y : Nat) : Nat := outElem 1 (f32Add (x * 65536) (y * 65536))
    half (old % 65536) (a % 65536) + 65536 * half (old / 65536) (a / 65536)

/-- An ATOMIC whose target reads as poison (R131, R133). -/
def State.atomPoison (s : State) (r : Req) : State :=
  let p := r.pkt
  let s1 := (s.bump Reg.WRD_POISON_CNT.OFF).fault { mkRec 3 1 0x0306 with
    addr := p.offset / 64 * 64, kw := p.keyway, kwValid := true, sub := p.sub, ctx := p.ctx, ctxValid := true, node := p.src }
  s1.finish r.id stPOISON 0 (p.offset / 64 * 64 + 2 ^ 44 + 2 ^ 48) (zeros (atomBytes p))

/-- Apply an ATOMIC to its target (R119, R120): one chunk on the engine that owns its sector, which is not time-shared. A poisoned target
answers POISON with zeros and stays. -/
def State.atomApply (s : State) (r : Req) (ppa : Nat) : State :=
  let p := r.pkt
  let n := atomBytes p
  let e := s.engineAt ppa
  let s1 := ((s.takeWard 128).setEngine e { s.engine e with last := p.ctx }).bump Reg.WRD_CHUNK_CNT.OFF
  let s2 := (s1.bump (Reg.WE_CHUNK_CNT.OFF + 0x1000 * e)).bump Reg.WRD_OPS_CNT.OFF
  let d := s2.readRange ppa n p.sub p.src
  if d.2.2 ≠ 0 then d.1.atomPoison r
  else
    let old := leNat d.2.1
    let new := leBytes n (atomNew (wFunc p) n old (leNat (slice p.payload 0 n)) (leNat (slice p.payload n n)))
    let w := d.1.writeRange ppa n p.sub p.src fun i => new[i]?
    w.1.finish r.id stOK 0 0 d.2.1

/-- An admitted ATOMIC goes on. Its chunk is held like any other (R130, R367); what it is charged is taken when it issues. -/
def State.atomGo (s : State) (r : Req) : State :=
  let p := r.pkt
  let n := atomBytes p
  s.reach r ⟨true, true, true⟩ n (fun ppa => rangePuts ppa n)
    (fun u => u.finish r.id stOK 0 0 (zeros n))
    (fun u => u.atomPoison r)
    fun u ppa =>
      let hold (v : State) : State := { v with wrd := { v.wrd with heldAtoms := v.wrd.heldAtoms ++ [r.id] } }
      if u.inDeficit p.sub 3 then (hold u).bump Reg.TSH_WARD_HOLD_CNT.OFF
      else if u.wardAllowed = false then (hold u).holdWard 128
      else u.atomApply r ppa

/-- ATOMIC (R92, R93, R119): admitted to a dispatcher slot, which it holds until it is answered. -/
def State.runAtomic (s : State) (r : Req) : State :=
  let p := r.pkt
  if r.slot then s.atomGo r
  else if s.basic then s.finish r.id stUNSUPPORTED 0 0 []
  else if !r.bnd || !s.ctxOk p then s.wardRefuse r .subscriber none 0
  else match s.slotHint p.ctx with
    | some h => (s.bump Reg.WRD_RETRY_CNT.OFF).finishRetry r.id h
    | none => (s.modReq r.id fun q => { q with slot := true }).atomGo { r with slot := true }

/-- Held ATOMICs whose subscriber and planner now allow their chunk go on. -/
def State.atomsWake (s : State) : State :=
  let may (id : Nat) : Bool := !((s.req? id).any fun r => s.wardHeld r.pkt.sub)
  if s.wrd.heldAtoms.any may then
    { s with
      wrd := { s.wrd with heldAtoms := s.wrd.heldAtoms.filter fun id => !may id }
      ktu := { s.ktu with wakes := s.ktu.wakes ++ (s.wrd.heldAtoms.filter may).map fun id => (Waiter.req id, Wake.again) } }
  else s

/-- End an admitted ATOMIC that has not run ABORTED: it waits for nothing, its target is undefined (R127, R132). -/
def State.atomAbort (s : State) (r : Req) : State :=
  let s1 := (s.dropWaiter (.req r.id)).cohDone (.req r.id)
  let s2 := { s1 with
    wrd := { s1.wrd with heldAtoms := s1.wrd.heldAtoms.filter fun i => i != r.id }
    sc := { s1.sc with parked := s1.sc.parked.filter fun i => i != r.id, held := s1.sc.held.filter fun h => h.id != r.id }
    dir := { s1.dir with pend := s1.dir.pend.filter fun x => x.who != some (Waiter.req r.id) } }
  let s3 := match r.ppa with
    | some a => s2.scramble r.pkt.sub r.pkt.src [(a, atomBytes r.pkt)]
    | none => s2
  ((s3.bump Reg.WRD_ABORT_CNT.OFF).evt Pg.WRD 2).finish r.id stABORTED 0 0 []

/-! ### Issue and completion of chunks -/

/-- A chunk that gave its engine up takes one again (R227). -/
def State.chunkBack (s : State) (id k n c : Nat) : State :=
  (s.engineTake n c).modChunk id k fun y => { y with engine := n, since := s.time, away := none }

/-- The dispatcher issues a chunk to an engine: held by the shaper or the planner, else translated, and issued once its translation
is complete (R68, R90, R130, R367). -/
def State.chunkIssue (s : State) (id k n : Nat) : State :=
  match s.wop id, s.wopPkt id with
  | some o, some r =>
    if o.wait || o.ending.isSome || o.done.contains k || !wardMay o r.pkt k || !s.engineFree n then s
    else
      let pieces := s.wardPieces o r.pkt k
      let go (u : State) : State := match u.wop id with
        | some o1 => match o1.chunk k with
          | some c =>
            if c.run then (if c.away = some true then u.chunkBack id k n r.pkt.ctx else u)
            else if c.todo.isEmpty && c.stopped.isNone then u.chunkRun id k n r c (u.wardAt o1 r.pkt) (wardKw r.pkt) else u
          | none => u
        | none => u
      let hold (u : State) : State := u.setEngine n { u.engine n with held := true }
      if s.inDeficit r.pkt.sub 3 then (hold s).bump Reg.TSH_WARD_HOLD_CNT.OFF
      else if s.wardAllowed = false then (hold s).holdWard ((pieces.map fun x => x.len).sum)
      else if s.engineTakes n r.pkt.ctx = false then s
      else match o.chunk k with
        | some _ => go s
        | none =>
          go ((s.modWop id fun y => { y with live := y.live ++ [Chunk.mk k n false [] pieces none none 0 [] none] }).chunkGo id k)
  | _, _ => s

/-- What a finished chunk does with its bytes. -/
def State.chunkEffect (s : State) (id : Nat) (o : Wop) (r : Req) (c : Chunk) : State :=
  let op := r.pkt.opcode
  if op = 0x10 then s.effFill id r c
  else if op = 0x11 then s.effCopy id r c
  else if op = 0x12 then s.effCompare id r c
  else if op = 0x13 then s.effReduce id r c
  else if op = 0x14 then s.effGather id r o c
  else if op = 0x15 then s.effRemote id r c
  else if op = 0x20 then s.effAppend id r c
  else if op = 0x23 then s.effCol id r o c
  else s.effAttend id r c o.aux

/-- Coherent lines a chunk reads and writes are brought current first (R227). -/
def State.chunkLines (s : State) (id : Nat) (c : Chunk) : State × Bool :=
  if s.cohShut then (s, true)
  else c.segs.foldl (fun acc t =>
    let z := acc.1.cohAccess (.chunk id c.idx) false t.write none t.lines
    (z.1, acc.2 && z.2)) (s, true)

/-- A chunk's memory can be used now: no granule locked, no channel quiesced, no back-pressure (R244, R277, R410). -/
def State.chunkHeld (s : State) (c : Chunk) : Bool :=
  c.segs.any fun t => match t.ppa with
    | some p => (t.lines.any fun a => s.memHeld a 64) || s.bpHolds p t.write
    | none => false

/-- A chunk finishes: nothing happens while its memory is held or its lines are snooped. -/
def State.chunkComplete (s : State) (id k : Nat) : State :=
  match s.wop id, s.wopPkt id with
  | some o, some r => match o.chunk k with
    | some c =>
      if c.run = false ∨ c.away.isSome ∨ s.chunkHeld c then s
      else
        let z := s.chunkLines id c
        if z.2 = false then z.1
        else
          let s1 := (z.1.cohDone (.chunk id k)).chunkEffect id o r c
          let s2 := s1.modWop id fun y => { y with live := y.live.filter fun x => x.idx != k, done := y.done ++ [k] }
          (s2.addCnt (Reg.WE_BUSY_NS.OFF + 0x1000 * c.engine) (s2.time - c.since)).wardAdvance id
    | none => s
  | _, _ => s

/-- A stopped chunk is translated again from its start (R68). -/
def State.chunkRetry (s : State) (id k : Nat) : State :=
  match s.wop id, s.wopPkt id with
  | some o, some r => match o.chunk k with
    | some c =>
      if c.stopped.isNone then s
      else (s.modChunk id k fun y => { y with
        stopped := none, segs := [], xl := [], todo := s.wardPieces o r.pkt k }).chunkGo id k
    | none => s
  | _, _ => s

/-- 10 ms of translations that kept failing end the operation (R68). -/
def State.chunkAbort (s : State) (id k : Nat) : State :=
  match (s.wop id).bind fun o => o.chunk k with
  | some c => if c.failing.isSome then s.abortWop id else s
  | none => s

end Sys2Proof.Machine
end

