-- ==== Sys2Proof/Machine/WardTree.lean ====
section
/-! DEFINITION. What arrives for running ward operations: answers to remote WRITEs (R111), descriptors and partials of COL_REDUCE
(R122, R123), ATTEND_MERGE packets (R167 to R172); their timers; engines (R128, R136); writes of WRD_CTX_n (R127). -/

namespace Sys2Proof.Machine

open Sys2Proof

/-! ### Remote WRITEs -/

/-- A remote WRITE leaves the list of its operation. -/
def State.remoteDrop (s : State) (id : Nat) (w : RemoteW) : State :=
  s.modWop id fun o => { o with remote := o.remote.filter fun x => x.idx != w.idx }

/-- A COPY_REMOTE ends under R111 over one of its WRITEs; its answer waits for those sent before (R112). -/
def State.remoteFail (s : State) (id : Nat) (r : Req) (w : RemoteW) : State :=
  ((((s.bump Reg.WRD_REMOTE_FAIL_CNT.OFF).evt Pg.WRD 3).fault { mkRec 3 2 0x0303 with
    sub := r.pkt.sub, ctx := r.pkt.ctx, ctxValid := true, node := r.pkt.src }).remoteDrop id w).abortWop id

/-- A remote WRITE is answered: it leaves the list. -/
def State.remoteDone (s : State) (id : Nat) (w : RemoteW) (g : Wop → Wop) : State :=
  (((s.remoteDrop id w).modWop id g).remotePump id 64).wardAdvance id

/-- The operation and remote WRITE a response belongs to. -/
def State.remoteOf (s : State) (p : Packet) : Option (Nat × Req × RemoteW) :=
  s.wrd.ops.findSome? fun o => match s.wopPkt o.id with
    | some r =>
      if r.pkt.opcode = 0x15 ∧ bits (wParam r.pkt) 11 0 = p.src then
        (o.remote.find? fun w => w.st == 1 && w.tag == p.tagOf && w.seq == p.seq).map fun w => (o.id, r, w)
      else none
    | none => none

/-- A response to a remote WRITE (R111). Any status but OK, POISON, MEDIA_FAIL and RETRY ends the operation as a failure (log entry
16). One of an operation that is ending already is only waited for (R112). -/
def State.remoteRsp (s : State) (p : Packet) : State :=
  match s.remoteOf p with
  | none => s
  | some (id, r, w) =>
    let st := p.status
    if (s.wop id).any fun o => o.ending.isSome then s.remoteDone id w fun o => o
    else if st = stRETRY then
      if s.f Reg.WRD_CTRL.REMOTE_RETRIES ≤ w.tries then s.remoteFail id r w
      else s.modWop id fun o => { o with remote := mapIf (fun x => x.idx == w.idx) (fun x => { x with st := 2, tries := x.tries + 1 }) o.remote }
    else if st = stMEDIA_FAIL then s.remoteDone id w fun o => { o with media := true }
    else if st = stPOISON then s.remoteDone id w fun o => { o with poison := true }
    else if st = stOK then s.remoteDone id w fun o => o
    else s.remoteFail id r w

/-- A remote WRITE answered RETRY is sent again as a new request. -/
def State.remoteResend (s : State) (id idx : Nat) : State :=
  match s.wop id, s.wopPkt id with
  | some o, some r => match o.remote.find? fun w => w.idx == idx && w.st == 2 with
    | some w => if o.ending.isSome then s else s.remoteSend id r w
    | none => s
  | _, _ => s

/-- A remote WRITE is unanswered for 10 ms. -/
def State.remoteTimeout (s : State) (id idx : Nat) : State :=
  match s.wop id, s.wopPkt id with
  | some o, some r => match o.remote.find? fun w => w.idx == idx && w.st == 1 with
    | some w => if o.ending.isSome then s.remoteDone id w fun y => y else s.remoteFail id r w
    | none => s
  | _, _ => s

/-! ### Latch wait timeout (R124) -/

/-- A wait on WAIT_LATCH lasts WAIT_TMO. -/
def State.wardWaitTimeout (s : State) (id : Nat) : State :=
  match s.wop id, s.wopPkt id with
  | some o, some r =>
    if o.wait then
      ((s.evt Pg.WRD 5).fault { mkRec 3 0 0x0305 with
        addr := lwWait (latchWord r.pkt), sub := r.pkt.sub, ctx := r.pkt.ctx, ctxValid := true, node := r.pkt.src }).abortWop id
    else s
  | _, _ => s

/-! ### Members of a tree -/

/-- A request a COL packet makes on this chip. -/
def State.memberReq (s : State) (port : Nat) (p : Packet) : State × Req :=
  let r : Req := ⟨s.nextId, p, port, none, 0, false, true, false, none, [], false, s.boundNow p, s.shareBits p, none, false, false, 0, s.time⟩
  ({ s with nextId := s.nextId + 1, reqs := s.reqs ++ [r] }, r)

/-- Change a child of an operation's tree. -/
def State.modKid (s : State) (id n : Nat) (g : Kid → Kid) : State :=
  s.modWop id fun o => { o with tree := o.tree.map fun t => { t with kids := mapIf (fun k => k.node == n) g t.kids } }

/-- The open operation a name belongs to, on opcodes that a test accepts. -/
def State.treeOp (s : State) (t : Nat → Bool) (group root node tag : Nat) : Option (Wop × Req × Tree) :=
  s.wrd.ops.findSome? fun o => match s.wopPkt o.id, o.tree with
    | some r, some x =>
      if t r.pkt.opcode && x.group == group && x.root == root && x.reqNode == node && x.reqTag == tag then some (o, r, x) else none
    | _, _ => none

/-- A COL packet of another member that belongs to nothing here (log entry 15). -/
def State.mergeDrop (s : State) (p : Packet) : State :=
  (s.bump Reg.WRD_MERGE_DROP_CNT.OFF).fault { mkRec 3 0 0x0405 with
    sub := p.sub, ctx := p.ctx, ctxValid := true, node := p.src }

/-- A malformed packet of the ward unit (R96). -/
def State.wardBad (s : State) (p : Packet) : State :=
  (s.evt Pg.WRD 1).malformedAs p Reg.WRD_MALFORMED_CNT.OFF 3 0x0301

/-- A member that does not take part reports that to its parent: a partial of nothing, ABORTED (R172; DESIGN CHOICE for a COL_REDUCE, of which
the spec says nothing here, log entry 88). -/
def State.memberRefuse (s : State) (r : Req) (t : Tree) (up : Nat) : State :=
  (if r.pkt.opcode = 0x23 then s.sendElems r.pkt t up 0 stABORTED [] [] none
   else s.sendPartial r.pkt t up (outcomeWord 0 stABORTED 0 0) (List.replicate (atQ r.pkt) (emptyRecord (gD r.pkt)))).forget r.id

/-- A member takes a descriptor or DESCEND: subscriber and context are checked, then the dispatcher's limits (R122, R169, R172). -/
def State.memberTake (s : State) (port : Nat) (p : Packet) (t : Tree) (up : Nat) : State :=
  let a := s.memberReq port p
  let r := a.2
  let busy : State := (if p.opcode = 0x22 then a.1.fault { mkRec 3 0 0x0404 with
    sub := p.sub, ctx := p.ctx, ctxValid := true, node := p.src } else a.1).memberRefuse r t up
  if a.1.basic then busy
  else if !r.bnd || !a.1.ctxOk p then (a.1.violation .subscriber (wardWho p none 0)).memberRefuse r t up
  else if (a.1.slotHint p.ctx).isSome then busy
  else a.1.wardPut r (some t)

/-- A COL_REDUCE descriptor from the parent (R122). -/
def State.colDown (s : State) (port : Nat) (p : Packet) : State :=
  let g := bits (wParam p) 7 0
  if wardMalformed p then s.wardBad p
  else if s.treeParent g = some p.src then
    s.memberTake port p ⟨bits p.addr.toNat 39 28, bits p.addr.toNat 27 16, bits p.addr.toNat 15 0, g, some p.src, [], false⟩ p.src
  else s.mergeDrop p

/-- 32-bit numbers of a payload. -/
def payload32 (l : List Byte) : List Nat := (List.range (l.length / 4)).map fun i => leNat (slice l (4 * i) 4)

/-- The open COL_REDUCE that a partial of a child belongs to (R122). -/
def State.colOp (s : State) (p : Packet) : Option (Wop × Req) :=
  let a := p.addr.toNat
  s.wrd.ops.findSome? fun o => match s.wopPkt o.id, o.tree with
    | some r, some x => if r.pkt.opcode = 0x23 && x.root == bits a 39 28 && x.reqNode == bits a 27 16 && x.reqTag == bits a 15 0
        && x.kids.any (fun k => k.node == p.src && !k.done && !k.lost && !k.fenced) then some (o, r) else none
    | _, _ => none

/-- A partial of a COL_REDUCE whose form no member sends (log entry 15): elements, or the marks of elements, of one packet index. -/
def colBad (q p : Packet) : Bool :=
  let n := wRows q * wRowLen q
  let i := bits p.opw 31 0
  let none' := bits p.addr.toNat 47 40 == stABORTED && i == 0 && p.length == 0
  bits p.opw 63 33 != 0 || decide (p.addr.toNat / 2 ^ 54 ≠ 0)
  || !(none' || (decide (1024 * i < n) && p.length == (if bit p.opw 32 then 144 else 4 * min 1024 (n - 1024 * i))))

/-- What a packet of a COL_REDUCE partial gives: elements behind whether some depend on poison, or the marks with the first poisoned sector. -/
def colRec (p : Packet) : List Nat :=
  if bit p.opw 32 then [leNat (slice p.payload 0 128), leNat (slice p.payload 128 8), leNat (slice p.payload 136 8)]
  else bits p.addr.toNat 53 53 :: payload32 p.payload

/-- Every packet of a partial has come: the elements, and the marks where a packet of elements says there are some. -/
def colAll (total : Nat) (recs : List (Nat × List Nat)) : Bool :=
  (List.range total).all fun i => match recs.find? fun x => x.1 == i with
    | some x => x.2.getD 0 0 == 0 || recs.any fun y => y.1 == 2 ^ 32 + i
    | none => false

/-- FP32 partials of a COL_REDUCE from a child (R122). -/
def State.colUp (s : State) (p : Packet) : State :=
  match s.colOp p with
  | none => s.mergeDrop p
  | some (o, r) =>
    if colBad r.pkt p then s.wardBad p
    else
      let a := p.addr.toNat
      let total := (wRows r.pkt * wRowLen r.pkt + 1023) / 1024
      let st := bits a 47 40
      ((s.stage r.pkt.ctx p.length).modKid o.id p.src fun k =>
        let recs := (k.recs.filter fun x => x.1 != bits p.opw 32 0) ++ [(bits p.opw 32 0, colRec p)]
        { k with recs := recs, word := bits a 52 48 + st * 2 ^ 8, done := st == stABORTED || colAll total recs }).wardAdvance o.id

/-- A child of a COL_REDUCE is silent for COL_TMO (R123). -/
def State.colTimeout (s : State) (id child : Nat) : State :=
  match s.wop id, s.wopPkt id with
  | some o, some r => match o.tree with
    | some t =>
      if r.pkt.opcode = 0x23 ∧ t.kids.any (fun k => k.node == child && !k.done && !k.lost && !k.fenced) then
        (((s.evt Pg.WRD 4).fault { mkRec 3 2 0x0304 with
          sub := r.pkt.sub, ctx := r.pkt.ctx, ctxValid := true, node := child }).modKid id child fun k => { k with lost := true }).wardAdvance id
      else s
    | none => s
  | _, _ => s

/-- A DESCEND from the parent (R169, R172). -/
def State.mergeDown (s : State) (port : Nat) (p : Packet) : State :=
  if mgKind p ≠ 0 ∨ s.treeParent (mgGroup p) ≠ some p.src then s.mergeDrop p
  else if bits p.opw 7 2 != 0 || bits p.opw 63 61 != 0 || p.addr.toNat != 0 || mgFirst p != 0 || attendBad p then s.wardBad p
  else s.memberTake port p ⟨mgRoot p, mgNode p, mgTag p, mgGroup p, some p.src, [], false⟩ p.src

/-- A PARTIAL that breaks its reserved bits or does not carry whole records of the merge's request (R167, R168, R330). -/
def partialBad (q p : Packet) : Bool :=
  let w := 8 + 4 * gD q
  bits p.opw 7 2 != 0 || bits p.opw 63 61 != 0 || bits p.addr.toNat 7 5 != 0 || p.length == 0 || p.length % w != 0
  || decide (atQ q < mgFirst p + p.length / w)

/-- Every record of a partial has come (R168). -/
def partialAll (n w : Nat) (recs : List (Nat × List Nat)) : Bool :=
  (List.range n).all fun i => recs.any fun x => decide (x.1 ≤ i) && decide (i < x.1 + x.2.length / w)

/-- A PARTIAL from a child (R168, R172): merged once every record of it has come. -/
def State.mergeUp (s : State) (p : Packet) : State :=
  match s.treeOp (fun o => o == 0x21 || o == 0x22) (mgGroup p) (mgRoot p) (mgNode p) (mgTag p) with
  | none => s.mergeDrop p
  | some (o, r, t) =>
    if mgKind p ≠ 1 ∨ ¬ t.kids.any (fun k => k.node == p.src && !k.done && !k.lost && !k.fenced) then s.mergeDrop p
    else if partialBad r.pkt p then s.wardBad p
    else
      ((s.stage r.pkt.ctx p.length).modKid o.id p.src fun k =>
        let recs := (k.recs.filter fun x => x.1 != mgFirst p) ++ [(mgFirst p, payload32 p.payload)]
        { k with recs := recs, word := p.addr.toNat, done := partialAll (atQ r.pkt) (2 + gD r.pkt) recs }).wardAdvance o.id

/-- A child of a merge is silent for COL_TMO (R171). -/
def State.mergeTimeout (s : State) (id child : Nat) : State :=
  match s.wop id, s.wopPkt id with
  | some o, some r => match o.tree with
    | some t =>
      if r.pkt.opcode ≠ 0x23 ∧ t.kids.any (fun k => k.node == child && !k.done && !k.lost && !k.fenced) then
        ((((s.bump Reg.WRD_MERGE_TMO_CNT.OFF).evt Pg.WRD 6).fault { mkRec 3 2 0x0402 with
          sub := r.pkt.sub, ctx := r.pkt.ctx, ctxValid := true, node := child }).modKid id child fun k => { k with lost := true }).wardAdvance id
      else s
    | none => s
  | _, _ => s

/-- A fenced node is treated as reported in every tree (R123, R171, R347). -/
def State.treeFence (s : State) (n : Nat) : State :=
  (s.wrd.ops.foldl (fun acc o => acc.modKid o.id n fun k => if k.done || k.lost then k else { k with fenced := true }) s).wardSweep

/-! ### Engines -/

/-- The chunk on an engine that waits on a snoop gives the engine up (R227). -/
def State.snoopYield (s : State) (n : Nat) : State :=
  (s.wrd.ops.flatMap fun o => (o.live.filter fun c => c.onEngine && c.engine == n && s.snoopWaits (.chunk o.id c.idx)).map fun c => (o.id, c)).foldl
    (fun (u : State) x => (u.addCnt (Reg.WE_BUSY_NS.OFF + 0x1000 * n) (s.time - x.2.since)).modChunk x.1 x.2.idx fun y => { y with away := some false }) s

/-- A context has held an engine for QUANTUM (R128): after its weight of quanta, while another context has chunks, the engine goes
to the next. A held context is charged no quantum (R130). A chunk that waits on a snoop gives the engine up (R227). -/
def State.quantumExpiry (s0 : State) (n : Nat) : State :=
  let s := s0.snoopYield n
  let e := s.engine n
  let held := e.held && s.heldCtxs.contains e.ctx
  if !held && s.readyCtxs.any fun c => c != e.ctx then
    (if max 1 (s.f (Reg.WRD_CTX.WEIGHT e.ctx)) ≤ e.quanta + 1 then s.setEngine n { e with quanta := e.quanta + 1, expired := true }
     else s.setEngine n { e with quanta := e.quanta + 1 })
  else s

/-- An engine leaves service on an internal error (R136). -/
def State.engineFault (s : State) (n : Nat) : State :=
  if n < s.part.engines then (s.setEngine n { s.engine n with out := true }).evt (Pg.WE n) 0 else s

/-! ### Contexts (R127) -/

/-- Record that a context's removal ends an operation (R127). -/
def State.noteAbort (s : State) (r : Req) : State :=
  s.fault { mkRec 3 0 0x0302 with sub := r.pkt.sub, ctx := r.pkt.ctx, ctxValid := true, node := r.pkt.src }

/-- End every admitted operation of a context (R127), ATOMICs too: counted and recorded with CTX_ABORT. -/
def State.ctxAbort (s : State) (c : Nat) : State :=
  let s1 := s.wrd.ops.foldl (fun acc o => match acc.wopPkt o.id with
    | some r => if r.pkt.ctx = c ∧ o.ending.isNone then (acc.noteAbort r).abortWop o.id else acc
    | none => acc) s
  (s1.reqs.filter fun r => r.slot && r.pkt.ctx == c).foldl (fun acc r => (acc.noteAbort r).atomAbort r) s1

/-- A write of WRD_CTX_n. DESIGN CHOICE: one that clears VALID of a valid context and changes its OWNER at once is accepted, since clearing
VALID is accepted at any time (log entry 88). -/
def State.ctxWrite (s : State) (a : Path) (n v : Nat) : State :=
  let old := s.word (Reg.WRD_CTX.OFF n)
  let new := bits v 5 0 + max 1 (bits v 15 8) * 2 ^ 8 + bits v 31 31 * 2 ^ 31
  if bit old 31 && bit new 31 && bits old 5 0 != bits new 5 0 then s.cfgReject a Pg.WRD 3 0x0308 (Reg.WRD_CTX.OFF n) none
  else
    let s1 := s.setWord (Reg.WRD_CTX.OFF n) new
    if bit old 31 && !bit new 31 then s1.ctxAbort n else s1

end Sys2Proof.Machine
end

