-- ==== Sys2Proof/Machine/Keeper.lean ====
section
/-! DEFINITION. The Keeper (R455 to R483): stream retirement, its commands, tokens, SPDM, the random source. Keeper commands end
within the step that starts them, so KPR_CMD_STAT.BUSY is never seen (log entry 25). -/

namespace Sys2Proof.Machine

/-! ### Retiring streams (R474) -/

/-- Retire the stream of a context: its keys are gone, its operations end ABORTED at their next chunk boundary. -/
def State.streamRetire (s : State) (c : Nat) : State :=
  if s.kpr.streams.any fun t => t.ctx == c then
    ({ s with kpr := { s.kpr with
        streams := s.kpr.streams.filter fun t => t.ctx != c
        retiring := c :: s.kpr.retiring.filter fun x => x != c } }).ctxAbort c
  else s

/-- Retire every stream a test names. -/
def State.streamsRetire (s : State) (t : Stream → Bool) : State :=
  ((s.kpr.streams.filter t).map (·.ctx)).foldl (fun (u : State) c => u.streamRetire c) s

/-- A retirement completes once no operation of its context is left. -/
def State.streamRetireDone (s : State) (c : Nat) : State :=
  if s.kpr.retiring.contains c && s.ctxOps c == 0 then
    ({ s with kpr := { s.kpr with retiring := s.kpr.retiring.filter fun x => x != c } }).setFlag (Reg.KPR_STRM_STAT.ACTIVE c) false
  else s

/-! ### Commands (R482) -/

/-- The 256-byte command buffer. -/
def State.kprBuf (s : State) : List Byte := (List.range 64).flatMap fun i => leBytes 4 (s.word (Reg.KPR_BUF.OFF i))

/-- A Keeper command ends: the buffer is cleared, DONE and RESULT show, CMD_DONE is set. -/
def State.kprEnd (s : State) (result : Nat) : State :=
  let s1 := (List.range 64).foldl (fun (u : State) i => u.setWord (Reg.KPR_BUF.OFF i) 0) s
  (((s1.setFlag Reg.KPR_CMD_STAT.BUSY false).setFlag Reg.KPR_CMD_STAT.DONE true).setF Reg.KPR_CMD_STAT.RESULT result).evt Pg.KPR 1

/-- A new random challenge (R480): a free value. -/
def State.newChallenge (s : State) : State :=
  let r := s.fresh (2 ^ 64)
  r.2.setWord64 Reg.KPR_CHALLENGE.OFF r.1

/-- The TEST_MODE strap as sampled at the last cold reset. -/
def State.testMode (s : State) : Bool := s.flag Reg.GLB_THERM.TEST_MODE

/-- Why a token is rejected, as RESULT: 1 a field, the device or the challenge, 2 the signature, 3 the strap; 0 it is accepted (R480,
log entry 26). -/
def State.tokenResult (s : State) (b : List Byte) : Nat :=
  let kind := (byteAt b 4).toNat
  let perms := (byteAt b 5).toNat
  if leNat (slice b 0 4) ≠ 0x4B545643 ∨ (kind ≠ 1 ∧ kind ≠ 2) ∨ (if kind = 1 then 4 ≤ perms else perms ≠ 0) ∨ byteAt b 7 ≠ 0
      ∨ slice b 32 16 ≠ zeros 16 ∨ slice b 8 16 ≠ slice (sha512 devicePublic) 0 16
      ∨ leNat (slice b 24 8) ≠ s.f Reg.KPR_CHALLENGE.NONCE then 1
  else if !s.slotSigned (byteAt b 6).toNat (slice b 0 48) (slice b 48 64) then 2
  else if (kind = 2 ∨ bit perms 1) ∧ !s.testMode then 3
  else 0

/-- Every SPDM session is closed (R462, R480). -/
def State.sessionsClose (s : State) : State := { s with kpr := { s.kpr with sessions := [], conns := [] } }

/-- What an accepted token does (R480). -/
def State.tokenAct (s : State) (b : List Byte) : State :=
  let perms := (byteAt b 5).toNat
  let s1 := if (byteAt b 4).toNat = 2 then
      (s.setFlag Reg.GLB_STAT.FACTORY true).fault (mkRec 136 0 0x0D05)
    else
      let u := s.setFlag Reg.DBG_STAT.LOCKED false
      let v := if bit perms 0 then (u.setFlag Reg.KPR_STAT.DEBUG_VORER true).setFlag Reg.DBG_STAT.VORER_UNLOCKED true else u
      if bit perms 1 then
        let w := (v.sessionsClose).streamsRetire fun _ => true
        let x := ((List.range 6).filter w.part.hasPort).foldl (fun (y : State) p => y.portDown p) w
        (x.setFlag Reg.KPR_STAT.DEBUG_KEEPER true).setFlag Reg.DBG_STAT.KEEPER_UNLOCKED true
      else v
  (s1.evt Pg.KPR 4).fault (mkRec 138 0 0x0E03)

/-- Validate a token (R480): every attempt takes a new challenge. Answers the RESULT. -/
def State.tokenTry (s : State) (b : List Byte) : State × Nat :=
  let r := s.tokenResult b
  let s1 := s.newChallenge
  if r = 0 then (s1.tokenAct b, 0)
  else (((s1.bump Reg.KPR_TOKEN_FAIL_CNT.OFF).evt Pg.KPR 5).fault (mkRec 138 0 0x0E02), r)

/-- VALIDATE_TOKEN. -/
def State.kprValidate (s : State) : State :=
  let r := s.tokenTry s.kprBuf
  r.1.kprEnd r.2

/-- Staging holds an image that is not committed (R465). -/
def State.stagingHeld (s : State) : Bool := decide (2 ≤ s.f Reg.GLB_FW_STAT.STATE)

/-- ADVANCE_SVN (R465). -/
def State.kprAdvance (s : State) : State :=
  if s.stagingHeld then s.kprEnd 4
  else
    ((s.setF Reg.KPR_SVN.KEEPER_FUSED (max (s.f Reg.KPR_SVN.KEEPER_FUSED) (s.f Reg.KPR_SVN.KEEPER_RUN))).setF
      Reg.KPR_SVN.MGMT_FUSED (max (s.f Reg.KPR_SVN.MGMT_FUSED) (s.f Reg.KPR_SVN.MGMT_RUN))).kprEnd 0

/-- REVOKE_SLOT (R464): the revocation in the buffer names a slot and is signed by the key of another unrevoked slot. -/
def State.kprRevoke (s : State) : State :=
  let revoked := s.f Reg.KPR_SLOTS.REVOKED
  match Config.revocation s.kprBuf with
  | none => s.kprEnd 2
  | some (slot, signer) =>
    if 4 ≤ slot ∨ 4 ≤ signer ∨ bit revoked signer then s.kprEnd 2
    else if slot = s.f Reg.KPR_SLOTS.RUN_SLOT ∨ signer = slot ∨ ((List.range 4).all fun i => i == slot || bit revoked i) then
      (s.fault (mkRec 138 0 0x0E07)).kprEnd 3
    else (s.setF Reg.KPR_SLOTS.REVOKED (putBit revoked slot true)).kprEnd 0

/-- STREAM_RETIRE. -/
def State.kprRetire (s : State) (arg : Nat) : State :=
  if 256 ≤ arg then s.kprEnd 1 else (s.streamRetire arg).kprEnd 0

/-- STREAM_RETIRE_SUB: every context of a subscriber. -/
def State.kprRetireSub (s : State) (arg : Nat) : State :=
  if 64 ≤ arg then s.kprEnd 1
  else (s.streamsRetire fun t => s.f (Reg.WRD_CTX.OWNER t.ctx) == arg).kprEnd 0

/-- ANCHOR_SET: the digest in the buffer, LINK and STREAM in ARG. -/
def State.kprAnchorSet (s : State) (arg : Nat) : State :=
  let a := arg % 256
  if 8 ≤ a then s.kprEnd 1
  else
    let s1 := { s with kpr := { s.kpr with
      anchors := (a, slice s.kprBuf 0 64) :: s.kpr.anchors.filter fun e => e.1 != a } }
    (((s1.setFlag (Reg.KPR_ANCHOR.VALID a) true).setFlag (Reg.KPR_ANCHOR.LINK a) (bit arg 8)).setFlag
      (Reg.KPR_ANCHOR.STREAM a) (bit arg 9)).kprEnd 0

/-- ANCHOR_CLEAR. -/
def State.kprAnchorClear (s : State) (arg : Nat) : State :=
  let a := arg % 256
  if 8 ≤ a then s.kprEnd 1
  else
    let s1 := { s with kpr := { s.kpr with anchors := s.kpr.anchors.filter fun e => e.1 != a } }
    (s1.setWord (Reg.KPR_ANCHOR.OFF a) 0).kprEnd 0

/-- NEW_CHALLENGE. -/
def State.kprChallenge (s : State) : State := s.newChallenge.kprEnd 0

/-- The R23 rejection of a KPR write. -/
def State.kprReject (s : State) (a : Path) (off : Nat) : State := s.cfgReject a Pg.KPR 138 0x0E01 off none

/-- A write of KPR_CMD. -/
def State.kprCmdWrite (s : State) (a : Path) (v : Nat) : State :=
  if !bit v 31 then s
  else if s.flag Reg.KPR_CMD_STAT.BUSY then s.kprReject a Reg.KPR_CMD.OFF
  else
    let arg := bits v 23 8
    match bits v 7 0 with
    | 1 => s.kprValidate
    | 2 => s.kprAdvance
    | 3 => s.kprRevoke
    | 4 => s.kprRetire arg
    | 5 => s.kprRetireSub arg
    | 6 => s.kprAnchorSet arg
    | 7 => s.kprAnchorClear arg
    | 8 => s.kprChallenge
    | _ => s.kprReject a Reg.KPR_CMD.OFF

/-! ### The random source (R481) -/

/-- A health test fails. -/
def State.rngFail (s : State) : State :=
  if s.flag Reg.KPR_STAT.RNG_OK then ((s.setFlag Reg.KPR_STAT.RNG_OK false).evt Pg.KPR 6).fault (mkRec 138 2 0x0E08) else s

/-- The tests have passed for 1 ms. -/
def State.rngRecover (s : State) : State := s.setFlag Reg.KPR_STAT.RNG_OK true

/-! ### SPDM (R461, R462) -/

/-- The Keeper answers on a transport (R462): not during a warm reset before READY, over I3C only in a halt. -/
def State.spdmServed (s : State) (via : Nat) : Bool :=
  s.flag Reg.KPR_STAT.READY && match s.phase with
    | .ready => true
    | .recovery => true
    | .haltWait => true
    | .halted => via == 0
    | _ => false

/-- Answer an SPDM request; it joins its connection's transcript. -/
def State.spdmSay (s : State) (m : SpdmMsg) (r : SpdmRsp) : State :=
  let t := SMap.get (fun _ => ([] : List Byte)) s.kpr.conns m.via
  let s1 := { s with kpr := { s.kpr with conns := SMap.set (fun _ => []) s.kpr.conns m.via (t ++ m.bytes) } }
  (s1.bump Reg.KPR_SPDM_CNT.OFF).emit (.spdm m.via m.session r)

/-- The transcript an answer signs. -/
def State.transcript (s : State) (m : SpdmMsg) : List Byte := SMap.get (fun _ => ([] : List Byte)) s.kpr.conns m.via ++ m.bytes

/-- Serve an SPDM request while the Keeper answers. -/
def State.spdm (s : State) (m : SpdmMsg) (go : State → State) : State := if s.spdmServed m.via then go s else s

/-- An Alias signature over the transcript. -/
def State.spdmSign (s : State) (m : SpdmMsg) : List Byte := edSign s.aliasKey (s.transcript m)

/-- GET_VERSION starts the connection again. -/
def State.spdmVersion (s : State) (m : SpdmMsg) : State :=
  s.spdm m fun u => ({ u with kpr := { u.kpr with conns := SMap.set (fun _ => []) u.kpr.conns m.via [] } }).spdmSay m .version

/-- The digest of the certificate chain in slot 0. -/
def State.chainDigest (s : State) : List Byte := sha512 (Config.ownChain s.identity)

/-- GET_CERTIFICATE of slot 0 (R458): bytes 0 the slot, 1 and 2 the offset, 3 and 4 the length; other slots are empty. -/
def State.spdmCertificate (s : State) (m : SpdmMsg) : State :=
  s.spdm m fun u =>
    let chain := Config.ownChain u.identity
    let off := leNat (slice m.bytes 1 2)
    let n := min (leNat (slice m.bytes 3 2)) (chain.length - off)
    if byteAt m.bytes 0 ≠ 0 ∨ chain.length ≤ off then u.spdmSay m (.error 1)
    else u.spdmSay m (.certificate (slice chain off n) (chain.length - off - n))

/-- The measurement of an index (R459, R460). The value of index 6 is the digest of the security state as 8 bytes: versions, slots, strap. -/
def State.measurement (s : State) (i : Nat) : Option (List Byte) :=
  if i = 1 then some Config.romDigest
  else if i = 2 then some s.fw.keeperDigest
  else if i = 3 then some s.fw.runDigest
  else if i = 4 then some s.fw.boardDigest
  else if i = 5 then some s.fw.setDigest
  else if i = 6 then some (sha512 (leBytes 2 (s.word Reg.KPR_SVN.OFF % 65536) ++ leBytes 1 (s.f Reg.KPR_SLOTS.REVOKED)
    ++ leBytes 1 (b2n s.testMode)))
  else if i = 7 then some (leBytes 8 (b2n (s.flag Reg.KPR_STAT.DEBUG_VORER) + b2n (s.flag Reg.KPR_STAT.DEBUG_KEEPER) * 2
    + b2n s.factory * 4))
  else if i = 8 then (if s.stagingHeld && s.imageAt flStaging != s.fw.slotCopy then some (imgDigest (s.imageAt flStaging)) else none)
  else none

/-- The measurement blocks there are, the manifest among them. -/
def State.measurements (s : State) : List (Nat × List Byte) :=
  let l := (upTo 1 9).filterMap fun i => (s.measurement i).map fun d => (i, d)
  l ++ [(0xFE, l.flatMap fun e => leBytes 1 e.1 ++ leBytes 1 (if e.1 = 7 then 1 else 0))]

/-- GET_MEASUREMENTS (R459): byte 0 the index (0xFF all), byte 1 whether a signature is wanted. -/
def State.spdmMeasurements (s : State) (m : SpdmMsg) : State :=
  s.spdm m fun u =>
    let i := (byteAt m.bytes 0).toNat
    let l := if i = 255 then u.measurements else u.measurements.filter fun e => e.1 == i
    if l = [] ∧ i ≠ 0 then u.spdmSay m (.error 1)
    else u.spdmSay m (.measurements l (if byteAt m.bytes 1 = 0 then [] else u.spdmSign m))

/-- KEY_EXCHANGE (R461, R481): at most 16 sessions. -/
def State.spdmExchange (s : State) (m : SpdmMsg) : State :=
  s.spdm m fun u =>
    if !u.flag Reg.KPR_STAT.RNG_OK then u.spdmSay m (.error 5)
    else if 16 ≤ u.kpr.sessions.length then u.spdmSay m (.error 10)
    else
      let id := u.kpr.nextSession
      let r := u.fresh (2 ^ 256)
      let x : Session := ⟨id, m.via, false, false, Config.spdmBytes 1 (u.transcript m ++ leBytes 32 r.1)⟩
      ({ r.2 with kpr := { r.2.kpr with sessions := r.2.kpr.sessions ++ [x], nextSession := id + 1 } }).spdmSay m (.keyExchange id)

/-- The session a message came in. -/
def State.sessionOf (s : State) (m : SpdmMsg) : Option Session :=
  s.kpr.sessions.find? fun x => some x.id == m.session && x.via == m.via

/-- FINISH: the session is up; with a certificate chain to an anchor for streams its requester may set them up. -/
def State.spdmFinish (s : State) (m : SpdmMsg) : State :=
  s.spdm m fun u =>
    match u.sessionOf m with
    | none => u.spdmSay m (.error 2)
    | some x =>
      if !Config.spdmVerify (x.secret ++ u.transcript m) m.chain then
        ({ u with kpr := { u.kpr with sessions := u.kpr.sessions.filter fun y => y.id != x.id } }).spdmSay m (.error 6)
      else
        let ok := m.chain != [] && u.rootAccepted m.chain true
        ({ u with kpr := { u.kpr with
            sessions := mapIf (fun y => y.id == x.id) (fun y => { y with up := true, streamOk := ok }) u.kpr.sessions } }).spdmSay m .finish

/-- A request that only a finished session may send. -/
def State.spdmInSession (s : State) (m : SpdmMsg) (go : State → Session → State) : State :=
  s.spdm m fun u => match u.sessionOf m with
    | some x => if x.up then go u x else u.spdmSay m (.error 2)
    | none => u.spdmSay m (.error 2)

/-- KEY_UPDATE. -/
def State.spdmUpdate (s : State) (m : SpdmMsg) : State :=
  s.spdmInSession m fun u x =>
    ({ u with kpr := { u.kpr with
        sessions := mapIf (fun y => y.id == x.id) (fun y => { y with secret := Config.spdmBytes 2 x.secret }) u.kpr.sessions } }).spdmSay m .keyUpdate

/-- END_SESSION. -/
def State.spdmEnd (s : State) (m : SpdmMsg) : State :=
  s.spdmInSession m fun u x =>
    ({ u with kpr := { u.kpr with sessions := u.kpr.sessions.filter fun y => y.id != x.id } }).spdmSay m .endSession

/-- The answer to a stream request (R470). -/
def streamRsp (status ctx : Nat) : SpdmRsp := .vendor (leBytes 1 status ++ zeros 3 ++ leBytes 2 ctx)

def rqCtx (m : SpdmMsg) : Nat := leNat (slice m.bytes 2 2)
def rqNode (m : SpdmMsg) : Nat := leNat (slice m.bytes 4 2) % 4096
def rqFirst (m : SpdmMsg) : Nat := leNat (slice m.bytes 6 2)
def rqSub (m : SpdmMsg) : Nat := (byteAt m.bytes 8).toNat

/-- Keys and salts of a stream (R471). -/
def streamKeys (secret : List Byte) (ctx node first : Nat) : List Byte :=
  hkdfExpand secret (ascii "cassor stream v1"
    ++ leBytes 2 ctx ++ leBytes 2 node ++ leBytes 2 first) 72

/-- STATUS of a SETUP (R470, R481). -/
def State.setupStatus (s : State) (m : SpdmMsg) (x : Session) : Nat :=
  let c := rqCtx m
  if !x.streamOk ∨ byteAt m.bytes 0 ≠ 1 ∨ !s.flag Reg.KPR_STAT.RNG_OK then 1
  else if byteAt m.bytes 9 = 1 then 3
  else if 256 ≤ c ∨ !s.flag (Reg.WRD_CTX.VALID c) ∨ s.f (Reg.WRD_CTX.OWNER c) ≠ rqSub m
      ∨ !bit (s.f (Reg.PTN_NODE_SUBS.MASK (rqNode m))) (rqSub m) then 2
  else if s.kpr.retiring.contains c then 4
  else 0

/-- SETUP (R470, R471): the context's stream, its old keys replaced. -/
def State.streamSetup (s : State) (m : SpdmMsg) : State :=
  s.spdmInSession m fun u x =>
    let st := u.setupStatus m x
    let c := rqCtx m
    if st ≠ 0 then u.spdmSay m (streamRsp st c)
    else
      let k := streamKeys x.secret c (rqNode m) (rqFirst m)
      let base := (u.seqEntry (rqNode m)).map fun e => e.c + (rqFirst m + 65536 - e.c % 65536) % 65536
      let t : Stream := ⟨c, rqNode m, rqFirst m, base, slice k 0 32 ++ slice k 64 4, slice k 32 32 ++ slice k 68 4⟩
      let u1 := { u with kpr := { u.kpr with streams := t :: u.kpr.streams.filter fun y => y.ctx != c } }
      (((u1.setF (Reg.KPR_STRM_STAT.NODE c) (rqNode m)).setFlag (Reg.KPR_STRM_STAT.ACTIVE c) true).bump
        Reg.KPR_STREAM_SETUP_CNT.OFF).spdmSay m (streamRsp 0 c)

/-- RETIRE (R470, R474). -/
def State.streamRetireReq (s : State) (m : SpdmMsg) : State :=
  s.spdmInSession m fun u x =>
    let c := rqCtx m
    if !x.streamOk ∨ byteAt m.bytes 0 ≠ 2 then u.spdmSay m (streamRsp 1 c)
    else if 256 ≤ c ∨ !(u.kpr.streams.any fun t => t.ctx == c) then u.spdmSay m (streamRsp 2 c)
    else (u.streamRetire c).spdmSay m (streamRsp 0 c)

end Sys2Proof.Machine
end

