-- ==== Sys2Proof/Machine/Fabric.lean ====
section
/-! DEFINITION. The router's commands: route table versions (R336 to R338), transit and multicast (R340, R344 to R346), fences
(R348 to R350), chain enumeration (R351 to R354), pool time (R355 to R357). -/

namespace Sys2Proof.Machine

open Sys2Proof

/-- The Who of a request that is a violation with cause REGISTER. -/
def regWho (p : Packet) (off : Nat) : Who := ⟨p.sub, none, p.src, none, off, false⟩

/-! ### Route table versions (R336, R337) -/

/-- Whether a port code is an up port under recorded directions (R332). -/
def codeUp (dirs code : Nat) : Bool := if code < 4 then bit dirs code else code == 5 && bit dirs 4

/-- Whether a port code is a down port. -/
def codeDown (dirs code : Nat) : Bool := (decide (code < 4) || code == 5) && !codeUp dirs code

/-- The rule of R336 an entry fails, the lowest where several fail; 0 where none does. -/
def State.entryRule (s : State) (dirs v d : Nat) : Nat :=
  let a := s.f (Reg.RTB_ROUTE.PRIMARY v d)
  let b := s.f (Reg.RTB_ROUTE.SECONDARY v d)
  let valid := s.flag (Reg.RTB_ROUTE.VALID v d)
  let own := s.hasId && d == s.ownId
  let absent (c : Nat) : Bool := c == 6 || (c == 5 && !s.part.hinge)
  if own && !(valid && a == 4 && b == 7) then 1
  else if !own && (a == 4 || b == 4) && !(s.pairHere == some d) then 2
  else if a == b && b != 7 then 3
  else if codeDown dirs a && !(codeDown dirs b || b == 7) then 4
  else if valid && (a == 7 || absent a || absent b) then 5
  else 0

/-- The first failing entry of a version, with its rule. -/
def State.tableFail (s : State) (dirs v : Nat) : Option (Nat × Nat) :=
  ((List.range 4096).find? fun d => s.entryRule dirs v d != 0).map fun d => (d, s.entryRule dirs v d)

/-- Set a version valid or invalid. -/
def State.setVer (s : State) (v : Nat) (b : Bool) : State :=
  s.setFlag (if v = 0 then Reg.RTB_TBL_STAT.VALID_A else Reg.RTB_TBL_STAT.VALID_B) b

/-- What a COMMIT leaves, given the directions it is checked under and the entry that fails: valid with the directions recorded, or invalid
with the entry and the rule it fails. -/
def State.commitAs (s : State) (v dirs : Nat) : Option (Nat × Nat) → State × Bool
  | none =>
    let s1 := ((s.setVer v true).setF Reg.RTB_TBL_STAT.FAIL_INDEX 0).setF Reg.RTB_TBL_STAT.FAIL_RULE 0
    (if v = 0 then { s1 with rtb := { s1.rtb with dirA := dirs } } else { s1 with rtb := { s1.rtb with dirB := dirs } }, true)
  | some (d, k) =>
    let s1 := ((s.setVer v false).setF Reg.RTB_TBL_STAT.FAIL_INDEX d).setF Reg.RTB_TBL_STAT.FAIL_RULE k
    ((s1.evt Pg.RTB 1).fault (mkRec 120 0 0x0905), false)

/-- COMMIT of a version; the Bool says that it is valid now. The version records RTB_PORT_DIR as it stands. -/
def State.commit (s : State) (v : Nat) : State × Bool :=
  s.commitAs v (bits (s.word Reg.RTB_PORT_DIR.OFF) 4 0) (s.tableFail (bits (s.word Reg.RTB_PORT_DIR.OFF) 4 0) v)

/-- Packets of a version held in the chip (RTB_EPOCH_PKT). -/
def State.epochHeld (s : State) (v : Nat) : Nat :=
  sat 16 ((s.txq.filter fun t => t.p.epoch == v && t.cxl.isNone).length + (s.hps.hold.filter fun h => h.2.1.epoch == v).length)

/-- An INVALIDATE is accepted (R337). -/
def State.mayInvalidate (s : State) (v : Nat) : Bool :=
  s.f Reg.RTB_CTRL.INJ_EPOCH != v
  && (match if v = 0 then s.rtb.leftA else s.rtb.leftB with
      | none => true
      | some t => decide (t + s.f Reg.RTB_CTRL.DRAIN * 100000 ≤ s.time))
  && s.epochHeld v == 0

/-- Set INJ_EPOCH, noting when it leaves a version. -/
def State.setEpoch (s : State) (v : Nat) : State :=
  if s.f Reg.RTB_CTRL.INJ_EPOCH = v then s
  else
    let s1 := s.setF Reg.RTB_CTRL.INJ_EPOCH v
    if v = 0 then { s1 with rtb := { s1.rtb with leftB := some s.time } }
    else { s1 with rtb := { s1.rtb with leftA := some s.time } }

/-- The R23 rejection of an RTB write. -/
def State.rtbReject (s : State) (a : Path) (off : Nat) : State := s.cfgReject a Pg.RTB 120 0x090A off none

/-- COMMIT by RTB_TBL_CMD. -/
def State.cmdCommit (s : State) (v : Nat) : State × Bool := s.commit v

/-- INVALIDATE by a path; the Bool says that it was accepted. -/
def State.cmdInvalidate (s : State) (a : Path) (v : Nat) : State × Bool :=
  if s.mayInvalidate v then (s.setVer v false, true) else (s.rtbReject a Reg.RTB_TBL_CMD.OFF, false)

/-- FLIP by a path. -/
def State.cmdFlip (s : State) (a : Path) (v : Nat) : State × Bool :=
  if s.verValid v then (s.setEpoch v, true) else (s.rtbReject a Reg.RTB_TBL_CMD.OFF, false)

/-- A write of RTB_TBL_CMD: the actions run in the order of R338, the first refused one stops the rest. -/
def State.tblCmd (s : State) (a : Path) (w : Nat) : State :=
  let v := bits w 0 0
  let x := if bit w 2 then s.cmdInvalidate a v else (s, true)
  let y := if x.2 && bit w 1 then x.1.cmdCommit v else x
  if y.2 && bit w 3 then (y.1.cmdFlip a v).1 else y.1

/-- The writable bits of a route entry (R358). -/
def routeMask (w : Nat) : Nat := bits w 5 0 + bits w 31 31 * 2 ^ 31

/-- A write of a route entry: rejected while its version is valid (R337). -/
def State.routeWrite (s : State) (a : Path) (v d w : Nat) : State :=
  if s.verValid v then s.rtbReject a (Reg.RTB_ROUTE.OFF v d) else s.setWord (Reg.RTB_ROUTE.OFF v d) (routeMask w)

/-- A write of RTB_CTRL: one that names an invalid version is rejected (R358). -/
def State.rtbCtrlWrite (s : State) (a : Path) (w : Nat) : State :=
  if s.verValid (bits w 0 0) = false then s.rtbReject a Reg.RTB_CTRL.OFF
  else ((s.setEpoch (bits w 0 0)).setF Reg.RTB_CTRL.RAND_EN (bits w 1 1)).setF Reg.RTB_CTRL.DRAIN (max 1 (bits w 15 8))

/-- A malformed ROUTE_UPDATE (R338). -/
def routeUpdateBad (p : Packet) : Bool :=
  bits p.opw 7 4 != 0 || bits p.opw 63 31 != 0 || decide (1024 < bits p.opw 30 20)
  || decide (4096 < bits p.opw 19 8 + bits p.opw 30 20) || p.length != 4 * bits p.opw 30 20

/-- ROUTE_UPDATE (R338). ACCEPTED tells that no action was refused. -/
def State.runRouteUpdate (s : State) (r : Req) : State :=
  let p := r.pkt
  let a : Path := .mgt p.src p.sub r.port false
  if s.isMgr p.src = false then (s.violation .register (regWho p 0)).finish r.id stOK 0 0 []
  else
    let v := bits p.opw 0 0
    let word (ok done : Bool) (u : State) : Nat :=
      b2n ok + b2n done * 2 + u.f Reg.RTB_TBL_STAT.FAIL_INDEX * 4 + u.f Reg.RTB_TBL_STAT.FAIL_RULE * 2 ^ 14
    if bit p.opw 2 && !s.mayInvalidate v then s.finishRetry r.id 0xFF
    else
      let s1 := if bit p.opw 2 then s.setVer v false else s
      let n := bits p.opw 30 20
      if n != 0 && s1.verValid v then
        let s2 := s1.rtbReject a (Reg.RTB_ROUTE.OFF v (bits p.opw 19 8))
        s2.finish r.id stOK 0 (word false false s2) []
      else
        let s2 := (List.range n).foldl (fun acc i =>
          acc.setWord (Reg.RTB_ROUTE.OFF v (bits p.opw 19 8 + i)) (routeMask (leNat (slice p.payload (4 * i) 4)))) s1
        let c := if bit p.opw 1 then s2.commit v else (s2, true)
        if c.2 = false then c.1.finish r.id stOK 0 (word false false c.1) []
        else if bit p.opw 3 then
          let f := c.1.cmdFlip a v
          f.1.finish r.id stOK 0 (word f.2 (bit p.opw 1) f.1) []
        else c.1.finish r.id stOK 0 (word true (bit p.opw 1) c.1) []

/-! ### Multicast (R344 to R346) -/

/-- Port codes of a children field. -/
def childCodes (c : Nat) : List Nat := ((List.range 4).filter fun i => bit c i) ++ (if bit c 4 then [5] else [])

/-- A write of a multicast entry's PORT word or of a word of its TREE entry (R344): off within the table pages. -/
def State.mcWrite (s : State) (a : Path) (off v : Nat) : State :=
  let rej : State := (s.cfgReject a Pg.RTB 120 0x0906 off none)
  if off < Reg.RTB_MC_TREE.OFF 0 then
    let new := bits v 14 0 + bits v 21 16 * 2 ^ 16 + bits v 31 31 * 2 ^ 31
    let dirs := bits (s.word Reg.RTB_PORT_DIR.OFF) 4 0
    let parent := bits new 14 12
    let kids := childCodes (bits new 20 16)
    if bit (s.word off) 31 then
      (if bit new 31 && new != s.word off then rej else s.setWord off new)
    else if bit new 31 && ((codeUp dirs parent && kids.any (codeUp dirs)) || kids.contains parent) then rej
    else s.setWord off new
  else
    let base := off / 16 * 16
    let locked := bit (s.word base) 31
    if off = base then
      let new := bits v 20 0 + bits v 31 31 * 2 ^ 31
      if locked then (if bit new 31 && new != s.word off then rej else s.setWord off new)
      else if bit new 31 && (decide (8 < bits new 15 12) || decide (16 < bits new 20 16)) then rej
      else s.setWord off new
    else if locked && v % 2 ^ 32 != s.word off then rej
    else s.setWord off v

/-- One copy of a multicast packet to a child port: pruned where its peer is fenced (R346), dropped where the port is not usable. The
FENCED answer names the fenced peer as its source, and is this router's own, so the fence does not drop it. -/
def State.mcCopy (s : State) (p : Packet) (code : Nat) : State :=
  let q := s.portOfCode code
  let peer := s.f (Reg.SWP_STAT.PEER_NODE q)
  if s.usable code = false then s
  else if peer < 4094 && s.fenced peer then
    let s1 := s.bump Reg.RTB_MC_PRUNE_CNT.OFF
    let f : Form := {
      dest := p.src, src := peer, vc := 3, cls := p.cls, opcode := p.opcode + 0x80, tag := p.tagOf, seq := p.seq, high := stFENCED }
    State.sendOn (s1.routeOn (s1.injected f.packet)) none true
  else (s.queueCopy q p).bump Reg.RTB_MC_COPY_CNT.OFF

/-- Replicate a multicast packet; the Bool says that a copy is for this chip. -/
def State.multicast (s : State) (p : Packet) : State × Bool :=
  let g := p.group
  if s.fenced p.src || (s.fenced p.dest && !s.isMgr p.src) then (s.fenceDrop, false)
  else if s.flag (Reg.RTB_MC_PORT.VALID g) = false then (s.routeDrop p 0 Reg.RTB_UNROUTABLE_CNT.OFF, false)
  else
    let s1 := (childCodes (s.f (Reg.RTB_MC_PORT.CHILDREN g))).foldl (fun acc c => acc.mcCopy p c) s
    if s1.flag (Reg.RTB_MC_PORT.LOCAL g) then (s1.bump Reg.RTB_MC_COPY_CNT.OFF, true) else (s1, false)

/-! ### Fencing (R348 to R350) -/

/-- Set a node's bit in the fence map. -/
def State.setFence (s : State) (n : Nat) (b : Bool) : State :=
  s.setWord (Reg.RTB_FENCE_MAP.OFF (n / 32)) (putBit (s.word (Reg.RTB_FENCE_MAP.OFF (n / 32))) (n % 32) b)

/-- Empty a node's per-source entries, drop its requests that wait on sequence order, retire its streams (R349 step 2, R474). -/
def State.fenceRequests (s : State) (n : Nat) : State :=
  let wait := s.reqs.filter fun r => r.cxl.isNone && r.pkt.src == n && !r.started
  let s1 := wait.foldl (fun acc r => (acc.dropReq r.id).bump Reg.RTB_FENCE_DROP_CNT.OFF) s
  let s2 := (({ s1 with reqs := mapIf (fun r => r.cxl.isNone && r.pkt.src == n) (fun r => { r with seqd := false }) s1.reqs }.dropSeq n).dropSeq (n + 4096)).streamsRetire fun t => t.node == n
  (s2.lch.parks.filter fun k => !k.ward && k.r.cxl.isNone && k.r.pkt.src == n).foldl (fun acc k => acc.unpark k) s2

/-- Agent slots that name a fabric node. -/
def State.slotsOf (s : State) (n : Nat) : List Nat :=
  if s.part.full then
    (List.range 512).filter fun a => s.flag (Reg.DIR_AGENT.VALID a) && !s.flag (Reg.DIR_AGENT.CXL a) && s.f (Reg.DIR_AGENT.NODE a) == n
  else []

/-- A fence or unfence is complete: DONE, and BUSY while another runs (R349 step 5, R350). -/
def State.fenceOver (s : State) (reply : Option Nat) : State :=
  let s1 := ((s.setFlag Reg.RTB_FENCE_STAT.BUSY (!s.rtb.fences.isEmpty)).setFlag Reg.RTB_FENCE_STAT.DONE true).evt Pg.RTB 4
  match reply with
  | some id => s1.finish id stOK 0 0 []
  | none => s1

/-- Fence a node, steps 1 to 4 of R349; one fenced already completes at once. -/
def State.fenceNode (s : State) (n : Nat) (reply : Option Nat) : State :=
  if s.fenced n then s.fenceOver reply
  else
    let s1 := ((s.setFence n true).fenceRequests n).treeFence n
    let s2 := (s1.slotsOf n).foldl (fun acc a => acc.fenceAgent a) s1
    let s3 := s2.fault { mkRec 120 0 0x0908 with node := n }
    { s3 with rtb := { s3.rtb with fences := s3.rtb.fences ++ [FenceJob.mk n false (s1.slotsOf n) reply] } }

/-- Lift the fence of a node (R350) and of its agent slots (R230): it answers once their fence walks have ended. -/
def State.unfenceNode (s : State) (n : Nat) (reply : Option Nat) : State :=
  let s0 := ((s.setFence n false).dropSeq n).dropSeq (n + 4096)
  let s1 := (s0.slotsOf n).foldl (fun acc a => acc.liftFence a) s0
  { s1 with rtb := { s1.rtb with fences := s1.rtb.fences ++ [FenceJob.mk n true (s1.slotsOf n) reply] } }

/-- Start a fence or unfence: BUSY, and DONE cleared. -/
def State.fenceStart (s : State) (n : Nat) (un : Bool) (reply : Option Nat) : State :=
  let s1 := (s.setFlag Reg.RTB_FENCE_STAT.BUSY true).setFlag Reg.RTB_FENCE_STAT.DONE false
  if un then s1.unfenceNode n reply else s1.fenceNode n reply

/-- A write of RTB_FENCE_CMD: GO while BUSY is rejected. -/
def State.fenceCmd (s : State) (a : Path) (v : Nat) : State :=
  if bit v 31 = false then s
  else if s.flag Reg.RTB_FENCE_STAT.BUSY then s.rtbReject a Reg.RTB_FENCE_CMD.OFF
  else s.fenceStart (bits v 11 0) (bit v 12) none

/-- The FENCE packet is malformed (R348). -/
def fenceBad (p : Packet) : Bool := bits p.opw 63 13 != 0 || p.length != 0

/-- FENCE (R348). From a node that is not the manager node it is a violation. -/
def State.runFence (s : State) (r : Req) : State :=
  if s.isMgr r.pkt.src = false then (s.violation .register (regWho r.pkt 0)).finish r.id stOK 0 0 []
  else s.fenceStart (bits r.pkt.opw 11 0) (bit r.pkt.opw 12) (some r.id)

/-- The directory fences a job waits for are done. -/
def State.fenceReady (s : State) (j : FenceJob) : Bool :=
  j.agents.all fun a => !(s.dir.fences.any fun x => x.agent == a)

/-- End the oldest fence or unfence if its directory fences are done (R349 step 5, R350). -/
def State.fenceEnd (s : State) : State :=
  match s.rtb.fences with
  | [] => s
  | j :: rest =>
    if s.fenceReady j then { s with rtb := { s.rtb with fences := rest } }.fenceOver j.reply else s

/-! ### Chain enumeration (R351 to R354) -/

/-- A malformed ENUM (R351); it travels to the neighbour. -/
def enumBad (p : Packet) : Bool :=
  let k := bits p.opw 1 0
  decide (2 ≤ k) || bits p.opw 3 2 != 0 || bits p.opw 63 36 != 0 || p.length != (if k = 1 then 8 else 0) || p.dest != 0xFFE

/-- A malformed ENUM response. -/
def enumRspBad (p : Packet) : Bool :=
  let k := bits p.opw 1 0
  decide (2 ≤ k) || (if k = 0 then bits p.opw 3 2 != 0 || bits p.opw 63 17 != 0 || p.length != 0 else p.length != 16)

/-- The chain port. -/
def State.chainOut (s : State) : Nat := s.f Reg.RTB_ENUM_CTRL.CHAIN_PORT

/-- Send ASSIGN down the chain, offering the next ID. -/
def State.assignSend (s : State) : State :=
  let w := (s.ownId + 1) % 4096 * 2 ^ 4 + s.f Reg.RTB_ENUM_HEAD.HEAD_ID * 2 ^ 16 + (s.f Reg.RTB_ENUM_STAT.POSITION + 1) % 256 * 2 ^ 28
  { s with rtb := { s.rtb with enumWait := false } }.queue s.chainOut
    (({ dest := 0xFFE, src := s.ownId, vc := 6, opcode := 0x60, op := w } : Form).packet) none

/-- Go on down the chain once the chain port is ACTIVE (R352 step 2). -/
def State.enumNext (s : State) : State :=
  if s.rtb.enumWait && s.portState s.chainOut == 4 then s.assignSend else s

/-- Answer an ASSIGN. -/
def State.assignAnswer (s : State) (port : Nat) (q : Packet) (last : Nat) (conflict : Bool) : State :=
  s.answer port q stOK 0 (last * 16 + b2n conflict * 2 ^ 16) []

/-- The chain below is known: answer upstream; the head shows it (R352 steps 4 and 5). -/
def State.enumFinish (s : State) (last : Nat) : State :=
  let s1 := ((s.setF Reg.RTB_ENUM_STAT.LAST_ID last).setF Reg.RTB_ENUM_STAT.STATE 3)
  let s2 := { s1 with rtb := { s1.rtb with enumWait := false, enumUp := none } }
  match s.rtb.enumUp with
  | some (port, q) => s2.assignAnswer port q last false
  | none => if s2.flag Reg.RTB_ENUM_CTRL.CHAIN_HEAD then s2.evt Pg.RTB 2 else s2

/-- Begin step 2 of R352. -/
def State.enumDown (s : State) : State :=
  { s.setF Reg.RTB_ENUM_STAT.STATE 2 with rtb := { s.rtb with enumWait := true } }.enumNext

/-- RTB_ENUM_CTRL.START on the head that has its ID. -/
def State.enumStart (s : State) : State :=
  if s.flag Reg.RTB_ENUM_CTRL.CHAIN_HEAD && s.hasId then
    { s.setF Reg.RTB_ENUM_HEAD.HEAD_ID s.ownId with rtb := { s.rtb with enumUp := none } }.enumDown
  else s

/-- An ASSIGN arrives (R352 step 3, R353). -/
def State.assign (s : State) (port : Nat) (p : Packet) : State :=
  let id := bits p.opw 15 4
  if s.hasId = false && decide (id < 0xFFE) then
    let s1 := (s.setF Reg.RTB_NODE.ID id).setFlag Reg.RTB_NODE.ID_VALID true
    let s2 := (s1.setF Reg.RTB_ENUM_HEAD.HEAD_ID (bits p.opw 27 16)).setF Reg.RTB_ENUM_STAT.UPSTREAM port
    let s3 := (s2.setFlag Reg.RTB_ENUM_STAT.UP_VALID true).setF Reg.RTB_ENUM_STAT.POSITION (bits p.opw 35 28)
    { s3.setF Reg.RTB_ENUM_STAT.STATE 1 with rtb := { s3.rtb with enumUp := some (port, p) } }.enumDown
  else if s.hasId && id == s.ownId then s.assignAnswer port p (s.f Reg.RTB_ENUM_STAT.LAST_ID) false
  else
    let s1 := ((s.setF Reg.RTB_ENUM_STAT.STATE 4).evt Pg.RTB 3).fault { mkRec 120 2 0x0907 with addr := id }
    s1.assignAnswer port p s1.ownId true

/-- An ASSIGN response arrives from the chain port. -/
def State.assignRsp (s : State) (port : Nat) (p : Packet) : State :=
  if port == s.chainOut && s.f Reg.RTB_ENUM_STAT.STATE == 2 && !s.rtb.enumWait then s.enumFinish (bits p.opw 15 4) else s

/-- The chain port does not become ACTIVE within 100 ms, or its peer takes no ASSIGN. -/
def State.enumTimeout (s : State) : State := if s.f Reg.RTB_ENUM_STAT.STATE = 2 then s.enumFinish s.ownId else s

/-- A write of RTB_NODE (R354): a change of ID while ID_VALID is 1 is rejected; while PAIR_EN is 1 a change of PAIR_ID is, and
PAIR_VALID is the hardware's (R398). -/
def State.nodeWrite (s : State) (a : Path) (v : Nat) : State :=
  if s.hasId && bits v 11 0 != s.ownId then s.rtbReject a Reg.RTB_NODE.OFF
  else if s.part.hinge && s.flag Reg.HPS_CTRL.PAIR_EN && bits v 27 16 != s.f Reg.RTB_NODE.PAIR_ID then
    s.cfgReject a Pg.HPS 118 0x0C0B Reg.RTB_NODE.OFF none
  else
    let pv := if s.part.hinge && s.flag Reg.HPS_CTRL.PAIR_EN then s.f Reg.RTB_NODE.PAIR_VALID else bits v 28 28
    s.setWord Reg.RTB_NODE.OFF (bits v 12 0 + bits v 27 16 * 2 ^ 16 + pv * 2 ^ 28)

/-! ### Pool time (R355 to R357) -/

/-- A write of RTB_TIME_SET: on the chain head only. -/
def State.timeSet (s : State) (a : Path) (v : Nat) : State :=
  if s.flag Reg.RTB_ENUM_CTRL.CHAIN_HEAD then { s with time := v % 2 ^ 64 } else s.rtbReject a Reg.RTB_TIME_SET.OFF

/-- Send a TIME_REQ upstream; its stamp t1 is that of the slot in which it leaves (Flit.lean). -/
def State.timeReqSend (s : State) : State :=
  let up := s.f Reg.RTB_ENUM_STAT.UPSTREAM
  if s.flag Reg.RTB_ENUM_STAT.UP_VALID && s.linkUp up && !s.flag Reg.RTB_ENUM_CTRL.CHAIN_HEAD then
    s.queue up
      (({ dest := 0xFFE, src := s.ownId, vc := 6, opcode := 0x60, op := 1, payload := leBytes 8 s.time } : Form).packet) none
  else s

/-- A TIME_REQ is answered with t2, when its first slot came in, and t3, which it is given as it leaves (R356). -/
def State.timeReqAnswer (s : State) (port : Nat) (p : Packet) : State :=
  s.answer port p stOK 0 1 (leBytes 8 s.rtb.rxAt ++ leBytes 8 s.time)

/-- The offset of an exchange (R356). -/
def timeOffset (t1 t2 t3 t4 : Nat) : Int := (((t2 : Int) - t1) - ((t4 : Int) - t3)).tdiv 2

/-- A number clamped to a symmetric range. -/
def clampInt (m v : Int) : Int := max (-m) (min m v)

/-- A TIME_REQ response (R356, R357): a step above 1 µs, else a rate of 1 ppm for each ns an exchange of 1 ms is off, at most
100 ppm (log entry 59). t4 is when the answer's first slot came in; an exchange while the port is not ACTIVE leaves HOLDOVER. -/
def State.timeCorrect (s : State) (port : Nat) (p : Packet) : State :=
  if s.flag Reg.RTB_ENUM_STAT.UP_VALID && port == s.f Reg.RTB_ENUM_STAT.UPSTREAM && !s.flag Reg.RTB_ENUM_CTRL.CHAIN_HEAD then
    let o := timeOffset s.rtb.treqT1 (leNat (slice p.payload 0 8)) (leNat (slice p.payload 8 8)) s.rtb.rxAt
    let s1 := if 1000 < o.natAbs then { s with time := (((s.time : Int) + o) % (2 ^ 64 : Int)).toNat }
      else { s with rtb := { s.rtb with rate := clampInt 100 o } }
    let corr := ((max (-32768) (min 32767 o)) % (65536 : Int)).toNat
    let s2 := ((s1.setF Reg.RTB_TIME_STAT.LAST_CORR corr).setFlag Reg.RTB_TIME_STAT.HOLDOVER
      (s.flag Reg.RTB_TIME_STAT.HOLDOVER && s.portState port != 4)).bump Reg.RTB_TIME_SYNC_CNT.OFF
    if o.natAbs < 10 then s2.setFlag Reg.RTB_TIME_STAT.SYNCED true else s2
  else s

end Sys2Proof.Machine
end

