-- ==== Sys2Proof/Machine/Hinge.lean ====
section
/-! DEFINITION. Hinge pairs (R398 to R427): forming and leaving a pair, the journal and its epochs, the standby's replay, BEATs, the
lease and its witness, switch-over, resync. -/

namespace Sys2Proof.Machine

open Sys2Proof

/-! ### Pair state (R427) -/

def State.hpsState (s : State) : Nat := s.f Reg.HPS_STAT.STATE
def State.setHpsState (s : State) (v : Nat) : State := s.setF Reg.HPS_STAT.STATE v
def State.paired (s : State) : Bool := s.part.hinge && s.flag Reg.HPS_CTRL.PAIR_EN
def State.generation (s : State) : Nat := s.f Reg.HPS_GEN.GEN
def State.epochNow (s : State) : Nat := s.f Reg.HPS_EPOCH_NUM.EPOCH

/-- The member serves the pair ID: ACTIVE or ACTIVE_SOLO. -/
def State.serving (s : State) : Bool := s.hpsState == 2 || s.hpsState == 3

/-- Set PAIR_VALID and show it as LEASE. -/
def State.setLease (s : State) (b : Bool) : State := (s.setFlag Reg.RTB_NODE.PAIR_VALID b).setFlag Reg.HPS_STAT.LEASE b

/-- Some hinge port carries packets. -/
def State.hingeUp (s : State) : Bool := s.linkUp 4 || s.linkUp 5

/-- Dual-answer mode is in force (R421). BEATs do not carry the partner's DUAL bit, so this member's stands for both. -/
def State.dualSet (s : State) : State :=
  s.setFlag Reg.HPS_STAT.DUAL_ON (s.flag Reg.HPS_CTRL.DUAL && s.flag Reg.HPS_STAT.IN_SYNC && (s.hpsState == 2 || s.hpsState == 4))

/-- The R23 rejection of an HPS write. -/
def State.hpsReject (s : State) (a : Path) (off : Nat) : State := s.cfgReject a Pg.HPS 118 0x0C0B off none

/-- Whether pair-ID packets are held in ingress (R415, R419). -/
def State.pairHolds (s : State) : Bool :=
  s.paired && (s.hps.switching != 0 || s.hpsState == 6 || (s.hpsState == 4 && (s.hps.lost || !s.hingeUp)))

/-! ### HEARTBEAT packets (R404) -/

/-- JFMT of a HEARTBEAT: a BEAT tells the lowest format this member supports, the others the format the pair speaks (R404). -/
def State.jfmt (s : State) (kind : Nat) : Nat := if kind = 0 then s.f Reg.GLB_FW_VER.JFMT_LOW % 16 else s.f Reg.HPS_STAT.JFMT

/-- A HEARTBEAT of this chip. high: bits of the address word above the generation and state. -/
def State.heartbeat (s : State) (dst kind pair epoch gen high : Nat) (payload : List Byte) : Packet :=
  ({ dest := dst, src := s.ownId, vc := 6, opcode := 0x67, addr := gen % 2 ^ 48 + s.hpsState * 2 ^ 48 + high + s.jfmt kind * 2 ^ 56,
     op := kind + pair * 16 + epoch * 65536, payload := payload } : Form).packet

/-- Send a HEARTBEAT to the partner over the hinge; without a usable hinge port it is lost. -/
def State.toPartner (s : State) (kind epoch high : Nat) (payload : List Byte) : State :=
  if s.hingeUp then
    s.queue s.hingePort (s.heartbeat (s.f Reg.HPS_PARTNER.PARTNER) kind (s.f Reg.RTB_NODE.PAIR_ID) epoch s.generation high payload) none
  else s

/-- Send a HEARTBEAT to the witness. -/
def State.toWitness (s : State) (kind high : Nat) : State :=
  s.inject (s.heartbeat (s.f Reg.HPS_PARTNER.WITNESS) kind (s.f Reg.RTB_NODE.PAIR_ID) 0 s.generation high []) none

def hbKind (p : Packet) : Nat := bits p.opw 3 0
def hbPair (p : Packet) : Nat := bits p.opw 15 4
def hbEpoch (p : Packet) : Nat := bits p.opw 63 16
def hbGen (p : Packet) : Nat := bits p.addr.toNat 47 0
def hbState (p : Packet) : Nat := bits p.addr.toNat 51 48
def hbLast (p : Packet) : Bool := bit p.addr.toNat 52
def hbContAck (p : Packet) : Bool := bit p.addr.toNat 53
def hbLeaseLost (p : Packet) : Bool := bit p.addr.toNat 54
def hbSolo (p : Packet) : Bool := bit p.addr.toNat 55
def hbJfmt (p : Packet) : Nat := bits p.addr.toNat 59 56
def hbLoad (p : Packet) : Nat := bits p.addr.toNat 63 60
/-- The granule a RESYNC packet names. -/
def hbGranule (p : Packet) : Nat := bits p.opw 55 16 / 4096 * 4096

/-- A malformed HEARTBEAT: a reserved KIND, reserved bits, a payload its KIND does not have. -/
def hbMalformed (p : Packet) : Bool :=
  let k := hbKind p
  decide (10 ≤ k) || ((k == 3 || k == 4) && bits p.opw 63 56 != 0)
  || (k == 4 && p.length != 4096) || (k == 3 && p.length % 8 != 0) || (k != 1 && k != 3 && k != 4 && p.length != 0)

/-- A HEARTBEAT from a node that may not send it: dropped, counted, recorded. -/
def State.hbUnexpected (s : State) (p : Packet) : State :=
  (s.bump Reg.HPS_DROP_CNT.OFF).fault { mkRec 118 0 0x0C0A with node := p.src }

/-- A HEARTBEAT of this member's pair from its partner. -/
def State.fromPartner (s : State) (p : Packet) : Bool :=
  s.paired && p.src == s.f Reg.HPS_PARTNER.PARTNER && hbPair p == s.f Reg.RTB_NODE.PAIR_ID

/-- A HEARTBEAT of this member's pair from its witness. -/
def State.fromWitness (s : State) (p : Packet) : Bool :=
  s.paired && p.src == s.f Reg.HPS_PARTNER.WITNESS && hbPair p == s.f Reg.RTB_NODE.PAIR_ID

/-! ### Journal records (R406) -/

/-- A record's header. -/
def recHead (ty count ppa : Nat) : List Byte := leBytes 8 (ty + count * 256) ++ leBytes 8 ppa

/-- The bytes of a record. -/
def JRec.bytes : JRec → List Byte
  | .sectors p d => recHead 1 (d.length / 64) p ++ d
  | .poison p n => recHead 2 n p
  | .fill p l q => recHead 3 0 p ++ leBytes 8 l ++ leBytes 8 q
  | .copy p x l => recHead 4 0 p ++ leBytes 8 x ++ leBytes 8 l
  | .latch es => recHead 5 es.length 0 ++ es.flatMap fun e => leBytes 4 e.1 ++ leBytes 4 e.2
  | .dir es => recHead 6 es.length 0 ++ es.flatMap fun e =>
      leBytes 8 (e.1 + b2n e.2.2.2 * 2 ^ 63) ++ leBytes 4 e.2.1 ++ zeros 4 ++ leBytes 8 e.2.2.1
  | .seqs es => recHead 7 es.length 0 ++ es.flatMap fun e => leBytes 4 (e.1 + e.2 * 65536)
  | .epochEnd e n => recHead 8 0 0 ++ leBytes 8 e ++ leBytes 8 n

/-- Bytes of the body of a record with a header; none for a reserved TYPE. -/
def recBody (ty count : Nat) : Option Nat :=
  if ty = 1 then some (64 * count)
  else if ty = 2 then some 0
  else if ty = 3 ∨ ty = 4 ∨ ty = 8 then some 16
  else if ty = 5 then some (8 * count)
  else if ty = 6 then some (24 * count)
  else if ty = 7 then some (4 * count)
  else none

/-- A record from its header and body. -/
def recOf (ty count ppa : Nat) (b : List Byte) : JRec :=
  if ty = 1 then .sectors ppa b
  else if ty = 2 then .poison ppa count
  else if ty = 3 then .fill ppa (leNat (slice b 0 8)) (leNat (slice b 8 8))
  else if ty = 4 then .copy ppa (leNat (slice b 0 5)) (leNat (slice b 8 8))
  else if ty = 5 then .latch ((List.range count).map fun i => (leNat (slice b (8 * i) 2), leNat (slice b (8 * i + 4) 4)))
  else if ty = 6 then .dir ((List.range count).map fun i =>
    let w := leNat (slice b (24 * i) 8)
    (bits w 39 6 * 64, leNat (slice b (24 * i + 8) 4), leNat (slice b (24 * i + 16) 8), bit w 63))
  else if ty = 7 then .seqs ((List.range count).map fun i =>
    (bits (leNat (slice b (4 * i) 4)) 11 0, bits (leNat (slice b (4 * i) 4)) 31 16))
  else .epochEnd (bits (leNat (slice b 0 8)) 47 0) (bits (leNat (slice b 8 8)) 31 0)

/-- The records of a JOURNAL payload; none where one is bad (R407). -/
def parseRecs : Nat → List Byte → Option (List JRec)
  | 0, b => if b.isEmpty then some [] else none
  | n + 1, b =>
    if b.isEmpty then some []
    else
      let h := leNat (slice b 0 8)
      let ty := bits h 7 0
      let count := bits h 23 8
      match recBody ty count with
      | none => none
      | some k =>
        if b.length < 16 + k ∨ bits h 63 24 ≠ 0 then none
        else (parseRecs n (b.drop (16 + k))).map fun r => recOf ty count (bits (leNat (slice b 8 8)) 39 0) (slice b 16 k) :: r

/-- Bytes of some records. -/
def recsLen (l : List JRec) : Nat := (l.map fun r => r.bytes.length).sum

/-- Granules a record writes (R424). -/
def JRec.granules : JRec → List Nat
  | .sectors p _ => [p / 4096 * 4096]
  | .poison p n => if n = 0 then [] else (upTo (p / 4096) ((p + 64 * n - 1) / 4096 + 1)).map (· * 4096)
  | .fill p l _ => if l = 0 then [] else (upTo (p / 4096) ((p + l - 1) / 4096 + 1)).map (· * 4096)
  | .copy p _ l => if l = 0 then [] else (upTo (p / 4096) ((p + l - 1) / 4096 + 1)).map (· * 4096)
  | _ => []

/-! ### Sending the journal (R405, R410) -/

/-- Records of one epoch, from the front of a list, that fit in n bytes. -/
def packRecs (e : Nat) : Nat → List (Nat × JRec) → List JRec × List (Nat × JRec)
  | _, [] => ([], [])
  | n, x :: r =>
    if x.1 = e ∧ x.2.bytes.length ≤ n then
      let t := packRecs e (n - x.2.bytes.length) r
      (x.2 :: t.1, t.2)
    else ([], x :: r)

/-- Whether a list of records ends its epoch. -/
def endsEpoch (l : List JRec) : Bool :=
  match l.getLast? with
  | some (.epochEnd _ _) => true
  | _ => false

/-- Send waiting records over the hinge, as they are produced; behind the granules of a delta resync (R424). -/
def State.sendJournal (s : State) : Nat → State
  | 0 => s
  | n + 1 =>
    match s.hps.unsent with
    | [] => s
    | x :: _ =>
      let stop := !s.hingeUp || (match s.hps.resync with
        | some y => !y.full && !y.granules.isEmpty
        | none => false)
      if stop then s
      else
        let t := packRecs x.1 4096 s.hps.unsent
        if t.1.isEmpty then { s with hps := { s.hps with unsent := s.hps.unsent.tail } }
        else
          let b := t.1.flatMap JRec.bytes
          let s1 := { s with hps := { s.hps with unsent := t.2 } }.addCnt Reg.HPS_JRNL_TX_BYTES.OFF b.length
          State.sendJournal (s1.toPartner 1 x.1 (b2n (endsEpoch t.1) * 2 ^ 52) b) n

/-- Bytes of journal not yet sent: records, and JOURNAL packets that wait for a hinge port. -/
def State.unsentBytes (s : State) : Nat :=
  recsLen (s.hps.unsent.map (·.2))
  + ((s.txq.filter fun t => t.p.opcode == 0x67 && hbKind t.p == 1).map fun t => t.p.length).sum

/-- a is not after b in the 48-bit numbering of epochs. -/
def epochLe (a b : Nat) : Bool := decide ((b + 2 ^ 48 - a) % 2 ^ 48 < 2 ^ 47)

/-- The spill is full of epochs not acknowledged (R410). -/
def State.spillFull (s : State) : Bool :=
  s.hpsState == 2 && s.flag Reg.HPS_STAT.IN_SYNC
  && decide (536870912 ≤ ((s.hps.spill.filter fun e => !epochLe e.1 (s.f Reg.HPS_ACKED.EPOCH)).map fun e => recsLen e.2).sum)

/-- Enter and leave journal back-pressure; what waited runs again. -/
def State.backPressure (s : State) : State :=
  let bp := s.flag Reg.HPS_STAT.BP
  let top := s.f Reg.HPS_JRNL_CTRL.BP_MIB * 1048576
  if !bp && (decide (top < s.unsentBytes) || s.spillFull) then
    ((s.setFlag Reg.HPS_STAT.BP true).bump Reg.HPS_BP_CNT.OFF).evt Pg.HPS 6
  else if bp && decide (2 * s.unsentBytes < top) && !s.spillFull then
    let s1 := { s.setFlag Reg.HPS_STAT.BP false with hps := { s.hps with bpWait := [] } }
    s.hps.bpWait.foldl (fun acc w => acc.wake w .again) s1
  else s

/-- Drop the oldest epochs that need not be kept while the spill region is over-full, and show its state. -/
def State.trimSpill (s : State) : Nat → State
  | 0 => s
  | n + 1 =>
    match s.hps.spill with
    | x :: rest =>
      let free := epochLe x.1 (s.f Reg.HPS_ACKED.EPOCH) || !(s.hpsState == 2 && s.flag Reg.HPS_STAT.IN_SYNC)
      if decide (536870912 < (s.hps.spill.map fun e => recsLen e.2).sum) && free then
        State.trimSpill { s with hps := { s.hps with spill := rest } } n
      else s
    | [] => s

def State.showSpill (s : State) : State :=
  let used := (s.hps.spill.map fun e => recsLen e.2).sum
  (s.setF Reg.HPS_SPILL_OLDEST.EPOCH (match s.hps.spill with
    | x :: _ => x.1
    | [] => s.epochNow)).setF Reg.HPS_SPILL_STAT.USED_MIB (min 512 ((used + 1048575) / 1048576))

/-- C of the sources that moved in the open epoch, as SEQ records. -/
def State.seqRecs (s : State) : List JRec :=
  let es := s.hps.seqTouched.filterMap fun n => (s.seqEntry (n + 4096)).map fun e => (n, e.c % 65536)
  let rec cut : Nat → List (Nat × Nat) → List JRec
    | 0, _ => []
    | _, [] => []
    | k + 1, l => JRec.seqs (l.take 512) :: cut k (l.drop 512)
  cut es.length es

/-- End the open epoch (R405): SEQ records, EPOCH_END; it goes to the spill. -/
def State.epochClose (s : State) : State :=
  if s.journalling = false then s
  else
    let e := s.epochNow
    let recs := s.hps.cur ++ s.seqRecs
    let fin := JRec.epochEnd e recs.length
    let tail := s.seqRecs ++ [fin]
    let h := { s.hps with
      cur := [], seqTouched := [], spill := s.hps.spill ++ [(e, recs ++ [fin])]
      unsent := if s.journalSends then s.hps.unsent ++ tail.map fun r => (e, r) else s.hps.unsent }
    let s1 := { s with hps := h }.setF Reg.HPS_EPOCH_NUM.EPOCH ((e + 1) % 2 ^ 48)
    (s1.trimSpill s1.hps.spill.length).showSpill

/-! ### Held responses (R408) -/

/-- Let the responses of epochs that a test names leave. -/
def State.releaseHeld (s : State) (t : Nat → Bool) : State :=
  (s.hps.held.filter fun h => t h.epoch).foldl (fun acc h => if h.cxl.isEmpty then acc.sendRsp h.port h.q h.p else acc.cxlSend h.q.cls h.cxl)
    { s with hps := { s.hps with held := s.hps.held.filter fun h => !t h.epoch } }

/-- The standby is no longer in sync: nothing waits for it. -/
def State.outOfSync (s : State) : State :=
  ((s.setFlag Reg.HPS_STAT.IN_SYNC false).releaseHeld fun _ => true).dualSet

/-! ### The lease (R412 to R414) -/

/-- Send LEASE_REQ. -/
def State.leaseSend (s : State) (solo : Bool) : State :=
  { s with hps := { s.hps with reqAt := s.time, reqSince := s.hps.reqSince || s.hpsState == 4 } }.toWitness 5 (b2n solo * 2 ^ 55)

/-- Every 250 µs the holder renews. -/
def State.leaseRenew (s : State) : State := if s.paired && s.serving then s.leaseSend false else s

/-- A JOINING member asks again. -/
def State.joiningRetry (s : State) : State := if s.paired && s.hpsState == 1 then s.leaseSend false else s

/-- The active's open epoch stays in its spill when it stops serving. -/
def State.stopServing (s : State) : State :=
  let h := { s.hps with
    spill := if s.hps.cur.isEmpty then s.hps.spill else s.hps.spill ++ [(s.epochNow, s.hps.cur)]
    cur := [], unsent := [], seqTouched := [], resync := none, held := [], exempt := none }
  { s with hps := h }

/-- Yield the pair ID (R414): responses still held are lost with the lease. -/
def State.yieldLease (s : State) : State :=
  let s1 := (((s.setLease false).stopServing.setHpsState 7).setFlag Reg.HPS_STAT.CONT false).setFlag Reg.HPS_STAT.IN_SYNC false
  ((s1.dualSet).evt Pg.HPS 3).fault (mkRec 118 2 0x0C03)

/-- The reckoning of a holder's lease ends without renewal: continuation where CONT_ACK came within 2 × HB_US, else it yields. -/
def State.leaseExpiry (s : State) : State :=
  if s.paired && s.serving && !s.flag Reg.HPS_STAT.CONT then
    (if s.hps.contAt != 0 && decide (s.time ≤ s.hps.contAt + 2000 * s.f Reg.HPS_TIMERS.HB_US) then s.setFlag Reg.HPS_STAT.CONT true
     else s.yieldLease)
  else s

/-- No CONT_ACK within 2 × HB_US in continuation. -/
def State.contTimeout (s : State) : State :=
  if s.paired && s.serving && s.flag Reg.HPS_STAT.CONT then s.yieldLease else s

/-- A member turns stale (R423). A full copy that is not through is to be made again (R424). -/
def State.turnStale (s : State) : State :=
  { (s.setHpsState 5).setFlag Reg.HPS_STAT.IN_SYNC false with
    hps := { s.hps with rx := [], resyncRx := false, joined := false, wanted := [], repairs := [], repairAsk := [] } }.dualSet

/-- LEASE_GRANT (R412, R416): a renewal, the end of JOINING, or steps 1 to 3 of a takeover. -/
def State.leaseGrant (s : State) (p : Packet) : State :=
  let g := hbGen p
  let s1 := (s.setF Reg.HPS_GEN.GEN g)
  let s2 := { s1 with hps := { s1.hps with leaseEnd := s.hps.reqAt + 950000 } }
  let lost := (List.range 64).foldl (fun m n =>
    if s.f (Reg.PTN_SIZE.SIZE_GIB n) != 0 && !s.flag (Reg.PTN_FLAGS.MIRRORED n) then putBit m n true else m) (s.f Reg.HPS_PTN_LOST.LOST)
  let take (u : State) : State :=
    let seqs := u.hps.lastSeqs.foldl (fun acc e => acc.setSeq (e.1 + 4096) ⟨65536 + e.2, 65536 + e.2, false, []⟩) u
    let dual := (seqs.reqs.filter fun r => r.cxl.isNone && seqs.toPair r.pkt)
    let v := dual.foldl (fun acc r => acc.dropReq r.id) seqs
    ({ v.setHpsState 6 with hps := { v.hps with rx := [], lastSeqs := [], repairs := [], repairAsk := [] } }.setF Reg.HPS_PTN_LOST.LOST lost).setFlag
      Reg.HPS_STAT.DUAL_ON false
  if s.serving then s2.setFlag Reg.HPS_STAT.CONT false
  else if s.hpsState = 1 then (s2.setLease true).setHpsState 3
  else if s.hpsState = 4 then take s2
  else if s.hpsState = 7 && g == s.generation then take s2
  else s

/-- LEASE_REFUSE (R412, R427). -/
def State.leaseRefuse (s : State) : State :=
  let s1 := s.fault (mkRec 118 0 0x0C04)
  let held := !s.hps.lost && (s.hps.pState == 2 || s.hps.pState == 3)
  if s.hpsState = 4 ∨ s.hpsState = 7 ∨ (s.hpsState = 1 ∧ held) then s1.turnStale else s1

/-- Send PAIR_STATUS to the manager node. -/
def State.pairStatus (s : State) : State :=
  match s.mgrNode with
  | some n =>
    if s.paired && s.serving then
      s.inject (s.heartbeat n 9 (s.f Reg.RTB_NODE.PAIR_ID) s.epochNow s.generation 0 []) none
    else s
  | none => s

/-- Steps 4 to 6 of a takeover (R416); held packets go on at the end of this step. The journalled form of a pinned entry names the requester of its
transaction beside the holders, so the clean-up snoops it too (R236, log entry 94). -/
def State.takeoverDone (s : State) : State :=
  if s.hpsState = 6 then
    let s0 := if s.hps.spill.any fun e => e.1 == s.epochNow then s else s.setF Reg.HPS_EPOCH_NUM.EPOCH ((s.epochNow + 1) % 2 ^ 48)
    let s1 := ((s0.setLease true).setHpsState 3).setFlag Reg.HPS_STAT.IN_SYNC false
    let s2 := { s1 with hps := { s1.hps with gapUntil := s.time + 10000000, loadUntil := s.time + 1000000, switching := 0 } }
    let s3 := (((s2.evt Pg.HPS 2).bump Reg.HPS_SWITCH_CNT.OFF).fault (mkRec 118 0 0x0C02)).pairStatus
    let pinned := (s3.dir.ents.filter fun e => e.2.pin && s3.mirrored e.2.line).map (·.2.line)
    pinned.foldl (fun acc l => acc.recall l .cleanup) s3
  else s

/-- The gap rule of R417 ends. -/
def State.takeoverWindowEnd (s : State) : State := { s with hps := { s.hps with gapUntil := 0 } }

/-! ### BEATs (R404, R414, R415) -/

/-- Whether a standby may send CONT_ACK. -/
def State.contAck (s : State) : Bool :=
  s.hpsState == 4 && s.hps.beatAt != 0 && decide (s.time ≤ s.hps.beatAt + 1000 * s.f Reg.HPS_TIMERS.HB_US) && !s.hps.reqSince && !s.hps.lost

/-- Send a BEAT: the active's carries the last LOAD it placed in a response of the pair ID, and so does the one that tells of a released
lease (R56, R404, R418). -/
def State.beatOut (s : State) (leaseLost : Bool) : State :=
  s.toPartner 0 s.epochNow (b2n s.contAck * 2 ^ 53 + b2n leaseLost * 2 ^ 54
    + (if s.serving || leaseLost then s.hps.lastLoad * 2 ^ 60 else 0)) []

/-- Every HB_US a member sends a BEAT. -/
def State.beatSend (s : State) : State := if s.paired && !s.hps.mute then s.beatOut (s.hpsState == 7) else s

/-- Divergent epochs of a member that was active: those of its spill the standby had not acknowledged; their granules. -/
def State.divergent (s : State) : List Nat :=
  ((s.hps.spill.filter fun e => !epochLe e.1 (s.f Reg.HPS_ACKED.EPOCH)).flatMap fun e => e.2.flatMap JRec.granules).dedup

/-- Ask the active for a resync (R424). DESIGN CHOICE, as the layout of the payload is not stated: the first word holds L, with the checkpoint to
resume from in its bits 63:48 (R425) and all ones for a full copy from zero, the rest the granules of the divergent epochs; more granules than fit ask
for a full one (log entry 56). -/
def State.resyncAsk (s : State) : State :=
  let gs := s.divergent
  let was := !s.hps.spill.isEmpty
  let l := if was then s.f Reg.HPS_ACKED.EPOCH else s.epochNow
  let c := s.f Reg.HPS_RESYNC_POS.CHECKPOINT
  let again := s.hps.resume && c != 0
  let full := s.hps.full || decide (511 < gs.length)
  let s1 := { s with hps := { s.hps with
    resyncRx := true, joined := false, wanted := if full then [] else gs, full := full, resume := false, spill := [] } }
  let s2 := if again then s1 else s1.setF Reg.HPS_RESYNC_POS.CHECKPOINT 0
  (s2.setF Reg.HPS_EPOCH_NUM.EPOCH l).toPartner 3 0 0
    (leBytes 8 (if again then l + c * 2 ^ 48 else if full then 2 ^ 64 - 1 else l) ++ (if full then [] else gs.flatMap (leBytes 8)))

/-- A BEAT from the partner (R414, R424, R427). -/
def State.beatIn (s : State) (p : Packet) : State :=
  let hb := 1000 * s.f Reg.HPS_TIMERS.HB_US
  let gone := if s.hps.beatAt = 0 ∨ s.hps.lost then 0 else (s.time - s.hps.beatAt) / hb - 1
  let s0 := ((s.addCnt Reg.HPS_HB_MISS_CNT.OFF gone).setFlag Reg.HPS_STAT.PARTNER_UP true).setF Reg.HPS_STAT.JFMT (min (s.f Reg.GLB_FW_VER.JFMT_LOW % 16) (hbJfmt p))
  let s1 := { s0 with hps := { s0.hps with
    beatAt := s.time, contAt := if hbContAck p then s.time else s.hps.contAt, lost := false
    pState := hbState p, pGen := hbGen p, pEpoch := hbEpoch p
    pLoad := if hbState p == 2 || hbState p == 3 || hbLeaseLost p then hbLoad p else s.hps.pLoad } }
  let serves := hbState p == 2 || hbState p == 3
  let st := s.hpsState
  if st = 3 && hbState p == 4 && hbGen p == s.generation then
    { (s1.setHpsState 2).setFlag Reg.HPS_STAT.IN_SYNC true with
      hps := { s1.hps with resync := none, exempt := some s.epochNow } }.setF Reg.HPS_STAT.RESYNC_KIND 0 |>.dualSet
  else if st = 2 && hbState p == 8 then (s1.setHpsState 3).outOfSync.evt Pg.HPS 4
  else if st = 2 && hbState p != 4 && s.flag Reg.HPS_STAT.IN_SYNC then s1.outOfSync
  else if st = 2 && hbState p == 4 && !s.flag Reg.HPS_STAT.IN_SYNC then
    { s1.setFlag Reg.HPS_STAT.IN_SYNC true with
      hps := { s1.hps with resync := none, exempt := some s.epochNow } }.setF Reg.HPS_STAT.RESYNC_KIND 0 |>.dualSet
  else if (st = 1 || st = 7) && serves then s1.turnStale.resyncAsk
  else if st = 4 && s.hps.switching == 4 && serves then { s1 with hps := { s1.hps with switching := 0 } }
  else if st = 8 && s.hps.switching == 4 && serves then { s1 with hps := { s1.hps with switching := 0 } }
  else if st = 4 && hbLeaseLost p then s1.leaseSend false
  else if st = 4 && serves && hbGen p != s.generation then s1.turnStale.resyncAsk
  else if st = 5 && serves && !s.hps.resyncRx then s1.resyncAsk
  else s1

/-- MISS BEATs in a row are missed (R415). -/
def State.partnerLost (s : State) : State :=
  if s.paired = false ∨ s.hps.lost then s
  else
    let s1 := { (s.setFlag Reg.HPS_STAT.PARTNER_UP false).addCnt Reg.HPS_HB_MISS_CNT.OFF (s.f Reg.HPS_TIMERS.MISS) with
      hps := { s.hps with lost := true } }
    let s2 := (s1.evt Pg.HPS 1).fault (mkRec 118 2 0x0C01)
    if s.hpsState = 4 then s2.leaseSend false
    else if s.hpsState = 2 then
      ({ (s2.setHpsState 3).outOfSync with hps := { s2.hps with held := [], unsent := [], resync := none } }.leaseSend true).evt Pg.HPS 4
    else s2

/-! ### The standby (R407) -/

/-- The journal is lost or bad: the standby leaves sync, and asks for a resync. -/
def State.journalBad (s : State) (bad : Bool) : State :=
  (if bad then s.fault (mkRec 118 2 0x0C06) else s).turnStale.resyncAsk

/-- A record whose PPA lies outside a MIRRORED partition. -/
def State.skipRec (s : State) (ppa : Nat) : State :=
  ((s.bump Reg.HPS_MISMATCH_CNT.OFF).evt Pg.HPS 8).fault { mkRec 118 0 0x0C05 with addr := ppa, addrPpa := true }

/-- Replay one sector of a COPY from the replica: a sector that is uncorrectable is poisoned and its granule asked for (R426). -/
def State.replayCopy (s : State) (dst src : Nat) : State :=
  match s.decodeSector src [] with
  | .clean d => (s.storeSector dst d).unpoisonList dst
  | .corrected d => ((s.corrected src d).storeSector dst d).unpoisonList dst
  | .poisoned _ => s.poisonSector dst
  | .uncorrectable =>
    let g := src / 4096 * 4096
    let s1 := (s.uncorrectable src 0x0701 0 0xFFF).poisonSector dst
    if s1.hps.repairs.contains g || s1.hps.repairAsk.contains g then s1
    else { s1 with hps := { s1.hps with repairAsk := s1.hps.repairAsk ++ [g] } }

/-- A directory entry of a DIR record. -/
def dirOf (line data1 sharers : Nat) (pin : Bool) : DirEnt :=
  let coarse := bit data1 3
  ⟨line, bits data1 2 0, coarse, bits data1 15 4,
    if coarse then [] else (List.range (bits data1 31 16)).map fun i => bits sharers (9 * i + 8) (9 * i),
    if coarse then sharers else 0, pin⟩

/-- Apply a DIR entry to this member's directory. -/
def State.applyDir (s : State) (e : DirEnt) : State :=
  let put (k : Nat) (x : DirEnt) : State := { s with dir := { s.dir with ents := SMap.set (fun _ => noDirEnt) s.dir.ents k x } }
  match s.dirFind e.line with
  | some (k, _) => if e.dstate = 0 && !e.pin then put k noDirEnt else put k e
  | none =>
    if e.dstate = 0 then s
    else match s.dirFree e.line with
      | some k => put k e
      | none => s

/-- C of a source that addresses the pair ID, as its SEQ record gives it (R416, R422): what its copies wrote has been applied. -/
def State.applySeq (s : State) (n c : Nat) : State :=
  let s1 := { s with hps := { s.hps with lastSeqs := SMap.set (fun _ => 2 ^ 20) s.hps.lastSeqs n c } }
  match s1.seqEntry (n + 4096) with
  | none => s1
  | some e =>
    let d := (c + 65536 - e.c % 65536) % 65536
    if d = 0 ∨ 32768 ≤ d then s1
    else
      let e1 := { e with c := e.c + d, nums := e.nums.filter fun x => decide (e.c + d < x.n) }
      let s2 := s1.setSeq (n + 4096) e1.settle
      { s2 with reqs := s2.reqs.filter fun r =>
          !(r.cxl.isNone && s2.toPair r.pkt && r.pkt.src == n && decide (r.n ≤ e.c + d) && r.pkt.opcode != 1 && !r.started) }

/-- Apply a record (R407). -/
def State.applyRec (s : State) (r : JRec) : State :=
  match r with
  | .sectors p d =>
    (List.range (d.length / 64)).foldl (fun acc i =>
      let a := p + 64 * i
      if acc.mirrored a then (acc.storeSector a (slice d (64 * i) 64)).unpoisonList a else acc.skipRec a) (s.rangeAccess 5 p d.length true)
  | .poison p n =>
    (List.range n).foldl (fun acc i => if acc.mirrored (p + 64 * i) then acc.poisonSector (p + 64 * i) else acc.skipRec (p + 64 * i)) s
  | .fill p l q =>
    if s.mirrored p then s.fillSectors p (l / 64) q else s.skipRec p
  | .copy p x l =>
    if s.mirrored p && s.mirrored x then
      let s1 := (s.rangeAccess 5 x l false).rangeAccess 5 p l true
      (List.range (l / 64)).foldl (fun acc i => acc.replayCopy (p + 64 * i) (x + 64 * i)) s1
    else s.skipRec p
  | .latch es => { s with lch := { s.lch with
      counts := es.foldl (fun m e => SMap.set (fun _ => 0) m e.1 e.2) s.lch.counts, changed := s.time, raised := false } }
  | .dir es => es.foldl (fun acc e => acc.applyDir (dirOf e.1 e.2.1 e.2.2.1 e.2.2.2)) s
  | .seqs es => es.foldl (fun acc e => acc.applySeq e.1 e.2) s
  | .epochEnd _ _ => s

/-- PPA of the granule that ends a full copy on this member: the last of its INITIALISED MIRRORED partitions. -/
def State.lastMirrored (s : State) : Nat :=
  (List.range 64).foldl (fun m n =>
    if s.f (Reg.PTN_SIZE.SIZE_GIB n) != 0 && s.flag (Reg.PTN_FLAGS.MIRRORED n) && s.flag (Reg.PTN_FLAGS.INITIALISED n) then
      max m ((s.f (Reg.PTN_BASE.BASE_GIB n) + s.f (Reg.PTN_SIZE.SIZE_GIB n)) * 2 ^ 30) else m) 0

/-- The resync's last step is done (R424): the standby is in sync. -/
def State.resyncDone (s : State) : State :=
  let s1 := ((s.setF Reg.HPS_GEN.GEN s.hps.pGen).setHpsState 4).setFlag Reg.HPS_STAT.IN_SYNC true
  let s2 := { s1.setF Reg.HPS_STAT.RESYNC_KIND 0 with hps := { s1.hps with resyncRx := false, joined := false, full := false, wanted := [], reqSince := false } }
  ((s2.evt Pg.HPS 5).fault (mkRec 118 0 0x0C08)).dualSet

/-- A stale member has caught up: what it asked for has come, and it has applied the epoch before the partner's open one. -/
def State.resyncTest (s : State) : State :=
  if s.hpsState == 5 && s.hps.resyncRx && s.hps.joined && s.hps.wanted.isEmpty && !s.hps.full
      && epochLe s.hps.pEpoch ((s.epochNow + 1) % 2 ^ 48) then s.resyncDone else s

/-- A whole epoch has come (R407): applied, acknowledged; a wrong count or a gap ends sync. The first epoch of a resync that does not
follow L shows that the resync is full. -/
def State.epochIn (s : State) (recs : List JRec) (e : Nat) : State :=
  let good := match recs.getLast? with
    | some (.epochEnd x n) => x == e && n == recs.length - 1
    | _ => false
  let next := e == (s.epochNow + 1) % 2 ^ 48
  let first := s.hpsState == 5 && !s.hps.joined
  if good = false then s.journalBad true
  else if next = false && first = false then s.journalBad false
  else
    let s1 := (recs.foldl (fun acc r => acc.applyRec r) s).addCnt Reg.HPS_JRNL_RX_BYTES.OFF (recsLen recs)
    let s2 := { s1.setF Reg.HPS_EPOCH_NUM.EPOCH e with
      hps := { s1.hps with rx := [], joined := true, full := s1.hps.full || (first && !next) } }
    (s2.toPartner 2 e 0 []).resyncTest

/-- A JOURNAL packet (R407). -/
def State.journalIn (s : State) (p : Packet) : State :=
  if s.hpsState == 4 || (s.hpsState == 5 && s.hps.resyncRx) then
    match parseRecs (p.payload.length + 1) p.payload with
    | none => s.journalBad true
    | some l =>
      let recs := (if s.hps.rxEpoch = hbEpoch p then s.hps.rx else []) ++ l
      if s.hps.rxEpoch ≠ hbEpoch p ∧ s.hps.rx ≠ [] then s.journalBad false
      else if hbLast p then s.epochIn recs (hbEpoch p)
      else { s with hps := { s.hps with rx := recs, rxEpoch := hbEpoch p } }
  else s

/-! ### Resync (R424 to R426) -/

/-- The first granule at or after a PPA in an INITIALISED MIRRORED partition. -/
def State.nextMirrored (s : State) (a : Nat) : Option Nat :=
  ((List.range 64).filterMap fun n =>
    let b := s.f (Reg.PTN_BASE.BASE_GIB n) * 2 ^ 30
    let z := s.f (Reg.PTN_SIZE.SIZE_GIB n) * 2 ^ 30
    if z != 0 && s.flag (Reg.PTN_FLAGS.MIRRORED n) && s.flag (Reg.PTN_FLAGS.INITIALISED n) && decide (a < b + z) then some (max a b)
    else none).min?

/-- The GiB of the PPA space that a full resync copies, ascending: those of INITIALISED MIRRORED partitions (R424). -/
def State.mirroredGib (s : State) : List Nat :=
  (List.range 1024).filter fun g => (List.range 64).any fun n =>
    decide (s.f (Reg.PTN_BASE.BASE_GIB n) ≤ g) && decide (g < s.f (Reg.PTN_BASE.BASE_GIB n) + s.f (Reg.PTN_SIZE.SIZE_GIB n))
      && s.flag (Reg.PTN_FLAGS.MIRRORED n) && s.flag (Reg.PTN_FLAGS.INITIALISED n)

/-- Checkpoints of a full copy that are done once a PPA is reached. -/
def State.checkpointAt (s : State) (a : Nat) : Nat := (s.mirroredGib.filter fun g => decide ((g + 1) * 2 ^ 30 ≤ a)).length

/-- Where a full copy goes on after some checkpoints. -/
def State.checkpointPos (s : State) (c : Nat) : Nat := (s.mirroredGib.getD c 1024) * 2 ^ 30

/-- Send one granule (R424): a poisoned sector goes as zeros, and a POISON record follows it in the stream. -/
def State.sendGranule (s0 : State) (g : Nat) : State :=
  let s := s0.rangeAccess 5 g 4096 false
  let z := (List.range 64).foldl (fun (acc : State × List Byte × List Nat) i =>
    let d := acc.1.demandSector (g + 64 * i) 0 0xFFF []
    (d.1, acc.2.1 ++ d.2.1, if d.2.2 then acc.2.2 ++ [g + 64 * i] else acc.2.2)) (s, [], [])
  let s1 := (z.1.toPartner 4 (g % 2 ^ 40) 0 z.2.1).addCnt Reg.HPS_RESYNC_BYTES.OFF 4096
  z.2.2.foldl (fun acc a => acc.journal (.poison a 1)) (s1.takeResync 4096)

/-- Send granules of the resync being served while its allowance lasts (R387). -/
def State.resyncPump (s : State) : Nat → State
  | 0 => s
  | n + 1 =>
    match s.hps.resync with
    | none => s
    | some y =>
      if s.hingeUp = false then s
      else if s.resyncAllowed = false then (if y.full || !y.granules.isEmpty then s.noteResyncHeld else s)
      else match y.granules with
        | g :: rest => State.resyncPump ({ s with hps := { s.hps with resync := some { y with granules := rest } } }.sendGranule g) n
        | [] =>
          if y.full then match s.nextMirrored y.pos with
            | some g => State.resyncPump ({ s with hps := { s.hps with resync := some { y with pos := g + 4096 } } }.sendGranule g) n
            | none => s
          else s

/-- RESYNC_REQ at the active (R424 to R426): one granule; or epochs, then granules asked for; or, resumed from a checkpoint, epochs and then the
rest of the copy; or a full copy. -/
def State.resyncReq (s : State) (p : Packet) : State :=
  if s.serving = false then s
  else if p.length = 0 then s.sendGranule (hbGranule p)
  else
    let w (i : Nat) : Nat := leNat (slice p.payload (8 * i) 8)
    let l := w 0
    let oldest := match s.hps.spill with
      | x :: _ => x.1
      | [] => s.epochNow
    let e := l % 2 ^ 48
    let c := l / 2 ^ 48
    let kept := decide (c < 2 ^ 16 - 1) && epochLe oldest ((e + 1) % 2 ^ 48) && epochLe ((e + 1) % 2 ^ 48) s.epochNow
    let delta := kept && c == 0
    let opened := s.hps.cur.map fun r => (s.epochNow, r)
    let since := ((s.hps.spill.filter fun x => !epochLe x.1 e).flatMap fun x => x.2.map fun r => (x.1, r)) ++ opened
    let s1 := s.setF Reg.HPS_STAT.RESYNC_KIND (if delta then 1 else 2)
    let h := if delta then { s.hps with
        resync := some ⟨(List.range (p.length / 8 - 1)).map fun i => w (i + 1) / 4096 * 4096, false, 0⟩, unsent := since }
      else if kept then { s.hps with resync := some ⟨[], true, s.checkpointPos c⟩, unsent := since }
      else { s.hps with resync := some ⟨[], true, 0⟩, unsent := opened }
    (if kept && !delta then State.sendJournal { s1 with hps := h } since.length else { s1 with hps := h }).resyncPump 4096

/-- Write a granule to the replica. -/
def State.putGranule (s : State) (g : Nat) (b : List Byte) : State :=
  ((List.range 64).foldl (fun acc i => (acc.storeSector (g + 64 * i) (slice b (64 * i) 64)).unpoisonList (g + 64 * i))
    (s.rangeAccess 5 g 4096 true)).addCnt Reg.HPS_RESYNC_BYTES.OFF 4096

/-- RESYNC_DATA at the stale member or, for a repair, at the standby. A granule not asked for shows that the resync is full. -/
def State.resyncIn (s : State) (p : Packet) : State :=
  let g := hbGranule p
  if s.mirrored g = false then s.skipRec g
  else if s.hpsState == 4 && s.hps.repairs.contains g then
    let s1 := s.putGranule g p.payload
    ({ s1 with hps := { s1.hps with repairs := s1.hps.repairs.erase g } }.bump Reg.HPS_REPAIR_CNT.OFF).fault
      { mkRec 118 0 0x0C09 with addr := g, addrPpa := true }
  else if s.hpsState == 5 && s.hps.resyncRx then
    let s1 := s.putGranule g p.payload
    if s.hps.wanted.contains g then { s1 with hps := { s1.hps with wanted := s1.hps.wanted.erase g } }.resyncTest
    else
      let s2 := if (g + 4096) % 2 ^ 30 = 0 then s1.setF Reg.HPS_RESYNC_POS.CHECKPOINT (min 767 (s1.checkpointAt (g + 4096))) else s1
      { s2 with hps := { s2.hps with full := !(g + 4096 == s2.lastMirrored), wanted := [] } }.resyncTest
  else s

/-- Ask for the granules to be repaired. -/
def State.askRepairs (s : State) : State :=
  s.hps.repairAsk.foldl (fun acc g => acc.toPartner 3 (g % 2 ^ 40) 0 [])
    { s with hps := { s.hps with repairAsk := [], repairs := s.hps.repairs ++ s.hps.repairAsk } }

/-! ### Planned switch-over (R419, R420) -/

/-- Start a planned switch-over. -/
def State.switchStart (s : State) : State := { s with hps := { s.hps with switching := 1 } }

/-- HPS_CTRL.SWITCH: accepted on a member in ACTIVE, and changing nothing more on one that is switching over already (R419). -/
def State.switchWrite (s : State) (a : Path) : State :=
  if s.hpsState ≠ 2 then s.hpsReject a Reg.HPS_CTRL.OFF else if s.hps.switching = 0 then s.switchStart else s

/-- The 1 ms of R419 step 2 ends: ward operations and parked waits of the pair ID end ABORTED. -/
def State.switchDrain (s : State) : State :=
  if s.hps.switching = 1 then
    let ops := s.wrd.ops.filter fun o => (s.req? o.id).any fun r => s.toPair r.pkt
    let s1 := ops.foldl (fun acc o => acc.abortWop o.id) s
    let s2 := s1.abortParks fun k => k.r.cxl.isNone && s1.toPair k.r.pkt
    { s2 with hps := { s2.hps with switching := 2 } }
  else s

/-- Admitted pair-ID requests have ended: the epoch is closed and its acknowledgement awaited (R419 step 3). -/
def State.switchClose (s : State) : State :=
  if s.hps.switching == 2 && !(s.reqs.any fun r => r.cxl.isNone && s.toPair r.pkt) then
    let e := s.epochNow
    let s1 := s.epochClose
    { s1 with hps := { s1.hps with switching := 3, switchEpoch := e } }
  else s

/-- This member is to be EXCLUDED (R420): a stack has failed or it is in basic service. -/
def State.excluded (s : State) : Bool := s.basic || (List.range s.part.stacks).any s.stackFailed

/-- R419 step 4: the lease is released. -/
def State.switchRelease (s : State) : State :=
  let s1 := (s.toWitness 8 0).setLease false
  let s2 := s1.setHpsState (if s.excluded then 8 else 4)
  let s3 := s2.setF Reg.HPS_EPOCH_NUM.EPOCH s.hps.switchEpoch
  ({ s3 with hps := { s3.hps with switching := 4, reqSince := false, cur := [], unsent := [], resync := none, lastSeqs := [], exempt := none } }.beatOut true).dualSet

/-- A JRNL_ACK reaches the active (R408). -/
def State.journalAck (s : State) (e : Nat) : State :=
  if s.serving = false then s
  else
    let s1 := if epochLe (s.f Reg.HPS_ACKED.EPOCH) e then s.setF Reg.HPS_ACKED.EPOCH e else s
    let s2 := ((s1.releaseHeld fun x => epochLe x e).trimSpill s1.hps.spill.length).showSpill
    if s2.hps.switching = 3 ∧ epochLe s2.hps.switchEpoch e then s2.switchRelease else s2

/-- What R420 and R427 do when this member can serve no more: a planned switch-over with a standby in sync, EXCLUDED otherwise. -/
def State.excludeTest (s : State) : State :=
  if s.paired && s.excluded && s.hpsState != 8 && s.hpsState != 0 then
    if s.hpsState == 2 && s.flag Reg.HPS_STAT.IN_SYNC && s.flag Reg.HPS_CTRL.AUTO_SWITCH then
      (if s.hps.switching = 0 then s.switchStart else s)
    else if s.serving then s
    else (s.setHpsState 8).setFlag Reg.HPS_STAT.IN_SYNC false
  else s

/-! ### Forming and leaving a pair (R398) -/

/-- A member with nothing of a pair in it. -/
def hpsNone (w : List WitWait) (e : List (Nat × Nat)) : Hps :=
  { cur := [], unsent := [], spill := [], seqTouched := [], touched := false, held := [], exempt := none, rx := [], rxEpoch := 0,
    lastSeqs := [], hold := [], reqAt := 0, leaseEnd := 0, reqSince := false, beatAt := 0, contAt := 0, pState := 0, pGen := 0,
    pEpoch := 0, pLoad := 0, lastLoad := 0, lost := false, switching := 0, switchEpoch := 0, gapUntil := 0, loadUntil := 0,
    bpWait := [], waits := w, witEnd := e, resync := none, resyncRx := false, wanted := [], full := false, joined := false, heldAtReset := false,
    resume := false,
    repairAsk := [], repairs := [], mute := false }

/-- PAIR_EN is cleared: a holder releases its lease first. What was held for the pair goes on as if it were acknowledged. -/
def State.pairLeave (s : State) : State :=
  let s1 := if s.serving then s.toWitness 8 0 else s
  let s2 := s1.releaseHeld fun _ => true
  let hold := s2.hps.hold
  let wake := s2.hps.bpWait
  let s3 := { s2.setLease false with hps := { hpsNone s2.hps.waits s2.hps.witEnd with hold := hold } }
  let s4 := s3.setWord Reg.HPS_STAT.OFF (2 ^ 12 + (if s.hpsState = 8 then 8 else 0))
  wake.foldl (fun acc w => acc.wake w .again) (s4.setFlag Reg.HPS_CTRL.PAIR_EN false)

/-- PAIR_EN is set: the member joins, and asks for the lease. -/
def State.pairJoin (s : State) : State :=
  let s1 := s.setFlag Reg.HPS_CTRL.PAIR_EN true
  if s.hpsState = 8 then s1 else (s1.setHpsState 1).leaseSend false

/-- A write of HPS_CTRL (R398, R419, R428). -/
def State.hpsCtrlWrite (s : State) (a : Path) (v : Nat) : State :=
  let on := s.flag Reg.HPS_CTRL.PAIR_EN
  let ok := s.hasId && s.f Reg.RTB_NODE.PAIR_ID != 0xFFF && s.f Reg.HPS_PARTNER.PARTNER != 0xFFF && s.f Reg.HPS_PARTNER.WITNESS != 0xFFF
  if bit v 0 && !on && !ok then s.hpsReject a Reg.HPS_CTRL.OFF
  else
    let s1 := ((s.setF Reg.HPS_CTRL.DUAL (bits v 1 1)).setF Reg.HPS_CTRL.AUTO_SWITCH (bits v 2 2)).setF Reg.HPS_CTRL.WITNESS_EN (bits v 4 4)
    let s2 := if bit v 0 && !on then s1.pairJoin else if !bit v 0 && on then s1.pairLeave else s1
    if bit v 3 then s2.dualSet.switchWrite a else s2.dualSet

/-- Registers accepted only while PAIR_EN is 0 (R398, R428). -/
def pairLocked (off : Nat) : Bool :=
  off == Reg.HPS_PARTNER.OFF || off == Reg.HPS_EPOCH.OFF || (decide (Reg.HPS_GEN.OFF ≤ off) && decide (off < Reg.HPS_GEN.OFF + 8))
  || (decide (Reg.HPS_EPOCH_NUM.OFF ≤ off) && decide (off < Reg.HPS_EPOCH_NUM.OFF + 8)) || off == Reg.HPS_RESYNC_POS.OFF

/-- Drop a packet held too long (R415). -/
def State.holdDrop (s : State) (i : Nat) : State :=
  match s.hps.hold[i]? with
  | none => s
  | some (port, p, _) =>
    let s1 := { s with hps := { s.hps with hold := s.hps.hold.eraseIdx i } }
    let s2 := (s1.holdFreed port p.vc).bump Reg.HPS_HOLD_DROP_CNT.OFF
    if bit (s2.f (Hdr.EVT_STAT Pg.HPS)) 7 then s2 else (s2.evt Pg.HPS 7).fault { mkRec 118 0 0x0C07 with node := p.src }

/-! ### The witness (R411, R412) -/

/-- The witness entry of a pair that has a node as member. -/
def State.witFind (s : State) (pair n : Nat) : Option Nat :=
  if s.part.hinge && s.flag Reg.HPS_CTRL.WITNESS_EN then
    (List.range 16).find? fun k => s.flag (Reg.HPS_WIT_ID.VALID k) && s.f (Reg.HPS_WIT_ID.PAIR_ID k) == pair
      && (s.f (Reg.HPS_WIT_MEMBERS.MEMBER_A k) == n || s.f (Reg.HPS_WIT_MEMBERS.MEMBER_B k) == n)
  else none

/-- Answer a member. -/
def State.witSend (s : State) (k n kind : Nat) : State :=
  s.inject (s.heartbeat n kind (s.f (Reg.HPS_WIT_ID.PAIR_ID k)) 0 (s.f (Reg.HPS_WIT_GEN.GEN k)) 0 []) none

/-- A lease runs for 1 ms from now (R411, R412). -/
def State.witHold (s : State) (k : Nat) : State :=
  { s with hps := { s.hps with witEnd := SMap.set (fun _ => 0) s.hps.witEnd k (s.time + 1000000) } }.setFlag (Reg.HPS_WIT_HOLDER.HELD k) true

/-- Grant a pair's lease to a node as its new holder. -/
def State.witGrant (s : State) (k n : Nat) : State :=
  let s1 := (s.setF (Reg.HPS_WIT_GEN.GEN k) ((s.f (Reg.HPS_WIT_GEN.GEN k) + 1) % 2 ^ 48)).setF (Reg.HPS_WIT_HOLDER.HOLDER k) n
  (s1.witHold k).witSend k n 6

/-- A LEASE_REQ at the witness. -/
def State.leaseReq (s : State) (k : Nat) (p : Packet) : State :=
  let n := p.src
  let holder := s.f (Reg.HPS_WIT_HOLDER.HOLDER k)
  if hbGen p ≠ s.f (Reg.HPS_WIT_GEN.GEN k) then s.witSend k n 7
  else if holder = n then
    if hbSolo p then
      ((s.setF (Reg.HPS_WIT_GEN.GEN k) ((s.f (Reg.HPS_WIT_GEN.GEN k) + 1) % 2 ^ 48)).witHold k).witSend k n 6
    else (s.witHold k).witSend k n 6
  else if holder = 0xFFF then s.witGrant k n
  else if s.hps.waits.any fun w => w.pair == k && w.node == n then s
  else { s with hps := { s.hps with waits := s.hps.waits ++ [⟨k, n, hbGen p, s.time⟩] } }

/-- Serve the oldest waiting request of a pair: granted if its generation still fits, else refused. -/
def State.witServe (s : State) (k : Nat) : State :=
  match s.hps.waits.find? fun w => w.pair == k with
  | none => s
  | some w =>
    let s1 := { s with hps := { s.hps with waits := s.hps.waits.erase w } }
    if w.gen = s.f (Reg.HPS_WIT_GEN.GEN k) then s1.witGrant k w.node else s1.witSend k w.node 7

/-- A deferred request's wait ends: the holder's lease has expired and 500 µs have passed. -/
def State.witDue (s : State) (k : Nat) : State := if s.flag (Reg.HPS_WIT_HOLDER.HELD k) then s else s.witServe k

/-- LEASE_RELEASE from the holder: a waiting request needs wait no longer. -/
def State.leaseRelease (s : State) (k : Nat) (p : Packet) : State :=
  if s.f (Reg.HPS_WIT_HOLDER.HOLDER k) = p.src then
    ((s.setF (Reg.HPS_WIT_HOLDER.HOLDER k) 0xFFF).setFlag (Reg.HPS_WIT_HOLDER.HELD k) false).witServe k
  else s

/-- The holder's lease runs out at the witness. -/
def State.witExpiry (s : State) (k : Nat) : State := s.setFlag (Reg.HPS_WIT_HOLDER.HELD k) false

/-- A HEARTBEAT for this chip (R404). -/
def State.heartbeatIn (s : State) (p : Packet) : State :=
  let k := hbKind p
  if hbMalformed p then s.malformed p
  else if k = 5 ∨ k = 8 then
    match s.witFind (hbPair p) p.src with
    | some w => if k = 5 then s.leaseReq w p else s.leaseRelease w p
    | none => s.hbUnexpected p
  else if k = 6 then (if s.fromWitness p then s.leaseGrant p else s.hbUnexpected p)
  else if k = 7 then (if s.fromWitness p then s.leaseRefuse else s.hbUnexpected p)
  else if k = 9 ∨ s.fromPartner p = false then s.hbUnexpected p
  else if k = 0 then s.beatIn p
  else if k = 1 then s.journalIn p
  else if k = 2 then s.journalAck (hbEpoch p)
  else if k = 3 then s.resyncReq p
  else s.resyncIn p

end Sys2Proof.Machine
end

