-- ==== Sys2Proof/Machine/Pace.lean ====
section
/-! DEFINITION. What the traffic shaper does at its ticks (R362, R368, R370, R374): the buckets refill, the wheel makes class queues
eligible, congestion is computed, the queue histograms are sampled; and the CXL port's responses, which leave as their class queues let
them (R360, R369, log entry 24). -/

namespace Sys2Proof.Machine

/-- One 64 ns slot of every subscriber's buckets (R362). -/
def State.refillAll (s : State) : State :=
  (List.range 64).foldl (fun (u : State) b => (List.range 4).foldl (fun (v : State) k => v.refillOne b k) u) s

/-- The wheel of a port comes to a slot (R368): queues whose time has come are eligible again. -/
def State.calendarSlot (s : State) (p : Nat) : State :=
  { s with tsh := { s.tsh with elig := s.tsh.elig.filter fun e => !(e.1 / 8 == p && decide (e.2 ≤ s.time)) } }

/-- CXL responses leave while the scheduler has one to give (R369): with DevLoad of the LOAD of that moment (R372, R373). -/
def State.cxlDrain : Nat → State → State
  | 0, s => s
  | n + 1, s =>
    let r := s.schedule 6 0 none
    match r.2 with
    | none => r.1
    | some t =>
      let u := r.1.unqueue t
      match t.cxl with
      | none => State.cxlDrain n u
      | some (ld, tag, kind) =>
        let l := u.loadOf 4 (some ld)
        let w := if l = 15 then u.evt Pg.TSH 1 else u
        State.cxlDrain n (w.emit (.cxl ld tag (kind + 256 * devLoad l) t.p.payload))

/-- CXL responses that wait. -/
def State.cxlWaiting (s : State) : Nat := (s.txq.filter fun t => t.port == 6).length

/-- The level of an occupancy (R370). -/
def level (held size : Nat) : Nat := min 15 (16 * held / size)

/-- Link port of a shaped port: the CXL port's queues are those of port 6. -/
def queuePort (p : Nat) : Nat := if p = 4 then 6 else p

/-- Packets in a class queue of a shaped port (R360). -/
def State.classPackets (s : State) (p set c : Nat) : List TxPkt := (s.setPackets (queuePort p) set).filter fun t => t.p.cls == c

/-- Units or entries held in the receive buffer of a shaped port (R370). -/
def State.rxHeld (s : State) (p : Nat) : Nat :=
  if p < 4 then ((List.range 8).map (s.unitsHeld p)).sum else s.cxlEntries

/-- When what a receive buffer holds came in (R374). -/
def State.rxTimes (s : State) (p : Nat) : List Nat :=
  if p < 4 then
    (s.hps.hold.filter fun h => h.1 == p).map (·.2.2)
    ++ (s.reqs.filter fun r => r.cxl.isNone && r.port == p && s.sc.held.any fun h => h.id == r.id && h.units != 0).map (·.since)
    ++ (s.txq.filter fun t => t.rx.any fun x => x.1 == p).map (·.since)
    ++ (if (s.lnk p).partUnits = 0 then [] else [(s.lnk p).partAt])
  else s.tsh.hold.map (·.2.2) ++ s.cxlStuck.map (·.since)

/-- Accesses in the fullest pending queue of an arbiter requester (R253, R370). -/
def State.fullestPending (s : State) (i : Nat) : Nat :=
  (List.range s.part.stacks).foldl (fun (m : Nat) n =>
    max m (s.sc.pend.filter fun x => x.stack == n && x.requester == i).length) 0

/-- The congestion value of a port (R370). -/
def State.congestionNow (s : State) (p : Nat) : Nat :=
  let rsp := (s.setPackets (queuePort p) 0).length
  max (max (if p < 4 then level (s.rxHeld p) 1024 else level (s.rxHeld p) 256) (level s.dispatched.length 1024))
    (max (level (s.fullestPending p) 32) (level rsp 256))

/-- Compute the congestion of every shaped port. -/
def State.sampleCongestion (s : State) : State :=
  { s with tsh := { s.tsh with cong := SMap.setMany (fun _ => 0) s.tsh.cong ((List.range 5).map fun p => (p, s.congestionNow p)) } }

/-- The bin a value falls in (R374). -/
def histBin (v : Nat) : Nat := if v = 0 then 0 else min 15 (v.log2 + 1)

/-- Count one in a histogram bin; it stays at 2^64 - 1 and then sets SAT (R374, R444). -/
def State.histCount (s : State) (k : Nat) : State :=
  let n := SMap.get (fun _ => 0) s.tsh.hist k
  let s1 := { s with tsh := { s.tsh with hist := SMap.set (fun _ => 0) s.tsh.hist k (sat 64 (n + 1)) } }
  if n + 1 < 2 ^ 64 then s1 else s1.setFlag (Hdr.SAT Pg.TSH) true

/-- Depth of a sampled queue and the time its head came (R374). -/
def State.histQueue (s : State) (q : Nat) : Nat × Option Nat :=
  if q < 40 then
    let l := s.classPackets (q / 8) (q % 8 / 4) (q % 4)
    (l.length, l.head?.map (·.since))
  else if q < 45 then (s.rxHeld (q - 40), (s.rxTimes (q - 40)).min?)
  else (s.wrd.ops.length, s.wrd.ops.head?.map (·.since))

/-- Take one sample of every queue. -/
def State.sampleHist (s : State) : State :=
  if s.flag Reg.TSH_HIST_CTRL.FREEZE then s
  else
    ((List.range 46).foldl (fun (u : State) q =>
      let d := s.histQueue q
      let age := match d.2 with
        | some t => (s.time - t) / 16
        | none => 0
      (u.histCount (q * 2 * 16 + histBin d.1)).histCount ((q * 2 + 1) * 16 + histBin age)) s).bump Reg.TSH_SAMPLE_CNT.OFF

/-- Zero every bin. -/
def State.histClear (s : State) : State := { s with tsh := { s.tsh with hist := [] } }

/-- The charge of a held CXL request is taken when it is let go (R366): both peak buckets of the device are out of deficit. -/
def State.cxlMayGo (s : State) (ld : Nat) : Bool := !s.peakDeficit ld

end Sys2Proof.Machine
end

