-- ==== Sys2Proof/Machine/Cxl.lean ====
section
/-! DEFINITION. The CXL port (R512 to R526): HDM decoders, CXL.mem requests and how they map onto reads, writes and the directory (R233),
the hold queues (R366), the link and the port's resets (R525). -/

namespace Sys2Proof.Machine

/-- The link is up. -/
def State.cxlUp (s : State) : Bool := s.flag Reg.CXP_STAT.LINK_UP

/-! ### Decoders (R515 to R517) -/

/-- No decoder. -/
def noDecoder : HdmDecoder := ⟨0, 0, 1, 256, 0, false, false⟩

/-- Decoder i of a logical device. -/
def State.decoder (s : State) (ld i : Nat) : HdmDecoder := SMap.get (fun _ => noDecoder) s.cxl.decoders (ld * 4 + i)

/-- A decoder is committed. -/
def State.hdmOn (s : State) (ld i : Nat) : Bool := s.cxl.committed.contains (ld * 4 + i)

/-- Bytes of DPA a decoder takes. -/
def hdmLen (d : HdmDecoder) : Nat := d.size / d.ways

/-- The DPA of an HPA within a decoder: the interleave selection is removed (R516). -/
def hdmDpa (d : HdmDecoder) (hpa : Nat) : Nat :=
  let o := hpa - d.base
  d.dpa + o / (d.gran * d.ways) * d.gran + o % d.gran

/-- A decoder within what R515 supports. PRESUMED of CXL 3.1: its size holds whole interleave rounds, and DPA Skip counts in multiples of 256 MiB
(log entry 98). -/
def hdmFits (d : HdmDecoder) : Bool :=
  ([1, 2, 4, 8, 16, 3, 6, 12].contains d.ways) && ([256, 512, 1024, 2048, 4096, 8192, 16384].contains d.gran)
    && decide (d.size % 268435456 = 0) && decide (d.size % (d.ways * d.gran) = 0) && decide (0 < d.size) && decide (d.dpa % 268435456 = 0)

/-- The conditions of a commit. -/
def State.hdmOk (s : State) (ld i : Nat) (d : HdmDecoder) : Bool :=
  hdmFits d && decide (d.dpa + hdmLen d ≤ 2 ^ 44) && (!d.bi || (s.part.full && s.cxlUp && s.flag Reg.CXP_STAT.FLIT256))
    && (List.range 4).all fun j => j == i || !s.hdmOn ld j ||
      let e := s.decoder ld j
      decide (d.dpa + hdmLen d ≤ e.dpa) || decide (e.dpa + hdmLen e ≤ d.dpa)

/-- Show DECODERS and BI of a logical device. -/
def State.showDecoders (s : State) (ld : Nat) : State :=
  let on := (List.range 4).filter (s.hdmOn ld)
  (s.setF (Reg.CXP_LD_STAT.DECODERS ld) on.length).setFlag (Reg.CXP_LD_STAT.BI ld) (on.any fun i => (s.decoder ld i).bi)

/-- A decoder shows Error Not Committed. -/
def State.hdmFail (s : State) (k : Nat) : State :=
  { s with cxl := { s.cxl with
    committed := s.cxl.committed.filter fun x => x != k
    errNot := k :: s.cxl.errNot.filter fun x => x != k } }.fault (mkRec 119 0 0x1002)

/-- A host commits a decoder; one locked on commit stays as it is (R515). -/
def State.hdmCommit (s : State) (ld i : Nat) (d : HdmDecoder) : State :=
  let k := ld * 4 + i
  if 16 ≤ ld ∨ 4 ≤ i ∨ s.cxl.locked.contains k then s
  else
    let s1 := { s with cxl := { s.cxl with
      decoders := SMap.set (fun _ => noDecoder) s.cxl.decoders k d } }
    if s.hdmOk ld i d then
      { s1 with cxl := { s1.cxl with
        committed := k :: s1.cxl.committed.filter fun x => x != k
        errNot := s1.cxl.errNot.filter fun x => x != k
        locked := if d.lock then k :: s1.cxl.locked else s1.cxl.locked } }.showDecoders ld
    else ((s1.hdmFail k).evt Pg.CXP 0).showDecoders ld

/-- The committed decoder that holds an HPA: its DPA and whether it is HDM-DB. -/
def State.hdmFind (s : State) (ld hpa : Nat) : Option (Nat × Bool) :=
  ((List.range 4).find? fun i => s.hdmOn ld i &&
    let d := s.decoder ld i
    decide (d.base ≤ hpa) && decide (hpa < d.base + d.size)).map fun i =>
      let d := s.decoder ld i
      (hdmDpa d hpa, d.bi)

/-! ### CXL.mem requests (R233, R513, R518) -/

/-- Data, enables and marker of a CXL write as a masked write's payload. -/
def cxlWritePayload (r : CxlMem) : List Byte :=
  leBytes 8 (if r.partialWr then r.enables else 2 ^ 64 - 1) ++ zeros 24 ++ slice r.data 0 64

/-- The opcode a CXL request is handled as, with its operation word and payload (R233, R235). Kinds: 0 MemRd, 1 MemRdData, 2 MemInv, 3
MemWr and MemWrPtl. MetaValue is 0 I, 2 A, 3 S. On an HDM-DB write that keeps the line the operation word is 1 + MetaValue. -/
def cxlOp (kind : Nat) (db : Bool) (r : CxlMem) : Nat × Nat × List Byte :=
  if kind = 3 then
    (if db && r.meta0 && r.metaValue == 0 then (0x44, 0, cxlWritePayload r)
     else if db && r.meta0 then (3, 1 + r.metaValue, cxlWritePayload r)
     else if r.partialWr then (3, 0, cxlWritePayload r)
     else (2, 0, slice r.data 0 64))
  else if kind = 2 then (if db && r.meta0 && r.metaValue == 2 then (0x42, 0, []) else (0x45, 0, []))
  else if !db then (1, 64, [])
  else if kind = 1 then (0x40, 2 ^ 56, [])
  else if r.meta0 && r.metaValue == 3 then (0x40, 0, [])
  else if r.meta0 && r.metaValue == 2 then (0x41, 0, [])
  else (0x43, 0, [])

/-- The request a CXL message becomes: subscriber and class of its logical device (R35, R361), the keyway bound to it (R63). -/
def State.cxlPacket (s : State) (kind dpa : Nat) (db : Bool) (r : CxlMem) (c : Nat) : Packet :=
  let o := cxlOp kind db r
  ({ dest := s.ownId, src := 0xFFF, vc := 0, cls := c, opcode := o.1, high := r.ld * 2 ^ 8
     addr := s.f (Reg.KTU_LD_KEYWAY.KEYWAY r.ld) + dpa / 64 * 64 * 2 ^ 12, op := o.2.1, payload := o.2.2 } : Form).packet

/-- Admit a request that a command of the port brings: it is created with an identity of its own and its order among the requests of
its logical device (R52); the state and the identity are given back for it to be started. -/
def State.cxlAdmit (s : State) (p : Packet) (ld tag : Nat) : State × Nat :=
  let r : Req := ⟨s.nextId, p, 4, some (ld, tag), s.nextId, false, false, false, none, [], false, true, 0, none, false, false, 0, s.time⟩
  ({ s with nextId := s.nextId + 1, reqs := s.reqs ++ [r] }, r.id)

/-- The class of a CXL request (R361), and whether it was replaced. -/
def State.cxlClass (s : State) (kind : Nat) (db : Bool) (r : CxlMem) : Nat × Bool :=
  s.takeClass (cxlOp kind db r).1 (s.f (Reg.TSH_SUB_CLASS.LD_CLASS r.ld)) r.ld

/-- Answer a CXL request that reaches no keyway or no decoder: data that is not stated is a free value. -/
def State.cxlRefuse (s : State) (kind : Nat) (db : Bool) (r : CxlMem) (data : List Byte) : State :=
  s.cxlAnswer (s.cxlClass kind db r).1 r.ld r.tag (if kind < 2 then 1 else 0) (if kind < 2 then data else [])

/-- 64 free bytes. -/
def State.freeLine (s : State) : State × List Byte :=
  let f := s.fresh (2 ^ 512)
  (f.2, leBytes 64 f.1)

/-- Take a CXL request out of ingress: charged, checked for quiesce and binding, admitted; answers the request to start. An HPA that no
decoder holds gets data the spec does not state (log entry 28). -/
def State.cxlTake (s : State) (kind : Nat) (r : CxlMem) : State × Option Nat :=
  let ld := r.ld
  let s1 := s.chargeLink ld ((if kind = 3 then 64 else 0) + 16)
  match s1.hdmFind ld r.hpa with
  | none =>
    let f := s1.freeLine
    (f.1.cxlRefuse kind false r f.2, none)
  | some (dpa, db) =>
    let who : Who := ⟨ld, none, 0xFFF, some (s1.f (Reg.KTU_LD_KEYWAY.KEYWAY ld)), dpa, false⟩
    if s1.quiescing ld then ((s1.violation .quiesced who).cxlRefuse kind db r (zeros 64), none)
    else if !s1.flag (Reg.KTU_LD_KEYWAY.VALID ld) then
      ((s1.violation .noMapping { who with kw := none }).cxlRefuse kind db r (zeros 64), none)
    else
      let c := s1.cxlClass kind db r
      let s2 := if c.2 then s1.bump (Reg.TSH_SUB_DEMOTE_CNT.OFF ld) else s1
      let a := s2.cxlAdmit (s2.cxlPacket kind dpa db r c.1) ld r.tag
      (a.1, some a.2)

/-- Note a policed subscriber (R365). -/
def State.notePoliced (s : State) (b : Nat) : State :=
  let s1 := s.bump (Reg.TSH_SUB_POLICE_CNT.OFF b)
  if s1.flag (Reg.TSH_SUB_STAT.POLICED b) then s1
  else ((s1.setFlag (Reg.TSH_SUB_STAT.POLICED b) true).evt Pg.TSH 0).fault { mkRec 134 0 0x0A01 with sub := b }

/-- Requests of a logical device in its hold queue. -/
def State.heldOf (s : State) (ld : Nat) : List (Nat × CxlMem × Nat) := s.tsh.hold.filter fun h => h.2.1.ld == ld

/-- A CXL request is never held: it returns a line (R233, R365), or R27 or the decoders answer it first. -/
def State.cxlPasses (s : State) (kind : Nat) (r : CxlMem) : Bool :=
  match s.hdmFind r.ld r.hpa with
  | none => true
  | some (_, db) =>
    let op := (cxlOp kind db r).1
    s.quiescing r.ld || op == 0x44 || op == 0x45

/-- The port takes a CXL request (R366): M2S credits are withheld while the link is down, the device takes no requests, the 256 ingress entries
are in use (R258, R370), a hold queue is full or a slice's pending queue is (R226). -/
def State.cxlTakes (s : State) (ld : Nat) : Bool :=
  s.admitting && s.cxlUp && decide (ld < 16) && decide (s.cxlEntries < 256)
    && (List.range 16).all (fun i => decide ((s.heldOf i).length < 64)) && !(List.range 12).any s.pendIsFull

/-- A CXL request arrives (R366): held while its device is in deficit, which is policed (R365), or behind others of its device that are held
(log entry 96). -/
def State.cxlArrive (s : State) (kind : Nat) (r : CxlMem) : State × Option Nat :=
  if s.cxlTakes r.ld = false then (s, none)
  else
    let s1 := s.bump (if kind = 3 then Reg.CXP_M2S_RWD_CNT.OFF else Reg.CXP_M2S_REQ_CNT.OFF)
    let hold (u : State) : State := { u with tsh := { u.tsh with hold := u.tsh.hold ++ [(kind, r, u.time)] } }
    if s1.cxlPasses kind r then s1.cxlTake kind r
    else if s1.flag Reg.TSH_CTRL.POLICE_EN && s1.peakDeficit r.ld then ((hold s1).notePoliced r.ld, none)
    else if !(s1.heldOf r.ld).isEmpty then (hold s1, none)
    else s1.cxlTake kind r

/-- The oldest held request of a device leaves once both peak buckets are out of deficit (R366). -/
def State.cxlRelease (s : State) (ld : Nat) : State × Option Nat :=
  match s.heldOf ld with
  | [] => (s, none)
  | h :: _ =>
    if s.peakDeficit ld || !s.admitting then (s, none)
    else { s with tsh := { s.tsh with hold := s.tsh.hold.erase h } }.cxlTake h.1 h.2.1

/-- Write a CXL write's enabled bytes at its line. -/
def State.cxlPut (s : State) (r : Req) (line : Nat) : State :=
  ((s.lineAccess r line true).writeRange line 64 r.pkt.sub 0xFFF (maskedByte r.pkt)).1

/-- Record the state a host's write with MetaValue S or A leaves (R233) in a way. -/
def State.cxlState (s : State) (r : Req) (x line k : Nat) (pin : Bool) : State :=
  let e : DirEnt := if bits r.pkt.opw 7 0 = 4 then ⟨line, 1, false, x, [], 0, pin⟩ else DirEnt.own line x pin
  (s.notBare x).setEnt k e

/-- An HDM-DB write of a host at a line of a COHERENT partition (R233): the write-back of what it owns or of a snooped line, else a
plain write, which takes the line from every other cache and whose state is then recorded, after an eviction where the set has no way; a write-back
of a line it does not own is dropped. -/
def State.cxlWriteAt (s : State) (r : Req) (x line : Nat) : State :=
  let keep := r.pkt.opcode == 3
  let s0 := s.bump Reg.DIR_LOOKUP_CNT.OFF
  match s0.openSnoop line x with
  | some (t, _) => (((s0.cxlPut r line).finish r.id stOK 0 0 [])).crossed t x true
  | none =>
    let owned := match s0.dirFind line with
      | some (k, e) => if e.dstate = 3 ∧ e.lead = x then some (k, e.pin) else none
      | none => none
    match owned with
    | some (k, pin) =>
      let u := s0.cxlPut r line
      (if keep then u.cxlState r x line k pin else u.putEnt k pin line none).finish r.id stOK 0 0 []
    | none =>
      if keep then
        let c := s0.cohAccess (.req r.id) false true (some x) [line]
        if c.2 = false then c.1
        else
          let a := c.1.dirAlloc line (.req r.id) false
          match a.2 with
          | none => a.1
          | some k => (((a.1.cohDone (.req r.id)).cxlPut r line).cxlState r x line k false).finish r.id stOK 0 0 []
      else (s0.cohStale r.pkt line).finish r.id stOK 0 0 []

/-- Run an HDM-DB write (R215, R218, R233, R441). -/
def State.runCxlWrite (s : State) (r : Req) : State :=
  let go (u : State) (ppa0 : Nat) : State :=
    let line := ppa0 / 64 * 64
    if u.lostTo r.pkt line then u.finish r.id stMEDIA_FAIL 0 0 []
    else if u.bpHolds line true then { u with hps := { u.hps with bpWait := u.hps.bpWait ++ [.req r.id] } }
    else if u.memHeld line 64 then (u.lineAccess r line true).park r.id
    else if !u.coherent line then (u.cxlPut r line).finish r.id stOK 0 0 []
    else if u.cohShut then u.finish r.id stPOISON 0 0 []
    else match u.agentOf r with
      | none =>
        let c := u.cohAccess (.req r.id) false true none [line]
        if c.2 then ((c.1.cohDone (.req r.id)).cxlPut r line).finish r.id stOK 0 0 [] else c.1
      | some x => if u.agentFenced x then u.finish r.id stPOISON 0 0 [] else u.cxlWriteAt r x line
  match r.ppa with
  | some ppa => go s ppa
  | none => match s.xlate r.pkt.sub r.pkt.keyway r.pkt.offset ⟨false, true, false⟩ with
    | (s1, .viol c _ _) => s1.violate r c fun u => u.finish r.id stOK 0 0 []
    | (s1, .miss loc) => s1.miss r.pkt.keyway loc (.req r.id)
    | (s1, .ok ppa v l _) =>
      go ((s1.modReq r.id fun q => { q with ppa := some ppa, xl := q.xl ++ [(r.pkt.keyway, v, l)] }).chargeReq r
        (writeCharge 0 64 fun i => (maskedByte r.pkt i).isSome)) ppa

/-- Run a MemInv that gives a line up; it changes no data, and is answered Cmp. -/
def State.runCxlEvict (s : State) (r : Req) : State :=
  let go (u : State) (ppa0 : Nat) : State :=
    let line := ppa0 / 64 * 64
    match u.agentOf r with
    | none => u.finish r.id stOK 0 0 []
    | some x =>
      let held := (u.openSnoop line x).isSome || (match u.dirFind line with
        | some (_, e) => e.names x
        | none => false)
      if !u.coherent line || u.cohShut || u.agentFenced x || !held then u.finish r.id stOK 0 0 []
      else u.runEvictClean { r with pkt := { r.pkt with op := BitVec.ofNat 64 line } } x
  match r.ppa with
  | some ppa => go s ppa
  | none => match s.xlate r.pkt.sub r.pkt.keyway r.pkt.offset ⟨true, false, false⟩ with
    | (s1, .viol c _ _) => s1.violate r c fun u => u.finish r.id stOK 0 0 []
    | (s1, .miss loc) => s1.miss r.pkt.keyway loc (.req r.id)
    | (s1, .ok ppa v l _) => go (s1.modReq r.id fun q => { q with ppa := some ppa, xl := q.xl ++ [(r.pkt.keyway, v, l)] }) ppa

/-- A back-invalidate response (R233): taken as the answer of the matching snoop. -/
def State.biRsp (s : State) (ld line : Nat) (b : BiRsp) : State :=
  match s.ldAgent ld with
  | none => s
  | some x => match s.openSnoop line x with
    | none => s
    | some (t, _) =>
      let final := match b with
        | .rspI => 0
        | .rspS => 1
        | .rspE => 3
      s.snoopAnswered ⟨t.num, x, final, false, none, true, 4⟩

/-! ### The link and its resets (R517, R525) -/

/-- Fence every CXL agent because of the link (R228, R517). -/
def State.fenceCxl (s : State) : State :=
  ((List.range 512).filter fun a => s.flag (Reg.DIR_AGENT.VALID a) && s.agentCxl a).foldl (fun (u : State) a =>
    (u.fenceAgent a).linkFence a (s.agentFenced a && !s.dir.linkFenced.contains a)) s

/-- Lift the fences that the link brought (R230). -/
def State.liftLink (s : State) : State := s.dir.linkFenced.foldl (fun (u : State) a => u.liftFence a) s

/-- The link goes down (R525): CXL agents fenced, requests in ingress and responses not yet sent dropped, recorded. -/
def State.cxlDown (s : State) : State :=
  if !s.cxlUp then s
  else
    let s1 := (s.setWord Reg.CXP_STAT.OFF 0).fenceCxl
    let s2 := { s1 with tsh := { s1.tsh with hold := [] }, txq := s1.txq.filter fun t => t.port != 6 }
    ((s2.bump Reg.CXP_LINK_DOWN_CNT.OFF).evt Pg.CXP 2).fault (mkRec 119 2 0x1001)

/-- The link trains (R517), in 68-byte flit mode at 32 GT/s and below only (R512): the fences that the link brought are lifted (R230). In 68-byte flit mode HDM-DB decoders are uncommitted and CXL agents
fenced; those fences are lifted when the link next trains (log entry 94). -/
def State.cxlTrained (s : State) (width speed : Nat) (flit68 : Bool) : State :=
  if s.cxl.stopped || (flit68 && decide (3 < speed)) then s
  else
    let s1 := s.setWord Reg.CXP_STAT.OFF (width % 16 + speed % 8 * 16 + b2n (!flit68) * 128 + 256)
    let s2 := s1.liftLink.evt Pg.CXP 1
    if flit68 then
      let bad := s2.cxl.committed.filter fun k => (s2.decoder (k / 4) (k % 4)).bi
      (List.range 16).foldl (fun (u : State) ld => u.showDecoders ld) (bad.foldl (fun (u : State) k => u.hdmFail k) s2.fenceCxl)
    else s2

/-- Bus Master Enable of a logical device (R523). -/
def State.bmeWrite (s : State) (ld : Nat) (on : Bool) : State := if ld < 16 then s.setFlag (Reg.CXP_LD_STAT.BME ld) on else s

/-- A vector is unmasked: a message pending on it is sent (R523). -/
def State.unmask (s : State) (ld vec : Nat) : State :=
  let s1 := { s with cxl := { s.cxl with
    unmasked := (ld, vec) :: s.cxl.unmasked.filter fun x => x != (ld, vec)
    pend := s.cxl.pend.filter fun x => x != (ld, vec) } }
  if s.cxl.pend.contains (ld, vec) then s1.msix ld vec else s1

/-- Requests of a logical device that have not been answered. -/
def State.ldReqs (s : State) (ld : Nat) (box : Bool) : List Req :=
  s.reqs.filter fun r => match r.cxl with
    | some (x, t) => x == ld && decide (2 ^ 32 ≤ t) == box
    | none => false

/-- FLR of a logical device: its mailbox commands are aborted (R525). -/
def State.cxlFlr (s : State) (ld : Nat) : State :=
  let s1 := (s.ldReqs ld true).foldl (fun (u : State) r => if r.cxl = some (ld, 2 ^ 32 + 17) then u else u.dropReq r.id) s
  { s1 with fw := { s1.fw with
      lastBox := if s1.fw.lastBox = some ld then none else s1.fw.lastBox
      check := s1.fw.check.map fun c => if c.mailbox = some ld then { c with mailbox := none } else c } }

/-- Fill every partition of a subscriber with zeros (R519, R525): as PTN_INIT does. -/
def State.fillOwned (s : State) (b : Nat) : State :=
  ((List.range 64).filter fun n => s.f (Reg.PTN_SIZE.SIZE_GIB n) != 0 && s.f (Reg.PTN_OWNER.OWNER n) == b).foldl (fun (u : State) n =>
    let k := u.f (Reg.PTN_SIZE.SIZE_GIB n) * 16777216
    (((u.fillSectors (u.f (Reg.PTN_BASE.BASE_GIB n) * 2 ^ 30) k 0).memBytes none 11 (64 * k)).takeMaint (64 * k)).setFlag (Reg.PTN_FLAGS.INITIALISED n) true) s

/-- CXL Reset of a logical device (R525): requests answered (how is not stated: poisoned data, writes discarded, log entry 32), agents
fenced, decoders uncommitted, logs emptied; a memory clear starts in place of a running Sanitize. -/
def State.cxlReset (s : State) (ld : Nat) (clr : Bool) : State :=
  if 16 ≤ ld then s
  else
    let s1 := (s.ldReqs ld false).foldl (fun (u : State) r => u.finish r.id stPOISON 0 0 (zeros 64)) s
    let s2 := ((List.range 512).filter fun a => s1.flag (Reg.DIR_AGENT.VALID a) && s1.agentCxl a && s1.f (Reg.DIR_AGENT.LD a) == ld).foldl
      (fun (u : State) a => u.fenceAgent a) s1
    let s3 := { s2 with cxl := { s2.cxl with
      committed := s2.cxl.committed.filter fun k => k / 4 != ld
      locked := s2.cxl.locked.filter fun k => k / 4 != ld
      errNot := s2.cxl.errNot.filter fun k => k / 4 != ld
      logs := SMap.drop s2.cxl.logs fun k => k / 4 == ld
      clear := (s2.cxl.clear.filter fun (c : Nat × Bool) => c.1 != ld) ++ (if clr then [(ld, true)] else [])
      bg := s2.cxl.bg.filter fun (b : Nat × Nat) => b.2 != ld
      bgLast := (s2.cxl.bg.filter fun (b : Nat × Nat) => b.2 == ld).foldl
        (fun (m : List (Nat × Nat)) (b : Nat × Nat) => SMap.set (fun _ => 0) m b.1 0x12) s2.cxl.bgLast } }
    (s3.showDecoders ld).fault (mkRec 119 0 0x1005)

/-- The memory clear of a CXL Reset ends; it waits as a PTN_INIT fill does. -/
def State.clearDone (s : State) (ld : Nat) : State :=
  if s.cxl.clear.contains (ld, true) then
    if s.fillWaits then s else if s.maintAllowed = false then s.noteMaintHeld else
    let u := s.fillOwned ld
    { u with cxl := { u.cxl with clear := u.cxl.clear.filter fun (c : Nat × Bool) => c != (ld, true) } }
  else s

end Sys2Proof.Machine
end

