-- ==== Sys2Proof/Machine/RegWrite.lean ====
section
/-! DEFINITION. Writes of registers that no command stands behind: the fault ring's control and tail (R84, R86), link buffers (R306),
the write-drain thresholds (R285), shaper bursts (R375), and the others by their table rows. -/

namespace Sys2Proof.Machine

open Sys2Proof

/-- Index of an array element at an offset. -/
def arrIdx (base stride count o : Nat) : Option Nat :=
  if base ≤ o ∧ (o - base) % stride = 0 ∧ (o - base) / stride < count then some ((o - base) / stride) else none

/-- The R23 rejection of an FLT write. -/
def State.fltReject (s : State) (a : Path) (off : Nat) : State := s.cfgReject a Pg.FLT 136 0x0D06 off none

/-- A write of FLT_RING_CTRL (R86): LOG2_SIZE changes only while ENABLE stands at 0. -/
def State.ringCtrlWrite (s : State) (a : Path) (v : Nat) : State :=
  let n := bits v 12 8
  if n = s.f Reg.FLT_RING_CTRL.LOG2_SIZE then s.setF Reg.FLT_RING_CTRL.ENABLE (bits v 0 0)
  else if s.flag Reg.FLT_RING_CTRL.ENABLE ∨ n < 6 ∨ 16 < n then s.fltReject a Reg.FLT_RING_CTRL.OFF
  else
    let s1 := ((s.setF Reg.FLT_RING_CTRL.ENABLE (bits v 0 0)).setF Reg.FLT_RING_CTRL.LOG2_SIZE n)
    let s2 := (s1.setF Reg.FLT_RING_HEAD.HEAD 0).setF Reg.FLT_RING_TAIL.TAIL 0
    { s2 with flt := { s2.flt with ring := [] } }

/-- A write of FLT_RING_TAIL (R84). -/
def State.ringTailWrite (s : State) (a : Path) (v : Nat) : State :=
  if s.ringSize < (s.f Reg.FLT_RING_HEAD.HEAD + 4294967296 - v % 4294967296) % 4294967296 then s.fltReject a Reg.FLT_RING_TAIL.OFF
  else s.setF Reg.FLT_RING_TAIL.TAIL (v % 4294967296)

/-- Least allocation of a channel under a negotiated maximum payload (R306). -/
def leastUnits (maxPl : Nat) : Nat := if maxPl = 0 then 2 else if maxPl = 1 then 5 else 18

/-- The R23 rejection of a port's register: its own CFG_REJECT bit (R322). -/
def State.swpReject (s : State) (a : Path) (p off : Nat) : State :=
  (s.linkEvt p 0).fault { mkRec (112 + p) 0 0x0808 with addr := off, node := Path.node a, sub := s.pathSub a }

/-- A write of SWP_VCBUF_v (R306): clamped, and rejected where the allocations would total more than 1,024 units. -/
def State.vcbufWrite (s : State) (a : Path) (p c v : Nat) : State :=
  if c = 7 then s
  else
    let n := max (leastUnits (s.f (Reg.SWP_STAT.MAX_PL p))) (bits v 10 0)
    let others := (((List.range 7).filter fun i => i != c).map fun i => s.f (Reg.SWP_VCBUF.UNITS p i)).sum
    if 1024 < others + n then s.swpReject a p (Reg.SWP_VCBUF.OFF p c)
    else s.setF (Reg.SWP_VCBUF.UNITS p c) n

/-- A write of SC_SCHED: the drain ends below its start. -/
def State.schedWrite (s : State) (n v : Nat) : State :=
  let s1 := s.regStore (Reg.SC_SCHED.OFF n) v
  s1.setF (Reg.SC_SCHED.WR_LOW n) (min (s1.f (Reg.SC_SCHED.WR_LOW n)) (s1.f (Reg.SC_SCHED.WR_HIGH n) - 1))

/-- A level above its burst is cut to it (R375). -/
def State.cutLevel (s : State) (b k : Nat) : State :=
  s.setLvl b k (min (s.lvl b k) ((s.f (bucketBurstFld b k) : Int) * 1000))

/-- Every bucket filled to its burst (R375). -/
def State.fillBuckets (s : State) : State :=
  (List.range 256).foldl (fun (u : State) i => u.setLvl (i / 4) (i % 4) ((u.f (bucketBurstFld (i / 4) (i % 4)) : Int) * 1000)) s

/-- Link port and offset within its registers of a management offset on a link page (R321). -/
def linkOff (o : Nat) : Option (Nat × Nat) :=
  if 0x10000 ≤ o ∧ o < 0x14000 then some ((o - 0x10000) / 0x1000, o % 0x1000)
  else if 0x14000 ≤ o ∧ o < 0x15000 then some (4 + (o - 0x14000) / 0x800, o % 0x800)
  else none

/-- A write of one register of a link port. -/
def State.linkRegWrite (s : State) (a : Path) (p o : Nat) (r : RegRow) (fw : Bool) (v : Nat) : State :=
  let d := o - Reg.swpBase p
  if d = 0x40 then s.swpCtrlWrite p v
  else match arrIdx 0x50 4 8 d with
    | some c => s.vcbufWrite a p c v
    | none => s.regPut o r fw v

/-- A write of a shaper register: a level above a new burst is cut to it (R375). -/
def State.shaperWrite (s : State) (o : Nat) (r : RegRow) (fw : Bool) (v : Nat) : State :=
  let s1 := s.regPut o r fw v
  match arrIdx 0x60400 4 512 o with
  | some i => if i % 2 = 1 then s1.cutLevel (i / 8) (i % 8 / 2) else s1
  | none => s1

/-- A write of a whole register of the tables that starts no command. -/
def State.plainWrite (s : State) (a : Path) (o : Nat) (r : RegRow) (fw : Bool) (v : Nat) : State :=
  if o = Reg.FLT_RING_CTRL.OFF then s.ringCtrlWrite a v
  else if o = Reg.FLT_RING_TAIL.OFF then s.ringTailWrite a v
  else if o = Reg.RTB_CTRL.OFF then s.rtbCtrlWrite a v
  else match linkOff o with
    | some (p, _) => s.linkRegWrite a p o r fw v
    | none =>
      if o / 0x1000 = 0x60 then s.shaperWrite o r fw v
      else match arrIdx (Reg.SC_SCHED.OFF 0) 65536 12 o with
        | some n => s.schedWrite n v
        | none => s.regPut o r fw v

end Sys2Proof.Machine
end

