-- ==== Sys2Proof/Machine/Startup.lean ====
section
/-! DEFINITION. Cold reset and cold start (R446, R484 to R500, R562, R563, R572): what a cold reset leaves, the Keeper's copy, the
management image, board record, retirements, settings, and READY. A start runs through within the step that begins it (log entry 33). -/

namespace Sys2Proof.Machine

open Sys2Proof

/-! ### Images that run -/

/-- Show the version ranges of an image (R499): after a raise each is its CUR alone. -/
def State.showRanges (s : State) (b : List Byte) (raised : Bool) : State :=
  let low (i : Nat) : Nat := imgCompat b (if raised then i else i + 1)
  ((((((s.setF Reg.GLB_FW_VER.SPV_CUR (imgCompat b 0)).setF Reg.GLB_FW_VER.SPV_LOW (low 0)).setF
    Reg.GLB_FW_VER.JFMT_CUR (imgCompat b 2)).setF Reg.GLB_FW_VER.JFMT_LOW (low 2)).setF
    Reg.GLB_FW_VER2.SFV_CUR (imgCompat b 4)).setF Reg.GLB_FW_VER2.SFV_LOW (low 4)).setFlag Reg.GLB_FW_STAT.RAISED raised

/-- The Vorer core starts a management image: its version, ranges, security version and slot show, it is measured (R459, R460). -/
def State.runImage (s : State) (b : List Byte) (raised : Bool) : State :=
  let s1 := ((s.showRanges b raised).setWord64 Reg.GLB_FW_RUN_VER.OFF (imgVersion b)).setF Reg.KPR_SVN.MGMT_RUN (imgSvn b)
  { s1.setF Reg.KPR_SLOTS.RUN_SLOT (imgSlot b) with fw := { s1.fw with runDigest := imgDigest b }, fwDown := false }

/-- Copy an image into the image slot (R500, R506). -/
def State.storeImage (s : State) (b : List Byte) : State := (s.flashErase flImage (roundUp b.length 0x10000)).flashWrite flImage b

/-- Show the state of staging: its image, or nothing. -/
def State.showStaging (s : State) (st : Nat) (b : List Byte) : State :=
  ((s.setF Reg.GLB_FW_STAT.STATE st).setF Reg.GLB_FW_STAT.KIND (if st = 0 then 0 else imgKind b - 1)).setWord64
    Reg.GLB_FW_STG_VER.OFF (if st = 0 then 0 else imgVersion b)

/-- A staged image is still to be activated: it verifies, and is not what runs already (R502, R505; log entry 34). -/
def State.stagedNew (s : State) (b : List Byte) : Bool :=
  s.imageResult b == 0 && !(if imgKind b = 1 then s.word64 Reg.GLB_FW_RUN_VER.OFF == imgVersion b else s.fw.keeperDigest == imgDigest b)

/-! ### The board record (R489, R490) -/

/-- The header of the board record is good. -/
def State.boardOk (s : State) : Bool :=
  let h := s.flashRead flBoard 64
  headerOk h && leNat (slice h 0 4) == 0x52425643 && (byteAt h 4).toNat == 1 && (byteAt h 5).toNat == s.part.stacks

/-- A stack's entry. -/
def State.boardEntry (s : State) (n : Nat) : List Byte := s.flashRead (flBoard + 64 + 1024 * n) 1024

/-- An entry is good. -/
def boardEntryOk (n : Nat) (b : List Byte) : Bool :=
  leNat (slice b 0 4) == n && crc32 (slice b 0 1020) == leNat (slice b 1020 4)

/-- Write a stack's timings and delays from its entry (R242). -/
def State.boardPut (s : State) (n : Nat) (b : List Byte) : State :=
  let s1 := ((s.regStore (Reg.SC_TIM0.OFF n) (leNat (slice b 8 4))).regStore (Reg.SC_TIM1.OFF n) (leNat (slice b 12 4))).regStore
    (Reg.SC_TIM_REF.OFF n) (leNat (slice b 16 4))
  let s2 := (List.range 32).foldl (fun (u : State) c => u.regStore (Reg.SC_DLY_CA.OFF n c) (byteAt b (20 + c)).toNat) s1
  (List.range 320).foldl (fun (u : State) i =>
    u.regStore (Reg.SC_DLY.OFF n (i / 10) (i / 5 % 2) (i % 5)) (leNat (slice b (52 + 3 * i) 3))) s2

/-- Read the board record: a stack without a good entry is FAILED, and recorded (R245, R490). -/
def State.boardLoad (s : State) : State :=
  let ok := s.boardOk
  let s0 := { s with fw := { s.fw with boardDigest := sha512 (s.flashRead flBoard (64 + 1024 * s.part.stacks)) } }
  (List.range s.part.stacks).foldl (fun (u : State) n =>
    let b := u.boardEntry n
    if ok && boardEntryOk n b then u.boardPut n b
    else if u.stackFailed n then u
    else (u.failStack n 1).fault (mkRec (100 + n) 2 0x0707)) s0

/-- Stacks that have not failed come up. -/
def State.stacksUp (s : State) : State :=
  (List.range s.part.stacks).foldl (fun (u : State) n => if u.stackFailed n then u else u.setF (Reg.SC_STAT.STATE n) 1) s

/-- Stacks that have not failed are in self-refresh, their queues drained (R262). -/
def State.stacksSleep (s : State) : State :=
  (List.range s.part.stacks).foldl (fun (u : State) n => if u.stackFailed n then u else u.setF (Reg.SC_STAT.STATE n) 3)
    { s with sc := { s.sc with pend := [], cmds := [], reads := [], drain := [] } }

/-! ### Logged retirements (R280) -/

/-- Reinstall the logged retirements in the order of their entries; spares superseded before this reset are free again (R278). -/
def State.reinstall (s : State) : State :=
  let l := (s.logUsed.map s.logEntry).filter fun b => (byteAt b 0).toNat == 2
  let newest := s.fw.logSeq
  let age (b : List Byte) : Nat := (newest + 2 ^ 32 - logSeqOf b) % 2 ^ 32
  let sorted := l.mergeSort fun a b => decide (age b ≤ age a)
  let s1 := sorted.foldl (fun (u : State) b =>
    let w := leNat (slice b 16 4)
    let g := u.part.storedGranule (bits w 27 24) (bits w 23 0)
    u.installRemap ⟨g, bits (leNat (slice b 20 4)) 13 0, none⟩) s
  { s1 with sc := { s1.sc with superseded := [] } }

/-! ### Settings (R491 to R493) -/

/-- Whether a settings record may set the register at an offset (R493, R526). -/
def Part.settable (p : Part) (o : Nat) : Bool :=
  let link : Bool := match linkOff o with
    | some (q, d) => (decide (q < 4) || p.hinge) && (d == 0x40 || d == 0x70 || (arrIdx 0x50 4 8 d).isSome)
    | none => false
  o == Reg.GLB_FW_CTRL.OFF || link || o == Reg.KTU_CTRL.OFF || o == Reg.WRD_CTRL.OFF || o == Reg.WRD_CTRL2.OFF
  || o == Reg.LCH_CTRL.OFF || o == Reg.LCH_DL_CTRL.OFF || (List.range 64).any (fun i => o == Reg.LCH_WAIT_QUOTA.OFF i)
  || (p.full && o == Reg.DIR_CTRL.OFF)
  || decide (0x60000 ≤ o ∧ o < 0x62000)
  || o == Reg.RTB_CTRL.OFF || o == Reg.RTB_INTER_CNT.OFF || (List.range 64).any (fun i => o == Reg.RTB_INTER.OFF i)
  || (List.range p.stacks).any (fun n => o == Reg.SC_SCRUB_CTRL.OFF n || o == Reg.SC_CE_CTRL.OFF n || o == Reg.SC_UE_CTRL.OFF n)
  || o == Reg.FLT_RING_CTRL.OFF || (List.range 4).any (fun k => o == Reg.FLT_CLASS_ROUTE.OFF k)
  || (List.range 199).any (fun n => o == Reg.FLT_SRC_CFG.OFF n)
  || o == Reg.EPL_CTRL.OFF || o == Reg.EPL_BUDGET.OFF || o == Reg.EPL_THERM.OFF || o == Reg.EPL_RESYNC_MIN.OFF
  || (p.hinge && (o == Reg.HPS_EPOCH.OFF || o == Reg.HPS_TIMERS.OFF || o == Reg.HPS_JRNL_CTRL.OFF))
  || o == Reg.CXP_CTRL.OFF

/-- The bits of the register word at an offset that a settings record sets: its RWS bits; none where it may not. -/
def Part.settingMask (p : Part) (o : Nat) : Nat :=
  if o % 4 = 0 ∧ p.settable o then
    match findReg o with
    | some (r, false) => r.rws % 4294967296
    | some (r, true) => r.rws / 4294967296
    | none => 0
  else 0

/-- Apply one entry: its RWS bits, by way of the register's own clamps and rules (R493). -/
def State.settingPut (s : State) (o v : Nat) : State :=
  let m := s.part.settingMask o
  let w := (s.word o &&& (4294967295 ^^^ m)) ||| (v &&& m)
  match findReg o with
  | some (r, false) => s.plainWrite .fw o r false (if r.wide then w + 4294967296 * s.word (o + 4) else w)
  | some (r, true) => s.plainWrite .fw (o - 4) r false (s.word (o - 4) + 4294967296 * w)
  | none => s

/-- COUNT of a settings record. -/
def recCount (h : List Byte) : Nat := leNat (slice h 12 4)
def recSfv (h : List Byte) : Nat := leNat (slice h 4 2)
def recSeq (h : List Byte) : Nat := leNat (slice h 8 4)

/-- A settings record that stands; none where it is discarded (R492). -/
def State.settingsAt (s : State) (c : Nat) : Option (List Byte) :=
  let h := s.flashRead (flSettings c) 64
  if headerOk h ∧ leNat (slice h 0 4) = 0x53545643 ∧ recCount h ≤ 32760 then
    let b := s.flashRead (flSettings c + 64) (8 * recCount h)
    if crc32 b = leNat (slice h 16 4) then some (h ++ b) else none
  else none

/-- The record to use: the newer of those that stand (R492). -/
def State.settingsPick (s : State) : Option (Nat × List Byte) :=
  match s.settingsAt 0, s.settingsAt 1 with
  | some a, some b =>
    let d := (recSeq b + 2 ^ 32 - recSeq a) % 2 ^ 32
    if 1 ≤ d ∧ d ≤ 2 ^ 31 then some (1, b) else some (0, a)
  | some a, none => some (0, a)
  | none, some b => some (1, b)
  | none, none => none

/-- Defaults: every field keeps its reset value (R492). -/
def State.settingsDefault (s : State) : State :=
  let s1 := ((s.setFlag Reg.GLB_SET_STAT.DEFAULTED true).evt Pg.GLB 3).glbFault 0 0x0F01
  { (s1.logAppend 4 []) with fw := { (s1.logAppend 4 []).fw with setDigest := sha512 [] } }

/-- Apply a record's entries in order; what may not be set is skipped and counted (R493). -/
def State.settingsApply (s : State) (b : List Byte) : State :=
  let n := recCount b
  let r := (List.range n).foldl (fun (u : State × Nat) i =>
    let e := leNat (slice b (64 + 8 * i) 8)
    if u.1.part.settingMask (bits e 23 0) = 0 then (u.1, u.2 + 1) else (u.1.settingPut (bits e 23 0) (bits e 63 32), u.2)) (s, 0)
  let s1 := r.1.setF Reg.GLB_SET_STAT.SKIPPED (min r.2 65535)
  if r.2 = 0 then s1 else s1.glbFault 0 0x0F02

/-- Settings of a cold start. -/
def State.settingsLoad (s : State) : State :=
  match s.settingsPick with
  | none => s.settingsDefault
  | some (c, b) =>
    let s1 := (s.setF Reg.GLB_SET_STAT.IN_USE c).setF Reg.GLB_SET_SEQ.SEQ (recSeq b)
    if recSfv b < s.f Reg.GLB_FW_VER2.SFV_LOW ∨ s.f Reg.GLB_FW_VER2.SFV_CUR < recSfv b then s1.settingsDefault
    else { s1.settingsApply b with fw := { (s1.settingsApply b).fw with setDigest := sha512 b } }

/-! ### Cold reset and cold start -/

/-- What a cold reset leaves (R446, R449): fuses, flash, pins and what the board gave stay; all else is at its reset value. LAST_RESET
shows what started it. -/
def State.coldReset (s : State) (last : Nat) : State :=
  let s0 : State := { State.cold with
    part := s.part, pending := s.pending, free := s.free, nextId := s.nextId, lines := s.lines, flash := s.flash, pins := s.pins
    board := s.board, kpr := { State.cold.kpr with anchors := s.kpr.anchors } }
  let s1 := (List.range 8).foldl (fun (u : State) a => u.setWord (Reg.KPR_ANCHOR.OFF a) (s.word (Reg.KPR_ANCHOR.OFF a))) s0
  let s2 := (((s1.setF Reg.KPR_SVN.KEEPER_FUSED (s.f Reg.KPR_SVN.KEEPER_FUSED)).setF
    Reg.KPR_SVN.MGMT_FUSED (s.f Reg.KPR_SVN.MGMT_FUSED)).setF Reg.KPR_SLOTS.REVOKED (s.f Reg.KPR_SLOTS.REVOKED)).setF
    Reg.GLB_THERM.THERMTRIP_SEEN (s.f Reg.GLB_THERM.THERMTRIP_SEEN)
  s2.setF Reg.GLB_STAT.LAST_RESET last

/-- Sample the straps and take over what the board has written to the flash (R563). -/
def State.sampleBoard (s : State) (b : BoardInputs) : State :=
  let s1 := { s with
    flash := b.flash.foldl (fun (m : List Host.Cell) (e : Nat × Byte) => SMap.set flashReset m e.1 e.2) s.flash
    board := { b with flash := [] } }
  ((s1.setFlag Reg.RTB_ENUM_CTRL.CHAIN_HEAD b.chainHead).setF Reg.RTB_ENUM_CTRL.CHAIN_PORT (b.chainPort % 4)).setFlag
    Reg.GLB_THERM.TEST_MODE b.testMode

/-- The Keeper copy that starts: the active one if it verifies, else the other (R497, R498). -/
def State.keeperCopy (s : State) : Option Nat :=
  let d := s.descriptor
  if d.1 ≠ 1 then none
  else if s.imageGood (s.imageAt (flKeeper d.2.1)) 2 then some d.2.1
  else if s.imageGood (s.imageAt (flKeeper (1 - d.2.1))) 2 then some (1 - d.2.1)
  else none

/-- The Keeper starts from a copy: it derives its identity and takes a challenge; a fall-back to the other copy is recorded. -/
def State.keeperStart (s : State) (c : Nat) : State :=
  let b := s.imageAt (flKeeper c)
  let s1 := if s.descriptor.2.1 = c then s else (s.setDescriptor c s.descriptor.2.2).glbFault 2 0x0F09
  let s2 := ((s1.setF Reg.KPR_SVN.KEEPER_RUN (imgSvn b)).setFlag Reg.KPR_STAT.READY true).setFlag Reg.KPR_STAT.RNG_OK true
  { s2 with
    fw := { s2.fw with keeperDigest := imgDigest b }
    kpr := { s2.kpr with startSvn := s2.word Reg.KPR_SVN.OFF % 65536 } }.newChallenge

/-- The management image that boots (R500): its bytes, BOOT, whether it must first be copied to the image slot, and whether the boot
recovered from staging. -/
def State.bootChoice (s : State) : Option (List Byte × Nat × Bool × Bool) :=
  let slot := s.imageAt flImage
  let staged := s.imageAt flStaging
  if s.descriptor.2.2 && s.imageGood staged 1 then some (staged, 1, true, false)
  else if s.imageGood slot 1 then some (slot, 0, false, false)
  else if s.imageGood staged 1 then some (staged, 1, true, true)
  else none

/-- An image that a start refuses (R465, R488). -/
def State.bootRefuse (s : State) (b : List Byte) (kind : Nat) : State :=
  if s.imageGood b kind then s else s.fwRefused (if s.imageResult b = 0 then 4 else s.imageResult b)

/-- The management images that a start tries and refuses: the staged one where a commit is pending, the image slot, and then the staged
one (R500). -/
def State.bootRefused (s : State) : State :=
  let slot := s.imageAt flImage
  let staged := s.imageAt flStaging
  let s1 := if s.descriptor.2.2 then s.bootRefuse staged 1 else s
  if s.descriptor.2.2 && s.imageGood staged 1 then s1
  else if s.imageGood slot 1 then s1
  else if s.descriptor.2.2 then s1.bootRefuse slot 1
  else (s1.bootRefuse slot 1).bootRefuse staged 1

/-- Boot a management image. -/
def State.boot (s : State) (b : List Byte) (how : Nat) (copy recovered : Bool) : State :=
  let s1 := if copy then (s.storeImage b).setDescriptor s.descriptor.2.1 false else s
  let s2 := (s1.runImage b false).setF Reg.GLB_FW_STAT.BOOT how
  let s3 := { s2 with fw := { s2.fw with slotCopy := b } }
  let s4 := if recovered then s3.glbFault 2 0x0F08 else s3
  let staged := s4.imageAt flStaging
  (s4.showStaging (if s4.stagedNew staged then 2 else 0) staged).setFlag Reg.GLB_FW_STAT.COMMIT_PENDING s4.descriptor.2.2

/-- Bring the CXL link up where it trains. -/
def State.cxlStart (s : State) : State :=
  match s.board.cxl with
  | some (w, sp, f) => s.cxlTrained w sp f
  | none => s

/-- No management image verifies: the resident loader runs alone (R498). A verified staged KEEPER image shows (log entry 34). -/
def State.recover (s : State) : State :=
  let staged := s.imageAt flStaging
  let s1 := s.showStaging (if s.stagedNew staged then 2 else 0) staged
  ({ s1.stacksSleep.setF Reg.GLB_FW_STAT.BOOT 2 with phase := .recovery }).cxlStart

/-- The stacks that do not complete initialisation fail (R281); the others come up. -/
def State.stacksStart (s : State) : State :=
  ((List.range s.part.stacks).foldl (fun (u : State) n =>
    if bit s.board.badStacks n ∧ !u.stackFailed n then u.failStack n 2 else u) s).stacksUp

/-- Firmware records before READY that the start follows a thermal trip (R572). -/
def State.tripSeen (s : State) : State := if s.f Reg.GLB_STAT.LAST_RESET = 5 then s.glbFault 2 0x0003 else s

/-- The cold start from the Keeper's ROM to READY (R497). -/
def State.coldStart (s : State) (b : BoardInputs) : State :=
  let s1 := (s.sampleBoard b).logScan
  match s1.keeperCopy with
  | none => { s1 with phase := .noKeeper, flt := { s1.flt with alert := true } }
  | some c =>
    let s2 := (if s1.descriptor.2.1 = c then s1 else s1.bootRefuse (s1.imageAt (flKeeper (1 - c))) 2).keeperStart c
    match s2.bootChoice with
    | none => s2.bootRefused.recover
    | some (img, how, copy, rec) =>
      let s3 := (s2.bootRefused.boot img how copy rec).boardLoad
      let s4 := s3.reinstall.stacksStart.settingsLoad.makePlan
      let s5 := { s4.cxlStart.tripSeen with phase := .ready, everReady := true }
      s5.fillBuckets

/-- A cold reset that starts again by itself: held while RESET_N is low or power is not good (R562). -/
def State.coldRestart (s : State) (last : Nat) : State :=
  let s1 := s.coldReset last
  if s.pins.pwrGood ∧ !s.pins.resetLow then s1.coldStart s.board else s1

end Sys2Proof.Machine
end

