-- ==== Sys2Proof/Machine/Resets.lean ====
section
/-! DEFINITION. Basic service, halt, warm and block resets, counter clearing and factory fault injection (R440 to R451, R446 to R449,
R546, R547, R549, R551). -/

namespace Sys2Proof.Machine

open Sys2Proof

/-! ### Basic service and halt (R440 to R442) -/

/-- Admitted ATOMICs that have not run end ABORTED. -/
def State.abortAtoms (s : State) : State := (s.reqs.filter (·.slot)).foldl (fun (u : State) r => u.atomAbort r) s

/-- Every running ward and attention operation ends ABORTED at its next chunk boundary. -/
def State.abortOps (s : State) : State := (s.wrd.ops.foldl (fun (u : State) o => u.abortWop o.id) s).abortAtoms

/-- Enter basic service after a FATAL fault of a source (R441). -/
def State.enterBasic (s : State) (source : Nat) : State :=
  if s.service ≠ 0 then s
  else ((((s.setF Reg.GLB_STAT.SERVICE 1).evt Pg.GLB 2).report (mkRec source 3 0x0D01)).abortOps).abortParks fun _ => true

/-- Start a halt (R442 steps 1 and 2): admission stops. -/
def State.halt (s : State) (source : Nat) : State :=
  if s.phase = .haltWait ∨ s.phase = .halted ∨ s.phase = .off ∨ s.phase = .cold then s
  else ({ s with phase := .haltWait }).report (mkRec source 3 0x0D02)

/-- Every link port goes DOWN. -/
def State.portsDown (s : State) : State :=
  ((List.range 6).filter s.part.hasPort).foldl (fun (u : State) p => u.portDown p) s

/-- Steps 3 and 4 of a halt. -/
def State.haltGo (s : State) : State :=
  if s.phase = .haltWait then
    ({ s.portsDown.cxlDown.stacksSleep with phase := .halted }).setF Reg.GLB_STAT.SERVICE 2
  else s

/-- The fall-back of R507: the loader restores the old image, staging is kept. -/
def State.fallBack (s : State) : State :=
  if s.f Reg.GLB_FW_STAT.STATE = 4 then
    let s1 := (s.runImage s.fw.slotCopy (s.flag Reg.GLB_FW_STAT.RAISED)).setF Reg.GLB_FW_STAT.STATE 2
    let s2 := ((s1.setF Reg.GLB_FW_XFER.RESULT 10).bump Reg.GLB_FW_FALLBACK_CNT.OFF).evt Pg.GLB 6
    (s2.glbFault 2 0x0F04).logUpdate (s.word64 Reg.GLB_FW_STG_VER.OFF) 10 4
  else s

/-- The CXL link goes down after a FATAL fault of its port, until a warm reset (R440). -/
def State.cxlStop (s : State) : State :=
  let s1 := if s.cxlUp then s.cxlDown else s.fenceCxl
  { s1 with cxl := { s1.cxl with stopped := true } }

/-- Ports of a link page. -/
def pagePorts (pg : Nat) : List Nat :=
  if 0x10000 ≤ pg ∧ pg < 0x14000 then [(pg - 0x10000) / 0x1000] else if pg = 0x14000 then [4, 5] else []

/-- A link port's page is disabled after a FATAL fault, until a warm reset (R440, R544). -/
def State.linkFail (s : State) (p : Nat) : State :=
  let l := pagePorts (linkPage p)
  let s1 := (l.foldl (fun (u : State) q => u.portDisable q) s).setFlag (Hdr.ENABLE (linkPage p)) false
  { s1 with failedPorts := l ++ s1.failedPorts.filter fun q => !l.contains q }

/-- What a FATAL fault of a source starts (R440). -/
def State.fatalAct (s : State) (n : Nat) : State :=
  if 3 ≤ n ∧ n ≤ 99 ∨ 121 ≤ n ∧ n ≤ 135 ∨ 140 ≤ n ∧ n ≤ 151 then
    (if n = 135 then { s with epl := { s.epl with out := true } } else s).enterBasic n
  else if 100 ≤ n ∧ n ≤ 111 then (if s.stackFailed (n - 100) then s else s.failStack (n - 100) 5)
  else if 112 ≤ n ∧ n ≤ 117 then s.linkFail (n - 112)
  else if n = 118 then
    (if s.part.hinge && s.paired then { s.setHpsState 8 with hps := { s.hps with mute := true } } else s)
  else if n = 119 then s.cxlStop
  else if 152 ≤ n ∧ n ≤ 154 then s
  else if (n = 0 ∨ n = 137) ∧ s.f Reg.GLB_FW_STAT.STATE = 4 then s.fallBack
  else s.halt n

/-- Act for the FATAL faults met in this step, in order; an action may itself meet faults. -/
def State.fatalActs : Nat → State → State
  | 0, s => s
  | k + 1, s => match s.acts with
    | [] => s
    | n :: rest => State.fatalActs k ({ s with acts := rest }.fatalAct n)

/-! ### Warm reset (R447 to R449) -/

/-- What a running chunk of an operation may have written. -/
def Wop.inFlight (o : Wop) : List (Nat × Nat) :=
  (o.live.filter (·.run)).flatMap fun c => c.segs.filterMap fun t =>
    if t.write then t.ppa.map fun a => (a, t.len) else none

/-- End an operation ABORTED at once: what its chunks were writing is undefined too, and its remote WRITEs are forgotten. -/
def State.cutWop (s : State) (id : Nat) : State :=
  match s.wop id with
  | none => s
  | some o => (s.modWop id fun y => { y with
      wrote := y.wrote ++ o.inFlight, live := y.live.map (fun c => { c with run := false }), remote := [] }).abortWop id

/-- Steps 1 and 2: admission stops, ward and attention operations end ABORTED, the Keeper closes its sessions and retires its
streams (R462). -/
def State.warmBegin (s : State) : State :=
  let held := s.paired && s.flag Reg.HPS_STAT.LEASE
  let s1 := ((s.wrd.ops.foldl (fun (u : State) o => u.cutWop o.id) s).abortAtoms).sessionsClose
  let s2 := (List.range 256).foldl (fun (u : State) c => u.setWord (Reg.KPR_STRM_STAT.OFF c) 4095) s1
  { s2 with
    phase := .warm 1
    kpr := { s2.kpr with streams := [], retiring := [] }
    hps := { s2.hps with heldAtReset := held } }

/-- A warm reset is asked for (R446, R449): before the first READY it acts as a cold reset, during a warm reset it starts again. -/
def State.warmAsk (s : State) (last : Nat) : State :=
  match s.phase with
  | .off => s
  | .cold => s
  | .warm _ => { s.setF Reg.GLB_STAT.LAST_RESET last with phase := .warm 1 }
  | _ => if s.everReady then s.warmBegin.setF Reg.GLB_STAT.LAST_RESET last else s.coldRestart last

/-- Register words a warm reset keeps whole (R446, R358, R237, R423, R462, R507): GLB status, images and settings, temperatures, the
Keeper's page but for its command buffer and header, the node ID, agent slots, the sideband limit, what a pair member must remember, the
debug port. -/
def keptWord (o : Nat) : Bool :=
  o == 0x40 || decide (0x90 ≤ o ∧ o < 0xC8) || o == 0xCC || o == 0x128
  || decide (0x2040 ≤ o ∧ o < 0x2100) || decide (0x2200 ≤ o ∧ o < 0x3000)
  || o == Reg.RTB_NODE.OFF || o == Reg.RTB_ENUM_CTRL.OFF || o == Reg.RTB_ENUM_HEAD.OFF
  || decide (0x50800 ≤ o ∧ o < 0x51000) || o == Reg.EPL_SB_LIMIT.OFF
  || o == Reg.HPS_GEN.OFF || o == Reg.HPS_GEN.OFF + 4 || o == Reg.HPS_EPOCH_NUM.OFF || o == Reg.HPS_EPOCH_NUM.OFF + 4
  || o == Reg.HPS_ACKED.OFF || o == Reg.HPS_ACKED.OFF + 4 || o == Reg.HPS_RESYNC_POS.OFF || o == Reg.DBG_STAT.OFF

/-- The bits of a register word that a warm reset keeps: RWS fields, GLB's FATAL event (R439), the validity of the route tables (R446), and the
words above. -/
def warmMask (o : Nat) : Nat :=
  if keptWord o then 4294967295
  else if o = 0x10 then 2
  else if o = Reg.RTB_TBL_STAT.OFF then 3
  else if headerPage o && o % 4096 == 8 then 256
  else if headerPage o && (o % 4096 == 0x14 || o % 4096 == 0x1C) then 4294967295
  else match findReg o with
    | some (r, false) => r.rws % 4294967296
    | some (r, true) => r.rws / 4294967296
    | none => 0

/-- The registers after a warm reset. -/
def warmRegs (l : List (Nat × Nat)) : List (Nat × Nat) :=
  l.filterMap fun e =>
    let m := warmMask e.1
    let v := (e.2 &&& m) ||| (resetWord e.1 &&& (4294967295 ^^^ m))
    if v = resetWord e.1 then none else some (e.1, v)

/-- Step 4: every line held in E or M is poisoned, no holder is snooped. -/
def State.warmPoison (s : State) : State :=
  s.dir.ents.foldl (fun (u : State) e => if e.2.dstate = 3 then u.poisonOwned e.2.lead e.2.line else u) s

/-- The pair state that a warm reset leaves (R423, R427). -/
def State.warmPair (s : State) : Nat :=
  if s.hpsState = 8 then 8 else if !s.paired then 0 else if s.hps.heldAtReset then 7 else 5

/-- The update state a warm reset leaves (R507, R509, and R449's table of resets): a trial ends STAGED, a transfer is lost, a commit
is completed at the start. -/
def State.warmStaging (s : State) : Nat :=
  match s.f Reg.GLB_FW_STAT.STATE with
  | 1 => 0
  | 3 => 2
  | 4 => 2
  | k => k

/-- Step 5: the ports and the CXL link are down, the logic resets. What R446 keeps stays. -/
def State.logicReset (s : State) : State :=
  let z := State.cold
  let failed := (List.range s.part.stacks).filter s.stackFailed
  let st := s.warmPair
  let s1 : State := { z with
    part := s.part, pending := s.pending, free := s.free, nextId := s.nextId, lines := s.lines
    phase := .warm 5
    regs := warmRegs s.regs
    cnts := s.cnts.filter fun e => decide (0x2000 ≤ e.1 ∧ e.1 < 0x3000)
    time := s.time
    ktu := { z.ktu with descs := s.ktu.descs }
    flt := { z.flt with lastFatal := s.flt.lastFatal, alert := s.flt.alert }
    rtb := { z.rtb with dirA := s.rtb.dirA, dirB := s.rtb.dirB }
    hps := { z.hps with
      spill := s.hps.spill, heldAtReset := s.hps.heldAtReset, full := s.hps.full
      resume := s.hpsState == 5 && s.hps.resyncRx && s.hps.full }
    lch := { z.lch with changed := s.time }
    mem := s.mem, chk := s.chk
    sc := { z.sc with
      remap := s.sc.remap, superseded := s.sc.superseded, unlogged := s.sc.unlogged
      passStart := SMap.setMany (fun _ => 0) [] ((List.range s.part.stacks).map fun n => (n, s.time)) }
    cxl := { z.cxl with alloc := s.cxl.alloc, poison := s.cxl.poison }
    kpr := s.kpr, pins := s.pins, everReady := s.everReady, flash := s.flash
    fw := { z.fw with
      keeperDigest := s.fw.keeperDigest, runDigest := s.fw.runDigest, boardDigest := s.fw.boardDigest
      setDigest := s.fw.setDigest, slotCopy := s.fw.slotCopy, stagedCopy := s.fw.stagedCopy, logSeq := s.fw.logSeq }
    logq := s.logq, board := s.board }
  let s2 := failed.foldl (fun (u : State) n =>
    (u.setF (Reg.SC_STAT.STATE n) 2).setF (Reg.SC_STAT.FAIL_CAUSE n) (s.f (Reg.SC_STAT.FAIL_CAUSE n))) s1
  let s3 := ((s2.stacksSleep.setF Reg.GLB_STAT.SERVICE 0).setFlag Reg.DBG_STAT.VORER_HALTED false).setLease false
  let s4 := (s3.setHpsState st).setF Reg.GLB_FW_STAT.STATE s.warmStaging
  let s5 := if s.warmStaging = 0 then s4.showStaging 0 [] else s4
  let s6 := (List.range 512).foldl (fun (u : State) a =>
    if u.flag (Reg.DIR_AGENT.VALID a) && u.agentCxl a then (u.setFlag (Reg.DIR_AGENT.FENCED a) true).linkFence a (s.agentFenced a
      && !s.dir.linkFenced.contains a) else u) s5
  { s6 with dir := { s6.dir with bare := (List.range 512).filter s6.agentFenced } }.fillBuckets.showSpill

/-- Steps 3 to 5 (R447): unanswered requests get no answer, lines are poisoned, stacks sleep; it waits before step 5 while
WARM_RESET_N is low (R564). -/
def State.warmGo (s : State) : State :=
  match s.phase with
  | .warm 1 =>
    let s0 := match s.init with
      | some j => s.initCut j
      | none => s
    let s1 := s0.warmPoison.stacksSleep
    if s.pins.warmLow then { s1 with phase := .warm 4 } else s1.logicReset
  | _ => s

/-- WARM_RESET_N rises: a warm reset that waits goes on. -/
def State.warmRise (s : State) : State :=
  let s1 := { s with pins := { s.pins with warmLow := false } }
  match s.phase with
  | .warm 4 => s1.logicReset
  | _ => s1

/-- A commit cut short is completed from the verified staging (R500, R507). -/
def State.commitFinish (s : State) : State :=
  if s.f Reg.GLB_FW_STAT.STATE = 5 then
    let b := s.imageAt flStaging
    let s1 := ((s.storeImage b).setDescriptor s.descriptor.2.1 false).runImage b false
    let s2 := (s1.setFlag Reg.GLB_FW_STAT.COMMIT_PENDING false).showStaging 0 []
    { s2 with fw := { s2.fw with slotCopy := b, stagedCopy := [] } }
  else s.runImage s.fw.slotCopy (s.flag Reg.GLB_FW_STAT.RAISED)

/-- Steps 6 and 7: firmware starts again, the stacks come up, READY; COH_HELD shows (R448), the reset is recorded. A member that held
the lease asks for it again (R423). -/
def State.warmReady (s : State) : State :=
  match s.phase with
  | .warm 5 =>
    let s1 := s.commitFinish.boardLoad.stacksUp.makePlan
    let s2 := { s1.setFlag Reg.GLB_STAT.COH_HELD true with phase := .ready }
    let s3 := (s2.cxlStart).fault { mkRec 0 0 0x0D04 with addr := s2.f Reg.GLB_STAT.LAST_RESET }
    if s3.paired && s3.hpsState == 7 then s3.leaseSend false else s3
  | _ => s

/-! ### Block resets (R446, R549, R551) -/

/-- The pages of block resets that are ignored (R446): GLB, KPR and FTM. -/
def resetIgnored (pg : Nat) : Bool := pg == Pg.GLB || pg == Pg.KPR || pg == Pg.FTM

/-- The bits of a register word that a block reset returns to their reset value: RW and RW1C fields (log entry 35). -/
def blockMask (o : Nat) : Nat :=
  if headerPage o && (o % 4096 == 0x10 || o % 4096 == 0x30) then 4294967295
  else if headerPage o && o % 4096 == 8 then 7
  else match findReg o with
    | some (r, false) => (r.rw ||| r.w1c) % 4294967296
    | some (r, true) => (r.rw ||| r.w1c) / 4294967296
    | none => 0

/-- Registers and counters of a page after a block reset. -/
def State.pageReset (s : State) (pg : Nat) : State :=
  let regs := s.regs.filterMap fun e =>
    if e.1 / 4096 = pg / 4096 then
      let m := blockMask e.1
      let v := (resetWord e.1 &&& m) ||| (e.2 &&& (4294967295 ^^^ m))
      if v = resetWord e.1 then none else some (e.1, v)
    else some e
  { s with regs := regs
           cnts := s.cnts.filter fun e => decide (e.1 / 4096 ≠ pg / 4096)
           frozen := s.frozen.filter fun e => decide (e.1 ≠ pg) }

/-- A latch block reset (R199): counts zero, journalled on the active of a pair, parked waits ABORTED, groups kept. -/
def State.latchReset (s : State) : State :=
  let s1 := s.lch.counts.foldl (fun (u : State) e => u.setLatch e.1 0) s
  ({ s1 with lch := { s1.lch with snap := [], changed := s.time, raised := false } }).abortParks fun _ => true

/-- A ward block reset: every operation ends ABORTED, scratch is cleared. -/
def State.wardReset (s : State) : State :=
  let s1 := (s.wrd.ops.foldl (fun (u : State) o => u.cutWop o.id) s).abortAtoms
  { s1 with wrd := { s1.wrd with engines := s1.wrd.engines.filterMap fun e =>
      let g : Engine := { e.2 with scratch := none, quanta := 0, expired := false, held := false }
      if g = noEngine then none else some (e.1, g) } }

/-- A PTN block reset (R551): a fill stops and its entry stays uninitialised. -/
def State.ptnReset (s : State) : State :=
  (match s.init with
   | some j => s.initCut j
   | none => s).setWord Reg.PTN_INIT_STAT.OFF 0

/-- The stack whose control page an offset names. -/
def ctrlStack (pg : Nat) : Option Nat := arrIdx 0x100000 0x10000 12 pg

/-- SOFT_RESET of a stack's control page is accepted only with every channel quiesced. -/
def State.resetRefused (s : State) (pg : Nat) : Bool :=
  match ctrlStack pg with
  | some n => s.f (Reg.SC_CH_QSD.QSD n) != 0xFFFFFFFF
  | none => false

/-- Start a block reset of a page. A second one while it runs changes nothing. -/
def State.blockReset (s : State) (a : Path) (pg : Nat) : State :=
  if resetIgnored pg ∨ s.resetting.contains pg then s
  else if s.resetRefused pg then
    match ctrlStack pg with
    | some n => s.cfgReject a pg (100 + n) 0x0709 (pg + 8) none
    | none => s
  else
    let failed := (pagePorts pg).any s.failedPorts.contains
    let s1 := if failed then s else (pagePorts pg).foldl (fun (u : State) p => u.portDown p) s
    let s2 :=
      if pg = Pg.LCH then s1.latchReset
      else if pg = Pg.WRD then s1.wardReset
      else if pg = Pg.PTN then s1.ptnReset
      else match ctrlStack pg with
        | some n => s1.chQscWrite n 0
        | none => s1
    -- a reset of a link page resets the port only (R314, R446)
    let s3 := if failed then (s2.pageReset pg).setFlag (Hdr.ENABLE pg) false
      else if (pagePorts pg).isEmpty then s2.pageReset pg else s2
    { s3 with
      resetting := pg :: s3.resetting
      rtb := if pg = Pg.RTB then { s3.rtb with dropSeen := 0 } else s3.rtb }

/-- A block reset completes: SOFT_RESET clears. -/
def State.blockResetDone (s : State) (pg : Nat) : State :=
  { s with resetting := s.resetting.filter fun x => x != pg }

/-- A write of BLK_CTRL.ENABLE (R546): it acts on the link pages and the engine pages. -/
def State.enableWrite (s : State) (pg : Nat) (on : Bool) : State :=
  let was := s.flag (Hdr.ENABLE pg)
  if was = on then s
  else if !(pagePorts pg).isEmpty then
    if (pagePorts pg).any s.failedPorts.contains then s else
    let s1 := s.setFlag (Hdr.ENABLE pg) on
    (pagePorts pg).foldl (fun (u : State) p => if on then u.setF (Reg.SWP_STAT.STATE p) 1 else u.portDisable p) s1
  else if 0x90000 ≤ pg ∧ pg < 0xF0000 then s.setFlag (Hdr.ENABLE pg) on
  else s

/-- The COUNT fields of a page (R547): its counters and, on the FLT page, the fault counts of the open windows. -/
def State.pageCounts (s : State) (pg : Nat) : List (Nat × Nat) :=
  s.cnts.filter (fun e => e.1 / 4096 == pg / 4096)
  ++ (if pg = Pg.FLT then s.regs.filter (fun e => decide (Reg.FLT_SRC_CNT.OFF 0 ≤ e.1) && decide (e.1 < Reg.FLT_SRC_CNT.OFF 199)) else [])

/-- A write of BLK_CTRL.FREEZE (R547): setting it takes a snapshot of the page's counters. -/
def State.freezeWrite (s : State) (pg : Nat) (on : Bool) : State :=
  if on = s.flag (Hdr.FREEZE pg) then s
  else
    let s1 := s.setFlag (Hdr.FREEZE pg) on
    if on then { s1 with frozen := SMap.set (fun _ => []) s1.frozen pg (s1.pageCounts pg) }
    else { s1 with frozen := s1.frozen.filter fun e => e.1 != pg }

/-! ### Counters (R444) -/

/-- Clear the counters of one page: live counters, snapshot and SAT; the histogram bins with those of their page (log entry 35). -/
def State.clearPage (s : State) (pg : Nat) : State :=
  let s1 := { s with
    cnts := s.cnts.filter fun e => decide (e.1 / 4096 ≠ pg / 4096)
    frozen := s.frozen.filter fun e => decide (e.1 ≠ pg) }
  let s2 := if pg = Pg.TSH then s1.histClear else s1
  s2.setFlag (Hdr.SAT pg) false

/-- A write of GLB_CNT_CLR. -/
def State.cntClr (s : State) (v : Nat) : State :=
  if !bit v 31 then s
  else if bit v 30 then
    let pages := ((s.regs.map fun e => e.1 / 4096 * 4096).filter fun o => headerPage o).eraseDups
    pages.foldl (fun (u : State) pg => u.setFlag (Hdr.SAT pg) false) { s.histClear with cnts := [], frozen := [] }
  else
    let pg := bits v 15 0 * 4096
    if headerPage pg && pageKind s.part pg == .present then s.clearPage pg else s

/-! ### Factory fault injection (R451) -/

/-- A write of FTM_INJ_CMD.GO. -/
def State.inject451 (s : State) (a : Path) : State :=
  let kind := s.f Reg.FTM_INJ_CTRL.KIND
  let ppa := s.f Reg.FTM_INJ_ADDR.PPA / 64 * 64
  let m := s.word64 Reg.FTM_INJ_MASK.OFF
  if 4 ≤ kind then s.cfgReject a Pg.GLB 0 0x0001 Reg.FTM_INJ_CMD.OFF none
  else
    let s1 := s.bump Reg.FTM_INJ_CNT.OFF
    if kind = 0 then s1.fault (mkRec (s.f Reg.FTM_INJ_CTRL.SOURCE) (s.f Reg.FTM_INJ_CTRL.CLASS) (s.f Reg.FTM_INJ_CTRL.CODE))
    else if kind = 1 then (s1.poisonSector ppa).poisonList ppa true
    else if kind = 2 then
      let at' := s.phys ppa
      let data := (List.range 64).map fun i => if bit m (i / 2) then s.byte (at' + i) ^^^ 0xFF else s.byte (at' + i)
      let chk := ((s.sectorChk at').zipIdx).map fun e => if bit m (32 + e.2) then e.1 ^^^ 0xFFFF else e.1
      s1.putSector at' data chk
    else
      let p := bits m 2 0
      { s1 with inj := SMap.set (fun _ => 0) s1.inj p (bits m 15 8) }

end Sys2Proof.Machine
end

