-- ==== Sys2Proof/Machine/Update.lean ====
section
/-! DEFINITION. Settings commands, the log window, image transfer and forwarding, activation, trial, commit and raise (R494, R496,
R501 to R509). -/

namespace Sys2Proof.Machine

open Sys2Proof

/-! ### Settings commands (R494) -/

/-- Offsets that a settings record of a part holds, in order. -/
def Part.settingOffsets (p : Part) : List Nat :=
  let pages := [0, 0x10000, 0x11000, 0x12000, 0x13000, 0x14000, 0x15000, 0x16000, 0x20000, 0x30000, 0x50000, 0x60000, 0x61000, 0x70000,
    0x80000] ++ (List.range (16 * p.stacks)).map (fun i => 0x100000 + 0x1000 * i) ++ [0x200000, 0x210000]
  (pages.flatMap fun pg => (List.range 1024).map fun i => pg + 4 * i).filter fun o => p.settingMask o != 0

/-- The settings record SAVE writes (R491, R494). -/
def State.settingsRecord (s : State) : List Byte :=
  let offs := s.part.settingOffsets
  let body := offs.flatMap fun o => leBytes 4 o ++ leBytes 4 (s.word o &&& s.part.settingMask o)
  let h := leBytes 4 0x53545643 ++ leBytes 2 (s.f Reg.GLB_FW_VER2.SFV_LOW) ++ zeros 2 ++ leBytes 4 (s.f Reg.GLB_SET_SEQ.SEQ + 1)
    ++ leBytes 4 offs.length ++ leBytes 4 (crc32 body) ++ zeros 40
  h ++ leBytes 4 (crc32 h) ++ body

/-- A settings command begins: BUSY shows, DONE clears. -/
def State.settingsBusy (s : State) (job : Nat) : State :=
  { (s.setFlag Reg.GLB_SET_STAT.BUSY true).setFlag Reg.GLB_SET_STAT.DONE false with fw := { s.fw with setJob := job } }

/-- SAVE writes the record not in use. -/
def State.settingsSave (s : State) : State :=
  let c := 1 - s.f Reg.GLB_SET_STAT.IN_USE
  ((s.flashErase (flSettings c) 0x40000).flashWrite (flSettings c) s.settingsRecord).settingsBusy 1

/-- ERASE erases both records. -/
def State.settingsErase (s : State) : State :=
  ((s.flashErase (flSettings 0) 0x40000).flashErase (flSettings 1) 0x40000).settingsBusy 2

/-- The R23 rejection of a GLB write. -/
def State.glbReject (s : State) (a : Path) (off : Nat) : State := s.cfgReject a Pg.GLB 0 0x0001 off none

/-- A write of GLB_SET_CMD while none runs; one that runs rejects it. -/
def State.settingsCmd (s : State) (a : Path) (go : State → State) : State :=
  if s.flag Reg.GLB_SET_STAT.BUSY then s.glbReject a Reg.GLB_SET_CMD.OFF else go s

/-- Bytes of the flash that a failed write leaves undefined. -/
def State.flashScramble (s : State) (at' n : Nat) : State :=
  (List.range n).foldl (fun (u : State) i =>
    let v := u.fresh 256
    v.2.flashWrite (at' + i) (leBytes 1 v.1)) s

/-- A failed flash write is counted and recorded. -/
def State.flashErr (s : State) : State := (s.bump Reg.GLB_FLASH_ERR_CNT.OFF).glbFault 2 0x0F05

/-- The running settings command ends. A SAVE whose read-back fails leaves the other record in use. -/
def State.settingsDone (s : State) (ok : Bool) : State :=
  if !s.flag Reg.GLB_SET_STAT.BUSY then s
  else
    let s1 := (s.setFlag Reg.GLB_SET_STAT.BUSY false).setFlag Reg.GLB_SET_STAT.DONE true
    let s2 := { s1 with fw := { s1.fw with setJob := 0 } }
    let c := 1 - s.f Reg.GLB_SET_STAT.IN_USE
    if s.fw.setJob = 1 then
      if ok then
        let s3 := (s2.setF Reg.GLB_SET_STAT.IN_USE c).setF Reg.GLB_SET_SEQ.SEQ ((s.f Reg.GLB_SET_SEQ.SEQ + 1) % 2 ^ 32)
        { s3 with fw := { s3.fw with setDigest := sha512 ((s.settingsAt c).getD []) } }
      else (s2.flashScramble (flSettings c) 64).flashErr
    else if ok then s2 else s2.flashErr

/-- A write of GLB_LOG_SEL: the entry shows (R496). -/
def State.logSelect (s : State) (v : Nat) : State :=
  let i := bits v 15 0
  let s1 := (s.setF Reg.GLB_LOG_SEL.INDEX i).setFlag Reg.GLB_LOG_SEL.VALID true
  let b := s.logEntry i
  (List.range 16).foldl (fun (u : State) k => u.setWord (Reg.GLB_LOG_DATA.OFF k) (leNat (slice b (4 * k) 4))) s1

/-! ### Transfer (R501, R502) -/

def chunkOffset (p : Packet) : Nat := bits p.opw 31 0
def chunkTotal (p : Packet) : Nat := bits p.opw 63 32
def chunkId (p : Packet) : Nat := bits p.addr.toNat 15 0
def chunkLast (p : Packet) : Bool := bit p.addr.toNat 16

/-- A malformed FW_CHUNK. -/
def chunkBad (p : Packet) : Bool := bits p.addr.toNat 63 17 != 0 || p.length == 0 || decide (4096 < p.length)

/-- How a chunk is taken (R502). -/
inductive ChunkKind where
  | first | next | again | refused
  deriving DecidableEq, Repr

/-- The row of R502 that a chunk of a transfer, offset and length meets. A chunk past the staging slot is refused. -/
def State.chunkKind (s : State) (id off len : Nat) : ChunkKind :=
  let st := s.f Reg.GLB_FW_STAT.STATE
  let same := s.fw.xfer && s.f Reg.GLB_FW_XFER.XFER_ID == id
  let next := s.f Reg.GLB_FW_NEXT.OFFSET
  if 3 ≤ st ∨ 0x1000000 < off + len then .refused
  else if !same then (if off = 0 then .first else .refused)
  else if off < next then .again
  else if off = next ∧ st = 1 then .next
  else .refused

/-- The flash still programs a chunk, or the Keeper verifies the last transfer. -/
def State.flashBusy (s : State) : Bool := decide (s.time < s.fw.busyTill) || s.fw.verifying

/-- Invalidate staging and start a transfer. -/
def State.xferStart (s : State) (id : Nat) : State :=
  let s1 := (s.flashErase flStaging 0x1000000).showStaging 1 []
  let s2 := (s1.setF Reg.GLB_FW_XFER.XFER_ID id).setF Reg.GLB_FW_NEXT.OFFSET 0
  { s2 with fw := { s2.fw with xfer := true, fwd := none } }

/-- Write a chunk to staging: 250 ns a byte (R485). -/
def State.stagePut (s : State) (off : Nat) (data : List Byte) (last : Bool) : State :=
  let s1 := (s.flashWrite (flStaging + off) data).setF Reg.GLB_FW_NEXT.OFFSET (off + data.length)
  { s1 with fw := { s1.fw with busyTill := s.time + 250 * data.length, verifying := last } }

/-- The operation word of an answer to FW_CHUNK. -/
def State.chunkWord (s : State) (result : Nat) : Nat := s.f Reg.GLB_FW_NEXT.OFFSET + result * 2 ^ 32

/-- FW_CHUNK (R501, R502). The last chunk is answered once its image is verified. -/
def State.runChunk (s : State) (r : Req) : State :=
  let p := r.pkt
  if !(s.isMgr p.src || p.src + 1 == s.ownId) then (s.violation .register (regWho p 0)).finish r.id stOK 0 0 []
  else
    let off := chunkOffset p
    let k := s.chunkKind (chunkId p) off p.length
    if k = .refused then s.finish r.id stABORTED 0 (s.chunkWord 7) []
    else if k = .again then s.finish r.id stOK 0 (s.chunkWord 0) []
    else if s.flashBusy then s.finishRetry r.id 0x14
    else
      let s1 := if k = .first then s.xferStart (chunkId p) else s
      let s2 := s1.stagePut off p.payload (chunkLast p)
      if chunkLast p then { s2 with fw := { s2.fw with lastReq := some r.id } }
      else s2.finish r.id stOK 0 (s2.chunkWord 0) []

/-- Number and send a management request of this chip's own; answers its tag. -/
def State.mgtSend (s : State) (dst opcode addr op : Nat) (payload : List Byte) : State × Nat :=
  let t := s.takeTx dst
  let f : Form := { dest := dst, src := s.ownId, vc := 6, opcode := opcode, tag := t.2.1, seq := t.2.2, addr := addr, op := op
                    payload := payload }
  (t.1.inject f.packet none, t.2.1)

/-! ### Forwarding (R503) -/

/-- Bytes of one forwarded chunk (the model's choice, R501 allows 1 to 4,096). -/
def fwdSize : Nat := 256

/-- Length of the image in staging, header included. -/
def State.stagedLen (s : State) : Nat := 256 + imgLen (s.flashRead flStaging 256)

/-- Send the chunk at GLB_FW_FWD to the next chip of the chain. -/
def State.fwdSend (s : State) (tries : Nat) : State :=
  let off := s.f Reg.GLB_FW_FWD.OFFSET
  let n := min fwdSize (s.stagedLen - off)
  let last := off + n == s.stagedLen
  let t := s.mgtSend (s.ownId + 1) 0x64 (s.fw.fwdId + b2n last * 2 ^ 16) (off + s.stagedLen * 2 ^ 32) (s.flashRead (flStaging + off) n)
  { t.1 with fw := { t.1.fw with fwd := some (t.2, n, tries) } }

/-- Start forwarding where the chain goes on below this chip. -/
def State.fwdStart (s : State) : State :=
  let last := s.f Reg.RTB_ENUM_STAT.LAST_ID
  if s.flag Reg.GLB_FW_CTRL.FORWARD && s.hasId && decide (s.ownId < last) && s.stagingHeld then
    ({ s.setF Reg.GLB_FW_FWD.OFFSET 0 with fw := { s.fw with fwdId := (s.fw.fwdId + 1) % 65536 } }).fwdSend 0
  else s

/-- Forwarding stops. -/
def State.fwdStop (s : State) : State := ({ s with fw := { s.fw with fwd := none } }).glbFault 0 0x0F06

/-- Send the chunk again, at most 16 times. -/
def State.fwdAgain (s : State) (tries : Nat) : State := if 16 ≤ tries + 1 then s.fwdStop else s.fwdSend (tries + 1)

/-- The next chip answers a forwarded chunk. -/
def State.fwdResponse (s : State) (p : Packet) : State :=
  match s.fw.fwd with
  | none => s
  | some (tag, n, tries) =>
    if p.opcode ≠ 0xE4 ∨ p.tagOf ≠ tag ∨ p.src ≠ s.ownId + 1 then s
    else if p.status = stOK then
      let s1 := s.setF Reg.GLB_FW_FWD.OFFSET (s.f Reg.GLB_FW_FWD.OFFSET + n)
      if s1.stagedLen ≤ s1.f Reg.GLB_FW_FWD.OFFSET then { s1 with fw := { s1.fw with fwd := none } } else s1.fwdSend 0
    else if p.status = stABORTED ∧ bits p.opw 31 0 < s.stagedLen then (s.setF Reg.GLB_FW_FWD.OFFSET (bits p.opw 31 0)).fwdAgain tries
    else s.fwdAgain tries

/-- A forwarded chunk is unanswered for 100 ms. -/
def State.fwdTimeout (s : State) : State := if s.fw.fwd.isSome then s.fwdStop else s

/-! ### The end of a transfer (R502) -/

/-- Mailbox return code of a RESULT (R522; the numbers of CXL 3.1, log entry 30). -/
def boxResult (result : Nat) : Nat :=
  if result = 0 then 0
  else if result = 4 ∨ result = 5 ∨ result = 6 ∨ result = 8 then 2
  else if result = 1 ∨ result = 2 then 0x13
  else if result = 7 then 6
  else 0xA

/-- Answer the LAST chunk, or the Transfer FW that ended the transfer. -/
def State.lastAnswer (s : State) (req box : Option Nat) (result : Nat) : State :=
  let s1 := match req with
    | some id => s.finish id (if result = 0 then stOK else stABORTED) 0 (s.chunkWord result) []
    | none => s
  match box with
  | some ld => s1.boxDone ld 0x0201 (boxResult result) .nothing
  | none => s1

/-- The Keeper has verified the staged image. -/
def State.verifyDone (s : State) : State :=
  if !s.fw.verifying then s
  else
    let b := s.imageAt flStaging
    let res := s.imageResult b
    let s0 := { s with fw := { s.fw with verifying := false, lastReq := none, lastBox := none } }
    if res ≠ 0 then
      (((s0.fwRefused res).flashErase flStaging 0x1000000).showStaging 0 []).lastAnswer s.fw.lastReq s.fw.lastBox res
    else
      let s1 := s0.setF Reg.GLB_FW_XFER.RESULT 0
      if imgKind b = 1 ∧ imgVersion b = s.word64 Reg.GLB_FW_RUN_VER.OFF then
        (s1.showStaging 0 []).lastAnswer s.fw.lastReq s.fw.lastBox 0
      else
        let s2 := ((s1.showStaging 2 b).evt Pg.GLB 4).logUpdate (imgVersion b) 0 1
        (s2.lastAnswer s.fw.lastReq s.fw.lastBox 0).fwdStart

/-! ### Version checks (R504, R508) -/

/-- The CV-1275s among the Swiette peers: those of the chain this chip lies in, or, where no chain is known, every peer with an ID. -/
def State.swiettePeers (s : State) : List Nat :=
  let ids := ((List.range 4).filter s.linkUp).map fun p => s.f (Reg.SWP_STAT.PEER_NODE p)
  let last := s.f Reg.RTB_ENUM_STAT.LAST_ID
  ids.filter fun n => n != 0xFFF && (last == 0xFFF || (decide (s.f Reg.RTB_ENUM_HEAD.HEAD_ID ≤ n) && decide (n ≤ last)))

/-- Members that a valid member tree names. -/
def State.treeMembers (s : State) : List Nat :=
  ((List.range 256).filter fun g => s.flag (Reg.RTB_MC_TREE.VALID g)).flatMap fun g =>
    let par := s.f (Reg.RTB_MC_TREE.PARENT_NODE g)
    (if par = 0xFFF then [] else [par]) ++ s.treeKids g

/-- Neighbours of the chip. -/
def State.neighbours (s : State) : List Nat :=
  let pair := if s.paired then [s.f Reg.HPS_PARTNER.PARTNER] else []
  ((s.swiettePeers ++ pair ++ s.treeMembers).eraseDups).filter fun n => n != s.ownId

/-- Read each neighbour's version registers. -/
def State.askAll (s : State) (a : Path) (raise : Bool) (box : Option Nat) : State :=
  let r := s.neighbours.foldl (fun (u : State × List Ask) n =>
    let t := u.1.mgtSend n 0x61 0 (Reg.GLB_FW_VER.OFF + 16 * 2 ^ 24) []
    (t.1, u.2 ++ [⟨n, t.2⟩])) (s, [])
  { r.1 with fw := { r.1.fw with check := some ⟨a, raise, box, r.2, false, false⟩ } }

/-- A version lies in a range. -/
def within (v low cur : Nat) : Bool := decide (low ≤ v) && decide (v ≤ cur)

/-- Whether the answer of a neighbour forbids what is checked: its versions do not meet those of the staged image, or, for a raise, its
ranges leave out this image's CUR. -/
def State.versionsBad (s : State) (raise : Bool) (d : List Byte) : Bool :=
  let b := s.imageAt flStaging
  let cur (i : Nat) : Nat := (byteAt d (2 * i)).toNat
  let low (i : Nat) : Nat := (byteAt d (2 * i + 1)).toNat
  let own : List Nat := [s.f Reg.GLB_FW_VER.SPV_CUR, s.f Reg.GLB_FW_VER.JFMT_CUR, s.f Reg.GLB_FW_VER2.SFV_CUR]
  (List.range 3).any fun i =>
    if raise then !within (own.getD i 0) (low i) (cur i)
    else !within (imgCompat b (2 * i + 1)) (low i) (cur i) || !within (low i) (imgCompat b (2 * i + 1)) (imgCompat b (2 * i))

/-- Refuse an activation. -/
def State.activateRefuse (s : State) (box : Option Nat) (result : Nat) : State :=
  let s1 := s.fwRefused result
  match box with
  | some ld => s1.boxDone ld 0x0202 (boxResult result) .nothing
  | none => s1

/-- The member may not activate for the state of its pair (R420). -/
def State.pairBars (s : State) : Bool := s.hpsState == 5 || s.hpsState == 6

/-- Accept an activation: the preload begins (R506 step 1). -/
def State.activateStart (s : State) (box : Option Nat) : State :=
  let s1 := ((s.bump Reg.GLB_FW_ACT_CNT.OFF).setF Reg.GLB_FW_XFER.RESULT 0).setF Reg.GLB_FW_STAT.STATE 3
  let s2 := { s1 with fw := { s1.fw with confirmed := false, failedAt := (List.range s.part.stacks).filter s.stackFailed } }
  match box with
  | some ld => s2.boxDone ld 0x0202 0 .nothing
  | none => s2

/-- An accepted RAISE narrows each range to CUR, saves the settings and is logged (R508). -/
def State.raiseDo (s : State) : State :=
  ((s.showRanges s.fw.slotCopy true).settingsSave).logUpdate (s.word64 Reg.GLB_FW_RUN_VER.OFF) 0 5

/-- A version check whose reads have all ended decides. -/
def State.checkEnd (s : State) : State :=
  match s.fw.check with
  | none => s
  | some c =>
    if !c.asks.isEmpty then s
    else
      let s1 := { s with fw := { s.fw with check := none } }
      if c.raise then
        (if c.bad ∨ s.f Reg.GLB_FW_STAT.STATE ≠ 0 then s1.glbReject c.path Reg.GLB_FW_CTRL.OFF else s1.raiseDo)
      else if s.f Reg.GLB_FW_STAT.STATE ≠ 2 ∨ s.pairBars then s1.activateRefuse c.mailbox 7
      else if c.bad then s1.activateRefuse c.mailbox 6
      else if c.order then s1.activateRefuse c.mailbox 8
      else s1.activateStart c.mailbox

/-- The oldest open read is not answered: its neighbour is not checked. -/
def State.compatUnchecked (s : State) : State :=
  match s.fw.check with
  | some c =>
    match c.asks with
    | [] => s
    | _ :: l => ((({ s with fw := { s.fw with check := some { c with asks := l } } }).glbFault 0 0x0F07)).checkEnd
  | none => s

/-- A neighbour's answer to the version read. -/
def State.versionAnswer (s : State) (p : Packet) : State :=
  match s.fw.check with
  | some c =>
    match c.asks.find? fun x => x.node == p.src && x.tag == p.tagOf with
    | some x =>
      if p.opcode ≠ 0xE1 ∨ p.status ≠ stOK ∨ p.length ≠ 16 then s
      else
        let late := !c.raise && s.paired && s.hpsState == 2 && x.node == s.f Reg.HPS_PARTNER.PARTNER
          && decide (leNat (slice p.payload 8 8) < imgVersion (s.imageAt flStaging))
        ({ s with fw := { s.fw with check := some { c with
            asks := c.asks.filter fun y => y != x
            bad := c.bad || s.versionsBad c.raise p.payload
            order := c.order || late } } }).checkEnd
    | none => s
  | none => s

/-! ### Activation, trial, commit (R504 to R509) -/

/-- A KEEPER image is copied into the Keeper copy that is not active, which becomes the active one (R505). -/
def State.keeperPut (s : State) (b : List Byte) (box : Option Nat) : State :=
  let c := 1 - s.descriptor.2.1
  let s1 := ((s.flashErase (flKeeper c) 0x100000).flashWrite (flKeeper c) b).setDescriptor c s.descriptor.2.2
  let s2 := ((s1.showStaging 0 []).bump Reg.GLB_FW_ACT_CNT.OFF).setF Reg.GLB_FW_XFER.RESULT 0
  match box with
  | some ld => s2.boxDone ld 0x0202 0 .nothing
  | none => s2

/-- An activation is asked for. In recovery it commits the image and starts a cold start (R498). -/
def State.activate (s : State) (a : Path) (box : Option Nat) : State :=
  let b := s.imageAt flStaging
  if s.f Reg.GLB_FW_STAT.STATE ≠ 2 ∨ s.fw.check.isSome then s.activateRefuse box 7
  else if s.pairBars then
    (match box with
     | some _ => s
     | none => s.glbReject a Reg.GLB_FW_CTRL.OFF).activateRefuse box 7
  else if imgKind b = 2 then s.keeperPut b box
  else if s.phase = .recovery then
    (match box with
     | some ld => (s.storeImage b).boxDone ld 0x0202 0 .nothing
     | none => s.storeImage b).coldRestart 4
  else (s.askAll a false box).checkEnd

/-- The staged image is in the carve-out and checked: the loader starts it, and the trial begins (R506 steps 1 to 3). -/
def State.preloadDone (s : State) : State :=
  if s.f Reg.GLB_FW_STAT.STATE ≠ 3 then s
  else
    let b := s.imageAt flStaging
    if sha512 (imgBody b) ≠ imgDigest b then (s.setF Reg.GLB_FW_STAT.STATE 2).fwRefused 3
    else
      let s1 := (s.runImage b false).setF Reg.GLB_FW_STAT.STATE 4
      { s1 with fw := { s1.fw with stagedCopy := b, planAt := s.f Reg.EPL_PLAN_SEQ.INTERVAL } }.logUpdate (imgVersion b) 0 2

/-- The manager's confirmation. -/
def State.fwConfirm (s : State) : State :=
  if s.f Reg.GLB_FW_STAT.STATE = 4 then { s with fw := { s.fw with confirmed := true } } else s

/-- What the new image checks of itself (R506 steps 4 and 5). -/
def State.healthy (s : State) : Bool :=
  s.phase == .ready && s.resetting.isEmpty
  && (List.range s.part.stacks).all (fun n => !s.stackFailed n || s.fw.failedAt.contains n)
  && s.cxlUp && s.f Reg.EPL_PLAN_SEQ.INTERVAL != s.fw.planAt
  && (!s.flag Reg.GLB_FW_CTRL.HOLD_CONFIRM || s.fw.confirmed)

/-- The image confirms its health: COMMIT_PENDING is set and the commit copy begins (R506 step 6). -/
def State.healthConfirmed (s : State) : State :=
  if s.f Reg.GLB_FW_STAT.STATE = 4 ∧ s.healthy then
    let s1 := (s.setDescriptor s.descriptor.2.1 true).setF Reg.GLB_FW_STAT.STATE 5
    { s1 with fw := { s1.fw with tries := 0 } }
  else s

/-- The commit copy ends (R506 steps 7 and 8, R509). After the third failure the state is STAGED and COMMIT_PENDING is cleared. -/
def State.commitDone (s : State) (ok : Bool) : State :=
  if s.f Reg.GLB_FW_STAT.STATE ≠ 5 then s
  else if ok then
    let b := s.imageAt flStaging
    let s1 := ((s.storeImage b).setDescriptor s.descriptor.2.1 false).showStaging 0 []
    let s2 := { s1 with fw := { s1.fw with slotCopy := s1.fw.stagedCopy, stagedCopy := [] } }
    ((s2.bump Reg.GLB_FW_COMMIT_CNT.OFF).evt Pg.GLB 5).logUpdate (imgVersion b) 0 3
  else
    let s1 := (s.bump Reg.GLB_FLASH_ERR_CNT.OFF).flashScramble flImage 256
    if s.fw.tries < 2 then { s1 with fw := { s1.fw with tries := s.fw.tries + 1 } }
    else
      ((((s1.setDescriptor s.descriptor.2.1 false).setF Reg.GLB_FW_STAT.STATE 2).setF Reg.GLB_FW_XFER.RESULT 9).glbFault 2 0x0F05)

/-- Confirmation has not come within HEALTH_S. -/
def State.healthTimeout (s : State) : State := s.fallBack

/-- RAISE (R508). -/
def State.raise (s : State) (a : Path) : State :=
  if s.f Reg.GLB_FW_STAT.STATE ≠ 0 ∨ s.fw.check.isSome then s.glbReject a Reg.GLB_FW_CTRL.OFF
  else (s.askAll a true none).checkEnd

/-- A write of GLB_FW_CTRL (R503 to R508): its stored fields, then what its bits start. -/
def State.fwCtrlWrite (s : State) (a : Path) (v : Nat) : State :=
  let s1 := s.regStore Reg.GLB_FW_CTRL.OFF v
  let s2 := if bit v 0 then s1.activate a none else s1
  let s3 := if bit v 1 then s2.fwConfirm else s2
  let s4 := if bit v 2 then s3.raise a else s3
  if bit v 4 then s4.fwdStart else s4

end Sys2Proof.Machine
end

