-- ==== Sys2Proof/Machine/Mailbox.lean ====
section
/-! DEFINITION. The mailbox commands of the logical devices, the FM-owned LD and the MGM page (R514, R519 to R522, R553): what each does and
returns. Return codes are those of CXL 3.1 (log entry 30): 0 Success, 1 Background Started, 2 Invalid Input, 3 Unsupported, 6 Busy. -/

namespace Sys2Proof.Machine

open Sys2Proof

/-- Input field i. -/
def arg (m : Mailbox) (i : Nat) : Nat := m.args.getD i 0

/-- The logical device a mailbox acts for: MGM acts as the manager's (R553). -/
def State.boxLd (s : State) (box : Nat) : Nat := if box = 17 then s.mgrLd else box

/-- Opcodes of the table of R519. -/
def ldOpcodes : List Nat :=
  [0x0001, 0x0002, 0x0100, 0x0101, 0x0102, 0x0103, 0x0200, 0x0201, 0x0202, 0x0300, 0x0301, 0x0400, 0x0401, 0x4000, 0x4200, 0x4201, 0x4202,
   0x4300, 0x4301, 0x4302, 0x4400]

/-- Whether a mailbox serves an opcode (R514, R519, R553). -/
def State.boxServes (s : State) (box op : Nat) : Bool :=
  if 0x5400 ≤ op ∧ op ≤ 0x5409 then decide (16 ≤ box) && op != 0x5407 && op != 0x5409
  else if op = 0x0201 ∨ op = 0x0202 then decide (16 ≤ box) || box == s.mgrLd
  else if op = 0x4301 then s.factory && box != 16
  else if 0x4300 ≤ op ∧ op ≤ 0x4400 then box != 16 && ldOpcodes.contains op
  else ldOpcodes.contains op

/-- Serve a mailbox command: a command the mailbox does not serve is Unsupported; firmware that does not run answers nothing in time, so
Busy; in recovery only identify, firmware information, transfer and activation are served (R498). -/
def State.boxGo (s : State) (box op : Nat) (go : State → State) : State :=
  if s.phase ≠ .ready ∧ s.phase ≠ .recovery ∨ (box ≠ 17 ∧ !s.cxlUp) ∨ 17 < box then s
  else if !s.boxServes box op ∨ (s.phase = .recovery ∧ !([0x0001, 0x0200, 0x0201, 0x0202].contains op)) then s.boxDone box op 3 .nothing
  else if s.fwDown then s.boxDone box op 6 .nothing
  else go s

/-! ### The FM-owned LD (R514) -/

/-- Get LD Info: memory size, number of LDs. -/
def State.boxLdInfo (s : State) (box : Nat) : State := s.boxDone box 0x5400 0 (.fields [s.part.gib * 2 ^ 30, 16])

/-- Allocation i (of two) of a logical device in GiB as last set. -/
def State.ldAlloc (s : State) (ld i : Nat) : Nat := SMap.get (fun _ => 0) s.cxl.alloc (ld * 2 + i)

/-- Get LD Allocations from a first LD, at most a number of them. -/
def State.boxGetAlloc (s : State) (box : Nat) (m : Mailbox) : State :=
  let first := arg m 0
  let n := min (arg m 1) (16 - first)
  if 16 ≤ first then s.boxDone box 0x5401 2 .nothing
  else s.boxDone box 0x5401 0 (.fields ([16, first, n] ++ (upTo first (first + n)).flatMap fun ld => [s.ldAlloc ld 0, s.ldAlloc ld 1]))

/-- Set LD Allocations: number, first LD, two ranges each in GiB. -/
def State.boxSetAlloc (s : State) (box : Nat) (m : Mailbox) : State :=
  let n := arg m 0
  let first := arg m 1
  if n = 0 ∨ 16 < first + n then s.boxDone box 0x5402 2 .nothing
  else
    let kv := (List.range (2 * n)).map fun i => (first * 2 + i, arg m (2 + i))
    let s1 := { s with cxl := { s.cxl with alloc := SMap.setMany (fun _ => 0) s.cxl.alloc kv } }
    s1.boxDone box 0x5402 0 (.fields ([n, first] ++ kv.map (·.2)))

/-- The DevLoad thresholds of R373. -/
def qosThresholds : List Nat := [4, 8, 12]

/-- Get QoS Control. -/
def State.boxGetQos (s : State) (box : Nat) : State := s.boxDone box 0x5403 0 (.fields (s.cxl.qosCtl :: qosThresholds))

/-- Set QoS Control: a change of the thresholds is Invalid Input. -/
def State.boxSetQos (s : State) (box : Nat) (m : Mailbox) : State :=
  if m.args.drop 1 = qosThresholds then
    { s with cxl := { s.cxl with qosCtl := arg m 0 } }.boxDone box 0x5404 0 (.fields (arg m 0 :: qosThresholds))
  else s.boxDone box 0x5404 2 .nothing

/-- Get QoS Status: the average back-pressure percentage, which the spec does not define (a free value, log entry 2). -/
def State.boxQosStatus (s : State) (box : Nat) : State :=
  let v := s.fresh 101
  v.2.boxDone box 0x5405 0 (.fields [v.1])

/-- Get QoS Allocated BW and Get QoS BW Limit: 0xFF for every LD asked for. -/
def State.boxBw (s : State) (box op : Nat) (m : Mailbox) : State :=
  let n := arg m 0
  let first := arg m 1
  if 16 < first + n then s.boxDone box op 2 .nothing
  else s.boxDone box op 0 (.fields ([n, first] ++ List.replicate n 0xFF))

/-! ### Device commands (R519) -/

/-- The PCI device ID of a part (R512). -/
def Part.deviceId : Part → Nat
  | .cv1275 => 0x1275
  | .cv1273 => 0x1273
  | .cv1269 => 0x1269

/-- Identify: vendor and device ID (R512); the subsystem's two identities and the serial number are factory constants (log entry 17). -/
def State.boxIdentify (s : State) (box : Nat) : State :=
  s.boxDone box 0x0001 0 (.fields ([0x1DC5, s.part.deviceId] ++ (List.range 3).map fun i => Config.factory (200 + i)))

/-- Background Operation Status: whether Sanitize runs, its progress (a free value while it runs), how the last one ended. -/
def State.boxBgStatus (s : State) (box : Nat) : State :=
  if s.cxl.bg.any fun b => b.1 == box then
    let v := s.fresh 100
    v.2.boxDone box 0x0002 0 (.fields [1, v.1, 0x4400, 0])
  else s.boxDone box 0x0002 0 (.fields [0, 100, 0x4400, SMap.get (fun _ => 0) s.cxl.bgLast box])

/-- Get Event Records of a log. -/
def State.boxGetEvents (s : State) (box : Nat) (m : Mailbox) : State :=
  if 3 < arg m 0 then s.boxDone box 0x0100 2 .nothing
  else
    let l := s.evLog (s.boxLd box) (arg m 0)
    s.boxDone box 0x0100 0 (.events l.recs false l.ovf l.ovfFirst l.ovfLast)

/-- Clear Event Records: log, whether all, else handles, which must be the oldest in order. Overflow information goes with them. -/
def State.boxClearEvents (s : State) (box : Nat) (m : Mailbox) : State :=
  let k := arg m 0
  let ld := s.boxLd box
  let l := s.evLog ld k
  let hs := m.args.drop 2
  if 3 < k then s.boxDone box 0x0101 2 .nothing
  else if arg m 1 = 1 then
    (s.setEvLog ld k { l with recs := [], ovf := 0, ovfFirst := 0, ovfLast := 0 }).boxDone box 0x0101 0 .nothing
  else if hs = (l.recs.take hs.length).map (·.handle) then
    (s.setEvLog ld k { l with recs := l.recs.drop hs.length, ovf := 0, ovfFirst := 0, ovfLast := 0 }).boxDone box 0x0101 0 .nothing
  else s.boxDone box 0x0101 0xE .nothing

/-- Get Event Interrupt Policy. -/
def State.boxGetPolicy (s : State) (box : Nat) : State :=
  s.boxDone box 0x0102 0 (.fields ((List.range 4).map fun k => SMap.get (fun _ => 0) s.cxl.policy (s.boxLd box * 4 + k)))

/-- Set Event Interrupt Policy: for each log its mode (1: MSI-X) and vector. -/
def State.boxSetPolicy (s : State) (box : Nat) (m : Mailbox) : State :=
  let kv := (List.range 4).map fun k => (s.boxLd box * 4 + k, arg m k % 256)
  ({ s with cxl := { s.cxl with policy := SMap.setMany (fun _ => 0) s.cxl.policy kv } }).boxDone box 0x0103 0 .nothing

/-- Get FW Info: two slots, slot 1 active, online activation, the versions of the image slot and of staging. -/
def State.boxFwInfo (s : State) (box : Nat) : State :=
  s.boxDone box 0x0200 0 (.fields [2, 1, 1, imgVersion (s.flashRead flImage 256), s.word64 Reg.GLB_FW_STG_VER.OFF])

/-- Abort a transfer: staging is invalid. -/
def State.xferAbort (s : State) : State :=
  let s1 := (s.flashErase flStaging 0x1000000).showStaging 0 []
  { s1 with fw := { s1.fw with fwd := none } }

/-- Transfer FW (R522): action (0 full, 1 initiate, 2 continue, 3 end, 4 abort), slot, offset in 128-byte units. What ends a transfer is
answered once its image is verified. -/
def State.boxTransfer (s : State) (box : Nat) (m : Mailbox) : State :=
  let act := arg m 0
  let off := arg m 2 * 128
  let st := s.f Reg.GLB_FW_STAT.STATE
  let fresh := decide (act = 0 ∨ act = 1)
  if 4 < act then s.boxDone box 0x0201 2 .nothing
  else if 3 ≤ st then s.boxDone box 0x0201 (boxResult 7) .nothing
  else if s.flashBusy then s.boxDone box 0x0201 6 .nothing
  else if act = 4 then s.xferAbort.boxDone box 0x0201 0 .nothing
  else if off ≠ (if fresh then 0 else s.f Reg.GLB_FW_NEXT.OFFSET) ∨ (!fresh ∧ st ≠ 1) ∨ m.data = [] ∨ 0x1000000 < off + m.data.length then
    s.boxDone box 0x0201 2 .nothing
  else
    let last := decide (act = 0 ∨ act = 3)
    let s1 := if fresh then s.xferStart ((s.f Reg.GLB_FW_XFER.XFER_ID + 1) % 65536) else s
    let s2 := s1.stagePut off m.data last
    if last then { s2 with fw := { s2.fw with lastBox := some box } } else s2.boxDone box 0x0201 0 .nothing

/-- Activate FW: action (0 online), slot (2 is staging). -/
def State.boxActivate (s : State) (box : Nat) (m : Mailbox) : State :=
  if arg m 0 ≠ 0 then s.boxDone box 0x0202 2 .nothing
  else if arg m 1 ≠ 2 then s.boxDone box 0x0202 0xB .nothing
  else s.activate .mmio (some box)

/-- Get Timestamp: pool time plus the LD's offset. -/
def State.boxGetTime (s : State) (box : Nat) : State :=
  let t : Int := s.time + SMap.get (fun _ => (0 : Int)) s.cxl.tsOff (s.boxLd box)
  s.boxDone box 0x0300 0 (.fields [(t % 2 ^ 64).toNat])

/-- Set Timestamp rewrites the LD's offset. -/
def State.boxSetTime (s : State) (box : Nat) (m : Mailbox) : State :=
  let off : Int := (arg m 0 : Int) - s.time
  ({ s with cxl := { s.cxl with tsOff := SMap.set (fun _ => (0 : Int)) s.cxl.tsOff (s.boxLd box) off } }).boxDone box 0x0301 0 .nothing

/-- Get Supported Logs: the Command Effects Log only, with its number of entries. -/
def State.boxLogs (s : State) (box : Nat) : State :=
  s.boxDone box 0x0400 0 (.fields [1, ((ldOpcodes ++ upTo 0x5400 0x540A).filter (s.boxServes box)).length])

/-- Get Log: the opcodes the mailbox serves. -/
def State.boxLog (s : State) (box : Nat) : State :=
  s.boxDone box 0x0401 0 (.fields ((ldOpcodes ++ upTo 0x5400 0x540A).filter (s.boxServes box)))

/-- Identify Memory Device: total, volatile and persistent capacity in units of 256 MiB, entries of the poison list. -/
def State.boxMemory (s : State) (box : Nat) : State :=
  let c := 4 * (s.ldAlloc (s.boxLd box) 0 + s.ldAlloc (s.boxLd box) 1)
  s.boxDone box 0x4000 0 (.fields [c, c, 0, 512])

/-- Spares of a stack in use. -/
def State.sparesUsed (s : State) (n : Nat) : Nat := (s.sc.remap.filter fun e => s.part.stackOf (e.2.1 * 4096) == n).length

/-- Get Health Info: health status (1 maintenance needed, 2 performance degraded), media status (0 Normal, 1 Not Ready, 2 Disabled), the
hottest stack, corrected errors. -/
def State.boxHealth (s : State) (box : Nat) : State :=
  let l := List.range s.part.stacks
  let health := b2n (l.any fun n => decide (15000 < s.sparesUsed n)) + 2 * b2n (l.any s.stackFailed)
  let media := if s.phase ≠ .ready then 1 else if s.basic then 2 else 0
  let temp := (l.map fun n => s.f (Reg.SC_STAT.TEMP n)).foldl max 0
  s.boxDone box 0x4200 0 (.fields [health, media, temp, min ((l.map fun n => s.cnt (Reg.SC_CE_CNT.OFF n)).sum) (2 ^ 32 - 1)])

/-- Get Alert Configuration: temperature and corrected-error thresholds. -/
def State.boxGetAlert (s : State) (box : Nat) : State :=
  s.boxDone box 0x4201 0 (.fields ((List.range 2).map fun i => SMap.get (fun _ => 0) s.cxl.alert (s.boxLd box * 2 + i)))

/-- Set Alert Configuration. -/
def State.boxSetAlert (s : State) (box : Nat) (m : Mailbox) : State :=
  let kv := (List.range 2).map fun i => (s.boxLd box * 2 + i, arg m i)
  ({ s with cxl := { s.cxl with alert := SMap.setMany (fun _ => 0) s.cxl.alert kv } }).boxDone box 0x4202 0 .nothing

/-! ### Commands that translate (R519, R520) -/

/-- The request a mailbox command translates as: the LD's subscriber and keyway. -/
def State.boxPacket (s : State) (ld opcode dpa op : Nat) (payload : List Byte) : Packet :=
  ({ dest := s.ownId, src := 0xFFF, vc := 0, opcode := opcode, high := ld % 64 * 2 ^ 8
     addr := s.f (Reg.KTU_LD_KEYWAY.KEYWAY ld) + dpa * 2 ^ 12, op := op, payload := payload } : Form).packet

/-- Admit such a request; answers its identity. -/
def State.boxAdmit (s : State) (box opcode dpa op : Nat) (payload : List Byte) : State × Nat :=
  let a := s.cxlAdmit (s.boxPacket (s.boxLd box) opcode dpa op payload) (s.boxLd box) (2 ^ 32 + box)
  (a.1.modReq a.2 fun r => { r with started := true }, a.2)

/-- The mailbox of such a request. -/
def reqBox (r : Req) : Nat := match r.cxl with
  | some (_, t) => t - 2 ^ 32
  | none => 17

/-- Get Poison List scans its DPA range: what is left of it is in the request, with the entries found as 9 bytes each; forbidden segments
are skipped, a miss waits for the walk. -/
def State.poisonScan (id : Nat) : Nat → State → State
  | 0, s => s
  | k + 1, s =>
    match s.req? id with
    | none => s
    | some r =>
      let left := r.pkt.opw
      let step (u : State) (n : Nat) (found : List Byte) : State :=
        State.poisonScan id k (u.modReq id fun q => { q with pkt := { q.pkt with
          addr := BitVec.ofNat 64 (q.pkt.addr.toNat + n * 2 ^ 12), op := BitVec.ofNat 64 (left - n), payload := q.pkt.payload ++ found } })
      if left = 0 then
        let l := (List.range (r.pkt.payload.length / 9)).map fun i =>
          (leNat (slice r.pkt.payload (9 * i) 8), byteAt r.pkt.payload (9 * i + 8) != 0)
        (s.dropReq id).boxDone (reqBox r) 0x4300 0 (.poison l false (s.flag Reg.CXP_POISON_STAT.OVERFLOW))
      else match s.xlate r.pkt.sub r.pkt.keyway r.pkt.offset ⟨true, false, false⟩ with
        | (s1, .viol _ n _) => step s1 (max 1 (min n left)) []
        | (s1, .miss loc) => s1.miss r.pkt.keyway loc (.req id)
        | (s1, .ok ppa _ _ n) =>
          let m := max 1 (min n left)
          let hit := s1.cxl.poison.filter fun e => decide (ppa ≤ e.1 ∧ e.1 < ppa + m)
          step s1 m (hit.flatMap fun e => leBytes 8 (r.pkt.offset + (e.1 - ppa)) ++ leBytes 1 (b2n e.2))

/-- Go on with a Get Poison List. -/
def State.runPoisonList (s : State) (r : Req) : State := State.poisonScan r.id (r.pkt.opw / 4096 + 3) s

/-- Go on with an Inject Poison: a KIND 1 injection at the translated sector (R451); a violation injects nothing. -/
def State.runInject (s : State) (r : Req) : State :=
  match s.xlate r.pkt.sub r.pkt.keyway r.pkt.offset ⟨false, true, false⟩ with
  | (s1, .viol _ _ _) => (s1.dropReq r.id).boxDone (reqBox r) 0x4301 0 .nothing
  | (s1, .miss loc) => s1.miss r.pkt.keyway loc (.req r.id)
  | (s1, .ok ppa _ _ _) =>
    ((((s1.dropReq r.id).bump Reg.FTM_INJ_CNT.OFF).poisonSector (ppa / 64 * 64)).poisonList ppa true).boxDone (reqBox r) 0x4301 0 .nothing

/-- Opcodes that mark the requests of Get Poison List and Inject Poison; no packet carries them (R329). -/
def opPoisonList : Nat := 0
def opInject : Nat := 0x7F

/-- Start a mailbox command that translates: without a keyway it ends at once with `none'`. -/
def State.boxXlate (s : State) (box op opcode dpa opw : Nat) (payload : List Byte) (none' : BoxOut) (go : State → Req → State) : State :=
  if !s.flag (Reg.KTU_LD_KEYWAY.VALID (s.boxLd box)) then s.boxDone box op 0 none'
  else
    let a := s.boxAdmit box opcode dpa opw payload
    match a.1.req? a.2 with
    | some r => go a.1 r
    | none => a.1

/-- Get Poison List: first DPA, length in bytes, at most 64 GiB. -/
def State.boxPoisonList (s : State) (box : Nat) (m : Mailbox) : State :=
  if 2 ^ 36 < arg m 1 then s.boxDone box 0x4300 2 .nothing
  else s.boxXlate box 0x4300 opPoisonList (arg m 0) (arg m 1) [] (.poison [] false (s.flag Reg.CXP_POISON_STAT.OVERFLOW)) fun u r =>
    u.runPoisonList r

/-- Inject Poison at a DPA. -/
def State.boxInject (s : State) (box : Nat) (m : Mailbox) : State :=
  s.boxXlate box 0x4301 opInject (arg m 0 / 64 * 64) 0 [] .nothing fun u r => u.runInject r

/-- Clear Poison: 64 bytes written as a full sector at a DPA. -/
def State.boxClear (s : State) (box : Nat) (m : Mailbox) : State :=
  s.boxXlate box 0x4302 2 (arg m 0 / 64 * 64) 0 (slice m.data 0 64) .nothing fun u r => u.runWrite r

/-! ### Sanitize (R519) -/

/-- Sanitize starts in the background while the LD is quiesced and no other fill of it runs. -/
def State.boxSanitize (s : State) (box : Nat) : State :=
  let ld := s.boxLd box
  if !s.quiesced ld ∨ s.cxl.clear.any fun c => c.1 == ld then s.boxDone box 0x4400 6 .nothing
  else
    let s1 := { s with cxl := { s.cxl with clear := s.cxl.clear ++ [(ld, false)], bg := s.cxl.bg ++ [(box, ld)] } }
    s1.boxDone box 0x4400 1 .nothing

/-- The oldest Sanitize ends: the partitions of its subscriber are filled with zeros, SANITIZE_DONE is set, and a device's vector 0 tells. As a
PTN_INIT fill it waits for quiesced channels and the maintenance allowance. -/
def State.sanitizeDone (s : State) : State :=
  match s.cxl.bg with
  | [] => s
  | (box, ld) :: l =>
    if s.fillWaits then s else if s.maintAllowed = false then s.noteMaintHeld else
    let s1 := s.fillOwned ld
    let s2 := { s1 with cxl := { s1.cxl with
      clear := s1.cxl.clear.filter (fun (c : Nat × Bool) => c != (ld, false)), bg := l
      bgLast := SMap.set (fun _ => 0) s1.cxl.bgLast box 0 } }
    let s3 := s2.evt Pg.CXP 5
    if box < 16 ∧ box ≠ s.mgrLd then s3.msix box 0 else s3

/-! ### The MGM page (R553) -/

/-- A mailbox command by its opcode. -/
def State.boxOp (s : State) (box op : Nat) (m : Mailbox) : State :=
  match op with
  | 0x5400 => s.boxLdInfo box
  | 0x5401 => s.boxGetAlloc box m
  | 0x5402 => s.boxSetAlloc box m
  | 0x5403 => s.boxGetQos box
  | 0x5404 => s.boxSetQos box m
  | 0x5405 => s.boxQosStatus box
  | 0x5406 => s.boxBw box 0x5406 m
  | 0x5408 => s.boxBw box 0x5408 m
  | 0x0001 => s.boxIdentify box
  | 0x0002 => s.boxBgStatus box
  | 0x0100 => s.boxGetEvents box m
  | 0x0101 => s.boxClearEvents box m
  | 0x0102 => s.boxGetPolicy box
  | 0x0103 => s.boxSetPolicy box m
  | 0x0200 => s.boxFwInfo box
  | 0x0201 => s.boxTransfer box m
  | 0x0202 => s.boxActivate box m
  | 0x0300 => s.boxGetTime box
  | 0x0301 => s.boxSetTime box m
  | 0x0400 => s.boxLogs box
  | 0x0401 => s.boxLog box
  | 0x4000 => s.boxMemory box
  | 0x4200 => s.boxHealth box
  | 0x4201 => s.boxGetAlert box
  | 0x4202 => s.boxSetAlert box m
  | 0x4300 => s.boxPoisonList box m
  | 0x4301 => s.boxInject box m
  | 0x4302 => s.boxClear box m
  | 0x4400 => s.boxSanitize box
  | _ => s.boxDone box op 3 .nothing

/-- A write of MGM_CMD: GO runs the command in the payload; while one runs it is rejected. -/
def State.mgmCmd (s : State) (a : Path) (v : Nat) : State :=
  if !bit v 31 then s
  else if s.flag Reg.MGM_STAT.BUSY then s.cfgReject a Pg.MGM 157 0x110A Reg.MGM_CMD.OFF none
  else
    let op := bits v 15 0
    let n := min 2048 (s.f Reg.MGM_IN_LEN.BYTES)
    let b := ((List.range 512).flatMap fun i => leBytes 4 (s.word (Reg.MGM_PAYLOAD.OFF i))).take n
    let s1 := (s.setFlag Reg.MGM_STAT.BUSY true).setFlag Reg.MGM_STAT.DONE false
    s1.boxGo 17 op fun u => u.boxOp 17 op ⟨17, Config.boxFields op b, Config.boxData op b⟩

end Sys2Proof.Machine
end

