-- ==== Sys2Proof/Machine/Commands.lean ====
section
/-! DEFINITION. The commands that registers start and no other file holds: keyway descriptors and bindings (R60 to R63), invalidations
(R74 to R77), queued misses (R71), the latch page (R180, R198, R200), directory slots, fences and flushes (R204, R228 to R231), a stack taken
offline (R281), acknowledging faults (R433, R435), the FATAL release and GLB commands (R439, R443, R446, R448). -/

namespace Sys2Proof.Machine

open Sys2Proof

/-! ### Keyways (R60 to R63) -/

/-- KTU_KW_DATA0 to KTU_KW_DATA7 as one number. -/
def State.kwData (s : State) : Nat :=
  (List.range 8).foldl (fun (n : Nat) i => n + s.word (Reg.KTU_KW_DATA.OFF i) * 2 ^ (32 * i)) 0

/-- LOAD: the selected descriptor shows. -/
def State.kwLoad (s : State) : State :=
  let d := s.desc (s.f Reg.KTU_KW_SEL.KEYWAY)
  (List.range 8).foldl (fun (u : State) i => u.setWord (Reg.KTU_KW_DATA.OFF i) (bits d (32 * i + 31) (32 * i))) s

/-- The span fields of a descriptor obey R60. -/
def kwSpanOk (d : Nat) : Bool :=
  if descSpan d then decide (1 ≤ descN1 d) && decide (descIdx d ≤ descN1 d) else descN1 d == 0 && descIdx d == 0

/-- Two descriptors agree in OWNER, SPAN, SPAN_N1 and SPAN_IDX. -/
def kwSame (a b : Nat) : Bool :=
  descOwner a == descOwner b && descSpan a == descSpan b && descN1 a == descN1 b && descIdx a == descIdx b

/-- The conditions of R61 for storing a descriptor over the one held. -/
def State.kwMay (s : State) (old new : Nat) : Bool :=
  decide (descCount new ≤ 65536) && kwSpanOk new
  && (!descValid new || kwSame old new || (s.quiesced (descOwner old) && s.quiesced (descOwner new)))

/-- STORE: accepted or rejected under R61; running walks of the keyway start again (R62). -/
def State.kwStore (s : State) (a : Path) : State :=
  let k := s.f Reg.KTU_KW_SEL.KEYWAY
  let d := descMask s.kwData
  if s.kwMay (s.desc k) d then
    State.restartWalks { s with ktu := { s.ktu with descs := SMap.set (fun _ => 0) s.ktu.descs k d } } fun w => w.kw == k
  else s.cfgReject a Pg.KTU 2 0x0112 Reg.KTU_KW_CMD.OFF (some k)

/-- A write of KTU_KW_CMD: STORE, then LOAD. -/
def State.kwCmd (s : State) (a : Path) (v : Nat) : State :=
  let s1 := if bit v 1 then s.kwStore a else s
  if bit v 0 then s1.kwLoad else s1

/-- The R23 rejection of a KTU write. -/
def State.ktuReject (s : State) (a : Path) (off kw : Nat) : State := s.cfgReject a Pg.KTU 2 0x0113 off (some kw)

/-- A write of KTU_LD_KEYWAY_n (R63). -/
def State.ldKeyway (s : State) (a : Path) (n v : Nat) : State :=
  let new := bits v 11 0 + bits v 31 31 * 2 ^ 31
  if new = s.word (Reg.KTU_LD_KEYWAY.OFF n) then s
  else if s.quiesced n then s.setWord (Reg.KTU_LD_KEYWAY.OFF n) new
  else s.ktuReject a (Reg.KTU_LD_KEYWAY.OFF n) (bits v 11 0)

/-- A write of KTU_INV_CMD (R74, R76, R77). The Bool says that an MGT_WRITE is to be answered RETRY because 8 invalidations are open. -/
def State.invCmd (s : State) (a : Path) (v : Nat) : State × Bool :=
  if bits v 13 12 = 3 then (s.ktuReject a Reg.KTU_INV_CMD.OFF (bits v 11 0), false)
  else if 8 ≤ s.ktu.invs.length then
    (match a with
     | .mgt _ _ _ _ => (s, true)
     | _ => (s.ktuReject a Reg.KTU_INV_CMD.OFF (bits v 11 0), false))
  else (s.invStart v (match a with
    | .mgt n _ _ _ => some n
    | _ => none), false)

/-- A queued miss resumes (R71): no walk of its keyway runs and a walk is free. It looks up the cache again. Misses that wait for room
in the queue come after those in it. -/
def State.missResume (s : State) (i : Nat) : State :=
  let n := s.ktu.missq.length
  match (s.ktu.missq ++ s.ktu.stalled)[i]? with
  | none => s
  | some m =>
    if s.ktu.walks.any (fun w => w.2.kw == m.kw) || decide (32 ≤ s.ktu.walks.length) then s
    else State.wake { s with ktu := { s.ktu with
      missq := s.ktu.missq.eraseIdx i
      stalled := if i < n then s.ktu.stalled else s.ktu.stalled.eraseIdx (i - n) } } m.who .again

/-! ### Latches (R180, R198, R200) -/

/-- LCH_ACC_CMD.READ. -/
def State.lchRead (s : State) : State := s.setF Reg.LCH_ACC_VALUE.VALUE (s.latch (s.f Reg.LCH_ACC_SEL.LATCH))

/-- LCH_ACC_CMD.SET: as LATCH_SET, the waiters are examined. -/
def State.lchSet (s : State) : State :=
  let l := s.f Reg.LCH_ACC_SEL.LATCH
  ((s.classBytes 10 1).setLatch l (s.f Reg.LCH_ACC_VALUE.VALUE)).examine l

/-- A write of LCH_ACC_CMD: SET, then READ. -/
def State.lchAccCmd (s : State) (v : Nat) : State :=
  let s1 := if bit v 1 then s.lchSet else s
  if bit v 0 then s1.lchRead else s1

/-- The deadlock snapshot is released. -/
def State.snapRelease (s : State) : State :=
  { (s.setFlag Reg.LCH_DL_STAT.SNAP_VALID false).setF Reg.LCH_DL_STAT.SNAP_ENTRIES 0 with lch := { s.lch with snap := [] } }

/-- A group loses VALID: its counts are zero, its parked waits end ABORTED. -/
def State.grpClear (s : State) (g : Nat) : State :=
  let ls := (s.lch.counts.filter fun e => e.1 / 256 == g).map (·.1)
  (ls.foldl (fun (u : State) l => u.setLatch l 0) s).abortParks fun p => p.latch / 256 == g

/-- A write of LCH_GRP_g (R180). -/
def State.grpWrite (s : State) (a : Path) (g v : Nat) : State :=
  let new := bits v 5 0 + bits v 31 31 * 2 ^ 31
  let old := s.word (Reg.LCH_GRP.OFF g)
  let was := bit old 31
  if was && (bits old 5 0 != bits new 5 0 || !bit new 31) && !s.quiesced (bits old 5 0) then
    s.cfgReject a Pg.LCH 133 0x0505 (Reg.LCH_GRP.OFF g) none
  else
    let s1 := s.setWord (Reg.LCH_GRP.OFF g) new
    if was && !bit new 31 then s1.grpClear g else s1

/-- A write of LCH_GRP_SHARE_g is accepted at any time. -/
def State.shareWrite (s : State) (g v : Nat) : State := s.setWord64 (Reg.LCH_GRP_SHARE.OFF g) v

/-- A parked LATCH_WAIT reaches its timeout: answered TIMEOUT with the count of the moment (R193). -/
def State.waitTimeout (s : State) (i : Nat) : State :=
  match s.parked[i]? with
  | none => s
  | some p => (s.bump Reg.LCH_TIMEOUT_CNT.OFF).answerPark p stTIMEOUT

/-! ### The directory page (R204, R228 to R231) -/

/-- The R23 rejection of a DIR write. -/
def State.dirReject (s : State) (a : Path) (off : Nat) : State := s.cfgReject a Pg.DIR 121 0x0605 off none

/-- The directory names an agent. A COARSE entry's group does not name one that has held nothing since it was fenced (R230). -/
def State.dirNames (s : State) (x : Nat) : Bool := !s.dir.bare.contains x && s.dir.ents.any fun e => e.2.names x

/-- A write of an agent slot (R204). -/
def State.agentWrite (s : State) (a : Path) (x v : Nat) : State :=
  let new := bits v 16 0 + bits v 31 31 * 2 ^ 31
  let old := s.word (Reg.DIR_AGENT.OFF x)
  let kept := bits old 29 29 * 2 ^ 29
  if bit old 31 && new + kept != old && s.dirNames x then s.dirReject a (Reg.DIR_AGENT.OFF x)
  else s.setWord (Reg.DIR_AGENT.OFF x) (new + kept)

/-- DIR_FENCE_CMD.GO (R228, R230). It is rejected while a walk runs, but an UNFENCE of the slot whose walk runs waits for the walk's end. -/
def State.dirFenceGo (s : State) (a : Path) (x : Nat) (un : Bool) : State :=
  let own := un && s.dir.fences.any (fun j => j.agent == x)
  if (s.flag Reg.DIR_FENCE_STAT.BUSY && !own) || decide (512 ≤ x) || !s.flag (Reg.DIR_AGENT.VALID x) then
    s.dirReject a Reg.DIR_FENCE_CMD.OFF
  else
    let s1 := s.setF Reg.DIR_FENCE_STAT.DONE 0
    if un then s1.liftFence x else s1.fenceAgent x

/-- A write of DIR_FENCE_CMD. -/
def State.dirFenceCmd (s : State) (a : Path) (v : Nat) : State :=
  if bit v 31 then s.dirFenceGo a (bits v 8 0) (bit v 9) else s

/-- A write of DIR_FLUSH_CMD. -/
def State.dirFlushCmd (s : State) (a : Path) (v : Nat) : State :=
  if !bit v 0 then s
  else if s.flag Reg.DIR_FLUSH_STAT.BUSY then s.dirReject a Reg.DIR_FLUSH_CMD.OFF
  else s.flushStart

/-- A snoop is unanswered for SNP_TMO (R223): recorded; the home goes on waiting. -/
def State.snoopLate (s : State) (line x : Nat) : State :=
  match s.openSnoop line x with
  | none => s
  | some (t, _) => if s.dir.late.any fun y => y.num == t.num && y.agent == x then s else ((s.bump Reg.DIR_SNP_TMO_CNT.OFF).evt Pg.DIR 1).fault
      { mkRec (s.dirSource line) 2 0x0601 with addr := line, addrPpa := true, node := s.f (Reg.DIR_AGENT.NODE x) }

/-- The hold time after grants of a line to CXL agents ends (R222): deferred snoops go. -/
def State.holdEnd (s : State) (line : Nat) : State :=
  let s1 := { s with dir := { s.dir with hold := s.dir.hold.filter fun h => h.1 != line } }
  (s1.dir.txns.filter fun t => t.line == line).foldl (fun (u : State) t => u.sendSnoops t.num) s1

/-! ### Stacks (R281) -/

/-- SC_CTRL.OFFLINE fails the stack. -/
def State.scCtrl (s : State) (n v : Nat) : State :=
  if bit v 0 && !s.stackFailed n then s.failStack n 4 else s

/-- A stack reports an internal failure or stops answering. -/
def State.stackFault (s : State) (n : Nat) : State :=
  if n < s.part.stacks && !s.stackFailed n then s.failStack n 5 else s

/-! ### Faults (R433, R435, R439, R443) -/

/-- A source's counting window closes. -/
def State.windowClose (s : State) (n : Nat) : State := if n < 199 then s.setF (Reg.FLT_SRC_CNT.COUNT n) 0 else s

/-- A write of FLT_ACK frees the matching entries of the escalation store. -/
def State.fltAck (s : State) (v : Nat) : State :=
  let keep (e : Nat × StoreEnt) : Bool := !bit v 31 && !(e.2.source == bits v 7 0 && e.2.cls == bits v 9 8)
  { s with flt := { s.flt with store := s.flt.store.filter keep } }

/-- Writing 1 to GLB EVT_STAT.FATAL releases ALERT_N (R439); a recovery without a Keeper holds it low (R498). -/
def State.fatalRelease (s : State) : State :=
  let s1 := s.setF (Hdr.EVT_STAT Pg.GLB) (putBit (s.f (Hdr.EVT_STAT Pg.GLB)) 1 false)
  { s1 with flt := { s1.flt with alert := s.phase == .noKeeper } }

/-- Writing 1 to GLB_LAST_FATAL_V.VALID clears the stored record (R443). -/
def State.lastFatalClear (s : State) : State :=
  { s.setFlag Reg.GLB_LAST_FATAL_V.VALID false with flt := { s.flt with lastFatal := none } }

/-- What becomes of the oldest NOTIFY, given where its route leads: it leaves where VC6 has credit for it. -/
def State.notifyOn (s : State) (rest : List Packet) : State × Routed → State
  | (u, .here q) => ({ u with flt := { u.flt with notify := rest } }.bump Reg.FLT_NOTIFY_CNT.OFF).emit (.self q)
  | (u, .send port q) =>
    if units q.packetLen ≤ s.creditLeft port 6 then
      ({ u with flt := { u.flt with notify := rest } }.bump Reg.FLT_NOTIFY_CNT.OFF).queue port q none
    else s
  | (_, .dropped) => s

/-- The oldest NOTIFY leaves once a route and VC6 credit exist (R438). -/
def State.notifyLeave (s : State) : State :=
  match s.flt.notify with
  | [] => s
  | p :: rest => s.notifyOn rest (s.route (s.injected p))

/-! ### Resets and coherence (R446, R448) -/

/-- GLB_RST with its key and bits: COLD wins over WARM. -/
def State.rstWrite (s : State) (a : Path) (v : Nat) : State :=
  if bits v 7 0 ≠ 0xA5 then s.glbReject a Reg.GLB_RST.OFF
  else if bit v 9 then s.coldRestart 4
  else if bit v 8 then s.warmAsk 3
  else s

/-- GLB_CTRL.COH_RESUME. -/
def State.cohResume (s : State) : State := s.setFlag Reg.GLB_STAT.COH_HELD false

end Sys2Proof.Machine
end

