-- ==== Sys2Proof/Machine/RegRead.lean ====
section
/-! DEFINITION. What a read of a register word shows: the common header (R542 to R548), the registers shown from the blocks' own state,
counters and their snapshots (R444, R547), and the stored words of the tables. -/

namespace Sys2Proof.Machine

open Sys2Proof

/-! ### The common header (R542 to R548) -/

/-- TYPE and INSTANCE of a page (R543). -/
def pageType (pg : Nat) : Nat × Nat :=
  let g := pg / 4096
  if g ≤ 3 then (g + 1, 0)
  else if 0x10 ≤ g ∧ g ≤ 0x13 then (0x10, g - 0x10)
  else if 0x14 ≤ g ∧ g ≤ 0x16 then (g - 0x14 + 0x11, 0)
  else if 0x20 ≤ g ∧ g ≤ 0x2A then (0x14, 0)
  else if g = 0x30 then (0x20, 0)
  else if 0x40 ≤ g ∧ g ≤ 0x48 then (0x21, 0)
  else if g = 0x50 then (0x22, 0)
  else if g = 0x60 ∨ g = 0x61 then (0x23, g - 0x60)
  else if g = 0x70 then (0x24, 0)
  else if g = 0x80 then (0x25, 0)
  else if 0x90 ≤ g ∧ g < 0xF0 then (0x26, g - 0x90)
  else if 0x100 ≤ g ∧ g < 0x1C0 then (0x30 + g % 16, (g - 0x100) / 16)
  else if g = 0x200 ∨ g = 0x201 then (0x40, 0)
  else if g = 0x210 then (0x41, 0)
  else if g = 0x230 then (0x42, 0)
  else (0x43, 0)

/-- BLK_ID: MAJOR 1, MINOR 0. -/
def blkId (pg : Nat) : Nat := 256 + (pageType pg).2 * 2 ^ 16 + (pageType pg).1 * 2 ^ 24

/-- PART of GLB's capabilities. -/
def Part.code : Part → Nat
  | .cv1275 => 0x75
  | .cv1273 => 0x73
  | .cv1269 => 0x69

/-- BLK_CAP (R545). -/
def blkCap (p : Part) (pg : Nat) : Nat :=
  let t := (pageType pg).1
  if t = 0x01 then p.stacks + p.engines * 2 ^ 4 + b2n p.full * 2 ^ 11 + b2n p.full * 2 ^ 12 + b2n p.hinge * 2 ^ 13 + p.code * 2 ^ 16
  else if t = 0x03 then 4 + 8 * 2 ^ 4 + 16 * 2 ^ 8
  else if t = 0x10 then 7 + 7 * 2 ^ 3 + 2 ^ 6 + 2 ^ 7
  else if t = 0x11 then 7 + 7 * 2 ^ 3 + 2 ^ 6 + 2 * 2 ^ 7
  else if t = 0x12 then 16
  else if t = 0x13 then 16 + b2n p.full * 2 ^ 5 + 2 ^ 6
  else if t = 0x14 then 0xF + b2n p.hinge * 2 ^ 4 + 256 * 2 ^ 8 + 64 * 2 ^ 17
  else if t = 0x20 then 12 + 11 * 2 ^ 5 + 32 * 2 ^ 10 + 256 * 2 ^ 16
  else if t = 0x21 then 64 + 256 * 2 ^ 8 + 64 * 2 ^ 17
  else if t = 0x22 then 12 + 8192 * 2 ^ 4 + 16 * 2 ^ 18
  else if t = 0x23 then 64 + 5 * 2 ^ 7
  else if t = 0x24 then 16 + 12 * 2 ^ 5 + 1024 * 2 ^ 10
  else if t = 0x25 then b2n p.full + p.engines * 2 + 2 ^ 8 + 1024 * 2 ^ 9
  else if t = 0x26 then 2048 + 2 * 2 ^ 12 + 64 * 2 ^ 16
  else if t = 0x30 then 32 + 2 ^ 6
  else if t = 0x40 then 199 + 32 * 2 ^ 8
  else if t = 0x41 then 136
  else 0

/-- A page is out of service: a failed stack's control page, a port disabled after a FATAL fault, an engine with an internal error. -/
def State.pageFailed (s : State) (pg : Nat) : Bool :=
  let t := pageType pg
  (t.1 == 0x30 && s.stackFailed t.2) || (pagePorts pg).any s.failedPorts.contains || (t.1 == 0x26 && (s.engine t.2).out)

/-- A link or engine page whose ENABLE is 0. -/
def State.pageDisabled (s : State) (pg : Nat) : Bool :=
  let t := (pageType pg).1
  (t == 0x10 || t == 0x11 || t == 0x26) && !s.flag (Hdr.ENABLE pg)

/-- STATE (R544). -/
def State.blkState (s : State) (pg : Nat) : Nat :=
  match s.phase with
  | .ready | .haltWait | .halted =>
    if s.resetting.contains pg then 0
    else if s.pageFailed pg then 4
    else if s.pageDisabled pg then 5
    else if s.basic then 3
    else 2
  | .recovery => 1
  | _ => 0

/-- A command of the page's block runs. -/
def State.blkBusy (s : State) (pg : Nat) : Bool :=
  if pg = Pg.GLB then s.flag Reg.GLB_SET_STAT.BUSY
  else if pg = Pg.MGM then s.flag Reg.MGM_STAT.BUSY
  else if pg = Pg.KPR then s.flag Reg.KPR_CMD_STAT.BUSY
  else if pg = Pg.RTB then s.flag Reg.RTB_FENCE_STAT.BUSY
  else if pg = Pg.KTU then !s.ktu.invs.isEmpty
  else if pg = Pg.PTN then s.flag Reg.PTN_INIT_STAT.BUSY
  else if pg = Pg.DIR then s.flag Reg.DIR_FENCE_STAT.BUSY || s.flag Reg.DIR_FLUSH_STAT.BUSY
  else false

/-- DEGRADED (R548). -/
def State.blkDegraded (s : State) (pg : Nat) : Bool :=
  let t := pageType pg
  if pg = Pg.GLB then decide (s.service ≠ 0)
  else if t.1 = 0x30 then s.stackFailed t.2
  else if t.1 = 0x10 ∨ t.1 = 0x11 then (pagePorts pg).any fun p => s.flag (Reg.SWP_STAT.WIDTH_REDUCED p)
  else if t.1 = 0x26 then !s.engineOn t.2
  else if pg = Pg.HPS then s.f Reg.HPS_STAT.STATE == 3 || s.f Reg.HPS_STAT.STATE == 8
  else if pg = Pg.EPL then s.flag Reg.EPL_STAT.PLAN_STALE || s.flag Reg.EPL_STAT.DERATING
  else false

/-- BLK_STAT. -/
def State.blkStat (s : State) (pg : Nat) : Nat :=
  let st := s.blkState pg
  b2n (decide (2 ≤ st)) + b2n (s.blkBusy pg) * 2 + b2n (s.blkDegraded pg) * 4 + b2n (s.flag (Hdr.FREEZE pg)) * 8
  + b2n (s.flag (Hdr.SAT pg)) * 16 + st * 32

/-- A counter as a read shows it: the snapshot while the page is frozen. -/
def State.shownCnt (s : State) (o : Nat) : Nat :=
  let pg := o / 4096 * 4096
  if s.flag (Hdr.FREEZE pg) then SMap.get (fun _ => 0) (SMap.get (fun _ => []) s.frozen pg) o else s.cnt o

/-- The low or high word of a 64-bit number. -/
def half (v : Nat) (hi : Bool) : Nat := if hi then v / 2 ^ 32 % 2 ^ 32 else v % 2 ^ 32

/-- A word of a page's header; while a block reset runs RW fields read as reset (R549). -/
def State.headerWord (s : State) (pg d : Nat) : Nat :=
  let busy := s.resetting.contains pg
  if d = 0 then blkId pg
  else if d = 4 then blkCap s.part pg
  else if d = 8 then (if busy then 3 + b2n (s.flag (Hdr.EVT_MASTER_EN pg)) * 2 ^ 8 else putBit (s.word (pg + 8)) 1 false)
  else if d = 0xC then s.blkStat pg
  else if d = 0x18 then (if s.factory then s.word (pg + 0x18) else 0)
  else if d = 0x20 then half (s.shownCnt (pg + 0x20)) false
  else if d = 0x24 then half (s.shownCnt (pg + 0x20)) true
  else if d = 0x30 then (if busy then 0 else s.word (pg + 0x30))
  else if d = 0x10 ∨ d = 0x14 ∨ d = 0x1C then s.word (pg + d)
  else 0

/-! ### Registers shown from the blocks' own state -/

/-- Word w of 32-byte data. -/
def wordOf (b : List Byte) (w : Nat) : Nat := leNat (slice b (4 * w) 4)

/-- Word w of the record FLT_REC_WIN_i shows (R84). -/
def State.recWin (s : State) (i w : Nat) : Nat :=
  if i < s.ringUsed then
    let k := (s.f Reg.FLT_RING_TAIL.TAIL + i) % 4294967296 % s.ringSize
    match s.flt.ring.find? (fun e => e.1 == k) with
    | some e => wordOf e.2.bytes w
    | none => 0
  else 0

/-- Word w of the last FATAL record. -/
def State.lastFatalWord (s : State) (w : Nat) : Nat :=
  match s.flt.lastFatal with
  | some r => wordOf r.bytes w
  | none => 0

/-- Word w of the directory entry that DIR_ENT_SEL names (R207). -/
def State.entWord (s : State) (w : Nat) : Nat :=
  let k := s.f Reg.DIR_ENT_SEL.SLICE * 131072 + s.f Reg.DIR_ENT_SEL.SET * 16 + s.f Reg.DIR_ENT_SEL.WAY
  if 12 ≤ s.f Reg.DIR_ENT_SEL.SLICE then 0
  else match s.dir.ents.find? fun e => e.1 == k with
    | none => 0
    | some (_, e) =>
      if w = 0 then s.part.localOf e.line / 64 % 2 ^ 30 + 2 ^ 30 + b2n e.pin * 2 ^ 31
      else if w = 1 then e.data1
      else half e.sharerWord (w == 3)

/-- A register of the latch page shown from its unit (R198, R200). -/
def State.lchShown (s : State) (o : Nat) : Option Nat :=
  if o = Reg.LCH_STAT.OFF then some (s.parked.length + (s.lch.parks.filter (·.ward)).length * 2 ^ 16)
  else (arrIdx (Reg.LCH_SNAP_DATA.OFF 0) 4 4 o).map fun w => bits (s.lch.snap.getD (s.f Reg.LCH_SNAP_SEL.INDEX) 0) (32 * w + 31) (32 * w)

/-- A register of the fault page shown from the collector (R84, R434). -/
def State.fltShown (s : State) (o : Nat) : Option Nat :=
  let e := (s.flt.store.find? fun e => e.1 == s.f Reg.FLT_STORE_SEL.INDEX).map (·.2)
  if o = Reg.FLT_RING_STAT.OFF then some (bits (s.word o) 0 0 + b2n (s.ringUsed == 0) * 2)
  else if o = Reg.FLT_STORE_STAT.OFF then some s.flt.store.length
  else if o = Reg.FLT_STORE_DATA0.OFF then some (match e with
    | some x => x.source + x.cls * 2 ^ 8 + 2 ^ 16 + b2n x.dropped * 2 ^ 17
    | none => 0)
  else if o = Reg.FLT_STORE_DATA1.OFF then some (match e with
    | some x => x.idx
    | none => 0)
  else if o = Reg.FLT_STORE_DATA2.OFF then some (match e with
    | some x => x.count
    | none => 0)
  else if (arrIdx (Reg.FLT_SRC_CNT.OFF 0) 4 199 o).isSome && s.flag (Hdr.FREEZE Pg.FLT) then some (s.shownCnt o)
  else (arrIdx (Reg.FLT_REC_WIN.OFF 0) 4 512 o).map fun w => s.recWin (w / 8) (w % 8)

/-- A register of the directory page shown from the directory (R237). -/
def State.dirShown (s : State) (o : Nat) : Option Nat :=
  if o = Reg.DIR_STAT.OFF then some s.dir.ents.length
  else if o = Reg.DIR_PEND_STAT.OFF then some (((List.range 12).map fun i => (s.pendIn i).length).foldl max 0)
  else match arrIdx (Reg.DIR_ENT_DATA.OFF 0) 4 4 o with
    | some w => some (s.entWord w)
    | none => (arrIdx (Reg.DIR_PTN_HELD.OFF 0) 4 64 o).map s.ptnHeld

/-- WE_STAT of an engine (R135): RUNNING, CLEARING between contexts, HELD while a hold lasts, GATED while all that waits waits on latches. -/
def State.engineShown (s : State) (n : Nat) : Nat :=
  let e := s.engine n
  let st := if s.engineBusy n then 1 else if e.expired then 2
    else if e.held && (if e.scratch.isSome then s.heldCtxs.contains e.ctx else !s.heldCtxs.isEmpty) then 4
    else if s.readyCtxs.isEmpty && s.wrd.ops.any (·.wait) then 3 else 0
  e.last + st * 2 ^ 8

/-- A register of the ward pages shown from the dispatcher (R135, R174). -/
def State.wrdShown (s : State) (o : Nat) : Option Nat :=
  if o = Reg.WRD_STAT.OFF then
    let l := s.dispatched
    some (l.length + (l.map fun r => r.pkt.ctx).eraseDups.length * 2 ^ 16)
  else if o = Reg.WRD_ATT_STAT.OFF then
    some (s.wrd.ops.filter fun w => w.tree.isSome && (s.req? w.id).any fun r => attnRead r.pkt).length
  else (arrIdx (Reg.WE_STAT.OFF) 4096 96 o).map fun n => s.engineShown n

/-- A register of a stack controller's error page shown from the remap table (R285). -/
def State.scShown (s : State) (o : Nat) : Option Nat :=
  let n := (o - 0x100000) / 65536
  let e := s.sc.remap.find? fun x => x.1 == s.f (Reg.SC_RMP_SEL.INDEX n)
  if o = Reg.SC_SPARE_STAT.OFF n then some (s.sc.remap.length + s.sc.superseded.length)
  else if o = Reg.SC_RMP_DATA0.OFF n then some (match e with
    | some x => (s.part.remapWords x.2.1 x.2.2).1 + 2 ^ 31
    | none => 0)
  else if o = Reg.SC_RMP_DATA1.OFF n then some (match e with
    | some x => x.2.2
    | none => 0)
  else none

/-- A register of a link port shown from its layer (R321). -/
def State.linkShown (s : State) (o : Nat) : Option Nat :=
  match linkOff o with
  | none => none
  | some (p, d) =>
    if d = 0x74 then some (s.lnk p).buf.length
    else (arrIdx 0x80 4 8 d).map fun v => min 2047 (s.creditLeft p v) + min 2047 (s.unitsHeld p v) * 2 ^ 16

/-- A register of the router shown from its state (R358). -/
def State.rtbShown (s : State) (o : Nat) : Option Nat :=
  if o = Reg.RTB_EPOCH_PKT.OFF then some (s.epochHeld 0 + s.epochHeld 1 * 2 ^ 16)
  else if o = Reg.RTB_FENCE_STAT.OFF then
    some (s.word o % 4 + ((List.range 4096).filter s.fenced).length * 2 ^ 16)
  else if o = Reg.RTB_POOL_TIME.OFF then some (half s.time false)
  else if o = Reg.RTB_POOL_TIME.OFF + 4 then some (half s.time true)
  else none

/-- A register of the shaper shown from its state (R374, R376). -/
def State.tshShown (s : State) (o : Nat) : Option Nat :=
  let q := s.f Reg.TSH_HIST_SEL.QUEUE
  match arrIdx (Reg.TSH_SUB_STAT.OFF 0) 4 64 o with
  | some b => some (s.subState b + b2n (s.inDeficit b 0) * 2 ^ 4 + b2n (s.inDeficit b 1) * 2 ^ 5 + b2n (s.inDeficit b 2) * 2 ^ 6
      + b2n (s.inDeficit b 3) * 2 ^ 7 + b2n (s.flag (Reg.TSH_SUB_STAT.POLICED b)) * 2 ^ 8)
  | none => (arrIdx (Reg.TSH_HIST_DEPTH.OFF 0) 4 64 o).map fun w =>
      if 46 ≤ q then 0 else half (SMap.get (fun _ => 0) s.tsh.hist (q * 32 + w / 2)) (w % 2 == 1)

/-- EVT_PEND_w: the pages with an enabled event set (R554). -/
def State.evtPend (s : State) (w : Nat) : Nat :=
  ((List.range 32).filter fun b =>
    let pg := (32 * w + b) * 4096
    pageKind s.part pg == .present && pageHeader pg
      && (s.f (Hdr.EVT_STAT pg) &&& s.f (Hdr.EVT_EN pg)) != 0).foldl (fun (n : Nat) b => n + 2 ^ b) 0

/-- What a register shows beside its stored word; none where it shows the stored word. -/
def State.shown (s : State) (o : Nat) : Option Nat :=
  let g := o / 4096
  if g = 0 then (arrIdx Reg.GLB_LAST_FATAL.OFF 4 8 o).map s.lastFatalWord
  else if g = 1 then
    (if o = Reg.MGM_STAT.OFF then some (putBit (s.word o) 2 (s.cxl.bg.any fun b => b.1 == 17)) else none)
  else if g = 2 then
    (if o = Reg.KPR_STAT.OFF then some (putBits (s.word o) 12 8 s.kpr.sessions.length) else none)
  else if g = 3 then
    (if o = Reg.EVT_NOTIFY_STAT.OFF then some s.flt.notify.length else (arrIdx (Reg.EVT_PEND.OFF 0) 4 19 o).map s.evtPend)
  else if g = 0x16 then
    (if o = Reg.CXP_POISON_STAT.OFF then some (putBits (s.word o) 9 0 s.cxl.poison.length) else none)
  else if 0x10 ≤ g ∧ g ≤ 0x14 then s.linkShown o
  else if g = 0x20 then s.rtbShown o
  else if g = 0x30 then
    (if o = Reg.KTU_STAT.OFF then some (s.ktu.walks.length + s.ktu.missq.length * 2 ^ 8)
     else if o = Reg.KTU_INV_STAT.OFF then some (s.ktu.invs.length + s.ktu.doneTag * 2 ^ 16) else none)
  else if g = 0x50 then s.dirShown o
  else if g = 0x60 then s.tshShown o
  else if g = 0x70 then s.lchShown o
  else if 0x80 ≤ g ∧ g < 0xF0 then s.wrdShown o
  else if 0x100 ≤ g ∧ g < 0x1C0 then s.scShown o
  else if g = 0x200 ∨ g = 0x201 then s.fltShown o
  else none

/-- The page whose block reset holds a word: an extension page belongs to its block's first page. -/
def headOf (o : Nat) : Nat :=
  let g := o / 4096
  if 0x20 ≤ g ∧ g ≤ 0x2A then Pg.RTB else if 0x40 ≤ g ∧ g ≤ 0x48 then Pg.PTN else if g = 0x201 then Pg.FLT else g * 4096

/-- A register word as it stands: RW fields read as reset while a block reset of the page runs (R549), and the factory page reads zero
outside factory test mode (R450). -/
def State.liveWord (s : State) (o : Nat) : Nat :=
  let pg := o / 4096 * 4096
  if pg = Pg.FTM ∧ s.factory = false then 0
  else if pageHeader o && decide (o % 4096 < 0x40) then s.headerWord pg (o % 4096)
  else match s.shown o with
    | some v => v
    | none => match findReg o with
      | none => 0
      | some (r, hi) =>
        if r.cnt then half (s.shownCnt (if hi then o - 4 else o)) hi
        else if s.resetting.contains (headOf o) then
          let m := half (r.rw) hi
          (s.word o &&& (0xFFFFFFFF ^^^ m)) ||| (half r.reset hi &&& m)
        else s.word o

end Sys2Proof.Machine
end

