-- ==== Sys2Proof/Machine/Registers.lean ====
section
/-! DEFINITION. The management space as its paths reach it: privilege (R528 to R531), widths, latches and stages (R536 to R538), what a
write of each register does, MGT_READ and MGT_WRITE (R532 to R535). -/

namespace Sys2Proof.Machine

open Sys2Proof

/-! ### Privilege (R528 to R530) -/

/-- The privileges of R528. -/
inductive Priv where
  | firmware | manager | peer
  deriving DecidableEq, Repr

/-- Privilege of an access that comes by a path now. -/
def State.priv (s : State) : Path → Priv
  | .fw => .firmware
  | .mmio => .manager
  | .mgt n _ _ relay => if s.isMgr n || (relay && s.mgrNode.isNone) then .manager else .peer

/-- Whether a privilege reaches the word at an offset (R2, R482, R529, R541, R555); the write of GLB_MGR_NODE by a peer is apart. -/
def State.mayReach (s : State) (pr : Priv) (o : Nat) (write : Bool) : Bool :=
  let head := pageHeader o && decide (o % 4096 < 0x40)
  let pg := o / 4096 * 4096
  match pageKind s.part o with
  | .none => false
  | .absent => !write && head
  | .present => match pr with
    | .manager => true
    | .firmware => pg != Pg.KPR
    | .peer => !write && ((decide (0x90 ≤ o) && decide (o < 0xC0)) || (head && pg != Pg.KPR && pg != Pg.FTM && pg != Pg.DBG))

/-- Whether a write of GLB_MGR_NODE is one R530 accepts: while VALID is 0, over the fabric, from the node it names; while it is 1, from the
manager node and from MMIO. -/
def State.mgrNodeMay (s : State) (pr : Priv) (a : Path) (v : Nat) : Bool :=
  match a with
  | .mmio => true
  | .fw => !s.flag Reg.GLB_MGR_NODE.VALID
  | .mgt n _ _ _ => if s.flag Reg.GLB_MGR_NODE.VALID then pr == .manager && s.isMgr n else bits v 11 0 == n

/-- Who a register violation is charged to (R529). -/
def State.pathWho (s : State) (a : Path) (o : Nat) : Who := ⟨s.pathSub a, none, Path.node a, none, o, false⟩

/-- A register command's write reaches its register: the space is served, the privilege reaches it, no block reset of its page runs. -/
def State.regCmd (s : State) (a : Path) (o : Nat) (go : State → State) : State :=
  if s.mgmtServed = false then s
  else if s.mayReach (s.priv a) o true = false then s.regViolation (s.pathWho a o)
  else if s.resetting.contains (headOf o) then s
  else go s

/-! ### The common header -/

/-- A write of EVT_STAT: ones clear (R11); of GLB's FATAL bit releases ALERT_N (R439), of RTB's ROUTE_DROP bit starts its records anew. -/
def State.evtClear (s : State) (pg v : Nat) : State :=
  let s1 := s.setF (Hdr.EVT_STAT pg) (s.f (Hdr.EVT_STAT pg) &&& (0xFFFFFFFF ^^^ (v &&& 0xFFFFFFFF)))
  if pg = Pg.GLB ∧ bit v 1 then s1.fatalRelease
  else if pg = Pg.RTB ∧ bit v 6 then { s1 with rtb := { s1.rtb with dropSeen := 0 } }
  else s1

/-- The events of a page; its other EVT_STAT bits are reserved (R9, and each block's table of events). -/
def evtBits (pg : Nat) : Nat :=
  let t := (pageType pg).1
  if t = 0x01 ∨ t = 0x10 ∨ t = 0x25 ∨ t = 0x30 then 0xFF
  else if t = 0x02 ∨ t = 0x21 then 3
  else if t = 0x03 ∨ t = 0x14 then 0x7F
  else if t = 0x11 then 0xFFFF
  else if t = 0x12 then 0x1FF
  else if t = 0x13 ∨ t = 0x40 then 0x3F
  else if t = 0x20 ∨ t = 0x24 ∨ t = 0x41 then 0xF
  else if t = 0x22 then 0x1F
  else if t = 0x23 then (if pg = Pg.TSH then 3 else 0)
  else if t = 0x26 ∨ t = 0x42 then 1
  else 0

/-- A write of EVT_FORCE (R542): it acts in factory test mode, and a reserved bit sets none. -/
def State.evtForce (s : State) (pg v : Nat) : State :=
  if s.factory = false then s
  else ((List.range 32).filter (bit (v &&& evtBits pg))).foldl (fun (u : State) b => u.evt pg b) (s.setWord (pg + 0x18) (v % 2 ^ 32))

/-- A write of BLK_CTRL (R546, R547, R549): its fields, then the block reset it asks for. -/
def State.blkCtrl (s : State) (a : Path) (pg v : Nat) : State :=
  let s1 := ((s.enableWrite pg (bit v 0)).freezeWrite pg (bit v 2)).setFlag (Hdr.EVT_MASTER_EN pg) (bit v 8)
  if bit v 1 then s1.blockReset a pg else s1

/-- A write of a word of a page's header. -/
def State.headerWrite (s : State) (a : Path) (pg d v : Nat) : State :=
  if d = 8 then s.blkCtrl a pg v
  else if s.resetting.contains pg then s
  else if pg = Pg.TSH + 0x1000 ∧ (d = 0x10 ∨ d = 0x14 ∨ d = 0x18) then s
  else if d = 0x10 then s.evtClear pg v
  else if d = 0x14 then s.setWord (pg + 0x14) (v % 2 ^ 32)
  else if d = 0x18 then s.evtForce pg v
  else if d = 0x1C then s.setWord (pg + 0x1C) (v % 256)
  else if d = 0x30 then s.setWord (pg + 0x30) (v % 2 ^ 32)
  else s

/-! ### What a write of each register does -/

/-- GLB_SET_CMD: SAVE wins where both bits are set. -/
def State.setCmd (s : State) (a : Path) (v : Nat) : State :=
  if bit v 0 then s.settingsCmd a State.settingsSave
  else if bit v 1 then s.settingsCmd a State.settingsErase else s

/-- A write of a GLB register that starts a command. -/
def State.glbWrite (s : State) (a : Path) (o v : Nat) : Option State :=
  if o = Reg.GLB_RST.OFF then some (s.rstWrite a v)
  else if o = Reg.GLB_CNT_CLR.OFF then some (s.cntClr v)
  else if o = Reg.GLB_CTRL.OFF then some (if bit v 0 then s.cohResume else s)
  else if o = Reg.GLB_LAST_FATAL_V.OFF then some (if bit v 0 then s.lastFatalClear else s)
  else if o = Reg.GLB_FW_CTRL.OFF then some (s.fwCtrlWrite a v)
  else if o = Reg.GLB_SET_CMD.OFF then some (s.setCmd a v)
  else if o = Reg.GLB_LOG_SEL.OFF then some (s.logSelect v)
  else none

/-- A write of a PTN register that R21 to R32 decide. -/
def State.ptnPage (s : State) (a : Path) (o v : Nat) : Option State :=
  if o = Reg.PTN_SUB_QSC.OFF then some (s.qscWrite v)
  else if o = Reg.PTN_INIT.OFF then some (s.initWrite a v)
  else match arrIdx (Reg.PTN_BASE.OFF 0) 4 256 o with
    | some i => some (s.ptnWrite a (i / 4) (i % 4) v)
    | none => (arrIdx (Reg.PTN_GNT.OFF 0) 8 256 o).map fun k => s.gntWrite a k v

/-- A write of a latch register that starts a command. -/
def State.lchPage (s : State) (a : Path) (o v : Nat) : Option State :=
  if o = Reg.LCH_ACC_CMD.OFF then some (s.lchAccCmd v)
  else if o = Reg.LCH_DL_STAT.OFF then some (if bit v 0 then s.snapRelease else s)
  else match arrIdx (Reg.LCH_GRP.OFF 0) 4 256 o with
    | some g => some (s.grpWrite a g v)
    | none => (arrIdx (Reg.LCH_GRP_SHARE.OFF 0) 8 256 o).map fun g => s.shareWrite g v

/-- A write of a directory register that starts a command. -/
def State.dirPage (s : State) (a : Path) (o v : Nat) : Option State :=
  if o = Reg.DIR_FENCE_CMD.OFF then some (s.dirFenceCmd a v)
  else if o = Reg.DIR_FLUSH_CMD.OFF then some (s.dirFlushCmd a v)
  else (arrIdx (Reg.DIR_AGENT.OFF 0) 4 512 o).map fun x => s.agentWrite a x v

/-- A write of a stack controller register that starts a command or is held to R243. -/
def State.scPage (s : State) (a : Path) (o v : Nat) : Option State :=
  let n := (o - 0x100000) / 65536
  if o = Reg.SC_CTRL.OFF n then some (s.scCtrl n v)
  else if o = Reg.SC_CH_QSC.OFF n then some (s.chQscWrite n v)
  else if timingReg (o % 65536) then some (s.timingWrite a n (o % 65536) v)
  else none

/-- A write of a router register that starts a command or is held to a rule of its own. -/
def State.rtbPage (s : State) (a : Path) (o v : Nat) : Option State :=
  if o = Reg.RTB_NODE.OFF then some (s.nodeWrite a v)
  else if o = Reg.RTB_TBL_CMD.OFF then some (s.tblCmd a v)
  else if o = Reg.RTB_ENUM_CTRL.OFF then some (if bit v 0 then s.enumStart else s)
  else if o = Reg.RTB_FENCE_CMD.OFF then some (s.fenceCmd a v)
  else if o = Reg.RTB_TIME_SET.OFF then some (s.timeSet a v)
  else match arrIdx (Reg.RTB_ROUTE.OFF 0 0) 4 8192 o with
    | some i => some (s.routeWrite a (i / 4096) (i % 4096) v)
    | none => if Reg.RTB_MC_PORT.OFF 0 ≤ o ∧ o < 0x2B000 then some (s.mcWrite a o v) else none

/-- A write of a hinge register: HPS_CTRL, and those that PAIR_EN locks (R398). -/
def State.hpsPage (s : State) (a : Path) (o v : Nat) : Option State :=
  if o = Reg.HPS_CTRL.OFF then some (s.hpsCtrlWrite a v)
  else if pairLocked o && s.flag Reg.HPS_CTRL.PAIR_EN then some (s.hpsReject a o)
  else none

/-- A write that starts a command, by its page; the Bool says that an MGT_WRITE is to be answered RETRY (R76). None where the register
takes the write by its table row alone. -/
def State.cmdWrite (s : State) (a : Path) (o v : Nat) : Option (State × Bool) :=
  let g := o / 4096
  let done (x : Option State) : Option (State × Bool) := x.map fun u => (u, false)
  if g = 0 then done (s.glbWrite a o v)
  else if o = Reg.MGM_CMD.OFF then some (s.mgmCmd a v, false)
  else if o = Reg.KPR_CMD.OFF then some (s.kprCmdWrite a v, false)
  else if g = 0x15 then done (s.hpsPage a o v)
  else if 0x20 ≤ g ∧ g ≤ 0x2A then done (s.rtbPage a o v)
  else if o = Reg.KTU_KW_CMD.OFF then some (s.kwCmd a v, false)
  else if o = Reg.KTU_INV_CMD.OFF then some (s.invCmd a v)
  else if g = 0x30 then done ((arrIdx (Reg.KTU_LD_KEYWAY.OFF 0) 4 16 o).map fun n => s.ldKeyway a n v)
  else if g = 0x40 then done (s.ptnPage a o v)
  else if g = 0x50 then done (s.dirPage a o v)
  else if g = 0x70 then done (s.lchPage a o v)
  else if g = 0x80 then done ((arrIdx (Reg.WRD_CTX.OFF 0) 4 256 o).map fun n => s.ctxWrite a n v)
  else if 0x100 ≤ g ∧ g < 0x1C0 then done (s.scPage a o v)
  else if o = Reg.FLT_ACK.OFF then some (s.fltAck v, false)
  else none

/-- A write of the whole register at an offset (the LO word of a 64-bit one). -/
def State.regApply (s : State) (a : Path) (o v : Nat) : State × Bool :=
  let fw := a == .fw
  if s.resetting.contains (headOf o) then (s, false)
  else match s.cmdWrite a o v with
    | some r => r
    | none => match findReg o with
      | none => (s, false)
      | some (r, _) =>
        let s1 := s.plainWrite a o r fw v
        if o = Reg.TSH_HIST_CTRL.OFF ∧ bit v 1 then (s1.histClear, false)
        else if o = Reg.FTM_INJ_CMD.OFF ∧ bit v 0 then (s1.inject451 a, false)
        else (s1, false)

/-! ### Widths, latches and stages (R536 to R538) -/

/-- The 64-bit register a word belongs to: its LO offset, and whether the word is HI. -/
def wideAt (o : Nat) : Option (Nat × Bool) :=
  if pageHeader o && decide (o % 4096 < 0x40) then
    (if o % 4096 = 0x20 then some (o, false) else if o % 4096 = 0x24 then some (o - 4, true) else none)
  else match findReg o with
    | some (r, hi) => if r.wide then some (if hi then o - 4 else o, hi) else none
    | none => none

/-- The 256-bit window a word belongs to: its lowest word, and which word it is (R538). -/
def winAt (o : Nat) : Option (Nat × Nat) :=
  match arrIdx (Reg.FLT_REC_WIN.OFF 0) 4 512 o with
  | some w => some (Reg.FLT_REC_WIN.OFF 0 + w / 8 * 32, w % 8)
  | none => (arrIdx Reg.GLB_LAST_FATAL.OFF 4 8 o).map fun w => (Reg.GLB_LAST_FATAL.OFF, w)

/-- A latch or a stage that the LO word of another register discards. -/
def keepFor (lo : Nat) (x : Option (Nat × Nat)) : Option (Nat × Nat) := x.filter fun e => e.1 == lo

/-- Read a word on a path: its value, and the path's latch and stage after it. -/
def State.pathRead (s : State) (c : PathSt) (o : Nat) : Nat × PathSt :=
  match winAt o with
  | some (b, 0) => (s.liveWord o, { c with win := some (b, (List.range 8).map fun i => s.liveWord (b + 4 * i)) })
  | some (b, k) => (match c.win with
    | some (b', ws) => if b' = b then ws.getD k 0 else s.liveWord o
    | none => s.liveWord o, c)
  | none => match wideAt o with
    | some (lo, false) => (s.liveWord lo, { c with hi := some (lo, s.liveWord (lo + 4)), stage := keepFor lo c.stage })
    | some (lo, true) => (match keepFor lo c.hi with
      | some (_, v) => v
      | none => s.liveWord o, c)
    | none => (s.liveWord o, c)

/-- Write a word on a path whose privilege reaches it: the state, the path's latch and stage, and whether RETRY is called for. -/
def State.pathWrite (s : State) (a : Path) (c : PathSt) (o v : Nat) : State × PathSt × Bool :=
  let pg := o / 4096 * 4096
  if pg = Pg.FTM ∧ s.factory = false then (s, c, false)
  else match wideAt o with
    | some (lo, false) => (s, { c with stage := some (lo, v), hi := keepFor lo c.hi }, false)
    | some (lo, true) =>
      let low := match keepFor lo c.stage with
        | some (_, x) => x
        | none => s.liveWord lo
      let r := if pageHeader o && decide (o % 4096 < 0x40) then (s, false) else s.regApply a lo (low + v * 2 ^ 32)
      (r.1, { c with stage := none }, r.2)
    | none =>
      if pageHeader o && decide (o % 4096 < 0x40) then (s.headerWrite a pg (o % 4096) v, c, false)
      else
        let r := s.regApply a o v
        (r.1, c, r.2)

/-- Read a word with a privilege: what it does not reach reads zero and is a violation (R54, R529). -/
def State.wordRead (s : State) (a : Path) (pr : Priv) (c : PathSt) (o : Nat) : State × Nat × PathSt :=
  if s.mayReach pr o false then
    (if pageKind s.part o = .absent then (s, 0, c) else
      let r := s.pathRead c o
      (s, r.1, r.2))
  else (s.regViolation (s.pathWho a o), 0, c)

/-- Whether a privilege may write v to the word at an offset (R529, R530). -/
def State.mayWrite (s : State) (a : Path) (pr : Priv) (o v : Nat) : Bool :=
  if o = Reg.GLB_MGR_NODE.OFF then s.mgrNodeMay pr a v else s.mayReach pr o true

/-- Write a word with a privilege: what it does not reach is dropped as a violation (R529, R530, R534). -/
def State.wordWrite (s : State) (a : Path) (pr : Priv) (c : PathSt) (o v : Nat) : State × PathSt × Bool :=
  if s.mayWrite a pr o v then s.pathWrite a c o v else (s.regViolation (s.pathWho a o), c, false)

/-- Write words in ascending order from an offset, each of them (R534); the Bool says that one of them calls for RETRY (R76). -/
def State.wordsWrite (a : Path) (pr : Priv) : List Nat → Nat → State → PathSt → State × PathSt × Bool
  | [], _, s, c => (s, c, false)
  | v :: vs, o, s, c =>
    let r := s.wordWrite a pr c o v
    let q := State.wordsWrite a pr vs (o + 4) r.1 r.2.1
    (q.1, q.2.1, r.2.2 || q.2.2)

/-- Read words in ascending order from an offset. -/
def State.wordsRead (a : Path) (pr : Priv) : Nat → Nat → State → PathSt → State × List Nat
  | 0, _, s, _ => (s, [])
  | n + 1, o, s, c =>
    let r := s.wordRead a pr c o
    let q := State.wordsRead a pr n (o + 4) r.1 r.2.2
    (q.1, r.2.1 :: q.2)

/-- The 32-bit words of some bytes. -/
def bytesWords (b : List Byte) : List Nat := (List.range (b.length / 4)).map (wordOf b)

/-- Write the words of one access in one step (R536): the privilege of each stands before the first is written; an access that reaches a word it
may not write is one violation, at the access's offset (R2, R55). -/
def State.accessWrite (s : State) (a : Path) (pr : Priv) (c : PathSt) (o : Nat) (l : List Nat) : State × PathSt :=
  let ws := l.zipIdx.map fun e => (o + 4 * e.2, e.1)
  let r := (ws.filter fun e => s.mayWrite a pr e.1 e.2).foldl
    (fun (x : State × PathSt) e => let w := x.1.pathWrite a x.2 e.1 e.2; (w.1, w.2.1)) (s, c)
  (if ws.all (fun e => s.mayWrite a pr e.1 e.2) then r.1 else r.1.regViolation (s.pathWho a o), r.2)

/-- A write of a register by MMIO or firmware, or of words by the fabric outside a packet (R536). -/
def State.registerWrite (s : State) (a : Path) (o : Nat) (data : List Byte) : State :=
  if s.mgmtServed = false then s
  else if !((data.length == 4 && o % 4 == 0) || (data.length == 8 && o % 8 == 0)) then s.regViolation (s.pathWho a o)
  else
    let pr := s.priv a
    let l := bytesWords data
    match a with
    | .mmio => let r := s.accessWrite a pr s.mmio o l; { r.1 with mmio := r.2 }
    | .fw => let r := s.accessWrite a pr s.fwp o l; { r.1 with fwp := r.2 }
    | .mgt _ _ _ _ => (s.accessWrite a pr ⟨none, none, none⟩ o l).1

/-! ### MGT_READ and MGT_WRITE (R532 to R535) -/

def mgtOffset (p : Packet) : Nat := bits p.opw 23 0
def mgtRlen (p : Packet) : Nat := bits p.opw 36 24

/-- Bytes an MGT request reaches. -/
def mgtLen (p : Packet) : Nat := if p.opcode = 0x61 then mgtRlen p else p.length

/-- A malformed MGT_READ or MGT_WRITE (R330, R532). -/
def mgtMalformed (p : Packet) : Bool :=
  let n := mgtLen p
  p.addr.toNat != 0 || (if p.opcode = 0x61 then bits p.opw 63 37 != 0 || p.length != 0 else bits p.opw 63 24 != 0)
  || mgtOffset p % 4 != 0 || n == 0 || decide (4096 < n) || n % 4 != 0 || decide (4096 < mgtOffset p % 4096 + n)

/-- The path of an MGT request: the chain relay counts while the chip had no manager when it arrived. -/
def mgtPath (r : Req) : Path := .mgt r.pkt.src r.pkt.sub r.port (r.pkt.dest == 0xFFE)

/-- Privilege of an MGT request, fixed when it arrived. -/
def mgtPriv (r : Req) : Priv := if r.mgr then .manager else .peer

/-- MGT_READ. -/
def State.runMgtRead (s : State) (r : Req) : State :=
  let q := State.wordsRead (mgtPath r) (mgtPriv r) (mgtRlen r.pkt / 4) (mgtOffset r.pkt) s ⟨none, none, none⟩
  q.1.finish r.id stOK 0 0 (q.2.flatMap (leBytes 4))

/-- MGT_WRITE: OK once every word has been applied, RETRY where an invalidation must wait (R76). -/
def State.runMgtWrite (s : State) (r : Req) : State :=
  let q := State.wordsWrite (mgtPath r) (mgtPriv r) (bytesWords r.pkt.payload) (mgtOffset r.pkt) s ⟨none, none, none⟩
  if q.2.2 then q.1.finishRetry r.id 0x0A else q.1.finish r.id stOK 0 0 []

end Sys2Proof.Machine
end

