-- ==== Sys2Proof/Machine/Requests.lean ====
section
/-! DEFINITION. A packet that arrives on a link port, from the header check to the request's start: ingress (R330, R333, R354, R400, R415, R421),
the sequence window (R44, R45), streams (R472, R473), quiesce (R27), policing and class (R361, R365), waiting and starting (R46 to R49),
responses and messages to this chip; and waiters that are told to go on. -/

namespace Sys2Proof.Machine

open Sys2Proof

/-! ### Malformed requests (R10) -/

/-- Attention and coherence opcodes, which a part without the full set answers UNSUPPORTED (R4). -/
def fullOnly (op : Nat) : Bool := op == 0x20 || op == 0x21 || (decide (0x40 ≤ op) && decide (op ≤ 0x45))

/-- A malformed coherence request (R209, R210). -/
def cohMalformed (p : Packet) : Bool :=
  if p.opcode ≤ 0x43 then p.opw != 0 || p.offset % 64 != 0 || p.length != 0 || p.addrRsv != 0
  else p.addr.toNat != 0 || bits p.opw 5 0 != 0 || bits p.opw 63 40 != 0 || p.length != (if p.opcode = 0x44 then 64 else 0)

/-- What a malformed request leaves: its chapter's counter and record; none where it is well formed. -/
def State.badOp (s : State) (p : Packet) : Option State :=
  let o := p.opcode
  let when' (b : Bool) (u : State) : Option State := if b then some u else none
  if !s.part.full && fullOnly o then none
  else if o ≤ 3 then when' (plainMalformed p) (s.malformed p)
  else if o < 0x24 then when' (s.wardReqMalformed p) (s.wardBad p)
  else if o < 0x35 then when' (latchMalformed p) (s.latchBad p)
  else if o < 0x46 then when' (cohMalformed p) (s.malformed p)
  else if o = 0x61 ∨ o = 0x62 then when' (mgtMalformed p) (s.malformed p)
  else if o = 0x64 then when' (chunkBad p) (s.malformed p)
  else if o = 0x65 then when' (routeUpdateBad p) (s.malformed p)
  else if o = 0x66 then when' (fenceBad p) (s.malformed p)
  else none

/-- A coherence request the directory does not take at all (R203, R230): dropped and counted, recorded for an unregistered node, and
once per fence for a fenced agent. -/
def State.cohRefused (s : State) (p : Packet) : Option State :=
  if !s.part.full || decide (p.opcode < 0x40) || decide (0x45 < p.opcode) then none
  else
    let s1 := s.bump Reg.DIR_DROP_CNT.OFF
    let note (u : State) (code : Nat) : State := u.fault { mkRec 121 0 code with sub := p.sub, node := p.src }
    match s.nodeAgent p.src with
    | none => some (note s1 0x0603)
    | some x =>
      if s.agentFenced x = false then none
      else if s1.dir.told.contains x then some s1
      else some (note { s1 with dir := { s1.dir with told := s1.dir.told ++ [x] } } 0x0606)

/-! ### Running a request -/

/-- Run a CXL request, or the scan or injection of a mailbox command, from its translation on. -/
def State.runCxlReq (s : State) (r : Req) : State :=
  let o := r.pkt.opcode
  if o = opPoisonList then s.runPoisonList r
  else if o = opInject then s.runInject r
  else if o = 0x44 ∨ (o = 3 ∧ r.pkt.opw ≠ 0) then s.runCxlWrite r
  else if o = 0x45 then s.runCxlEvict r
  else if o = 1 then s.runRead r
  else if o = 2 then s.runWrite r
  else if o = 3 then s.runWriteMasked r
  else s.runCoh r

/-- Run a latch request; basic service does not serve it (R441). -/
def State.runLatch (s : State) (r : Req) : State :=
  let o := r.pkt.opcode
  if s.basic then s.finish r.id stUNSUPPORTED 0 0 []
  else if o = 0x30 then s.runLatchAdd r
  else if o = 0x31 then s.runLatchSub r
  else if o = 0x32 then s.runLatchWait r
  else if o = 0x33 then s.runLatchRead r
  else s.runLatchSet r

/-- No record of the request that runs now is journalled yet (R408). -/
def State.untouched (s : State) : State := { s with hps := { s.hps with touched := false } }

/-- Run a request, or go on with one that waited. -/
def State.runReq (s0 : State) (r : Req) : State :=
  let s := s0.untouched
  let o := r.pkt.opcode
  if r.cxl.isSome then s.runCxlReq r
  else if !s.part.full && fullOnly o then s.finish r.id stUNSUPPORTED 0 0 []
  else if o = 1 then s.runRead r
  else if o = 2 then s.runWrite r
  else if o = 3 then s.runWriteMasked r
  else if o = 0x18 then s.runAtomic r
  else if o < 0x24 then s.runWard r
  else if o < 0x35 then s.runLatch r
  else if o < 0x44 then s.runCoh r
  else if o < 0x46 then s.runReturn r
  else if o = 0x61 then s.runMgtRead r
  else if o = 0x62 then s.runMgtWrite r
  else if o = 0x64 then s.runChunk r
  else if o = 0x65 then s.runRouteUpdate r
  else if o = 0x66 then s.runFence r
  else s

/-- What a READ, WRITE, WRITE_MASKED or ATOMIC needs of its range (R34). -/
def plainNeed (op : Nat) : Need := if op = 1 then ⟨true, false, false⟩ else if op = 0x18 then ⟨true, true, true⟩ else ⟨false, true, false⟩

/-- Translate an admitted READ, WRITE, WRITE_MASKED or ATOMIC that has to wait (R68): its PPA, or the cause of the violation it will be
when it runs, is kept with it. -/
def State.xlateAhead (s : State) (r : Req) : State :=
  if overlapKind r.pkt.opcode = false ∨ r.bnd = false ∨ r.ppa.isSome ∨ r.bad.isSome then s
  else match s.xlate r.pkt.sub r.pkt.keyway r.pkt.offset (plainNeed r.pkt.opcode) with
    | (s1, .viol c _ via) => s1.modReq r.id fun q => { q with bad := some c, xl := q.xl ++ (via.map fun v => (r.pkt.keyway, v)).toList }
    | (s1, .miss loc) => s1.miss r.pkt.keyway loc (.req r.id)
    | (s1, .ok ppa v l _) => s1.reached r ppa v l

/-- A request's miss is with the walker. -/
def State.walking (s : State) (id : Nat) : Bool :=
  s.ktu.walks.any (fun e => e.2.owner == .req id) || s.ktu.missq.any (fun m => m.who == .req id)
    || s.ktu.stalled.any (fun m => m.who == .req id)

/-- Start a request that waits on nothing; one whose segment is broken is answered ABORTED (R46, R47, R49). One that must wait is translated
(R68); one whose translation walks starts when the walk has ended. -/
def State.startReq (s : State) (id : Nat) : State :=
  match s.req? id with
  | none => s
  | some r =>
    if s.mayStart r = false then (if s.walking id then s else s.xlateAhead r)
    else if s.segmentBroken r then s.finish id stABORTED 0 (s.abortWord r) []
    else
      let u := s.modReq id fun q => { q with started := true }
      if s.walking id then u else u.runReq { r with started := true }

/-- A copy of a pair-ID request that a standby neither executes nor answers in dual-answer mode (R422). It commits when its effect has been
applied. -/
def State.dualSilent (s : State) (p : Packet) : Bool :=
  s.toPair p && !s.flag Reg.RTB_NODE.PAIR_VALID &&
    !(p.opcode == 1 || p.opcode == 0x33 || p.opcode == 0x12 || p.opcode == 0x21 || (p.opcode == 0x14 && wToResp p))

/-- A request to the pair ID that falls in the 10 ms after a takeover: its gap timer runs whatever its flags (R417). -/
def State.gapAll (s : State) (p : Packet) : Bool := s.toPair p && decide (s.time < s.hps.gapUntil)

/-- A stream packet that is dropped (R472, R473): counted, and recorded once after the event bit was cleared. -/
def State.streamDrop (s : State) (p : Packet) (code : Nat) : State :=
  let s1 := s.bump Reg.KPR_STREAM_TAG_FAIL_CNT.OFF
  if bit (s1.f (Hdr.EVT_STAT Pg.KPR)) 3 then s1
  else (s1.evt Pg.KPR 3).fault { mkRec 138 0 code with node := p.src, ctx := p.ctx, ctxValid := true }

/-- The class the shaper gives a request, and the state that has charged its bytes (R361, R363); MGT requests keep theirs and are charged to
nobody. -/
def State.reqCharge (s : State) (p : Packet) : State × Nat :=
  if 0x60 ≤ p.opcode then (s, p.cls)
  else
    let c := s.takeClass p.opcode p.cls p.sub
    ((if c.2 then s.bump (Reg.TSH_SUB_DEMOTE_CNT.OFF p.sub) else s).chargeLink p.sub p.packetLen, c.1)

/-- The record of a request taken at number n of a source's entry k (R42): its gap timer runs where an ORDERED request lacks lower numbers
(R48, R417). -/
def State.reqOf (s : State) (port : Nat) (q : Packet) (k n : Nat) (seqd : Bool) : Req :=
  let lack := match s.seqEntry k with
    | some e => seqd && !(e.missing n).isEmpty
    | none => false
  ⟨s.nextId, q, port, none, n, seqd, false, (orderedLike q || s.gapAll q) && lack, none, [],
    s.priv (.mgt q.src q.sub port (q.dest == 0xFFE)) == .manager, s.boundNow q, s.shareBits q, none, false, false, 0, s.time⟩

/-- Hold an admitted request. -/
def State.addReq (s : State) (r : Req) : State := { s with nextId := s.nextId + 1, reqs := s.reqs ++ [r] }

/-- Take a request whose number is admitted: quiesce (R27), policing (R365), class (R361), charge (R363), and its start. -/
def State.reqTake (s : State) (port : Nat) (p : Packet) (n : Nat) (seqd : Bool) : State :=
  let mgt := decide (0x60 ≤ p.opcode)
  let k := s.seqKey p
  let refuse (u : State) (h : Nat) : State := (if seqd then u.seqCommit k n true else u).answerRetry port p h
  if s.quiescing p.sub && !mgt then refuse s 0xFF
  else if s.flag Reg.TSH_CTRL.POLICE_EN && s.peakDeficit p.sub && !mgt && p.opcode != 0x44 && p.opcode != 0x45 then
    refuse (s.notePoliced p.sub) (s.policeHint p.sub)
  else
    let c := s.reqCharge p
    let r := c.1.reqOf port (setRoute p 57 56 c.2) k n seqd
    let s3 := c.1.addReq r
    if s3.dualSilent r.pkt then s3 else s3.startReq r.id

/-- A request delivered to this chip: malformed and unregistered ones are dropped (R10, R203), then the window check (R44, R45), the
stream tag (R472), and admission. -/
def State.reqIn (s : State) (port : Nat) (p : Packet) : State :=
  if p.streamEn && p.stream != p.ctx then s.malformed p
  else match (if p.streamEn then none else s.badOp p) with
    | some u => u
    | none => match s.cohRefused p with
      | some u => u
      | none =>
        if p.dest = 0xFFE ∨ p.mcast then s.reqTake port p 0 false
        else
          let k := s.seqKey p
          let ord := p.ordered || p.opcode == 0x30
          let v := s.seqTake k p.seq ord
          match v.2 with
          | .retry _ => v.1.answerRetry port p 0x0A
          | .straggler => v.1.answer port p stABORTED 0 (v.1.abortWord (v.1.reqOf port p k 0 true)) []
          | .stale => v.1
          | .admits n =>
            if p.streamEn = false then v.1.reqTake port p n true
            else if s.toPair p then (v.1.seqCommit k n true).streamDrop p 0x0E05
            else match s.openStream p with
              | none => (v.1.seqCommit k n true).streamDrop p 0x0E04
              | some (u, q) => match u.badOp q with
                | some w => w
                | none => (u.seqTake k p.seq ord).1.reqTake port q n true

/-! ### Responses and messages to this chip -/

/-- A response to a snoop (R205, R213, R215). -/
def State.snoopRsp (s : State) (port : Nat) (p : Packet) : State :=
  let w := p.opw
  let dirty := bit w 4
  let line := bits w 39 6 * 64
  if 4 < bits w 2 0 ∨ bit w 5 ∨ bits w 63 56 ≠ 0 ∨ p.length ≠ (if dirty then 64 else 0) then s.malformed p
  else match s.nodeAgent p.src with
    | none => s.cohStale p line
    | some x => match s.openSnoop line x with
      | some (t, z) =>
        if t.num = bits w 55 40 ∧ z.op + 0x80 = p.opcode ∧ z.sent ∧ !z.await then
          s.snoopAnswered ⟨t.num, x, bits w 2 0, bit w 3, if dirty then some p.payload else none, false, port⟩
        else s.cohStale p line
      | none => s.cohStale p line

/-- COMP_ACK (R214, R219). -/
def State.compAckIn (s : State) (p : Packet) : State :=
  let w := p.opw
  let line := bits w 39 6 * 64
  if p.addr.toNat ≠ 0 ∨ bits w 5 0 ≠ 0 ∨ bits w 63 56 ≠ 0 ∨ p.length ≠ 0 then s.malformed p
  else match s.nodeAgent p.src with
    | none => s.cohStale p line
    | some x => match s.dir.txns.find? fun t => t.num == bits w 55 40 && t.line == line && t.agent == some x && !t.acked
        && t.op != 0x43 && (t.owes || t.snoops.any (·.sent)) with
      | some t => (s.modTxn t.num fun y => { y with acked := true }).txnStep t.num
      | none => s.cohStale p line

/-- An ENUM response (R351, R356). -/
def State.enumRsp (s : State) (port : Nat) (p : Packet) : State :=
  if enumRspBad p then s.malformed p
  else if bits p.opw 1 0 = 0 then s.assignRsp port p
  else s.timeCorrect port p

/-- A response to this chip: those of its own requests act, others are consumed. -/
def State.rspIn (s : State) (port : Nat) (p : Packet) : State :=
  let o := p.opcode
  if o = 0x4C then (if s.part.full then s.compAckIn p else s.malformed p)
  else if o = 0x82 then s.remoteRsp p
  else if 0xC8 ≤ o ∧ o ≤ 0xCB then (if s.part.full then s.snoopRsp port p else s)
  else if o = 0xE0 then s.enumRsp port p
  else if o = 0xE1 then s.versionAnswer p
  else if o = 0xE4 then s.fwdResponse p
  else s

/-- An ENUM request (R351 to R356). -/
def State.enumIn (s : State) (port : Nat) (p : Packet) : State :=
  if enumBad p then s.malformed p
  else if bits p.opw 1 0 = 0 then s.assign port p
  else s.timeReqAnswer port p

/-- A packet of class COL (R122, R166): partials of a child of an open operation go up, a descriptor of this chip's parent goes down (log entry
15). -/
def State.colIn (s : State) (port : Nat) (p : Packet) : State :=
  if p.opcode = 0x22 then
    if s.part.full = false then s.malformed p
    else if mgKind p = 0 then s.mergeDown port p
    else if mgKind p = 1 then s.mergeUp p
    else s.mergeDrop p
  else if (s.colOp p).isNone && s.treeParent (bits (wParam p) 7 0) == some p.src then s.colDown port p
  else s.colUp p

/-- Bytes of a packet that this chip takes, counted for its energy class: hinge traffic, or MGT (R394). -/
def State.countTaken (s : State) (port : Nat) (p : Packet) : State :=
  if hingeTraffic port p then s.classBytes 12 p.packetLen
  else if mgtTraffic p then s.classBytes 13 p.packetLen
  else s

/-- Deliver a packet to this chip: what its opcode asks for. -/
def State.deliverOn (s0 : State) (port : Nat) (p : Packet) : State :=
  let s := (s0.bump Reg.RTB_LOCAL_CNT.OFF).countTaken port p
  let o := p.opcode
  if isResponse p ∨ o = 0x4C then s.rspIn port p
  else if 0x48 ≤ o ∧ o ≤ 0x4B then s.malformed p
  else if o = 0x22 ∨ (o = 0x23 ∧ 4 ≤ p.vc) then s.colIn port p
  else if o = 0x63 then s
  else if o = 0x67 then s.heartbeatIn p
  else if o = 0x60 then s.enumIn port p
  else s.reqIn port p

/-- Deliver a packet; a response or a NOTIFY that is malformed is dropped here (R328, R330). -/
def State.deliver (s : State) (port : Nat) (p : Packet) : State :=
  if (isResponse p || p.opcode == 0x4C || p.opcode == 0x63) && (wordsReserved p || answerLengthBad p) then
    (s.bump Reg.RTB_LOCAL_CNT.OFF).malformed p
  else s.deliverOn port p

/-! ### Ingress -/

/-- Whether a packet addresses the pair this chip belongs to. -/
def State.forPair (s : State) (p : Packet) : Bool := s.paired && routeTarget (s.phaseStep p) == s.f Reg.RTB_NODE.PAIR_ID

/-- The copy of a pair-ID request that dual-answer mode sends over the hinge (R421). -/
def State.dualCopy (s : State) (port : Nat) (p : Packet) : State :=
  if s.serving && s.flag Reg.HPS_STAT.DUAL_ON && decide (port < 4) && s.hingeUp && opClass p.opcode p.vc == some .req then
    (s.queueCopy s.hingePort (setRoute (setRoute (setRoute p 38 36 1) 40 40 1) 42 42 0)).bump Reg.RTB_MC_COPY_CNT.OFF
  else s

/-- A packet for the pair that came over the hinge and finds no lease here: delivered in dual-answer mode, never sent back (R400, R421). -/
def State.hingeStray (s : State) (port : Nat) (p : Packet) : State :=
  if s.fenced p.src then s.fenceDrop
  else if s.flag Reg.HPS_STAT.DUAL_ON && opClass p.opcode p.vc == some .req then s.deliver port (s.phaseStep p)
  else s.routeDrop p 0 Reg.RTB_UNROUTABLE_CNT.OFF

/-- Route a packet that has come in: delivered, sent on with the buffer it occupies (R301), or dropped (R333); one in transit is checked for reserved
bits as well (R330, R340). -/
def State.passOn (s : State) (port : Nat) (p : Packet) : State :=
  let r := s.route p
  match r.2 with
  | .here q =>
    let u := if s.forPair p then r.1.dualCopy port q else r.1
    u.deliver port q
  | .send out q =>
    if wordsReserved p then s.malformed p
    else (r.1.bump Reg.RTB_TRANSIT_CNT.OFF).queueTransit out q (if s.linkUp port then some (port, p.vc) else none)
  | .dropped => r.1

/-- Whether the device takes a packet in its present phase (R354, R447, R531). -/
def State.takes (s : State) (p : Packet) : Bool :=
  match s.phase with
  | .ready => true
  | .warm k => decide (k ≤ 4) && (p.opcode == 0x61 || p.opcode == 0x62)
  | _ => false

/-- A packet that has come off a link port. Without an ID the chip takes ENUM, MGT_READ and MGT_WRITE for the neighbour only (R354). -/
def State.arrive (s : State) (port : Nat) (p : Packet) : State :=
  if s.takes p = false then s
  else if !s.hasId && !(p.dest == 0xFFE && (p.opcode == 0x60 || p.opcode == 0x61 || p.opcode == 0x62) && decide (port < 4)) then s
  else if headerMalformed p then s.malformed p
  else if p.mcast && wordsReserved p then s.malformed p
  else if p.mcast then
    let m := s.multicast p
    if m.2 then m.1.deliver port p else m.1
  else if p.dest = 0xFFE then (if s.fenced p.src then s.fenceDrop else s.deliver port p)
  else if s.forPair p && s.pairHolds then
    { s with hps := { s.hps with hold := s.hps.hold ++ [(if s.linkUp port then port else port + 8, p, s.time)] } }
  else if s.forPair p && decide (4 ≤ port) && !s.flag Reg.RTB_NODE.PAIR_VALID then s.hingeStray port p
  else s.passOn port p

/-- The request a packet became is held at its port: it keeps the packet's buffer units (R258). -/
def State.keepUnits (s : State) (id n : Nat) : State :=
  { s with sc := { s.sc with held := mapIf (fun h => h.id == id) (fun h => { h with units := n }) s.sc.held } }

/-- A packet that came in at a port, with the time of its first slot. While the port is up its buffer units count as received (R302), and are
held while its request is (R258); a port that has gone down since has no buffer. -/
def State.packetAt (s : State) (port : Nat) (p : Packet) (at' : Nat) : State :=
  let s0 := { s with rtb := { s.rtb with rxAt := at' } }
  if s.linkUp port then ((s0.unitsFreed port p.vc (units p.packetLen)).arrive port p).keepUnits s.nextId (units p.packetLen)
  else s0.arrive port p

/-- A packet comes in at a port that is up. -/
def State.packetIn (s : State) (port : Nat) (p : Packet) : State :=
  if s.part.hasPort port && s.linkUp port then s.packetAt port p s.time else s

/-- A packet of an opcode that a test accepts comes in; any other is no such event. -/
def State.packetOf? (s : State) (test : Packet → Bool) (port : Nat) (p : Packet) : State :=
  if test p then s.packetIn port p else s

/-- Packets that are complete with a flit come in, in order, though a later one of the flit has taken the port down (R314, R318). -/
def State.packetsIn (s : State) (port : Nat) (l : List (Packet × Nat)) : State := l.foldl (fun (u : State) x => u.packetAt port x.1 x.2) s

/-- Packets held for the pair ID go on, oldest first, once nothing holds them; their units come free (R302, R415, R419). -/
def State.holdGo (s : State) : State :=
  if s.hps.hold.isEmpty || s.pairHolds then s
  else
    let go (u : State) (h : Nat × Packet × Nat) : State := (u.holdFreed h.1 h.2.1.vc).arrive (h.1 % 8) h.2.1
    s.hps.hold.foldl go { s with hps := { s.hps with hold := [] } }

/-! ### Waiters that are told to go on -/

/-- End a request whose translation met a malformed table (R54, R66). -/
def State.tableRefuse (s : State) (r : Req) : State :=
  let o := r.pkt.opcode
  let u := s.violation .malformedTable (whoOf r r.pkt.offset)
  if r.cxl.isSome ∧ o = opPoisonList then u.runPoisonList { r with pkt := { r.pkt with op := 0 } }
  else if r.cxl.isSome ∧ o = opInject then (u.dropReq r.id).boxDone (reqBox r) 0x4301 0 .nothing
  else u.finish r.id stOK 0 0
    (if o = 1 then zeros (bits r.pkt.opw 12 0) else if o = 0x18 then zeros (atomBytes r.pkt)
     else if 0x40 ≤ o ∧ o ≤ 0x43 then zeros 64 else [])

/-- A request is told (R66, R68, R72). A CXL request or mailbox scan cannot be answered RETRY: its miss waits for room in the miss queue
(log entry 87). One that waits to start keeps what its translation gave. -/
def State.reqTold (s : State) (r : Req) (w : Wake) : State :=
  match w with
  | .again => if r.started then s.runReq r else s.xlateAhead r
  | .retry h => if r.cxl.isSome then
      { s with ktu := { s.ktu with stalled := s.ktu.stalled ++ [⟨r.pkt.keyway, r.pkt.offset, .req r.id⟩] } }
    else s.finishRetry r.id h
  | .malformed => if r.started then s.tableRefuse r else s.modReq r.id fun q => { q with bad := some .malformedTable }

/-- Tell one waiter. -/
def State.tell (s : State) (e : Waiter × Wake) : State :=
  match e.1 with
  | .chunk i k => s.chunkTold i k e.2
  | .req id => match s.req? id with
    | some r => s.reqTold r e.2
    | none => s

/-- Tell every waiter, in order; those told may wake others. -/
def State.tellAll : Nat → State → State
  | 0, s => s
  | n + 1, s => match s.ktu.wakes with
    | [] => s
    | e :: rest => State.tellAll n ({ s with ktu := { s.ktu with wakes := rest } }.tell e)

/-! ### Events of the ordering contract -/

/-- A waiting request by the key of its source and its number: node, node + 4096 for the pair ID, 8192 + logical device with the host tag. -/
def State.waiting (s : State) (key num : Nat) : Option Req :=
  s.reqs.find? fun r => !r.started && s.sourceOf r == key && (match r.cxl with
    | some (_, t) => t == num
    | none => r.n % 65536 == num && r.seqd)

/-- A waiting ORDERED or overlapping request starts (R46, R49). -/
def State.orderedStart (s : State) (key num : Nat) : State :=
  match s.waiting key num with
  | none => s
  | some r => if r.cxl.isNone && s.dualSilent r.pkt then s else s.startReq r.id

/-- A gap timer expires (R48, R417): the missing numbers are lost; the ORDERED request is answered ABORTED. -/
def State.gapTimeout (s : State) (key num : Nat) : State :=
  match s.waiting key num with
  | none => s
  | some r => match s.seqEntry key with
    | none => s
    | some e => match r.gap, e.missing r.n with
      | true, m :: _ =>
        let s1 := ((s.setSeq key (e.lose r.n)).bump Reg.GLB_SEQ_GAP.OFF).fault { mkRec 0 0 0x0002 with sub := r.pkt.sub, node := r.pkt.src, addr := m % 65536 }
        if r.pkt.ordered || r.pkt.opcode == 0x30 then s1.finish r.id stABORTED 0 (s1.abortWord r) []
        else s1.modReq r.id fun q => { q with gap := false }
      | _, _ => s

/-- The straggler window of a per-source entry ends (R45). -/
def State.windowEnd (s : State) (key : Nat) : State :=
  match s.seqEntry key with
  | some e => s.setSeq key { e with win := false }
  | none => s

end Sys2Proof.Machine
end

