-- ==== Sys2Proof/Machine/Package.lean ====
section
/-! DEFINITION. The package's pins, sideband and debug port (R452, R454, R480, R558 to R573): supplies and resets at the pins, the thermal
monitor and trip, lost clocks, sideband messages, debug instructions. -/

namespace Sys2Proof.Machine

open Sys2Proof

/-! ### Sideband messages (R567) -/

/-- SET_POWER_LIMIT: values above 900,000 are stored as 900,000. -/
def State.setPower (s : State) (mw : Nat) : State := (s.setF Reg.EPL_SB_LIMIT.MW (min mw 900000)).emit (.sideband (leBytes 1 0))

/-- Mean power of the last interval in mW: microjoules of 1 ms. -/
def State.lastMw (s : State) : Nat :=
  match s.epl.hist.getLast? with
  | some h => ((List.range 15).map fun k => SMap.get (fun _ => 0) h k).sum
  | none => 0

/-- The hottest stack. -/
def State.hottestStack (s : State) : Nat := ((List.range s.part.stacks).map fun n => s.f (Reg.SC_STAT.TEMP n)).foldl max 0

/-- GET_POWER: busy from a warm reset until READY and during a halt. -/
def State.tellPower (s : State) : State :=
  let busy := match s.phase with
    | .warm _ => true
    | .haltWait => true
    | .halted => true
    | _ => false
  if busy then s.emit (.sideband (leBytes 1 2))
  else s.emit (.sideband (leBytes 1 0 ++ leBytes 4 (s.f Reg.EPL_EFF.MW) ++ leBytes 4 s.lastMw ++ leBytes 1 (s.f Reg.EPL_EFF.DERATE_PCT)
    ++ leBytes 1 (s.f Reg.GLB_THERM.CTRL_TEMP) ++ leBytes 1 s.hottestStack ++ leBytes 1 s.service))

/-- GET_LAST_FATAL. -/
def State.tellFatal (s : State) : State :=
  s.emit (.sideband (leBytes 1 0 ++ (match s.flt.lastFatal with
    | some r => leBytes 1 1 ++ r.bytes
    | none => leBytes 1 0 ++ zeros 32)))

/-- The Keeper serves the sideband: it has started and the clocks run. -/
def State.sidebandUp (s : State) : Bool :=
  match s.phase with
  | .off => false
  | .cold => false
  | .noKeeper => false
  | _ => true

/-- A sideband message reaches the Keeper. -/
def State.sidebandDo (s : State) (go : State → State) : State := if s.sidebandUp then go s else s

/-- A dynamic address is assigned (R566). -/
def State.assignAddress (s : State) (a : Nat) : State := { s with pins := { s.pins with i3c := some (a % 128) } }

/-! ### Supplies and resets (R559 to R564, R571, R572) -/

/-- PWR_GOOD rises: a cold start, held while RESET_N is low (R562); the latch of a thermal trip is shown and THERMTRIP_N released (R571, R572). -/
def State.powerRise (s : State) (b : BoardInputs) : State :=
  if s.pins.pwrGood then s
  else
    let t := s.pins.trip
    let s0 := { s with pins := { s.pins with pwrGood := true, trip := false } }.coldReset (if t then 5 else 0)
    let s1 := if t then s0.setFlag Reg.GLB_THERM.THERMTRIP_SEEN true else s0
    if s.pins.resetLow then s1 else s1.coldStart b

/-- A flash operation that runs is cut short: what it was writing is undefined (R560, R571). -/
def State.flashCut (s : State) : State :=
  let s1 := if s.fw.setJob = 1 then s.flashScramble (flSettings (1 - s.f Reg.GLB_SET_STAT.IN_USE)) 64
    else if s.fw.setJob = 2 then (s.flashScramble (flSettings 0) 64).flashScramble (flSettings 1) 64 else s
  let n := if s.time < s.fw.busyTill then min (s.f Reg.GLB_FW_NEXT.OFFSET) ((s.fw.busyTill - s.time + 249) / 250) else 0
  { s1.flashScramble (flStaging + s.f Reg.GLB_FW_NEXT.OFFSET - n) n with fw := { s1.fw with setJob := 0, busyTill := 0 } }

/-- PWR_GOOD falls: admission, lanes and flash writes stop; the stacks lose their contents (R560). -/
def State.powerFall (s : State) : State :=
  if !s.pins.pwrGood then s
  else
    let s1 := s.flashCut
    { s1 with phase := .off, pins := { s1.pins with pwrGood := false, i3c := none }, mem := [], chk := [], txq := [] }

/-- RESET_N goes low: the device holds in a cold reset (R562). After a thermal trip only the pin changes. -/
def State.resetFall (s : State) : State :=
  let s1 := { s with pins := { s.pins with resetLow := true } }
  if s.pins.pwrGood && s.phase != .off then s1.flashCut.coldReset 1 else s1

/-- RESET_N rises: the cold start begins where the power is good. -/
def State.resetRise (s : State) (b : BoardInputs) : State :=
  let s1 := { s with pins := { s.pins with resetLow := false } }
  if s.pins.pwrGood && s.pins.resetLow && s.phase == .cold then s1.coldStart b else s1

/-- WARM_RESET_N falls and stays low: a warm reset, or the restart of one (R564). -/
def State.warmFall (s : State) : State := State.warmAsk { s with pins := { s.pins with warmLow := true } } 2

/-- THERMTRIP_N is latched and every clock stops (R571). -/
def State.tripGo (s : State) : State :=
  if s.pins.pwrGood && s.phase != .off then
    let s1 := s.flashCut
    { s1 with phase := .off, pins := { s1.pins with trip := true } }
  else s

/-- VSB_1V8 is removed: the trip latch is lost (R572, R573). -/
def State.standbyLost (s : State) : State :=
  { s.setFlag Reg.GLB_THERM.THERMTRIP_SEEN false with pins := { s.pins with trip := false } }

/-- A reading the monitor's 8-bit temperature cannot hold is out of its range (the range is not stated, log entry 36). -/
def tempBad (t : Nat) : Bool := decide (255 < t)

/-- Every 100 µs the monitor reads the 16 controller sensors (R569): one that leaves its range is recorded and ignored (R454); at 115 °C the
device trips (R571). -/
def State.tempSample (s : State) (l : List Nat) : State :=
  if !s.clocked then s
  else
    let new := l.take 16
    let fresh := (List.range new.length).filter fun i => tempBad (new.getD i 0) && !tempBad (s.epl.temps.getD i 0)
    let good := new.filter fun t => !tempBad t
    let s1 := fresh.foldl (fun (u : State) i => u.fault (mkRec 156 0 0x1109)) { s with epl := { s.epl with temps := new } }
    match good with
    | [] => s1
    | _ =>
      let m := good.foldl max 0
      let s2 := s1.setF Reg.GLB_THERM.CTRL_TEMP m
      if 115 ≤ m then s2.tripGo else s2

/-- A stack's sensor is read (R284) and the hottest stack shows (R573); at 105 °C the device trips (R571). -/
def State.stackSample (s : State) (n t : Nat) : State :=
  if n < s.part.stacks && s.clocked then
    let s1 := s.stackTemp n t
    let s2 := s1.setF Reg.GLB_THERM.STACK_TEMP s1.hottestStack
    if 105 ≤ t then s2.tripGo else s2
  else s

/-- A reference clock stops while PWR_GOOD is high (R561). -/
def State.clockLost (s : State) : State := if s.pins.pwrGood && s.clocked then s.fault (mkRec 155 3 0x1107) else s

/-- An island's PLL relocks (R454). -/
def State.pllRelock (s : State) (island : Nat) : State := if s.clocked then s.fault (mkRec 155 0 0x1108) else s

/-- The Vorer core missed its watchdog (R454). -/
def State.watchdog (s : State) : State := if s.clocked then { s with fwDown := true }.fault (mkRec 137 2 0x1102) else s

/-- The Vorer core took an exception its firmware cannot handle (R454). -/
def State.vorerTrap (s : State) : State := if s.clocked then { s with fwDown := true }.fault (mkRec 137 3 0x1101) else s

/-! ### A rail out of tolerance (R558) -/

/-- Bytes of a request's successful answer. -/
def answerLen (p : Packet) : Nat :=
  let o := p.opcode
  if o = 1 then bits p.opw 12 0
  else if o = 0x18 then atomBytes p
  else if o < 0x24 then wardRspLen p
  else if 0x40 ≤ o ∧ o ≤ 0x43 then 64
  else if o = 0x61 then mgtRlen p else 0

/-- The result of one operation in flight is undefined: what it wrote or would write, its status and its answer are free values. -/
def State.undefine (s : State) (r : Req) : State :=
  let n := answerLen r.pkt
  let s1 := match s.wop r.id with
    | some o => (s.scramble r.pkt.sub r.pkt.src (o.wrote ++ o.inFlight)).dropWop r.id
    | none => match r.ppa with
      | some a => if overlapKind r.pkt.opcode && r.pkt.opcode != 1 then s.scramble r.pkt.sub r.pkt.src [(a, (footprint r.pkt).2)] else s
      | none => s
  let st := s1.fresh 10
  let w := st.2.fresh (2 ^ 64)
  let d := w.2.fresh (256 ^ n)
  (d.2.dropWaiter (.req r.id)).finish r.id st.1 0 w.1 (leBytes n d.1)

/-- A rail leaves its tolerance for more than 10 µs. -/
def State.railOut (s : State) : State := if s.pins.pwrGood && s.clocked then s.reqs.foldl (fun (u : State) r => u.undefine r) s else s

/-! ### The debug port (R478, R480, R555, R568) -/

/-- Identification code of a part (R568). -/
def Part.idcode : Part → Nat
  | .cv1275 => 0x11275B4F
  | .cv1273 => 0x11273B4F
  | .cv1269 => 0x11269B4F

/-- A token is shifted in; the port has no answer but the Keeper's registers show the outcome. -/
def State.tokenIn (s : State) (b : List Byte) : State := if s.sidebandUp then (s.tokenTry b).1 else s

/-- A debug instruction. core 0 Vorer, 1 Keeper, 2 the test port itself (kind: its instruction register, R568). Kinds for a core: 0 halt,
1 step, 2 run, 3 breakpoint (value 1 sets, 0 clears), 4 read of memory or a register, 5 write. What a core's own memory holds is a free
value (log entry 2); locked, an instruction reads zero and has no effect. -/
def State.debugDo (s : State) (core kind value : Nat) : State :=
  let open' := if core = 0 then s.flag Reg.KPR_STAT.DEBUG_VORER else s.flag Reg.KPR_STAT.DEBUG_KEEPER
  let reply (u : State) (v : Nat) : State := u.emit (.tdo (leBytes 4 v))
  if core = 2 then (if kind = 1 then reply s s.part.idcode else reply s value)
  else if 2 < core ∨ !s.sidebandUp then s
  else if open' = false then reply s 0
  else if kind = 0 ∧ core = 0 then
    reply ({ s.setFlag Reg.DBG_STAT.VORER_HALTED true with fwDown := true }.evt Pg.DBG 0) 0
  else if kind = 2 ∧ core = 0 then reply { s.setFlag Reg.DBG_STAT.VORER_HALTED false with fwDown := false } 0
  else if kind = 3 then
    let n := s.f Reg.DBG_STAT.BREAKPOINTS
    reply (s.setF Reg.DBG_STAT.BREAKPOINTS (if value % 2 = 1 then min 15 (n + 1) else n - 1)) 0
  else if kind = 4 then
    let v := s.fresh (2 ^ 32)
    reply v.2 v.1
  else reply s 0

end Sys2Proof.Machine
end

