-- ==== Sys2Proof/Machine/Settle.lean ====
section
/-! DEFINITION. What happens within a command beside its own effect, because no row of the table stands for it: waiters that were told something go
on, pending coherence requests are served, operations advance, fences end, FATAL faults act (R440), the hinge follows (R405, R410, R419, R420,
R426), packets held for the pair ID go on, blocked MSI-X messages are recorded (R454), FATAL records are logged (R439). -/

namespace Sys2Proof.Machine

open Sys2Proof

/-- Serve pending coherence requests and flush lines that can go on. -/
def State.pendAll : Nat → State → State
  | 0, s => s
  | n + 1, s => match s.pendNext with
    | none => s
    | some u => State.pendAll n (State.tellAll 64 u)

/-- Requests held at a port that have ended since give their buffer units back. -/
def State.heldGone (s : State) : State :=
  let gone := s.sc.held.filter fun h => (s.req? h.id).isNone
  (gone.filter fun h => h.units != 0).foldl (fun (u : State) h => u.creditChanged h.port h.vc)
    { s with sc := { s.sc with held := s.sc.held.filter fun h => (s.req? h.id).isSome } }

/-- One round of consequences. -/
def State.follow (s : State) : State :=
  let s1 := (State.pendAll 256 (State.tellAll 256 s.walkerGone.atomsWake.heldGone.lateGo.poisonGo)).wardSweep
  let s2 := State.fatalActs 16 s1.fenceEnd.enumNext
  s2.switchClose.excludeTest.holdGo

/-- Each MSI-X message blocked in this step writes one record; those of these records that are blocked too write none (R454). -/
def State.blockedOut (s : State) : State :=
  let s1 := (List.range s.flt.blocked).foldl (fun (u : State) _ => u.fault (mkRec 158 0 0x110B))
    { s with flt := { s.flt with blocked := 0 } }
  { s1 with flt := { s1.flt with blocked := 0 } }

/-- Nothing remains to follow. -/
def State.calm (s : State) : Bool := s.ktu.wakes.isEmpty && s.acts.isEmpty && (s.dir.pend.find? s.pendReady).isNone

/-- Rounds until nothing remains. -/
def State.followAll : Nat → State → State
  | 0, s => s
  | n + 1, s =>
    let u := s.follow
    if u.calm then u else State.followAll n u

/-- The end of every command. -/
def State.settle (s : State) : State :=
  let s0 := State.followAll 4 s
  let s1 := (State.cxlDrain s0.cxlWaiting s0).blockedOut.backPressure
  let s2 := (State.sendJournal s1 64).askRepairs.logFatals
  { s2 with hps := { s2.hps with touched := false } }

end Sys2Proof.Machine
end

