-- ==== Sys2Proof/Machine/Events.lean ====
section
/-! DEFINITION. How a command reaches the state: what must run for an event to happen, the end that every command has, and the forms that the
commands of one shape share (packets, link control blocks, CXL requests, register writes, mailboxes). -/

namespace Sys2Proof.Machine

open Sys2Proof

/-! ### When an event can happen (log entry 7) -/

/-- The data plane runs: in service, in the first steps of a warm reset and of a halt (R442, R447). -/
def State.active (s : State) : Bool :=
  match s.phase with
  | .ready => true
  | .warm k => decide (k ≤ 4)
  | .haltWait => true
  | _ => false

/-- What every command leaves in order: memory in its canonical form (as each memory operation leaves it), pool time a 64-bit count (R355). -/
def State.tidy (s : State) : State :=
  { s with mem := SMap.tidy memReset s.mem, chk := SMap.tidy chkReset s.chk, time := s.time % 18446744073709551616 }

/-- The end of a command that has led from s to u: what follows from its effect happens while the clocks run (Settle.lean, log entry 74); the
queue of waiting commands and the part are not a command's to change. -/
def State.ended (s u : State) : State :=
  { (if u.clocked then u.settle else u).tidy with pending := s.pending, part := s.part }

/-- An event of the data plane. -/
def State.live (s : State) (go : State → State) : Host.Outcome State Fault Refusal :=
  .next (if s.active then s.ended (go s) else s)

/-- An event that needs the clocks only: management, Keeper, firmware, CXL link. -/
def State.event (s : State) (go : State → State) : Host.Outcome State Fault Refusal :=
  .next (if s.clocked then s.ended (go s) else s)

/-- An event at the pins. -/
def State.always (s : State) (go : State → State) : Host.Outcome State Fault Refusal :=
  .next (s.ended (go s))

/-- A packet that a test accepts arrives on a port (R330, R333). -/
def State.onPacket (s : State) (test : Packet → Bool) (port : Nat) (p : Packet) : Host.Outcome State Fault Refusal :=
  s.live fun u => u.packetOf? test port p

/-- A packet is not for this chip (R333, R340). -/
def State.foreign (s : State) (p : Packet) : Bool :=
  p.mcast || (p.dest != 0xFFE && !(s.hasId && routeTarget (s.phaseStep p) == s.ownId)
    && s.pairHere != some (routeTarget (s.phaseStep p)))

/-! ### Register writes (R528 to R538) -/

/-- A write that starts a register command. -/
def State.onReg (s : State) (a : Path) (o : Nat) (go : State → State) : Host.Outcome State Fault Refusal :=
  s.event fun u => u.regCmd a o go

/-- A write of a field of a page's BLK_CTRL (R546, R547, R549). -/
def State.onHead (s : State) (a : Path) (page : Nat) (go : State → State) : Host.Outcome State Fault Refusal :=
  s.event fun u =>
    if u.mgmtServed = false ∨ pageHeader (page * 4096) = false then u
    else if u.mayReach (u.priv a) (page * 4096 + 8) true = false then u.regViolation (u.pathWho a (page * 4096 + 8))
    else go u

/-! ### Walks (R72, R73) -/

/-- A walk's read ends. -/
def State.fetchDone (s : State) (walk : Nat) (ok : Bool) (data : List Byte) : State :=
  match s.walkAt walk with
  | none => s
  | some w => if ok then s.walkData walk w data else s.walkFail walk w

/-! ### CXL requests (R233, R513) -/

/-- A CXL.mem request arrives, and starts where nothing holds it. -/
def State.cxlGo (s : State) (kind : Nat) (r : CxlMem) : State :=
  let c := s.cxlArrive kind r
  match c.2 with
  | some id => c.1.startReq id
  | none => c.1

/-- A held CXL request is let go. -/
def State.cxlLetGo (s : State) (ld : Nat) : State :=
  let c := s.cxlRelease ld
  match c.2 with
  | some id => c.1.startReq id
  | none => c.1

/-- BIConflict is answered BIConflictAck (R233). -/
def State.biConflict (s : State) (ld line : Nat) : State := if s.cxlUp && decide (ld < 16) then s.emit (.biConflictAck ld line) else s

/-! ### Link control blocks (R309) -/

/-- A control block of a message type arrives: its acknowledgement, and its message where it is a new one. -/
def State.lcbIn (s : State) (p : Nat) (f : Lcb) (ty : Nat) (go : State → Nat → List Byte → State) : State :=
  if lcbType f.bytes ≠ ty then s
  else
    let r := s.takeBlock p f.bytes ty
    if r.2 then go r.1 p (lcbBody f.bytes) else r.1

/-- A control block without a message, or with one of a reserved type. -/
def State.lcbPlain (s : State) (p : Nat) (f : Lcb) : State :=
  if 1 ≤ lcbType f.bytes ∧ lcbType f.bytes ≤ 7 then s else (s.takeBlock p f.bytes 0).1

/-- A flit arrives; packets that are complete with it come in (R292 to R305). -/
def State.flitIn (s : State) (p : Nat) (f : Flit) : State :=
  if s.part.hasPort p then
    let r := s.flitReceive p f
    r.1.packetsIn p r.2
  else s

/-- An event of a link port that the part has. -/
def State.portDo (s : State) (p : Nat) (go : State → State) : State := if s.part.hasPort p then go s else s

/-- An event of a stack that the part has. -/
def State.stackDo (s : State) (n : Nat) (go : State → State) : State := if n < s.part.stacks then go s else s

/-! ### SPDM requests without a file of their own (R461) -/

def State.spdmCapable (s : State) (m : SpdmMsg) : State := s.spdm m fun u => u.spdmSay m .capabilities
def State.spdmAlgorithms (s : State) (m : SpdmMsg) : State := s.spdm m fun u => u.spdmSay m .algorithms
def State.spdmDigests (s : State) (m : SpdmMsg) : State := s.spdm m fun u => u.spdmSay m (.digests u.chainDigest)
def State.spdmChallenge (s : State) (m : SpdmMsg) : State := s.spdm m fun u => u.spdmSay m (.challengeAuth (u.spdmSign m))
def State.spdmBeat (s : State) (m : SpdmMsg) : State := s.spdmInSession m fun u _ => u.spdmSay m .heartbeat

/-! ### Keeper commands (R482) -/

/-- KPR_CMD with an operation and an argument. -/
def State.kprOp (s : State) (a : Path) (op arg : Nat) : Host.Outcome State Fault Refusal :=
  s.onReg a Reg.KPR_CMD.OFF fun u => u.kprCmdWrite a (op + arg % 65536 * 2 ^ 8 + 2 ^ 31)

/-! ### Mailbox commands (R514, R519) -/

/-- A mailbox command of an opcode, from a logical device's mailbox or the FM-owned LD's (16); the MGM page's runs from MGM_CMD. -/
def State.onBox (s : State) (m : Mailbox) (op : Nat) (go : State → State) : Host.Outcome State Fault Refusal :=
  s.event fun u => if m.ld ≤ 16 then u.boxGo m.ld op go else u

end Sys2Proof.Machine
end

