-- ==== Sys2Proof/Machine/CmdAttention.lean ====
section
/-! DEFINITION. The attention service (R138 to R175): the meaning of each command. -/

namespace Sys2Proof.Machine

open Sys2Proof

/-- KV_APPEND (R145): A KV_APPEND request quantises and writes new tokens into the layer's KV blocks. -/
def execKvAppend (port : Nat) (p : Packet) (s : State) : Host.Outcome State Fault Refusal :=
  s.onPacket (fun q => q.opcode == 0x20) port p

/-- ATTEND (R156): An ATTEND request streams the KV cache and returns one attention partial per query. -/
def execAttend (port : Nat) (p : Packet) (s : State) : Host.Outcome State Fault Refusal :=
  s.onPacket (fun q => q.opcode == 0x21) port p

/-- ATTEND_MERGE_DESCEND (R169): A member receives an ATTEND_MERGE DESCEND, checks it and computes its own partial and forwards it down the
tree. -/
def execAttendMergeDescend (port : Nat) (p : Packet) (s : State) : Host.Outcome State Fault Refusal :=
  s.onPacket (fun q => q.opcode == 0x22 && mgKind q == 0) port p

/-- ATTEND_MERGE_PARTIAL (R168): A node receives a PARTIAL packet from a child and merges the child's partial when complete. -/
def execAttendMergePartial (port : Nat) (p : Packet) (s : State) : Host.Outcome State Fault Refusal :=
  s.onPacket (fun q => q.opcode == 0x22 && mgKind q != 0) port p

/-- MERGE_TIMEOUT (R171): A node has not received a child's partial within COL_TMO and merges without it, STATUS ABORTED. -/
def execMergeTimeout (merge child : Nat) (s : State) : Host.Outcome State Fault Refusal :=
  s.live fun u => u.mergeTimeout merge child

end Sys2Proof.Machine
end

