-- ==== Sys2Proof/Machine/CmdCoherence.lean ====
section
/-! DEFINITION. Coherent regions and CXL requests (R201 to R238, R513): the meaning of each command. -/

namespace Sys2Proof.Machine

open Sys2Proof

/-- RD_SHARED (R217): An agent's RD_SHARED is served by the home with snoops as the directory state requires. -/
def execRdShared (port : Nat) (p : Packet) (s : State) : Host.Outcome State Fault Refusal :=
  s.onPacket (fun q => q.opcode == 0x40) port p

/-- RD_OWN (R217): An agent's RD_OWN obtains the line exclusively, invalidating other holders. -/
def execRdOwn (port : Nat) (p : Packet) (s : State) : Host.Outcome State Fault Refusal :=
  s.onPacket (fun q => q.opcode == 0x41) port p

/-- UPGRADE (R217): An UPGRADE from an S or F holder obtains ownership, or is served as RD_OWN. -/
def execUpgrade (port : Nat) (p : Packet) (s : State) : Host.Outcome State Fault Refusal :=
  s.onPacket (fun q => q.opcode == 0x42) port p

/-- RD_CUR (R217): An RD_CUR returns a current snapshot of the line without caching it. -/
def execRdCur (port : Nat) (p : Packet) (s : State) : Host.Outcome State Fault Refusal :=
  s.onPacket (fun q => q.opcode == 0x43) port p

/-- WB_DIRTY (R220): A WB_DIRTY writes back an M line and frees its entry, or completes a crossed snoop. -/
def execWbDirty (port : Nat) (p : Packet) (s : State) : Host.Outcome State Fault Refusal :=
  s.onPacket (fun q => q.opcode == 0x44) port p

/-- EVICT_CLEAN (R217): An EVICT_CLEAN removes the sender from the line's directory entry. -/
def execEvictClean (port : Nat) (p : Packet) (s : State) : Host.Outcome State Fault Refusal :=
  s.onPacket (fun q => q.opcode == 0x45) port p

/-- SNOOP_RESPONSE (R213): A snoop response arrives at the home, which writes dirty data and completes the transaction or victim eviction when
all are in. -/
def execSnoopResponse (port : Nat) (p : Packet) (s : State) : Host.Outcome State Fault Refusal :=
  s.onPacket (fun q => decide (0xC8 ≤ q.opcode) && decide (q.opcode ≤ 0xCB)) port p

/-- COMP_ACK (R219): A COMP_ACK arrives, the entry is unpinned and pending requests for the line are served. -/
def execCompAck (port : Nat) (p : Packet) (s : State) : Host.Outcome State Fault Refusal :=
  s.onPacket (fun q => q.opcode == 0x4C) port p

/-- SNOOP_TIMEOUT (R223): A snoop is unanswered for SNP_TMO and is recorded while the home keeps waiting. -/
def execSnoopTimeout (line agent : Nat) (s : State) : Host.Outcome State Fault Refusal :=
  s.live fun u => u.snoopLate line agent

/-- DIR_AGENT_WRITE (R204): A write to an agent slot sets or changes it, or is rejected while the directory names the agent. -/
def execDirAgentWrite (a : Path) (slot : Nat) (v : Word) (s : State) : Host.Outcome State Fault Refusal :=
  if slot < 512 then s.onReg a (Reg.DIR_AGENT.OFF slot) fun u => u.agentWrite a slot v.toNat else .next s

/-- DIR_FENCE (R228): DIR_FENCE_CMD with GO fences an agent and starts the fence walk that poisons and releases its lines. -/
def execDirFence (a : Path) (agent : Nat) (s : State) : Host.Outcome State Fault Refusal :=
  s.onReg a Reg.DIR_FENCE_CMD.OFF fun u => u.dirFenceGo a agent false

/-- DIR_FENCE_DONE (R228): The fence walk ends, DONE and FENCE_DONE are set and LINES_POISONED is recorded. -/
def execDirFenceDone (agent : Nat) (s : State) : Host.Outcome State Fault Refusal :=
  s.live fun u => u.fenceWalkEnd agent

/-- DIR_UNFENCE (R230): DIR_FENCE_CMD with UNFENCE lifts an agent's fence, after any running walk ends. -/
def execDirUnfence (a : Path) (agent : Nat) (s : State) : Host.Outcome State Fault Refusal :=
  s.onReg a Reg.DIR_FENCE_CMD.OFF fun u => u.dirFenceGo a agent true

/-- DIR_FLUSH (R231): DIR_FLUSH_CMD.GO starts recalling every line held in a PPA range. -/
def execDirFlush (a : Path) (s : State) : Host.Outcome State Fault Refusal :=
  s.onReg a Reg.DIR_FLUSH_CMD.OFF fun u => u.dirFlushCmd a 1

/-- DIR_FLUSH_DONE (R231): The last line of a flush is freed and FLUSH_DONE is set. -/
def execDirFlushDone (s : State) : Host.Outcome State Fault Refusal :=
  s.live fun u => u.flushEnd

/-- CXL_MEM_RD (R233): A CXL MemRd is served as a plain read or as RD_SHARED, RD_OWN or RD_CUR by its MetaValue. -/
def execCxlMemRd (r : CxlMem) (s : State) : Host.Outcome State Fault Refusal :=
  s.live fun u => u.cxlGo 0 r

/-- CXL_MEM_RD_DATA (R233): A CXL MemRdData is served as RD_SHARED with grant A or S. -/
def execCxlMemRdData (r : CxlMem) (s : State) : Host.Outcome State Fault Refusal :=
  s.live fun u => u.cxlGo 1 r

/-- CXL_MEM_INV (R233): A CXL MemInv is served as UPGRADE or EVICT_CLEAN by its MetaValue. -/
def execCxlMemInv (r : CxlMem) (s : State) : Host.Outcome State Fault Refusal :=
  s.live fun u => u.cxlGo 2 r

/-- CXL_MEM_WR (R233): A CXL MemWr or MemWrPtl is served as a plain write or a WB_DIRTY. -/
def execCxlMemWr (r : CxlMem) (s : State) : Host.Outcome State Fault Refusal :=
  s.live fun u => u.cxlGo 3 r

/-- CXL_BI_RSP (R233): A host's back-invalidate response arrives and is taken as the matching snoop response. -/
def execCxlBiRsp (ld : Nat) (line : Nat) (rsp : BiRsp) (s : State) : Host.Outcome State Fault Refusal :=
  s.live fun u => u.biRsp ld line rsp

/-- CXL_BI_CONFLICT (R233): A host's BIConflict is answered with BIConflictAck. -/
def execCxlBiConflict (ld : Nat) (line : Nat) (s : State) : Host.Outcome State Fault Refusal :=
  s.live fun u => u.biConflict ld line

/-- CXL_HOLD_RELEASE (R366): A held CXL request is released when both peak buckets of its logical device leave deficit. -/
def execCxlHoldRelease (ld : Nat) (s : State) : Host.Outcome State Fault Refusal :=
  s.live fun u => u.cxlLetGo ld

end Sys2Proof.Machine
end

