-- ==== Sys2Proof/Machine/CmdCxl.lean ====
section
/-! DEFINITION. The CXL attachment (R512 to R526): the meaning of each command. -/

namespace Sys2Proof.Machine

open Sys2Proof

/-- GET_LD_INFO (R514): The FM-owned LD answers Get LD Info. -/
def execGetLdInfo (m : Mailbox) (s : State) : Host.Outcome State Fault Refusal :=
  s.onBox m 0x5400 fun u => u.boxLdInfo m.ld

/-- GET_LD_ALLOCATIONS (R514): The FM-owned LD reports the LD ranges last set. -/
def execGetLdAllocations (m : Mailbox) (s : State) : Host.Outcome State Fault Refusal :=
  s.onBox m 0x5401 fun u => u.boxGetAlloc m.ld m

/-- SET_LD_ALLOCATIONS (R514): The FM-owned LD sets the capacity each LD reports. -/
def execSetLdAllocations (m : Mailbox) (s : State) : Host.Outcome State Fault Refusal :=
  s.onBox m 0x5402 fun u => u.boxSetAlloc m.ld m

/-- GET_QOS_CONTROL (R514): The FM-owned LD answers Get QoS Control. -/
def execGetQosControl (m : Mailbox) (s : State) : Host.Outcome State Fault Refusal :=
  s.onBox m 0x5403 fun u => u.boxGetQos m.ld

/-- SET_QOS_CONTROL (R514): The FM-owned LD applies Set QoS Control, refusing threshold changes. -/
def execSetQosControl (m : Mailbox) (s : State) : Host.Outcome State Fault Refusal :=
  s.onBox m 0x5404 fun u => u.boxSetQos m.ld m

/-- GET_QOS_STATUS (R514): The FM-owned LD answers Get QoS Status. -/
def execGetQosStatus (m : Mailbox) (s : State) : Host.Outcome State Fault Refusal :=
  s.onBox m 0x5405 fun u => u.boxQosStatus m.ld

/-- GET_QOS_ALLOCATED_BW (R514): The FM-owned LD reports 0xFF allocated bandwidth for every LD. -/
def execGetQosAllocatedBw (m : Mailbox) (s : State) : Host.Outcome State Fault Refusal :=
  s.onBox m 0x5406 fun u => u.boxBw m.ld 0x5406 m

/-- SET_QOS_ALLOCATED_BW (R514): The FM-owned LD answers Set QoS Allocated BW Unsupported. -/
def execSetQosAllocatedBw (m : Mailbox) (s : State) : Host.Outcome State Fault Refusal :=
  s.onBox m 0x5407 fun u => u.boxDone m.ld 0x5407 3 .nothing

/-- GET_QOS_BW_LIMIT (R514): The FM-owned LD reports 0xFF bandwidth limit for every LD. -/
def execGetQosBwLimit (m : Mailbox) (s : State) : Host.Outcome State Fault Refusal :=
  s.onBox m 0x5408 fun u => u.boxBw m.ld 0x5408 m

/-- SET_QOS_BW_LIMIT (R514): The FM-owned LD answers Set QoS BW Limit Unsupported. -/
def execSetQosBwLimit (m : Mailbox) (s : State) : Host.Outcome State Fault Refusal :=
  s.onBox m 0x5409 fun u => u.boxDone m.ld 0x5409 3 .nothing

/-- IDENTIFY (R519): The mailbox answers Identify. -/
def execIdentify (m : Mailbox) (s : State) : Host.Outcome State Fault Refusal :=
  s.onBox m 0x0001 fun u => u.boxIdentify m.ld

/-- BACKGROUND_OPERATION_STATUS (R519): The mailbox reports background operation status. -/
def execBackgroundOperationStatus (m : Mailbox) (s : State) : Host.Outcome State Fault Refusal :=
  s.onBox m 0x0002 fun u => u.boxBgStatus m.ld

/-- GET_EVENT_RECORDS (R521): The mailbox returns records from an LD event log. -/
def execGetEventRecords (m : Mailbox) (s : State) : Host.Outcome State Fault Refusal :=
  s.onBox m 0x0100 fun u => u.boxGetEvents m.ld m

/-- CLEAR_EVENT_RECORDS (R521): The mailbox clears records from an LD event log. -/
def execClearEventRecords (m : Mailbox) (s : State) : Host.Outcome State Fault Refusal :=
  s.onBox m 0x0101 fun u => u.boxClearEvents m.ld m

/-- GET_EVENT_INTERRUPT_POLICY (R519): The mailbox reports the LD's event interrupt policy. -/
def execGetEventInterruptPolicy (m : Mailbox) (s : State) : Host.Outcome State Fault Refusal :=
  s.onBox m 0x0102 fun u => u.boxGetPolicy m.ld

/-- SET_EVENT_INTERRUPT_POLICY (R523): The mailbox selects the event-log interrupt vectors. -/
def execSetEventInterruptPolicy (m : Mailbox) (s : State) : Host.Outcome State Fault Refusal :=
  s.onBox m 0x0103 fun u => u.boxSetPolicy m.ld m

/-- GET_FW_INFO (R519): The mailbox reports the image slot and staging. -/
def execGetFwInfo (m : Mailbox) (s : State) : Host.Outcome State Fault Refusal :=
  s.onBox m 0x0200 fun u => u.boxFwInfo m.ld

/-- TRANSFER_FW (R522): Transfer FW feeds a piece of an image into staging. -/
def execTransferFw (m : Mailbox) (s : State) : Host.Outcome State Fault Refusal :=
  s.onBox m 0x0201 fun u => u.boxTransfer m.ld m

/-- ACTIVATE_FW (R522): Activate FW requests online activation of the staged image. -/
def execActivateFw (m : Mailbox) (s : State) : Host.Outcome State Fault Refusal :=
  s.onBox m 0x0202 fun u => u.boxActivate m.ld m

/-- GET_TIMESTAMP (R519): The mailbox returns the LD's timestamp from pool time and its offset. -/
def execGetTimestamp (m : Mailbox) (s : State) : Host.Outcome State Fault Refusal :=
  s.onBox m 0x0300 fun u => u.boxGetTime m.ld

/-- SET_TIMESTAMP (R519): The mailbox rewrites the LD's timestamp offset. -/
def execSetTimestamp (m : Mailbox) (s : State) : Host.Outcome State Fault Refusal :=
  s.onBox m 0x0301 fun u => u.boxSetTime m.ld m

/-- GET_SUPPORTED_LOGS (R519): The mailbox lists the Command Effects Log. -/
def execGetSupportedLogs (m : Mailbox) (s : State) : Host.Outcome State Fault Refusal :=
  s.onBox m 0x0400 fun u => u.boxLogs m.ld

/-- GET_LOG (R519): The mailbox returns the Command Effects Log. -/
def execGetLog (m : Mailbox) (s : State) : Host.Outcome State Fault Refusal :=
  s.onBox m 0x0401 fun u => u.boxLog m.ld

/-- IDENTIFY_MEMORY_DEVICE (R519): The mailbox reports capacity and poison list size. -/
def execIdentifyMemoryDevice (m : Mailbox) (s : State) : Host.Outcome State Fault Refusal :=
  s.onBox m 0x4000 fun u => u.boxMemory m.ld

/-- GET_HEALTH_INFO (R519): The mailbox reports health, media status, temperature and corrected errors. -/
def execGetHealthInfo (m : Mailbox) (s : State) : Host.Outcome State Fault Refusal :=
  s.onBox m 0x4200 fun u => u.boxHealth m.ld

/-- GET_ALERT_CONFIGURATION (R519): The mailbox reports the alert configuration. -/
def execGetAlertConfiguration (m : Mailbox) (s : State) : Host.Outcome State Fault Refusal :=
  s.onBox m 0x4201 fun u => u.boxGetAlert m.ld

/-- SET_ALERT_CONFIGURATION (R519): The mailbox sets temperature and corrected error alerts. -/
def execSetAlertConfiguration (m : Mailbox) (s : State) : Host.Outcome State Fault Refusal :=
  s.onBox m 0x4202 fun u => u.boxSetAlert m.ld m

/-- GET_POISON_LIST (R520): The mailbox returns poison list entries in a translated DPA range. -/
def execGetPoisonList (m : Mailbox) (s : State) : Host.Outcome State Fault Refusal :=
  s.onBox m 0x4300 fun u => u.boxPoisonList m.ld m

/-- INJECT_POISON (R519): Inject Poison writes the poison word in factory test mode, else is Unsupported. -/
def execInjectPoison (m : Mailbox) (s : State) : Host.Outcome State Fault Refusal :=
  s.onBox m 0x4301 fun u => u.boxInject m.ld m

/-- CLEAR_POISON (R519): Clear Poison writes 64 bytes as a full-sector write through the LD's translation. -/
def execClearPoison (m : Mailbox) (s : State) : Host.Outcome State Fault Refusal :=
  s.onBox m 0x4302 fun u => u.boxClear m.ld m

/-- SANITIZE (R519): Sanitize starts a background FILL of every partition of the quiesced LD's subscriber. -/
def execSanitize (m : Mailbox) (s : State) : Host.Outcome State Fault Refusal :=
  s.onBox m 0x4400 fun u => u.boxSanitize m.ld

/-- SANITIZE_DONE (R519): The Sanitize fill completes and SANITIZE_DONE is set. -/
def execSanitizeDone (s : State) : Host.Outcome State Fault Refusal :=
  s.event fun u => u.sanitizeDone

/-- HDM_DECODER_COMMIT (R515): A host commits an HDM decoder, which is accepted or set Error Not Committed. -/
def execHdmDecoderCommit (ld idx : Nat) (d : HdmDecoder) (s : State) : Host.Outcome State Fault Refusal :=
  s.event fun u => if ld < 16 ∧ idx < 4 then u.hdmCommit ld idx d else u

/-- CXL_LINK_TRAINED (R517): The CXL link trains; in 68-byte flit mode BI decoders are uncommitted and CXL agents fenced. -/
def execCxlLinkTrained (width speed : Nat) (flit68 : Bool) (s : State) : Host.Outcome State Fault Refusal :=
  s.event fun u => u.cxlTrained width speed flit68

/-- CXL_LINK_DOWN (R525): The CXL link goes down, resets or is disabled, fencing every CXL agent. -/
def execCxlLinkDown (s : State) : Host.Outcome State Fault Refusal :=
  s.event fun u => u.cxlDown

/-- CXL_FLR (R525): An FLR of an LD aborts its CXL.io and mailbox commands. -/
def execCxlFlr (ld : Nat) (s : State) : Host.Outcome State Fault Refusal :=
  s.event fun u => if ld < 16 then u.cxlFlr ld else u

/-- CXL_RESET (R525): A CXL Reset of an LD answers its requests, fences its agents, uncommits decoders and empties its logs. -/
def execCxlReset (ld : Nat) (memClr : Bool) (s : State) : Host.Outcome State Fault Refusal :=
  s.event fun u => if ld < 16 then u.cxlReset ld memClr else u

/-- SECONDARY_BUS_RESET (R525): A secondary bus reset from the switch acts as a link down. -/
def execSecondaryBusReset (s : State) : Host.Outcome State Fault Refusal :=
  s.event fun u => u.cxlDown

end Sys2Proof.Machine
end

