-- ==== Sys2Proof/Machine/CmdEnergy.lean ====
section
/-! DEFINITION. The energy planner and the sideband (R377 to R397, R567): the meaning of each command. -/

namespace Sys2Proof.Machine

open Sys2Proof

/-- METER_UPDATE (R378): Every 1 us each energy meter integrates its island's power, and a faulty meter is detected. -/
def execMeterUpdate (meter uj : Nat) (faulty : Bool) (s : State) : Host.Outcome State Fault Refusal :=
  s.live fun u => u.meter meter uj faulty

/-- PLAN_INTERVAL_BOUNDARY (R384): At each 1 ms pool-time boundary the planner applies the plan, publishes EP, derates and accounts energy. -/
def execPlanIntervalBoundary (s : State) : Host.Outcome State Fault Refusal :=
  s.live fun u => u.planBoundary

/-- PLAN_SUBSLOT (R387): Every 10 us the next sub-slot of each allowance opens with the carry of the last. -/
def execPlanSubslot (s : State) : Host.Outcome State Fault Refusal :=
  s.live fun u => u.subSlot

/-- PLAN_STALE (R391): PLAN_TMO intervals pass without a new plan and the ward allowance is cut to fit 250 W. -/
def execPlanStale (s : State) : Host.Outcome State Fault Refusal :=
  s.live fun u => u.planStale

/-- SET_POWER_LIMIT (R567): A sideband SET_POWER_LIMIT message writes EPL_SB_LIMIT. -/
def execSetPowerLimit (mw : Nat) (s : State) : Host.Outcome State Fault Refusal :=
  s.event fun u => u.sidebandDo fun w => w.setPower mw

/-- GET_POWER (R567): A sideband GET_POWER message returns budget, power, derating and temperatures. -/
def execGetPower (s : State) : Host.Outcome State Fault Refusal :=
  s.event fun u => u.sidebandDo State.tellPower

/-- GET_LAST_FATAL (R567): A sideband GET_LAST_FATAL message returns GLB_LAST_FATAL. -/
def execGetLastFatal (s : State) : Host.Outcome State Fault Refusal :=
  s.event fun u => u.sidebandDo State.tellFatal

end Sys2Proof.Machine
end

