-- ==== Sys2Proof/Machine/CmdFabric.lean ====
section
/-! DEFINITION. Routing, multicast, fencing, enumeration, pool time and management requests (R323 to R359, R527 to R538): the meaning of each command. -/

namespace Sys2Proof.Machine

open Sys2Proof

/-- TRANSIT_FORWARD (R340): A packet not for this chip is checked and forwarded from ingress to egress, or dropped. -/
def execTransitForward (port : Nat) (p : Packet) (s : State) : Host.Outcome State Fault Refusal :=
  s.onPacket (s.foreign) port p

/-- ROUTE_UPDATE (R338): A ROUTE_UPDATE packet invalidates, writes, commits and flips a route table version. -/
def execRouteUpdate (port : Nat) (p : Packet) (s : State) : Host.Outcome State Fault Refusal :=
  s.onPacket (fun q => q.opcode == 0x65) port p

/-- RTB_COMMIT (R336): RTB_TBL_CMD.COMMIT checks a route table version and validates it or records ROUTE_REJECT. -/
def execRtbCommit (a : Path) (version : Nat) (s : State) : Host.Outcome State Fault Refusal :=
  s.onReg a Reg.RTB_TBL_CMD.OFF fun u => if version < 2 then (u.cmdCommit version).1 else u

/-- RTB_INVALIDATE (R337): RTB_TBL_CMD.INVALIDATE invalidates a route table version if it is drained. -/
def execRtbInvalidate (a : Path) (version : Nat) (s : State) : Host.Outcome State Fault Refusal :=
  s.onReg a Reg.RTB_TBL_CMD.OFF fun u => if version < 2 then (u.cmdInvalidate a version).1 else u

/-- RTB_FLIP (R337): RTB_TBL_CMD.FLIP sets INJ_EPOCH to a valid version. -/
def execRtbFlip (a : Path) (version : Nat) (s : State) : Host.Outcome State Fault Refusal :=
  s.onReg a Reg.RTB_TBL_CMD.OFF fun u => if version < 2 then (u.cmdFlip a version).1 else u

/-- RTB_MC_WRITE (R344): A write to a multicast group entry sets it VALID or is rejected with MC_REJECT. -/
def execRtbMcWrite (a : Path) (off : Nat) (v : Word) (s : State) : Host.Outcome State Fault Refusal :=
  if Reg.RTB_MC_PORT.OFF 0 ≤ 0x20000 + off ∧ 0x20000 + off < 0x2B000 ∧ off % 4 = 0 then
    s.onReg a (0x20000 + off) fun u => u.mcWrite a (0x20000 + off) v.toNat
  else .next s

/-- FENCE (R349): A FENCE packet or RTB_FENCE_CMD fences a node: its packets are dropped, its entry emptied and its agents fenced. -/
def execFence (port : Nat) (p : Packet) (s : State) : Host.Outcome State Fault Refusal :=
  s.onPacket (fun q => q.opcode == 0x66 && !bit q.opw 12) port p

/-- UNFENCE (R350): A FENCE with UNFENCE or RTB_FENCE_CMD UNFENCE lifts a node's fence. -/
def execUnfence (port : Nat) (p : Packet) (s : State) : Host.Outcome State Fault Refusal :=
  s.onPacket (fun q => q.opcode == 0x66 && bit q.opw 12) port p

/-- ENUM_START (R352): RTB_ENUM_CTRL.START makes the chain head start enumeration. -/
def execEnumStart (a : Path) (s : State) : Host.Outcome State Fault Refusal :=
  s.onReg a Reg.RTB_ENUM_CTRL.OFF fun u => u.enumStart

/-- ENUM_ASSIGN (R352): An ENUM ASSIGN is received: a unit without an ID takes it and forwards, or a unit with one answers or reports
CONFLICT. -/
def execEnumAssign (port : Nat) (p : Packet) (s : State) : Host.Outcome State Fault Refusal :=
  s.onPacket (fun q => q.opcode == 0x60 && bits q.opw 1 0 != 1) port p

/-- ENUM_ASSIGN_RESPONSE (R352): A downstream ASSIGN response arrives and the unit answers upstream with LAST_ID. -/
def execEnumAssignResponse (port : Nat) (p : Packet) (s : State) : Host.Outcome State Fault Refusal :=
  s.onPacket (fun q => q.opcode == 0xE0 && bits q.opw 1 0 != 1) port p

/-- ENUM_PORT_TIMEOUT (R352): The chain port does not become ACTIVE within 100 ms and the unit answers with its own ID as DONE. -/
def execEnumPortTimeout (s : State) : Host.Outcome State Fault Refusal :=
  s.live fun u => u.enumTimeout

/-- RTB_NODE_WRITE (R354): A write to RTB_NODE sets the node ID or pair ID, or is rejected. -/
def execRtbNodeWrite (a : Path) (v : Word) (s : State) : Host.Outcome State Fault Refusal :=
  s.onReg a Reg.RTB_NODE.OFF fun u => u.nodeWrite a v.toNat

/-- TIME_REQ_DUE (R356): Every 1 ms a non-head unit sends a TIME_REQ upstream. -/
def execTimeReqDue (s : State) : Host.Outcome State Fault Refusal :=
  s.live fun u => u.timeReqSend

/-- TIME_REQ (R356): A TIME_REQ from downstream is answered with t2 and t3. -/
def execTimeReq (port : Nat) (p : Packet) (s : State) : Host.Outcome State Fault Refusal :=
  s.onPacket (fun q => q.opcode == 0x60 && bits q.opw 1 0 == 1) port p

/-- TIME_REQ_RESPONSE (R356): A TIME_REQ response arrives and the unit corrects pool time by step or rate. -/
def execTimeReqResponse (port : Nat) (p : Packet) (s : State) : Host.Outcome State Fault Refusal :=
  s.onPacket (fun q => q.opcode == 0xE0 && bits q.opw 1 0 == 1) port p

/-- RTB_TIME_SET (R355): A write of RTB_TIME_SET on the chain head sets pool time. -/
def execRtbTimeSet (a : Path) (v : DWord) (s : State) : Host.Outcome State Fault Refusal :=
  s.onReg a Reg.RTB_TIME_SET.OFF fun u => u.timeSet a v.toNat

/-- MGT_READ (R532): An MGT_READ returns RLEN bytes of the management space. -/
def execMgtRead (port : Nat) (p : Packet) (s : State) : Host.Outcome State Fault Refusal :=
  s.onPacket (fun q => q.opcode == 0x61) port p

/-- MGT_WRITE (R534): An MGT_WRITE applies its words in ascending order with the packet's privilege. -/
def execMgtWrite (port : Nat) (p : Packet) (s : State) : Host.Outcome State Fault Refusal :=
  s.onPacket (fun q => q.opcode == 0x62) port p

/-- REGISTER_WRITE (R529): A write to a register without a row of its own is checked for privilege and applied, ignored or treated as a
violation. -/
def execRegisterWrite (a : Path) (off : Nat) (data : List Byte) (s : State) : Host.Outcome State Fault Refusal :=
  s.event fun u => u.registerWrite a off data

end Sys2Proof.Machine
end

