-- ==== Sys2Proof/Machine/CmdFault.lean ====
section
/-! DEFINITION. Faults, counters, resets and factory injection (R429 to R454, R546 to R551): the meaning of each command. -/

namespace Sys2Proof.Machine

open Sys2Proof

/-- ESCALATION_WINDOW_CLOSE (R433): A source's counting window closes and its count returns to 0. -/
def execEscalationWindowClose (source : Nat) (s : State) : Host.Outcome State Fault Refusal :=
  s.event fun u => u.windowClose source

/-- FLT_ACK (R435): A write of FLT_ACK frees the matching escalation store entries. -/
def execFltAck (a : Path) (v : Word) (s : State) : Host.Outcome State Fault Refusal :=
  s.onReg a Reg.FLT_ACK.OFF fun u => u.fltAck v.toNat

/-- NOTIFY_DEPART (R438): A queued NOTIFY leaves once a route and VC6 credit exist. -/
def execNotifyDepart (s : State) : Host.Outcome State Fault Refusal :=
  s.live fun u => u.notifyLeave

/-- FATAL_RELEASE (R439): Writing 1 to GLB EVT_STAT.FATAL releases ALERT_N. -/
def execFatalRelease (a : Path) (s : State) : Host.Outcome State Fault Refusal :=
  s.onReg a (Pg.GLB + 0x10) fun u => u.fatalRelease

/-- HALT_CONTINUE (R442): Once the fatal messages have left or 100 us passed, the halt takes ports down and places stacks in self-refresh. -/
def execHaltContinue (s : State) : Host.Outcome State Fault Refusal :=
  s.event fun u => u.haltGo

/-- GLB_LAST_FATAL_CLEAR (R443): Writing 1 to GLB_LAST_FATAL_V.VALID clears the stored fatal record. -/
def execGlbLastFatalClear (a : Path) (s : State) : Host.Outcome State Fault Refusal :=
  s.onReg a Reg.GLB_LAST_FATAL_V.OFF fun u => u.lastFatalClear

/-- GLB_CNT_CLR (R444): A write of GLB_CNT_CLR.GO clears the counters of one page or all pages. -/
def execGlbCntClr (a : Path) (v : Word) (s : State) : Host.Outcome State Fault Refusal :=
  s.onReg a Reg.GLB_CNT_CLR.OFF fun u => u.cntClr v.toNat

/-- GLB_RST_WARM (R446): A write of GLB_RST with key 0xA5 and WARM starts a warm reset. -/
def execGlbRstWarm (a : Path) (s : State) : Host.Outcome State Fault Refusal :=
  s.onReg a Reg.GLB_RST.OFF fun u => u.rstWrite a 0x1A5

/-- GLB_RST_COLD (R446): A write of GLB_RST with key 0xA5 and COLD starts a cold reset. -/
def execGlbRstCold (a : Path) (s : State) : Host.Outcome State Fault Refusal :=
  s.onReg a Reg.GLB_RST.OFF fun u => u.rstWrite a 0x2A5

/-- WARM_RESET (R447): A warm reset stops admission, aborts operations, drains and places stacks in self-refresh, and resets the logic. -/
def execWarmReset (s : State) : Host.Outcome State Fault Refusal :=
  s.event fun u => u.warmGo

/-- WARM_START_COMPLETE (R447): Firmware restarts, brings the stacks out of self-refresh and the chip reports READY. -/
def execWarmStartComplete (s : State) : Host.Outcome State Fault Refusal :=
  s.event fun u => u.warmReady

/-- COH_RESUME (R448): A write of GLB_CTRL.COH_RESUME clears COH_HELD. -/
def execCohResume (a : Path) (s : State) : Host.Outcome State Fault Refusal :=
  s.onReg a Reg.GLB_CTRL.OFF fun u => u.cohResume

/-- BLK_SOFT_RESET (R446): A write of BLK_CTRL.SOFT_RESET starts a block reset of that page. -/
def execBlkSoftReset (a : Path) (page : Nat) (s : State) : Host.Outcome State Fault Refusal :=
  s.onHead a page fun u => u.blockReset a (page * 4096)

/-- BLOCK_RESET_DONE (R549): A block reset completes and SOFT_RESET clears. -/
def execBlockResetDone (page : Nat) (s : State) : Host.Outcome State Fault Refusal :=
  s.event fun u => u.blockResetDone (page * 4096)

/-- BLK_ENABLE_WRITE (R546): A write of BLK_CTRL.ENABLE disables or enables an SWP, HNG or WE page. -/
def execBlkEnableWrite (a : Path) (page : Nat) (on : Bool) (s : State) : Host.Outcome State Fault Refusal :=
  s.onHead a page fun u => u.enableWrite (page * 4096) on

/-- BLK_FREEZE_WRITE (R547): A write of BLK_CTRL.FREEZE takes or drops a counter snapshot. -/
def execBlkFreezeWrite (a : Path) (page : Nat) (on : Bool) (s : State) : Host.Outcome State Fault Refusal :=
  s.onHead a page fun u => u.freezeWrite (page * 4096) on

/-- FTM_INJECT (R451): FTM_INJ_CMD.GO injects a record, poison, symbol error or flit error in factory test mode. -/
def execFtmInject (a : Path) (s : State) : Host.Outcome State Fault Refusal :=
  s.onReg a Reg.FTM_INJ_CMD.OFF fun u => if u.factory then u.inject451 a else u

end Sys2Proof.Machine
end

