-- ==== Sys2Proof/Machine/CmdHinge.lean ====
section
/-! DEFINITION. Hinge pairs and the witness (R398 to R428): the meaning of each command. -/

namespace Sys2Proof.Machine

open Sys2Proof

/-- PAIR_EN_WRITE (R398): A write of HPS_CTRL.PAIR_EN forms or leaves a pair, or is rejected. -/
def execPairEnWrite (a : Path) (v : Word) (s : State) : Host.Outcome State Fault Refusal :=
  s.onReg a Reg.HPS_CTRL.OFF fun u => u.hpsCtrlWrite a v.toNat

/-- BEAT_SEND (R404): Every HB_US a member sends a BEAT to its partner. -/
def execBeatSend (s : State) : Host.Outcome State Fault Refusal :=
  s.live fun u => u.beatSend

/-- BEAT (R414): A BEAT from the partner is received, updating partner state and continuation. -/
def execBeat (port : Nat) (p : Packet) (s : State) : Host.Outcome State Fault Refusal :=
  s.onPacket (fun q => q.opcode == 0x67 && hbKind q == 0) port p

/-- EPOCH_CLOSE (R405): An epoch's length elapses and the active ends it with EPOCH_END. -/
def execEpochClose (s : State) : Host.Outcome State Fault Refusal :=
  s.live fun u => u.epochClose

/-- JOURNAL (R407): A JOURNAL packet reaches the standby, which applies each complete epoch and acknowledges it. -/
def execJournal (port : Nat) (p : Packet) (s : State) : Host.Outcome State Fault Refusal :=
  s.onPacket (fun q => q.opcode == 0x67 && hbKind q == 1) port p

/-- JRNL_ACK (R408): A JRNL_ACK reaches the active and releases the responses waiting on that epoch. -/
def execJrnlAck (port : Nat) (p : Packet) (s : State) : Host.Outcome State Fault Refusal :=
  s.onPacket (fun q => q.opcode == 0x67 && hbKind q == 2) port p

/-- RESYNC_REQ (R424): A RESYNC_REQ reaches the active, which starts a delta or full resync or sends one granule. -/
def execResyncReq (port : Nat) (p : Packet) (s : State) : Host.Outcome State Fault Refusal :=
  s.onPacket (fun q => q.opcode == 0x67 && hbKind q == 3) port p

/-- RESYNC_DATA (R424): A RESYNC_DATA granule reaches the stale member and is written to its replica. -/
def execResyncData (port : Nat) (p : Packet) (s : State) : Host.Outcome State Fault Refusal :=
  s.onPacket (fun q => q.opcode == 0x67 && hbKind q == 4) port p

/-- LEASE_RENEW (R412): Every 250 us the holder sends LEASE_REQ to the witness. -/
def execLeaseRenew (s : State) : Host.Outcome State Fault Refusal :=
  s.live fun u => u.leaseRenew

/-- LEASE_REQ (R412): The witness receives a LEASE_REQ and extends, grants, delays or refuses. -/
def execLeaseReq (port : Nat) (p : Packet) (s : State) : Host.Outcome State Fault Refusal :=
  s.onPacket (fun q => q.opcode == 0x67 && hbKind q == 5) port p

/-- WITNESS_GRANT_DUE (R412): A deferred request's wait ends at the witness, which increments the generation and grants. -/
def execWitnessGrantDue (pair : Nat) (s : State) : Host.Outcome State Fault Refusal :=
  s.live fun u => if pair < 16 then u.witDue pair else u

/-- LEASE_GRANT (R416): A member receives LEASE_GRANT, renewing its lease or entering TAKEOVER. -/
def execLeaseGrant (port : Nat) (p : Packet) (s : State) : Host.Outcome State Fault Refusal :=
  s.onPacket (fun q => q.opcode == 0x67 && hbKind q == 6) port p

/-- LEASE_REFUSE (R412): A member receives LEASE_REFUSE and records it, going stale where R423 says. -/
def execLeaseRefuse (port : Nat) (p : Packet) (s : State) : Host.Outcome State Fault Refusal :=
  s.onPacket (fun q => q.opcode == 0x67 && hbKind q == 7) port p

/-- LEASE_RELEASE (R412): The witness receives LEASE_RELEASE from the holder and records no holder. -/
def execLeaseRelease (port : Nat) (p : Packet) (s : State) : Host.Outcome State Fault Refusal :=
  s.onPacket (fun q => q.opcode == 0x67 && hbKind q == 8) port p

/-- LEASE_EXPIRY (R414): A holder's lease reckoning ends without continuation and it yields the pair ID. -/
def execLeaseExpiry (s : State) : Host.Outcome State Fault Refusal :=
  s.live fun u => u.leaseExpiry

/-- PARTNER_LOST (R415): MISS consecutive BEATs are missed and the member declares its partner lost. -/
def execPartnerLost (s : State) : Host.Outcome State Fault Refusal :=
  s.live fun u => u.partnerLost

/-- TAKEOVER_COMPLETE (R416): Takeover steps 1-4 are done, held packets are released and the member is ACTIVE_SOLO. -/
def execTakeoverComplete (s : State) : Host.Outcome State Fault Refusal :=
  s.live fun u => u.takeoverDone

/-- TAKEOVER_WINDOW_END (R417): 10 ms after a takeover, the gap rule stops applying to unordered requests. -/
def execTakeoverWindowEnd (s : State) : Host.Outcome State Fault Refusal :=
  s.live fun u => u.takeoverWindowEnd

/-- HOLD_DROP (R415): A pair-ID packet held at the standby for HOLD_MS is dropped. -/
def execHoldDrop (idx : Nat) (s : State) : Host.Outcome State Fault Refusal :=
  s.live fun u => u.holdDrop idx

/-- PAIR_STATUS_SEND (R404): Every STATUS_MS the active sends PAIR_STATUS to the manager node. -/
def execPairStatusSend (s : State) : Host.Outcome State Fault Refusal :=
  s.live fun u => u.pairStatus

/-- HPS_SWITCH (R419): HPS_CTRL.SWITCH starts a planned switch-over on the active. -/
def execHpsSwitch (a : Path) (s : State) : Host.Outcome State Fault Refusal :=
  s.onReg a Reg.HPS_CTRL.OFF fun u => u.switchWrite a

/-- SWITCH_DRAIN_END (R419): The 1 ms drain of a planned switch-over ends and remaining operations are aborted and the epoch closed. -/
def execSwitchDrainEnd (s : State) : Host.Outcome State Fault Refusal :=
  s.live fun u => u.switchDrain

/-- JOINING_RETRY (R427): A JOINING member sends LEASE_REQ again every 1 ms. -/
def execJoiningRetry (s : State) : Host.Outcome State Fault Refusal :=
  s.live fun u => u.joiningRetry

end Sys2Proof.Machine
end

