-- ==== Sys2Proof/Machine/CmdKeeper.lean ====
section
/-! DEFINITION. The Keeper (R455 to R482): the meaning of each command. -/

namespace Sys2Proof.Machine

open Sys2Proof

/-- VALIDATE_TOKEN (R480): KPR_CMD VALIDATE_TOKEN validates a token in KPR_BUF and unlocks debug or factory mode. -/
def execValidateToken (a : Path) (s : State) : Host.Outcome State Fault Refusal :=
  s.kprOp a 1 0

/-- KEEPER_TOKEN (R478): The KEEPER_TOKEN debug instruction shifts a token into the Keeper for validation. -/
def execKeeperToken (token : List Byte) (s : State) : Host.Outcome State Fault Refusal :=
  s.event fun u => u.tokenIn token

/-- ADVANCE_SVN (R465): KPR_CMD ADVANCE_SVN raises the fused security versions to the running images. -/
def execAdvanceSvn (a : Path) (s : State) : Host.Outcome State Fault Refusal :=
  s.kprOp a 2 0

/-- REVOKE_SLOT (R464): KPR_CMD REVOKE_SLOT blows a vendor key slot's revoke fuse, or is refused. -/
def execRevokeSlot (a : Path) (arg : Nat) (s : State) : Host.Outcome State Fault Refusal :=
  s.kprOp a 3 arg

/-- STREAM_RETIRE (R474): KPR_CMD STREAM_RETIRE destroys one context's stream keys and aborts its operations. -/
def execStreamRetire (a : Path) (arg : Nat) (s : State) : Host.Outcome State Fault Refusal :=
  s.kprOp a 4 arg

/-- STREAM_RETIRE_SUB (R474): KPR_CMD STREAM_RETIRE_SUB retires the streams of every context of a subscriber. -/
def execStreamRetireSub (a : Path) (arg : Nat) (s : State) : Host.Outcome State Fault Refusal :=
  s.kprOp a 5 arg

/-- STREAM_RETIRE_DONE (R474): A stream retirement completes and KPR_STRM_STAT ACTIVE clears. -/
def execStreamRetireDone (ctx : Nat) (s : State) : Host.Outcome State Fault Refusal :=
  s.live fun u => u.streamRetireDone ctx

/-- ANCHOR_SET (R468): KPR_CMD ANCHOR_SET installs a trust anchor digest. -/
def execAnchorSet (a : Path) (arg : Nat) (s : State) : Host.Outcome State Fault Refusal :=
  s.kprOp a 6 arg

/-- ANCHOR_CLEAR (R468): KPR_CMD ANCHOR_CLEAR removes a trust anchor. -/
def execAnchorClear (a : Path) (arg : Nat) (s : State) : Host.Outcome State Fault Refusal :=
  s.kprOp a 7 arg

/-- NEW_CHALLENGE (R480): KPR_CMD NEW_CHALLENGE replaces KPR_CHALLENGE with a new random value. -/
def execNewChallenge (a : Path) (s : State) : Host.Outcome State Fault Refusal :=
  s.kprOp a 8 0

/-- SPDM_GET_VERSION (R461): The Keeper answers SPDM GET_VERSION. -/
def execSpdmGetVersion (m : SpdmMsg) (s : State) : Host.Outcome State Fault Refusal :=
  s.event fun u => u.spdmVersion m

/-- SPDM_GET_CAPABILITIES (R461): The Keeper answers SPDM GET_CAPABILITIES. -/
def execSpdmGetCapabilities (m : SpdmMsg) (s : State) : Host.Outcome State Fault Refusal :=
  s.event fun u => u.spdmCapable m

/-- SPDM_NEGOTIATE_ALGORITHMS (R461): The Keeper answers SPDM NEGOTIATE_ALGORITHMS. -/
def execSpdmNegotiateAlgorithms (m : SpdmMsg) (s : State) : Host.Outcome State Fault Refusal :=
  s.event fun u => u.spdmAlgorithms m

/-- SPDM_GET_DIGESTS (R461): The Keeper answers SPDM GET_DIGESTS. -/
def execSpdmGetDigests (m : SpdmMsg) (s : State) : Host.Outcome State Fault Refusal :=
  s.event fun u => u.spdmDigests m

/-- SPDM_GET_CERTIFICATE (R458): The Keeper returns its slot 0 certificate chain. -/
def execSpdmGetCertificate (m : SpdmMsg) (s : State) : Host.Outcome State Fault Refusal :=
  s.event fun u => u.spdmCertificate m

/-- SPDM_CHALLENGE (R461): The Keeper answers SPDM CHALLENGE with an Alias signature. -/
def execSpdmChallenge (m : SpdmMsg) (s : State) : Host.Outcome State Fault Refusal :=
  s.event fun u => u.spdmChallenge m

/-- SPDM_GET_MEASUREMENTS (R459): The Keeper reports its measurement blocks. -/
def execSpdmGetMeasurements (m : SpdmMsg) (s : State) : Host.Outcome State Fault Refusal :=
  s.event fun u => u.spdmMeasurements m

/-- SPDM_KEY_EXCHANGE (R461): The Keeper starts a secured session or answers SessionLimitExceeded. -/
def execSpdmKeyExchange (m : SpdmMsg) (s : State) : Host.Outcome State Fault Refusal :=
  s.event fun u => u.spdmExchange m

/-- SPDM_FINISH (R461): The Keeper completes a session's handshake on FINISH. -/
def execSpdmFinish (m : SpdmMsg) (s : State) : Host.Outcome State Fault Refusal :=
  s.event fun u => u.spdmFinish m

/-- SPDM_KEY_UPDATE (R461): The Keeper updates a session's keys. -/
def execSpdmKeyUpdate (m : SpdmMsg) (s : State) : Host.Outcome State Fault Refusal :=
  s.event fun u => u.spdmUpdate m

/-- SPDM_HEARTBEAT (R461): The Keeper answers an SPDM session HEARTBEAT. -/
def execSpdmHeartbeat (m : SpdmMsg) (s : State) : Host.Outcome State Fault Refusal :=
  s.event fun u => u.spdmBeat m

/-- SPDM_END_SESSION (R461): The Keeper closes an SPDM session. -/
def execSpdmEndSession (m : SpdmMsg) (s : State) : Host.Outcome State Fault Refusal :=
  s.event fun u => u.spdmEnd m

/-- STREAM_SETUP (R470): A vendor-defined SETUP request inside a mutually authenticated session derives a context stream's keys. -/
def execStreamSetup (m : SpdmMsg) (s : State) : Host.Outcome State Fault Refusal :=
  s.event fun u => u.streamSetup m

/-- STREAM_RETIRE_REQUEST (R470): A vendor-defined RETIRE request inside an SPDM session retires a context stream. -/
def execStreamRetireRequest (m : SpdmMsg) (s : State) : Host.Outcome State Fault Refusal :=
  s.event fun u => u.streamRetireReq m

/-- RNG_FAIL (R481): A random-source health test fails and the Keeper stops making keys. -/
def execRngFail (s : State) : Host.Outcome State Fault Refusal :=
  s.event fun u => u.rngFail

/-- RNG_RECOVER (R481): The health tests pass for 1 ms and the Keeper resumes making keys. -/
def execRngRecover (s : State) : Host.Outcome State Fault Refusal :=
  s.event fun u => u.rngRecover

end Sys2Proof.Machine
end

