-- ==== Sys2Proof/Machine/CmdKeyway.lean ====
section
/-! DEFINITION. Keyway descriptors, walks, invalidations and the fault ring (R59 to R88): the meaning of each command. -/

namespace Sys2Proof.Machine

open Sys2Proof

/-- KW_LOAD (R60): KTU_KW_CMD.LOAD copies the selected keyway descriptor into KTU_KW_DATA0-7. -/
def execKwLoad (a : Path) (s : State) : Host.Outcome State Fault Refusal :=
  s.onReg a Reg.KTU_KW_CMD.OFF fun u => u.kwLoad

/-- KW_STORE (R61): KTU_KW_CMD.STORE replaces the selected descriptor if accepted and cancels its running walks. -/
def execKwStore (a : Path) (s : State) : Host.Outcome State Fault Refusal :=
  s.onReg a Reg.KTU_KW_CMD.OFF fun u => u.kwStore a

/-- KTU_LD_KEYWAY_WRITE (R63): A write changes the keyway binding of a CXL logical device if that device is quiesced. -/
def execKtuLdKeywayWrite (a : Path) (n : Nat) (v : Word) (s : State) : Host.Outcome State Fault Refusal :=
  if n < 16 then s.onReg a (Reg.KTU_LD_KEYWAY.OFF n) fun u => u.ldKeyway a n v.toNat else .next s

/-- WALK_FETCH_COMPLETE (R72): A walker read of the host range table returns, and the walk reads further, installs entries, or ends on a
malformed or failed read. -/
def execWalkFetchComplete (walk : Nat) (ok : Bool) (data : List Byte) (s : State) : Host.Outcome State Fault Refusal :=
  s.live fun u => u.fetchDone walk ok data

/-- WALK_FETCH_TIMEOUT (R73): A walk read is unanswered for WALK_TMO, the walk ends and its waiting requests are answered RETRY. -/
def execWalkFetchTimeout (walk : Nat) (s : State) : Host.Outcome State Fault Refusal :=
  s.live fun u => u.fetchDone walk false []

/-- MISS_DEQUEUE (R71): A queued miss resumes when its keyway's walk ends or a walk becomes free, and looks up the cache again. -/
def execMissDequeue (miss : Nat) (s : State) : Host.Outcome State Fault Refusal :=
  s.live fun u => u.missResume miss

/-- CHUNK_TRANSLATE_RETRY (R68): A ward chunk whose translation stopped waits out its back-off and is translated again. -/
def execChunkTranslateRetry (op chunk : Nat) (s : State) : Host.Outcome State Fault Refusal :=
  s.live fun u => u.chunkRetry op chunk

/-- CHUNK_TRANSLATE_ABORT (R68): A chunk's translations keep failing for 10 ms, and its operation ends ABORTED. -/
def execChunkTranslateAbort (op chunk : Nat) (s : State) : Host.Outcome State Fault Refusal :=
  s.live fun u => u.chunkAbort op chunk

/-- KTU_INV_CMD (R74): A write to KTU_INV_CMD starts an invalidation of range-cache entries of the given scope. -/
def execKtuInvCmd (a : Path) (v : Word) (s : State) : Host.Outcome State Fault Refusal :=
  s.onReg a Reg.KTU_INV_CMD.OFF fun u => (u.invCmd a v.toNat).1

/-- INV_DONE (R75): An invalidation's entries are removed and all work that translated through them has ended, so INV_DONE is reported and a
NOTIFY is sent if started by MGT_WRITE. -/
def execInvDone (s : State) : Host.Outcome State Fault Refusal :=
  s.live fun u => u.invFinish

/-- FLT_RING_TAIL_WRITE (R84): A write to FLT_RING_TAIL advances the manager's read index or is rejected. -/
def execFltRingTailWrite (a : Path) (v : Word) (s : State) : Host.Outcome State Fault Refusal :=
  s.onReg a Reg.FLT_RING_TAIL.OFF fun u => u.ringTailWrite a v.toNat

/-- FLT_RING_CTRL_WRITE (R86): A write to FLT_RING_CTRL changes ENABLE or the ring size, resetting HEAD and TAIL, or is rejected. -/
def execFltRingCtrlWrite (a : Path) (v : Word) (s : State) : Host.Outcome State Fault Refusal :=
  s.onReg a Reg.FLT_RING_CTRL.OFF fun u => u.ringCtrlWrite a v.toNat

end Sys2Proof.Machine
end

