-- ==== Sys2Proof/Machine/CmdLatch.lean ====
section
/-! DEFINITION. Latches (R176 to R200): the meaning of each command. -/

namespace Sys2Proof.Machine

open Sys2Proof

/-- LATCH_ADD (R185): A LATCH_ADD is applied in order after its segment, then waiters are examined and released. -/
def execLatchAdd (port : Nat) (p : Packet) (s : State) : Host.Outcome State Fault Refusal :=
  s.onPacket (fun q => q.opcode == 0x30) port p

/-- LATCH_SUB (R189): A LATCH_SUB lowers the count or is refused below zero. -/
def execLatchSub (port : Nat) (p : Packet) (s : State) : Host.Outcome State Fault Refusal :=
  s.onPacket (fun q => q.opcode == 0x31) port p

/-- LATCH_WAIT (R190): A LATCH_WAIT is satisfied on arrival or parks in the wait table. -/
def execLatchWait (port : Nat) (p : Packet) (s : State) : Host.Outcome State Fault Refusal :=
  s.onPacket (fun q => q.opcode == 0x32) port p

/-- LATCH_READ (R184): A LATCH_READ returns the current count. -/
def execLatchRead (port : Nat) (p : Packet) (s : State) : Host.Outcome State Fault Refusal :=
  s.onPacket (fun q => q.opcode == 0x33) port p

/-- LATCH_SET (R182): A LATCH_SET from the manager node sets the count and examines waiters. -/
def execLatchSet (port : Nat) (p : Packet) (s : State) : Host.Outcome State Fault Refusal :=
  s.onPacket (fun q => q.opcode == 0x34) port p

/-- LATCH_WAIT_TIMEOUT (R193): A parked LATCH_WAIT reaches its timeout and is answered TIMEOUT. -/
def execLatchWaitTimeout (wait : Nat) (s : State) : Host.Outcome State Fault Refusal :=
  s.live fun u => u.waitTimeout wait

/-- DEADLOCK_TEST (R197): Every 100 us the deadlock detector tests its three conditions and raises DEADLOCK with a snapshot when all hold. -/
def execDeadlockTest (s : State) : Host.Outcome State Fault Refusal :=
  s.live fun u => u.deadlockTest

/-- LCH_ACC_READ (R200): LCH_ACC_CMD.READ copies the selected latch count into LCH_ACC_VALUE. -/
def execLchAccRead (a : Path) (s : State) : Host.Outcome State Fault Refusal :=
  s.onReg a Reg.LCH_ACC_CMD.OFF fun u => u.lchRead

/-- LCH_ACC_SET (R200): LCH_ACC_CMD.SET sets the selected latch count as a LATCH_SET. -/
def execLchAccSet (a : Path) (s : State) : Host.Outcome State Fault Refusal :=
  s.onReg a Reg.LCH_ACC_CMD.OFF fun u => u.lchSet

/-- SNAPSHOT_RELEASE (R198): Writing 1 to LCH_DL_STAT.SNAP_VALID releases the deadlock snapshot. -/
def execSnapshotRelease (a : Path) (s : State) : Host.Outcome State Fault Refusal :=
  s.onReg a Reg.LCH_DL_STAT.OFF fun u => u.snapRelease

/-- LCH_GRP_WRITE (R180): A write to a latch group sets or changes it, and clearing VALID zeroes its counts and aborts its waits. -/
def execLchGrpWrite (a : Path) (off : Nat) (v : Word) (s : State) : Host.Outcome State Fault Refusal :=
  s.event fun u =>
    if (arrIdx (Reg.LCH_GRP.OFF 0) 4 256 (Pg.LCH + off)).isSome || (arrIdx (Reg.LCH_GRP_SHARE.OFF 0) 4 512 (Pg.LCH + off)).isSome then
      u.registerWrite a (Pg.LCH + off) (leBytes 4 v.toNat)
    else u

end Sys2Proof.Machine
end

