-- ==== Sys2Proof/Machine/CmdLate.lean ====
section
/-! DEFINITION. Rows that the table appends: expiries, core events, pins and settings of hosts: the meaning of each command. -/

namespace Sys2Proof.Machine

open Sys2Proof

/-- RESET_N_RISE (R562): RESET_N rises and the device leaves the cold reset it was held in, the cold start counting from the later of this
rise and PWR_GOOD rising. -/
def execResetNRise (b : BoardInputs) (s : State) : Host.Outcome State Fault Refusal :=
  s.always fun u => u.resetRise b

/-- WITNESS_LEASE_EXPIRY (R412): At the witness the holder's 1 ms lease runs out without renewal and the pair entry no longer has a lease in
force. -/
def execWitnessLeaseExpiry (pair : Nat) (s : State) : Host.Outcome State Fault Refusal :=
  s.live fun u => if pair < 16 then u.witExpiry pair else u

/-- CONTINUATION_TIMEOUT (R414): A holder in continuation receives no BEAT with CONT_ACK = 1 within 2 × HB_US, so it sets PAIR_VALID to 0 and
enters YIELDED. -/
def execContinuationTimeout (s : State) : Host.Outcome State Fault Refusal :=
  s.live fun u => u.contTimeout

/-- BI_HOLD_TIME_END (R222): The hold time after a grant to a CXL agent ends, and the home issues the back-invalidate snoop it has deferred. -/
def execBiHoldTimeEnd (line : Nat) (s : State) : Host.Outcome State Fault Refusal :=
  s.live fun u => u.holdEnd line

/-- VORER_WATCHDOG (R454): Firmware misses its watchdog deadline, VORER_WATCHDOG is recorded, and the hardware keeps applying the last plan. -/
def execVorerWatchdog (s : State) : Host.Outcome State Fault Refusal :=
  s.always fun u => u.watchdog

/-- VORER_EXCEPTION (R454): The Vorer core takes an exception that firmware cannot handle, a FATAL fault that halts the device or, in TRIAL,
falls back. -/
def execVorerException (s : State) : Host.Outcome State Fault Refusal :=
  s.always fun u => u.vorerTrap

/-- PLL_RELOCK (R454): An island PLL loses lock and relocks, the island pauses for up to 20 µs, and PLL_RELOCK is recorded. -/
def execPllRelock (island : Nat) (s : State) : Host.Outcome State Fault Refusal :=
  s.always fun u => u.pllRelock island

/-- DEBUG_INSTRUCTION (R480): An unlocked Ilondene debug instruction on the debug port halts, steps or accesses the Vorer core or the Keeper,
setting VORER_HALTED where it halts. -/
def execDebugInstruction (core kind : Nat) (_addr value : Nat) (s : State) : Host.Outcome State Fault Refusal :=
  s.always fun u => u.debugDo core kind value

/-- BUS_MASTER_ENABLE_WRITE (R523): A host sets or clears Bus Master Enable of a logical device, which decides whether walks can read and
whether MSI-X can be sent. -/
def execBusMasterEnableWrite (ld : Nat) (on : Bool) (s : State) : Host.Outcome State Fault Refusal :=
  s.event fun u => u.bmeWrite ld on

/-- MSIX_VECTOR_UNMASK (R523): A host unmasks an MSI-X vector, and a message pending on it is sent. -/
def execMsixVectorUnmask (ld vector : Nat) (s : State) : Host.Outcome State Fault Refusal :=
  s.event fun u => u.unmask ld vector

/-- LINK_CONTROL_BLOCK (R309): A link control block arrives with no message or a reserved message, and is processed for its CRC and MSG_ACK
only. -/
def execLinkControlBlock (port : Nat) (f : Lcb) (s : State) : Host.Outcome State Fault Refusal :=
  s.live fun u => u.lcbPlain port f

/-- MGT_READ_RESPONSE (R504): A neighbour's answer to firmware's MGT_READ of GLB_FW_VER and GLB_FW_RUN_VER arrives, and the activation or
raise check goes on. -/
def execMgtReadResponse (port : Nat) (p : Packet) (s : State) : Host.Outcome State Fault Refusal :=
  s.onPacket (fun q => q.opcode == 0xE1) port p

/-- VSB_1V8_REMOVED (R572): VSB_1V8 is removed, and the thermal-trip latch and THERMTRIP_SEEN are lost. -/
def execVsb1v8Removed (s : State) : Host.Outcome State Fault Refusal :=
  s.always fun u => u.standbyLost

/-- RAIL_OUT_OF_TOLERANCE (R558): A rail leaves its tolerance for more than 10 µs while PWR_GOOD is high, and the result of every operation in
flight becomes undefined. -/
def execRailOutOfTolerance (s : State) : Host.Outcome State Fault Refusal :=
  s.always fun u => u.railOut

/-- DYNAMIC_ADDRESS_ASSIGN (R566): The I3C controller assigns the device a dynamic address by SETDASA or ENTDAA. -/
def execDynamicAddressAssign (addr : Nat) (s : State) : Host.Outcome State Fault Refusal :=
  s.always fun u => u.sidebandDo fun w => w.assignAddress addr

/-- CXL_RESET_MEM_CLR_DONE (R525): The memory clear of a CXL Reset with Mem Clr Enable finishes filling the LD's partitions. -/
def execCxlResetMemClrDone (ld : Nat) (s : State) : Host.Outcome State Fault Refusal :=
  s.event fun u => u.clearDone ld

end Sys2Proof.Machine
end

