-- ==== Sys2Proof/Machine/CmdLink.lean ====
section
/-! DEFINITION. The Swiette link (R287 to R322): the meaning of each command. -/

namespace Sys2Proof.Machine

open Sys2Proof

/-- FLIT_SLOT (R289): A flit slot comes due on a port and a flit, idle flit, replayed flit or link control block is sent. -/
def execFlitSlot (port : Nat) (s : State) : Host.Outcome State Fault Refusal :=
  s.live fun u => u.portDo port fun w => w.flitSlot port

/-- FLIT_RECEIVE (R295): A flit arrives and is classified good, gap, duplicate or bad, and its trailer is processed. -/
def execFlitReceive (port : Nat) (f : Flit) (s : State) : Host.Outcome State Fault Refusal :=
  s.live fun u => u.flitIn port f

/-- REPLAY_TIMEOUT (R298): No acknowledgement advances for REPLAY_TMO and the sender replays from the oldest unacknowledged flit. -/
def execReplayTimeout (port : Nat) (s : State) : Host.Outcome State Fault Refusal :=
  s.live fun u => u.portDo port fun w => w.replayTimeout port

/-- HELLO (R309): A HELLO message is received in a link control block during bring-up. -/
def execHello (port : Nat) (f : Lcb) (s : State) : Host.Outcome State Fault Refusal :=
  s.live fun u => u.lcbIn port f 1 State.helloMsg

/-- IDENTITY (R466): A piece of the peer's certificate chain is received in an IDENTITY message. -/
def execIdentity (port : Nat) (f : Lcb) (s : State) : Host.Outcome State Fault Refusal :=
  s.live fun u => u.lcbIn port f 2 State.identityMsg

/-- KEY_SHARE (R466): A peer's signed X25519 key share is received and verified. -/
def execKeyShare (port : Nat) (f : Lcb) (s : State) : Host.Outcome State Fault Refusal :=
  s.live fun u => u.lcbIn port f 3 State.shareMsg

/-- KEY_CONFIRM (R467): A peer's key confirmation is received and checked, completing authentication. -/
def execKeyConfirm (port : Nat) (f : Lcb) (s : State) : Host.Outcome State Fault Refusal :=
  s.live fun u => u.lcbIn port f 4 State.confirmMsg

/-- RETRAIN (R312): A RETRAIN message is received and the port retrains to the negotiated width and speed. -/
def execRetrain (port : Nat) (f : Lcb) (s : State) : Host.Outcome State Fault Refusal :=
  s.live fun u => u.lcbIn port f 5 State.retrainMsg

/-- REKEY_SHARE (R317): A peer's rekey share is received under the current key phase. -/
def execRekeyShare (port : Nat) (f : Lcb) (s : State) : Host.Outcome State Fault Refusal :=
  s.live fun u => u.lcbIn port f 6 State.rekeyShareMsg

/-- REKEY_CONFIRM (R317): A peer's rekey confirmation is received and the key phase flips. -/
def execRekeyConfirm (port : Nat) (f : Lcb) (s : State) : Host.Outcome State Fault Refusal :=
  s.live fun u => u.lcbIn port f 7 State.rekeyConfirmMsg

/-- SWP_RETRAIN_WRITE (R310): A write of SWP_CTRL.RETRAIN or a change of TGT_WIDTH or TGT_SPEED starts a retrain. -/
def execSwpRetrainWrite (a : Path) (port : Nat) (v : Word) (s : State) : Host.Outcome State Fault Refusal :=
  s.event fun u => u.portDo port fun w => w.regCmd a (Reg.SWP_CTRL.OFF port) fun x => x.swpCtrlWrite port v.toNat

/-- RETRAIN_COMPLETE (R312): The retraining lanes reach ACTIVE and replay resumes from the peer's E. -/
def execRetrainComplete (port width speed : Nat) (s : State) : Host.Outcome State Fault Refusal :=
  s.live fun u => u.portDo port fun w => w.retrainDone port width speed

/-- RETRAIN_TIMEOUT (R312): A retrain does not reach ACTIVE within 20 us and is tried again, or the port goes DOWN. -/
def execRetrainTimeout (port : Nat) (s : State) : Host.Outcome State Fault Refusal :=
  s.live fun u => u.portDo port fun w => w.retrainFail port

/-- BRINGUP_ATTEMPT (R320): The bring-up interval of a DOWN port elapses and, with a signal on the lanes, training starts. -/
def execBringupAttempt (port : Nat) (s : State) : Host.Outcome State Fault Refusal :=
  s.live fun u => u.portDo port fun w => w.bringup port

/-- LANES_TRAINED (R320): Lanes train and HELLOs are exchanged, and the port moves to AUTH. -/
def execLanesTrained (port width speed : Nat) (s : State) : Host.Outcome State Fault Refusal :=
  s.live fun u => u.portDo port fun w => w.lanesTrained port width speed

/-- TRAINING_TIMEOUT (R320): No lane trains within 2 ms and the port returns to DOWN. -/
def execTrainingTimeout (port : Nat) (s : State) : Host.Outcome State Fault Refusal :=
  s.live fun u => u.portDo port fun w => if w.portState port = 2 ∧ !(w.lnk port).trained then w.portDown port else w

/-- AUTH_TIMEOUT (R320): Authentication does not complete within 5 ms and the port goes DOWN with AUTH_FAIL. -/
def execAuthTimeout (port : Nat) (s : State) : Host.Outcome State Fault Refusal :=
  s.live fun u => u.portDo port fun w => if w.portState port = 3 then w.authFail port else w

/-- REKEY_START (R317): A direction reaches REKEY_S seconds or 2^32 packets under its key and a rekey begins. -/
def execRekeyStart (port : Nat) (s : State) : Host.Outcome State Fault Refusal :=
  s.live fun u => u.portDo port fun w => w.rekeyStart port

/-- REKEY_TIMEOUT (R319): A rekey has not completed 100 ms after it started, REKEY_FAIL is recorded and it restarts. -/
def execRekeyTimeout (port : Nat) (s : State) : Host.Outcome State Fault Refusal :=
  s.live fun u => u.portDo port fun w => w.rekeyLate port

end Sys2Proof.Machine
end

