-- ==== Sys2Proof/Machine/CmdPool.lean ====
section
/-! DEFINITION. The pool: plain requests, the ordering contract, partitions, grants and quiesce (R18 to R57): the meaning of each command. -/

namespace Sys2Proof.Machine

open Sys2Proof

/-- READ (R19): A READ request is admitted, translated and checked, and answered with RLEN bytes and the poison mask. -/
def execRead (port : Nat) (p : Packet) (s : State) : Host.Outcome State Fault Refusal :=
  s.onPacket (fun q => q.opcode == 1) port p

/-- WRITE (R19): A WRITE request is admitted, translated and checked, and its payload is committed to the stack controller. -/
def execWrite (port : Nat) (p : Packet) (s : State) : Host.Outcome State Fault Refusal :=
  s.onPacket (fun q => q.opcode == 2) port p

/-- WRITE_MASKED (R19): A WRITE_MASKED request writes the enabled bytes of its data at OFFSET. -/
def execWriteMasked (port : Nat) (p : Packet) (s : State) : Host.Outcome State Fault Refusal :=
  s.onPacket (fun q => q.opcode == 3) port p

/-- SEQ_GAP_TIMEOUT (R48): An ORDERED request's gap timer expires: missing numbers are declared lost, C advances and the ORDERED request is
answered ABORTED. -/
def execSeqGapTimeout (node seq : Nat) (s : State) : Host.Outcome State Fault Refusal :=
  s.live fun u => u.gapTimeout node seq

/-- SEQ_ENTRY_WINDOW_END (R45): GAP_TMO after a per-source entry started passes, and stragglers are no longer answered ABORTED. -/
def execSeqEntryWindowEnd (node : Nat) (s : State) : Host.Outcome State Fault Refusal :=
  s.live fun u => u.windowEnd node

/-- ORDERED_START (R46): A waiting ORDERED or overlapping request starts once every lower-numbered request it waits on has committed. -/
def execOrderedStart (node seq : Nat) (s : State) : Host.Outcome State Fault Refusal :=
  s.live fun u => u.orderedStart node seq

/-- PTN_ENTRY_WRITE (R21): A write to a partition entry register is accepted, validating or moving the entry, or rejected. -/
def execPtnEntryWrite (a : Path) (entry reg : Nat) (v : Word) (s : State) : Host.Outcome State Fault Refusal :=
  if entry < 64 ∧ reg < 4 then
    s.onReg a (Reg.PTN_BASE.OFF entry + 4 * reg) fun u => u.ptnWrite a entry reg v.toNat
  else .next s

/-- PTN_GNT_WRITE (R32): A write to a share grant is accepted or rejected under the grant conditions. -/
def execPtnGntWrite (a : Path) (k : Nat) (v : Word) (s : State) : Host.Outcome State Fault Refusal :=
  if k < 256 then s.onReg a (Reg.PTN_GNT.OFF k) fun u => u.gntWrite a k v.toNat else .next s

/-- PTN_SUB_QSC_WRITE (R26): A write to PTN_SUB_QSC starts or ends the quiesce of subscribers. -/
def execPtnSubQscWrite (a : Path) (v : DWord) (s : State) : Host.Outcome State Fault Refusal :=
  s.onReg a Reg.PTN_SUB_QSC.OFF fun u => u.qscWrite v.toNat

/-- QUIESCE_COMPLETE (R27): The last admitted request of a quiesced subscriber leaves the chip and its PTN_SUB_QSD bit becomes 1. -/
def execQuiesceComplete (sub : Nat) (s : State) : Host.Outcome State Fault Refusal :=
  s.live fun u => if sub < 64 then u.quiesceDone sub else u

/-- PTN_INIT (R30): A write to PTN_INIT starts a FILL of a whole partition entry, or is rejected. -/
def execPtnInit (a : Path) (v : Word) (s : State) : Host.Outcome State Fault Refusal :=
  s.onReg a Reg.PTN_INIT.OFF fun u => u.initWrite a v.toNat

/-- PTN_INIT_DONE (R30): The PTN_INIT fill completes, INITIALISED is set and DONE is shown. -/
def execPtnInitDone (s : State) : Host.Outcome State Fault Refusal :=
  s.live fun u => u.initDone

/-- PTN_INIT_STOP (R30): A running PTN_INIT fill stops at its next chunk after its entry is moved, resized or freed, or a block reset, and
STOPPED is set. -/
def execPtnInitStop (s : State) : Host.Outcome State Fault Refusal :=
  s.live fun u => u.initStopped

end Sys2Proof.Machine
end

