-- ==== Sys2Proof/Machine/CmdShaper.lean ====
section
/-! DEFINITION. The traffic shaper (R360 to R376): the meaning of each command. -/

namespace Sys2Proof.Machine

open Sys2Proof

/-- BUCKET_REFILL (R362): Every 64 ns each subscriber bucket is refilled at its rate up to its burst. -/
def execBucketRefill (s : State) : Host.Outcome State Fault Refusal :=
  s.live fun u => u.refillAll

/-- CALENDAR_SLOT (R368): The calendar wheel reaches a 64 ns slot and makes its class queues eligible. -/
def execCalendarSlot (port : Nat) (s : State) : Host.Outcome State Fault Refusal :=
  s.live fun u => u.calendarSlot port

/-- CONGESTION_SAMPLE (R370): Every 1 us the shaper computes each port's congestion value. -/
def execCongestionSample (s : State) : Host.Outcome State Fault Refusal :=
  s.live fun u => u.sampleCongestion

/-- HISTOGRAM_SAMPLE (R374): Every 1 us the shaper samples queue depths and delays into histogram bins. -/
def execHistogramSample (s : State) : Host.Outcome State Fault Refusal :=
  s.live fun u => u.sampleHist

/-- TSH_HIST_CLEAR (R374): TSH_HIST_CTRL.CLEAR sets every histogram bin to zero. -/
def execTshHistClear (a : Path) (s : State) : Host.Outcome State Fault Refusal :=
  s.onReg a Reg.TSH_HIST_CTRL.OFF fun u => u.histClear

end Sys2Proof.Machine
end

