-- ==== Sys2Proof/Machine/CmdStack.lean ====
section
/-! DEFINITION. Stack controllers (R239 to R286): the meaning of each command. -/

namespace Sys2Proof.Machine

open Sys2Proof

/-- SC_CH_QSC_WRITE (R244): A write to SC_CH_QSC quiesces or releases stack channels. -/
def execScChQscWrite (a : Path) (stack : Nat) (v : Word) (s : State) : Host.Outcome State Fault Refusal :=
  s.event fun u => u.stackDo stack fun w => w.regCmd a (Reg.SC_CH_QSC.OFF stack) fun x => x.chQscWrite stack v.toNat

/-- CHANNEL_QUIESCE_DONE (R244): A quiesced channel becomes idle and its SC_CH_QSD bit reads 1. -/
def execChannelQuiesceDone (stack ch : Nat) (s : State) : Host.Outcome State Fault Refusal :=
  s.live fun u => u.stackDo stack fun w => if ch < 32 then w.chQuiesced stack ch else w

/-- SC_TIMING_WRITE (R243): A write to SC_DLY or SC_TIM registers is accepted only while the channels are quiesced. -/
def execScTimingWrite (a : Path) (stack off : Nat) (v : Word) (s : State) : Host.Outcome State Fault Refusal :=
  s.event fun u => u.stackDo stack fun w =>
    if timingReg off then w.regCmd a (Pg.SC stack + off) fun x => x.timingWrite a stack off v.toNat else w

/-- ARBITER_GRANT (R255): Each cycle the stack-gate arbiter grants one eligible access by lottery or by starvation rule. -/
def execArbiterGrant (stack : Nat) (s : State) : Host.Outcome State Fault Refusal :=
  s.live fun u => u.stackDo stack fun w => w.arbitrate stack

/-- SECTOR_COMMAND_ISSUE (R247): The stack controller issues the next sector read or write command to a pseudo-channel. -/
def execSectorCommandIssue (stack ch pc : Nat) (s : State) : Host.Outcome State Fault Refusal :=
  s.live fun u => u.stackDo stack fun w => if ch < 32 ∧ pc < 2 then w.issueNext stack (stack * 64 + ch * 2 + pc) else w

/-- REFRESH_DUE (R260): A bank's per-bank refresh interval expires and its refresh is issued or postponed. -/
def execRefreshDue (stack ch pc bank : Nat) (s : State) : Host.Outcome State Fault Refusal :=
  s.live fun u => u.stackDo stack fun w => if ch < 32 ∧ pc < 2 ∧ bank < 32 then w.refreshDue (stack * 64 + ch * 2 + pc) bank else w

/-- SECTOR_READ_COMPLETE (R267): A sector read returns and is decoded as CLEAN, CORRECTED, POISONED or UNCORRECTABLE and handled. -/
def execSectorReadComplete (requester ppa : Nat) (flips : List (Nat × Nat)) (s : State) : Host.Outcome State Fault Refusal :=
  s.live fun u => if requester < 17 ∧ ppa < u.part.ppaEnd then u.readReturns ppa flips else u

/-- SCRUB_READ (R270): The scrubber reads the next sector of an initialised partition or spare in use. -/
def execScrubRead (stack : Nat) (s : State) : Host.Outcome State Fault Refusal :=
  s.live fun u => u.stackDo stack fun w => w.scrub stack

/-- CE_BUCKET_LEAK (R274): The correctable-error leaky bucket loses LEAK counts each second. -/
def execCeBucketLeak (stack : Nat) (s : State) : Host.Outcome State Fault Refusal :=
  s.live fun u => u.stackDo stack fun w => w.bucketLeak stack

/-- RETIREMENT_COPY_DONE (R277): The spare's sectors have committed, the remap is installed, the lock released and BLOCK_RETIRED recorded. -/
def execRetirementCopyDone (stack granule : Nat) (s : State) : Host.Outcome State Fault Refusal :=
  s.live fun u => u.stackDo stack fun w => w.retireDone stack granule

/-- RETIREMENT_LOG (R280): Firmware appends a retirement to the flash log area. -/
def execRetirementLog (stack granule : Nat) (s : State) : Host.Outcome State Fault Refusal :=
  s.live fun u => u.stackDo stack fun w => if w.sc.unlogged.contains (stack, granule) then w.logRetire stack granule else w

/-- SC_OFFLINE (R281): A write of SC_CTRL.OFFLINE fails the stack. -/
def execScOffline (a : Path) (stack : Nat) (v : Word) (s : State) : Host.Outcome State Fault Refusal :=
  s.event fun u => u.stackDo stack fun w => w.regCmd a (Reg.SC_CTRL.OFF stack) fun x => x.scCtrl stack v.toNat

/-- STACK_FAULT (R281): A stack reports an internal failure or stops answering, and enters FAILED. -/
def execStackFault (stack : Nat) (s : State) : Host.Outcome State Fault Refusal :=
  s.live fun u => u.stackFault stack

/-- STACK_TEMP_SAMPLE (R284): Every 100 us the controller reads its stack temperature and sets or clears HOT. -/
def execStackTempSample (stack temp : Nat) (s : State) : Host.Outcome State Fault Refusal :=
  s.event fun u => u.stackSample stack temp

end Sys2Proof.Machine
end

