-- ==== Sys2Proof/Machine/CmdStart.lean ====
section
/-! DEFINITION. Pins, start-up, settings and update (R484 to R511, R559 to R573): the meaning of each command. -/

namespace Sys2Proof.Machine

open Sys2Proof

/-- PWR_GOOD_RISE (R497): PWR_GOOD rises and a cold start runs through to READY. -/
def execPwrGoodRise (b : BoardInputs) (s : State) : Host.Outcome State Fault Refusal :=
  s.always fun u => u.powerRise b

/-- PWR_GOOD_FALL (R560): PWR_GOOD falls and the device stops admission, idles SerDes and stops flash writes. -/
def execPwrGoodFall (s : State) : Host.Outcome State Fault Refusal :=
  s.always fun u => u.powerFall

/-- RESET_N (R562): RESET_N held low starts a cold reset. -/
def execResetN (s : State) : Host.Outcome State Fault Refusal :=
  s.always fun u => u.resetFall

/-- WARM_RESET_N (R564): A falling edge and low on WARM_RESET_N starts a warm reset. -/
def execWarmResetN (s : State) : Host.Outcome State Fault Refusal :=
  s.always fun u => u.warmFall

/-- WARM_RESET_N_RISE (R564): WARM_RESET_N rises and a warm reset waiting at step 5 resumes. -/
def execWarmResetNRise (s : State) : Host.Outcome State Fault Refusal :=
  s.always fun u => u.warmRise

/-- THERMTRIP (R571): A sensor reaches its trip limit, THERMTRIP_N is latched low and clocks stop. -/
def execThermtrip (s : State) : Host.Outcome State Fault Refusal :=
  s.always fun u => u.tripGo

/-- REFCLK_LOST (R561): A reference clock stops while PWR_GOOD is high, a FATAL fault. -/
def execRefclkLost (s : State) : Host.Outcome State Fault Refusal :=
  s.always fun u => u.clockLost

/-- CONTROLLER_TEMP_SAMPLE (R569): Every 100 us the thermal monitor reads the controller sensors. -/
def execControllerTempSample (readings : List Nat) (s : State) : Host.Outcome State Fault Refusal :=
  s.event fun u => u.tempSample readings

/-- SETTINGS_SAVE (R494): GLB_SET_CMD.SAVE writes current settings into the unused settings record. -/
def execSettingsSave (a : Path) (s : State) : Host.Outcome State Fault Refusal :=
  s.onReg a Reg.GLB_SET_CMD.OFF fun u => u.setCmd a 1

/-- SETTINGS_ERASE (R494): GLB_SET_CMD.ERASE erases both settings records. -/
def execSettingsErase (a : Path) (s : State) : Host.Outcome State Fault Refusal :=
  s.onReg a Reg.GLB_SET_CMD.OFF fun u => u.setCmd a 2

/-- SETTINGS_SAVE_DONE (R494): The settings flash write and read-back end, showing DONE or counting a flash error. -/
def execSettingsSaveDone (ok : Bool) (s : State) : Host.Outcome State Fault Refusal :=
  s.event fun u => u.settingsDone ok

/-- LOG_SELECT (R496): A write of GLB_LOG_SEL fetches a flash log entry into GLB_LOG_DATA. -/
def execLogSelect (a : Path) (v : Word) (s : State) : Host.Outcome State Fault Refusal :=
  s.onReg a Reg.GLB_LOG_SEL.OFF fun u => u.logSelect v.toNat

/-- FW_CHUNK (R502): An FW_CHUNK writes part of an image to staging, or is refused. -/
def execFwChunk (port : Nat) (p : Packet) (s : State) : Host.Outcome State Fault Refusal :=
  s.onPacket (fun q => q.opcode == 0x64) port p

/-- IMAGE_VERIFY_DONE (R502): The Keeper finishes verifying the staged image and staging becomes STAGED or IDLE. -/
def execImageVerifyDone (s : State) : Host.Outcome State Fault Refusal :=
  s.event fun u => u.verifyDone

/-- FW_FORWARD_RESPONSE (R503): A downstream unit answers a forwarded chunk and forwarding continues or resends. -/
def execFwForwardResponse (port : Nat) (p : Packet) (s : State) : Host.Outcome State Fault Refusal :=
  s.onPacket (fun q => q.opcode == 0xE4) port p

/-- FW_FORWARD_TIMEOUT (R503): A forwarded chunk is unanswered for 100 ms and forwarding stops with FWD_FAIL. -/
def execFwForwardTimeout (s : State) : Host.Outcome State Fault Refusal :=
  s.live fun u => u.fwdTimeout

/-- FW_ACTIVATE (R504): GLB_FW_CTRL.ACTIVATE or Activate FW checks compatibility and starts activation, or refuses it. -/
def execFwActivate (a : Path) (s : State) : Host.Outcome State Fault Refusal :=
  s.onReg a Reg.GLB_FW_CTRL.OFF fun u => u.activate a none

/-- COMPAT_UNCHECKED (R504): A neighbour does not answer the version read within 1 ms and is not checked. -/
def execCompatUnchecked (s : State) : Host.Outcome State Fault Refusal :=
  s.event fun u => u.compatUnchecked

/-- ACTIVATION_PRELOAD_DONE (R506): The staged image is in the carve-out and checked, so the loader pauses Vorer and starts the new image in
TRIAL. -/
def execActivationPreloadDone (s : State) : Host.Outcome State Fault Refusal :=
  s.event fun u => u.preloadDone

/-- FW_CONFIRM (R506): A write of GLB_FW_CTRL.CONFIRM gives the manager's confirmation. -/
def execFwConfirm (a : Path) (s : State) : Host.Outcome State Fault Refusal :=
  s.onReg a Reg.GLB_FW_CTRL.OFF fun u => u.fwConfirm

/-- HEALTH_CONFIRMED (R506): The new image confirms its health and starts the commit copy. -/
def execHealthConfirmed (s : State) : Host.Outcome State Fault Refusal :=
  s.event fun u => u.healthConfirmed

/-- HEALTH_TIMEOUT (R507): Confirmation has not come within HEALTH_S and the loader falls back to the old image. -/
def execHealthTimeout (s : State) : Host.Outcome State Fault Refusal :=
  s.event fun u => u.healthTimeout

/-- COMMIT_COPY_DONE (R506): The copy of staging to the image slot ends, verified or failed. -/
def execCommitCopyDone (ok : Bool) (s : State) : Host.Outcome State Fault Refusal :=
  s.event fun u => u.commitDone ok

/-- FW_RAISE (R508): A write of GLB_FW_CTRL.RAISE narrows the version ranges to CUR, or is rejected. -/
def execFwRaise (a : Path) (s : State) : Host.Outcome State Fault Refusal :=
  s.onReg a Reg.GLB_FW_CTRL.OFF fun u => u.raise a

end Sys2Proof.Machine
end

