-- ==== Sys2Proof/Machine/CmdWard.lean ====
section
/-! DEFINITION. Ward operations (R89 to R137): the meaning of each command. -/

namespace Sys2Proof.Machine

open Sys2Proof

/-- FILL (R107): A FILL request is admitted to the dispatcher and sets its range to the repeated pattern. -/
def execFill (port : Nat) (p : Packet) (s : State) : Host.Outcome State Fault Refusal :=
  s.onPacket (fun q => q.opcode == 0x10) port p

/-- COPY (R108): A COPY request is admitted and copies its source range to its destination range on this chip. -/
def execCopy (port : Nat) (p : Packet) (s : State) : Host.Outcome State Fault Refusal :=
  s.onPacket (fun q => q.opcode == 0x11) port p

/-- COPY_REMOTE (R109): A COPY_REMOTE request is admitted and copies its local source to another chip as WRITEs. -/
def execCopyRemote (port : Nat) (p : Packet) (s : State) : Host.Outcome State Fault Refusal :=
  s.onPacket (fun q => q.opcode == 0x15) port p

/-- COMPARE (R113): A COMPARE request is admitted and compares two ranges or one range against a pattern. -/
def execCompare (port : Nat) (p : Packet) (s : State) : Host.Outcome State Fault Refusal :=
  s.onPacket (fun q => q.opcode == 0x12) port p

/-- REDUCE (R115): A REDUCE request is admitted and reduces up to 16 source ranges into a destination. -/
def execReduce (port : Nat) (p : Packet) (s : State) : Host.Outcome State Fault Refusal :=
  s.onPacket (fun q => q.opcode == 0x13) port p

/-- GATHER_REDUCE (R116): A GATHER_REDUCE request is admitted and reduces indexed table rows into bags. -/
def execGatherReduce (port : Nat) (p : Packet) (s : State) : Host.Outcome State Fault Refusal :=
  s.onPacket (fun q => q.opcode == 0x14) port p

/-- ATOMIC (R119): An ATOMIC request applies its function to the target and returns the old value. -/
def execAtomic (port : Nat) (p : Packet) (s : State) : Host.Outcome State Fault Refusal :=
  s.onPacket (fun q => q.opcode == 0x18) port p

/-- COL_REDUCE (R121): A COL_REDUCE request at the root starts a tree reduction over a multicast group. -/
def execColReduce (port : Nat) (p : Packet) (s : State) : Host.Outcome State Fault Refusal :=
  s.onPacket (fun q => q.opcode == 0x23 && decide (q.vc < 4)) port p

/-- CHUNK_ISSUE (R90): The dispatcher issues a chunk of an admitted operation to its engines once latch wait, shaper and planner allow. -/
def execChunkIssue (op chunk engine : Nat) (s : State) : Host.Outcome State Fault Refusal :=
  s.live fun u => u.chunkIssue op chunk engine

/-- CHUNK_COMPLETE (R90): A chunk finishes on its engines, and the operation completes, signals DONE_LATCH and answers if it was the last. -/
def execChunkComplete (op chunk : Nat) (s : State) : Host.Outcome State Fault Refusal :=
  s.live fun u => u.chunkComplete op chunk

/-- REMOTE_WRITE_RESPONSE (R111): A response to a COPY_REMOTE WRITE arrives and the operation continues, resends, or ends. -/
def execRemoteWriteResponse (port : Nat) (p : Packet) (s : State) : Host.Outcome State Fault Refusal :=
  s.onPacket (fun q => q.opcode == 0x82) port p

/-- REMOTE_WRITE_RESEND (R111): A remote WRITE answered RETRY is sent again as a new request after its back-off hint. -/
def execRemoteWriteResend (op idx : Nat) (s : State) : Host.Outcome State Fault Refusal :=
  s.live fun u => u.remoteResend op idx

/-- REMOTE_WRITE_TIMEOUT (R111): A remote WRITE is unanswered for 10 ms and the COPY_REMOTE ends ABORTED with REMOTE_FAIL. -/
def execRemoteWriteTimeout (op idx : Nat) (s : State) : Host.Outcome State Fault Refusal :=
  s.live fun u => u.remoteTimeout op idx

/-- COL_DESCRIPTOR (R122): A member receives a COL_REDUCE descriptor on the COL channels and reduces its own range. -/
def execColDescriptor (port : Nat) (p : Packet) (s : State) : Host.Outcome State Fault Refusal :=
  s.onPacket (fun q => q.opcode == 0x23 && decide (4 ≤ q.vc) && (s.colOp q).isNone) port p

/-- COL_PARTIAL (R122): A member receives FP32 partials from a child and merges them, forwarding or answering when complete. -/
def execColPartial (port : Nat) (p : Packet) (s : State) : Host.Outcome State Fault Refusal :=
  s.onPacket (fun q => q.opcode == 0x23 && decide (4 ≤ q.vc) && (s.colOp q).isSome) port p

/-- COL_TIMEOUT (R123): A parent has not heard from a child within COL_TMO and the COL_REDUCE ends ABORTED. -/
def execColTimeout (merge child : Nat) (s : State) : Host.Outcome State Fault Refusal :=
  s.live fun u => u.colTimeout merge child

/-- WARD_WAIT_TIMEOUT (R124): A ward operation waiting on WAIT_LATCH reaches WAIT_TMO and ends ABORTED. -/
def execWardWaitTimeout (op : Nat) (s : State) : Host.Outcome State Fault Refusal :=
  s.live fun u => u.wardWaitTimeout op

/-- QUANTUM_EXPIRY (R128): A context has held an engine for QUANTUM while another waits, so the engine finishes its chunk, clears scratch and
switches context. -/
def execQuantumExpiry (engine : Nat) (s : State) : Host.Outcome State Fault Refusal :=
  s.live fun u => u.quantumExpiry engine

/-- WRD_CTX_WRITE (R127): A write to WRD_CTX_n sets or clears a context, aborting its admitted operations when VALID is cleared. -/
def execWrdCtxWrite (a : Path) (n : Nat) (v : Word) (s : State) : Host.Outcome State Fault Refusal :=
  if n < 256 then s.onReg a (Reg.WRD_CTX.OFF n) fun u => u.ctxWrite a n v.toNat else .next s

/-- ENGINE_FAULT (R136): A ward engine leaves service on an internal error. -/
def execEngineFault (engine : Nat) (s : State) : Host.Outcome State Fault Refusal :=
  s.live fun u => u.engineFault engine

end Sys2Proof.Machine
end

