-- ==== Sys2Proof/Machine/Dispatch.lean ====
section
/-! DEFINITION. Which meaning each command has: one arm per row of the table of operations and events. -/

namespace Sys2Proof.Machine

def exec (i : Instr) (s : State) : Host.Outcome State Fault Refusal :=
  match i with
  | .read port p => Sys2Proof.Machine.execRead port p s
  | .write port p => Sys2Proof.Machine.execWrite port p s
  | .writeMasked port p => Sys2Proof.Machine.execWriteMasked port p s
  | .seqGapTimeout node seq => Sys2Proof.Machine.execSeqGapTimeout node seq s
  | .seqEntryWindowEnd node => Sys2Proof.Machine.execSeqEntryWindowEnd node s
  | .orderedStart node seq => Sys2Proof.Machine.execOrderedStart node seq s
  | .ptnEntryWrite a entry reg v => Sys2Proof.Machine.execPtnEntryWrite a entry reg v s
  | .ptnGntWrite a k v => Sys2Proof.Machine.execPtnGntWrite a k v s
  | .ptnSubQscWrite a v => Sys2Proof.Machine.execPtnSubQscWrite a v s
  | .quiesceComplete sub => Sys2Proof.Machine.execQuiesceComplete sub s
  | .ptnInit a v => Sys2Proof.Machine.execPtnInit a v s
  | .ptnInitDone => Sys2Proof.Machine.execPtnInitDone s
  | .ptnInitStop => Sys2Proof.Machine.execPtnInitStop s
  | .kwLoad a => Sys2Proof.Machine.execKwLoad a s
  | .kwStore a => Sys2Proof.Machine.execKwStore a s
  | .ktuLdKeywayWrite a n v => Sys2Proof.Machine.execKtuLdKeywayWrite a n v s
  | .walkFetchComplete walk ok data => Sys2Proof.Machine.execWalkFetchComplete walk ok data s
  | .walkFetchTimeout walk => Sys2Proof.Machine.execWalkFetchTimeout walk s
  | .missDequeue miss => Sys2Proof.Machine.execMissDequeue miss s
  | .chunkTranslateRetry op chunk => Sys2Proof.Machine.execChunkTranslateRetry op chunk s
  | .chunkTranslateAbort op chunk => Sys2Proof.Machine.execChunkTranslateAbort op chunk s
  | .ktuInvCmd a v => Sys2Proof.Machine.execKtuInvCmd a v s
  | .invDone => Sys2Proof.Machine.execInvDone s
  | .fltRingTailWrite a v => Sys2Proof.Machine.execFltRingTailWrite a v s
  | .fltRingCtrlWrite a v => Sys2Proof.Machine.execFltRingCtrlWrite a v s
  | .fill port p => Sys2Proof.Machine.execFill port p s
  | .copy port p => Sys2Proof.Machine.execCopy port p s
  | .copyRemote port p => Sys2Proof.Machine.execCopyRemote port p s
  | .compare port p => Sys2Proof.Machine.execCompare port p s
  | .reduce port p => Sys2Proof.Machine.execReduce port p s
  | .gatherReduce port p => Sys2Proof.Machine.execGatherReduce port p s
  | .atomic port p => Sys2Proof.Machine.execAtomic port p s
  | .colReduce port p => Sys2Proof.Machine.execColReduce port p s
  | .chunkIssue op chunk engine => Sys2Proof.Machine.execChunkIssue op chunk engine s
  | .chunkComplete op chunk => Sys2Proof.Machine.execChunkComplete op chunk s
  | .remoteWriteResponse port p => Sys2Proof.Machine.execRemoteWriteResponse port p s
  | .remoteWriteResend op idx => Sys2Proof.Machine.execRemoteWriteResend op idx s
  | .remoteWriteTimeout op idx => Sys2Proof.Machine.execRemoteWriteTimeout op idx s
  | .colDescriptor port p => Sys2Proof.Machine.execColDescriptor port p s
  | .colPartial port p => Sys2Proof.Machine.execColPartial port p s
  | .colTimeout merge child => Sys2Proof.Machine.execColTimeout merge child s
  | .wardWaitTimeout op => Sys2Proof.Machine.execWardWaitTimeout op s
  | .quantumExpiry engine => Sys2Proof.Machine.execQuantumExpiry engine s
  | .wrdCtxWrite a n v => Sys2Proof.Machine.execWrdCtxWrite a n v s
  | .engineFault engine => Sys2Proof.Machine.execEngineFault engine s
  | .kvAppend port p => Sys2Proof.Machine.execKvAppend port p s
  | .attend port p => Sys2Proof.Machine.execAttend port p s
  | .attendMergeDescend port p => Sys2Proof.Machine.execAttendMergeDescend port p s
  | .attendMergePartial port p => Sys2Proof.Machine.execAttendMergePartial port p s
  | .mergeTimeout merge child => Sys2Proof.Machine.execMergeTimeout merge child s
  | .latchAdd port p => Sys2Proof.Machine.execLatchAdd port p s
  | .latchSub port p => Sys2Proof.Machine.execLatchSub port p s
  | .latchWait port p => Sys2Proof.Machine.execLatchWait port p s
  | .latchRead port p => Sys2Proof.Machine.execLatchRead port p s
  | .latchSet port p => Sys2Proof.Machine.execLatchSet port p s
  | .latchWaitTimeout wait => Sys2Proof.Machine.execLatchWaitTimeout wait s
  | .deadlockTest => Sys2Proof.Machine.execDeadlockTest s
  | .lchAccRead a => Sys2Proof.Machine.execLchAccRead a s
  | .lchAccSet a => Sys2Proof.Machine.execLchAccSet a s
  | .snapshotRelease a => Sys2Proof.Machine.execSnapshotRelease a s
  | .lchGrpWrite a off v => Sys2Proof.Machine.execLchGrpWrite a off v s
  | .rdShared port p => Sys2Proof.Machine.execRdShared port p s
  | .rdOwn port p => Sys2Proof.Machine.execRdOwn port p s
  | .upgrade port p => Sys2Proof.Machine.execUpgrade port p s
  | .rdCur port p => Sys2Proof.Machine.execRdCur port p s
  | .wbDirty port p => Sys2Proof.Machine.execWbDirty port p s
  | .evictClean port p => Sys2Proof.Machine.execEvictClean port p s
  | .snoopResponse port p => Sys2Proof.Machine.execSnoopResponse port p s
  | .compAck port p => Sys2Proof.Machine.execCompAck port p s
  | .snoopTimeout line agent => Sys2Proof.Machine.execSnoopTimeout line agent s
  | .dirAgentWrite a slot v => Sys2Proof.Machine.execDirAgentWrite a slot v s
  | .dirFence a agent => Sys2Proof.Machine.execDirFence a agent s
  | .dirFenceDone agent => Sys2Proof.Machine.execDirFenceDone agent s
  | .dirUnfence a agent => Sys2Proof.Machine.execDirUnfence a agent s
  | .dirFlush a => Sys2Proof.Machine.execDirFlush a s
  | .dirFlushDone => Sys2Proof.Machine.execDirFlushDone s
  | .cxlMemRd r => Sys2Proof.Machine.execCxlMemRd r s
  | .cxlMemRdData r => Sys2Proof.Machine.execCxlMemRdData r s
  | .cxlMemInv r => Sys2Proof.Machine.execCxlMemInv r s
  | .cxlMemWr r => Sys2Proof.Machine.execCxlMemWr r s
  | .cxlBiRsp ld line rsp => Sys2Proof.Machine.execCxlBiRsp ld line rsp s
  | .cxlBiConflict ld line => Sys2Proof.Machine.execCxlBiConflict ld line s
  | .cxlHoldRelease ld => Sys2Proof.Machine.execCxlHoldRelease ld s
  | .scChQscWrite a stack v => Sys2Proof.Machine.execScChQscWrite a stack v s
  | .channelQuiesceDone stack ch => Sys2Proof.Machine.execChannelQuiesceDone stack ch s
  | .scTimingWrite a stack off v => Sys2Proof.Machine.execScTimingWrite a stack off v s
  | .arbiterGrant stack => Sys2Proof.Machine.execArbiterGrant stack s
  | .sectorCommandIssue stack ch pc => Sys2Proof.Machine.execSectorCommandIssue stack ch pc s
  | .refreshDue stack ch pc bank => Sys2Proof.Machine.execRefreshDue stack ch pc bank s
  | .sectorReadComplete requester ppa flips => Sys2Proof.Machine.execSectorReadComplete requester ppa flips s
  | .scrubRead stack => Sys2Proof.Machine.execScrubRead stack s
  | .ceBucketLeak stack => Sys2Proof.Machine.execCeBucketLeak stack s
  | .retirementCopyDone stack granule => Sys2Proof.Machine.execRetirementCopyDone stack granule s
  | .retirementLog stack granule => Sys2Proof.Machine.execRetirementLog stack granule s
  | .scOffline a stack v => Sys2Proof.Machine.execScOffline a stack v s
  | .stackFault stack => Sys2Proof.Machine.execStackFault stack s
  | .stackTempSample stack temp => Sys2Proof.Machine.execStackTempSample stack temp s
  | .flitSlot port => Sys2Proof.Machine.execFlitSlot port s
  | .flitReceive port f => Sys2Proof.Machine.execFlitReceive port f s
  | .replayTimeout port => Sys2Proof.Machine.execReplayTimeout port s
  | .hello port f => Sys2Proof.Machine.execHello port f s
  | .identity port f => Sys2Proof.Machine.execIdentity port f s
  | .keyShare port f => Sys2Proof.Machine.execKeyShare port f s
  | .keyConfirm port f => Sys2Proof.Machine.execKeyConfirm port f s
  | .retrain port f => Sys2Proof.Machine.execRetrain port f s
  | .rekeyShare port f => Sys2Proof.Machine.execRekeyShare port f s
  | .rekeyConfirm port f => Sys2Proof.Machine.execRekeyConfirm port f s
  | .swpRetrainWrite a port v => Sys2Proof.Machine.execSwpRetrainWrite a port v s
  | .retrainComplete port width speed => Sys2Proof.Machine.execRetrainComplete port width speed s
  | .retrainTimeout port => Sys2Proof.Machine.execRetrainTimeout port s
  | .bringupAttempt port => Sys2Proof.Machine.execBringupAttempt port s
  | .lanesTrained port width speed => Sys2Proof.Machine.execLanesTrained port width speed s
  | .trainingTimeout port => Sys2Proof.Machine.execTrainingTimeout port s
  | .authTimeout port => Sys2Proof.Machine.execAuthTimeout port s
  | .rekeyStart port => Sys2Proof.Machine.execRekeyStart port s
  | .rekeyTimeout port => Sys2Proof.Machine.execRekeyTimeout port s
  | .transitForward port p => Sys2Proof.Machine.execTransitForward port p s
  | .routeUpdate port p => Sys2Proof.Machine.execRouteUpdate port p s
  | .rtbCommit a version => Sys2Proof.Machine.execRtbCommit a version s
  | .rtbInvalidate a version => Sys2Proof.Machine.execRtbInvalidate a version s
  | .rtbFlip a version => Sys2Proof.Machine.execRtbFlip a version s
  | .rtbMcWrite a off v => Sys2Proof.Machine.execRtbMcWrite a off v s
  | .fence port p => Sys2Proof.Machine.execFence port p s
  | .unfence port p => Sys2Proof.Machine.execUnfence port p s
  | .enumStart a => Sys2Proof.Machine.execEnumStart a s
  | .enumAssign port p => Sys2Proof.Machine.execEnumAssign port p s
  | .enumAssignResponse port p => Sys2Proof.Machine.execEnumAssignResponse port p s
  | .enumPortTimeout => Sys2Proof.Machine.execEnumPortTimeout s
  | .rtbNodeWrite a v => Sys2Proof.Machine.execRtbNodeWrite a v s
  | .timeReqDue => Sys2Proof.Machine.execTimeReqDue s
  | .timeReq port p => Sys2Proof.Machine.execTimeReq port p s
  | .timeReqResponse port p => Sys2Proof.Machine.execTimeReqResponse port p s
  | .rtbTimeSet a v => Sys2Proof.Machine.execRtbTimeSet a v s
  | .mgtRead port p => Sys2Proof.Machine.execMgtRead port p s
  | .mgtWrite port p => Sys2Proof.Machine.execMgtWrite port p s
  | .registerWrite a off data => Sys2Proof.Machine.execRegisterWrite a off data s
  | .bucketRefill => Sys2Proof.Machine.execBucketRefill s
  | .calendarSlot port => Sys2Proof.Machine.execCalendarSlot port s
  | .congestionSample => Sys2Proof.Machine.execCongestionSample s
  | .histogramSample => Sys2Proof.Machine.execHistogramSample s
  | .tshHistClear a => Sys2Proof.Machine.execTshHistClear a s
  | .meterUpdate meter uj faulty => Sys2Proof.Machine.execMeterUpdate meter uj faulty s
  | .planIntervalBoundary => Sys2Proof.Machine.execPlanIntervalBoundary s
  | .planSubslot => Sys2Proof.Machine.execPlanSubslot s
  | .planStale => Sys2Proof.Machine.execPlanStale s
  | .setPowerLimit mw => Sys2Proof.Machine.execSetPowerLimit mw s
  | .getPower => Sys2Proof.Machine.execGetPower s
  | .getLastFatal => Sys2Proof.Machine.execGetLastFatal s
  | .pairEnWrite a v => Sys2Proof.Machine.execPairEnWrite a v s
  | .beatSend => Sys2Proof.Machine.execBeatSend s
  | .beat port p => Sys2Proof.Machine.execBeat port p s
  | .epochClose => Sys2Proof.Machine.execEpochClose s
  | .journal port p => Sys2Proof.Machine.execJournal port p s
  | .jrnlAck port p => Sys2Proof.Machine.execJrnlAck port p s
  | .resyncReq port p => Sys2Proof.Machine.execResyncReq port p s
  | .resyncData port p => Sys2Proof.Machine.execResyncData port p s
  | .leaseRenew => Sys2Proof.Machine.execLeaseRenew s
  | .leaseReq port p => Sys2Proof.Machine.execLeaseReq port p s
  | .witnessGrantDue pair => Sys2Proof.Machine.execWitnessGrantDue pair s
  | .leaseGrant port p => Sys2Proof.Machine.execLeaseGrant port p s
  | .leaseRefuse port p => Sys2Proof.Machine.execLeaseRefuse port p s
  | .leaseRelease port p => Sys2Proof.Machine.execLeaseRelease port p s
  | .leaseExpiry => Sys2Proof.Machine.execLeaseExpiry s
  | .partnerLost => Sys2Proof.Machine.execPartnerLost s
  | .takeoverComplete => Sys2Proof.Machine.execTakeoverComplete s
  | .takeoverWindowEnd => Sys2Proof.Machine.execTakeoverWindowEnd s
  | .holdDrop idx => Sys2Proof.Machine.execHoldDrop idx s
  | .pairStatusSend => Sys2Proof.Machine.execPairStatusSend s
  | .hpsSwitch a => Sys2Proof.Machine.execHpsSwitch a s
  | .switchDrainEnd => Sys2Proof.Machine.execSwitchDrainEnd s
  | .joiningRetry => Sys2Proof.Machine.execJoiningRetry s
  | .escalationWindowClose source => Sys2Proof.Machine.execEscalationWindowClose source s
  | .fltAck a v => Sys2Proof.Machine.execFltAck a v s
  | .notifyDepart => Sys2Proof.Machine.execNotifyDepart s
  | .fatalRelease a => Sys2Proof.Machine.execFatalRelease a s
  | .haltContinue => Sys2Proof.Machine.execHaltContinue s
  | .glbLastFatalClear a => Sys2Proof.Machine.execGlbLastFatalClear a s
  | .glbCntClr a v => Sys2Proof.Machine.execGlbCntClr a v s
  | .glbRstWarm a => Sys2Proof.Machine.execGlbRstWarm a s
  | .glbRstCold a => Sys2Proof.Machine.execGlbRstCold a s
  | .warmReset => Sys2Proof.Machine.execWarmReset s
  | .warmStartComplete => Sys2Proof.Machine.execWarmStartComplete s
  | .cohResume a => Sys2Proof.Machine.execCohResume a s
  | .blkSoftReset a page => Sys2Proof.Machine.execBlkSoftReset a page s
  | .blockResetDone page => Sys2Proof.Machine.execBlockResetDone page s
  | .blkEnableWrite a page on => Sys2Proof.Machine.execBlkEnableWrite a page on s
  | .blkFreezeWrite a page on => Sys2Proof.Machine.execBlkFreezeWrite a page on s
  | .ftmInject a => Sys2Proof.Machine.execFtmInject a s
  | .validateToken a => Sys2Proof.Machine.execValidateToken a s
  | .keeperToken token => Sys2Proof.Machine.execKeeperToken token s
  | .advanceSvn a => Sys2Proof.Machine.execAdvanceSvn a s
  | .revokeSlot a arg => Sys2Proof.Machine.execRevokeSlot a arg s
  | .streamRetire a arg => Sys2Proof.Machine.execStreamRetire a arg s
  | .streamRetireSub a arg => Sys2Proof.Machine.execStreamRetireSub a arg s
  | .streamRetireDone ctx => Sys2Proof.Machine.execStreamRetireDone ctx s
  | .anchorSet a arg => Sys2Proof.Machine.execAnchorSet a arg s
  | .anchorClear a arg => Sys2Proof.Machine.execAnchorClear a arg s
  | .newChallenge a => Sys2Proof.Machine.execNewChallenge a s
  | .spdmGetVersion m => Sys2Proof.Machine.execSpdmGetVersion m s
  | .spdmGetCapabilities m => Sys2Proof.Machine.execSpdmGetCapabilities m s
  | .spdmNegotiateAlgorithms m => Sys2Proof.Machine.execSpdmNegotiateAlgorithms m s
  | .spdmGetDigests m => Sys2Proof.Machine.execSpdmGetDigests m s
  | .spdmGetCertificate m => Sys2Proof.Machine.execSpdmGetCertificate m s
  | .spdmChallenge m => Sys2Proof.Machine.execSpdmChallenge m s
  | .spdmGetMeasurements m => Sys2Proof.Machine.execSpdmGetMeasurements m s
  | .spdmKeyExchange m => Sys2Proof.Machine.execSpdmKeyExchange m s
  | .spdmFinish m => Sys2Proof.Machine.execSpdmFinish m s
  | .spdmKeyUpdate m => Sys2Proof.Machine.execSpdmKeyUpdate m s
  | .spdmHeartbeat m => Sys2Proof.Machine.execSpdmHeartbeat m s
  | .spdmEndSession m => Sys2Proof.Machine.execSpdmEndSession m s
  | .streamSetup m => Sys2Proof.Machine.execStreamSetup m s
  | .streamRetireRequest m => Sys2Proof.Machine.execStreamRetireRequest m s
  | .rngFail => Sys2Proof.Machine.execRngFail s
  | .rngRecover => Sys2Proof.Machine.execRngRecover s
  | .pwrGoodRise b => Sys2Proof.Machine.execPwrGoodRise b s
  | .pwrGoodFall => Sys2Proof.Machine.execPwrGoodFall s
  | .resetN => Sys2Proof.Machine.execResetN s
  | .warmResetN => Sys2Proof.Machine.execWarmResetN s
  | .warmResetNRise => Sys2Proof.Machine.execWarmResetNRise s
  | .thermtrip => Sys2Proof.Machine.execThermtrip s
  | .refclkLost => Sys2Proof.Machine.execRefclkLost s
  | .controllerTempSample readings => Sys2Proof.Machine.execControllerTempSample readings s
  | .settingsSave a => Sys2Proof.Machine.execSettingsSave a s
  | .settingsErase a => Sys2Proof.Machine.execSettingsErase a s
  | .settingsSaveDone ok => Sys2Proof.Machine.execSettingsSaveDone ok s
  | .logSelect a v => Sys2Proof.Machine.execLogSelect a v s
  | .fwChunk port p => Sys2Proof.Machine.execFwChunk port p s
  | .imageVerifyDone => Sys2Proof.Machine.execImageVerifyDone s
  | .fwForwardResponse port p => Sys2Proof.Machine.execFwForwardResponse port p s
  | .fwForwardTimeout => Sys2Proof.Machine.execFwForwardTimeout s
  | .fwActivate a => Sys2Proof.Machine.execFwActivate a s
  | .compatUnchecked => Sys2Proof.Machine.execCompatUnchecked s
  | .activationPreloadDone => Sys2Proof.Machine.execActivationPreloadDone s
  | .fwConfirm a => Sys2Proof.Machine.execFwConfirm a s
  | .healthConfirmed => Sys2Proof.Machine.execHealthConfirmed s
  | .healthTimeout => Sys2Proof.Machine.execHealthTimeout s
  | .commitCopyDone ok => Sys2Proof.Machine.execCommitCopyDone ok s
  | .fwRaise a => Sys2Proof.Machine.execFwRaise a s
  | .getLdInfo m => Sys2Proof.Machine.execGetLdInfo m s
  | .getLdAllocations m => Sys2Proof.Machine.execGetLdAllocations m s
  | .setLdAllocations m => Sys2Proof.Machine.execSetLdAllocations m s
  | .getQosControl m => Sys2Proof.Machine.execGetQosControl m s
  | .setQosControl m => Sys2Proof.Machine.execSetQosControl m s
  | .getQosStatus m => Sys2Proof.Machine.execGetQosStatus m s
  | .getQosAllocatedBw m => Sys2Proof.Machine.execGetQosAllocatedBw m s
  | .setQosAllocatedBw m => Sys2Proof.Machine.execSetQosAllocatedBw m s
  | .getQosBwLimit m => Sys2Proof.Machine.execGetQosBwLimit m s
  | .setQosBwLimit m => Sys2Proof.Machine.execSetQosBwLimit m s
  | .identify m => Sys2Proof.Machine.execIdentify m s
  | .backgroundOperationStatus m => Sys2Proof.Machine.execBackgroundOperationStatus m s
  | .getEventRecords m => Sys2Proof.Machine.execGetEventRecords m s
  | .clearEventRecords m => Sys2Proof.Machine.execClearEventRecords m s
  | .getEventInterruptPolicy m => Sys2Proof.Machine.execGetEventInterruptPolicy m s
  | .setEventInterruptPolicy m => Sys2Proof.Machine.execSetEventInterruptPolicy m s
  | .getFwInfo m => Sys2Proof.Machine.execGetFwInfo m s
  | .transferFw m => Sys2Proof.Machine.execTransferFw m s
  | .activateFw m => Sys2Proof.Machine.execActivateFw m s
  | .getTimestamp m => Sys2Proof.Machine.execGetTimestamp m s
  | .setTimestamp m => Sys2Proof.Machine.execSetTimestamp m s
  | .getSupportedLogs m => Sys2Proof.Machine.execGetSupportedLogs m s
  | .getLog m => Sys2Proof.Machine.execGetLog m s
  | .identifyMemoryDevice m => Sys2Proof.Machine.execIdentifyMemoryDevice m s
  | .getHealthInfo m => Sys2Proof.Machine.execGetHealthInfo m s
  | .getAlertConfiguration m => Sys2Proof.Machine.execGetAlertConfiguration m s
  | .setAlertConfiguration m => Sys2Proof.Machine.execSetAlertConfiguration m s
  | .getPoisonList m => Sys2Proof.Machine.execGetPoisonList m s
  | .injectPoison m => Sys2Proof.Machine.execInjectPoison m s
  | .clearPoison m => Sys2Proof.Machine.execClearPoison m s
  | .sanitize m => Sys2Proof.Machine.execSanitize m s
  | .sanitizeDone => Sys2Proof.Machine.execSanitizeDone s
  | .hdmDecoderCommit ld idx d => Sys2Proof.Machine.execHdmDecoderCommit ld idx d s
  | .cxlLinkTrained width speed flit68 => Sys2Proof.Machine.execCxlLinkTrained width speed flit68 s
  | .cxlLinkDown => Sys2Proof.Machine.execCxlLinkDown s
  | .cxlFlr ld => Sys2Proof.Machine.execCxlFlr ld s
  | .cxlReset ld memClr => Sys2Proof.Machine.execCxlReset ld memClr s
  | .secondaryBusReset => Sys2Proof.Machine.execSecondaryBusReset s
  | .resetNRise b => Sys2Proof.Machine.execResetNRise b s
  | .witnessLeaseExpiry pair => Sys2Proof.Machine.execWitnessLeaseExpiry pair s
  | .continuationTimeout => Sys2Proof.Machine.execContinuationTimeout s
  | .biHoldTimeEnd line => Sys2Proof.Machine.execBiHoldTimeEnd line s
  | .vorerWatchdog => Sys2Proof.Machine.execVorerWatchdog s
  | .vorerException => Sys2Proof.Machine.execVorerException s
  | .pllRelock island => Sys2Proof.Machine.execPllRelock island s
  | .debugInstruction core kind addr value => Sys2Proof.Machine.execDebugInstruction core kind addr value s
  | .busMasterEnableWrite ld on => Sys2Proof.Machine.execBusMasterEnableWrite ld on s
  | .msixVectorUnmask ld vector => Sys2Proof.Machine.execMsixVectorUnmask ld vector s
  | .linkControlBlock port f => Sys2Proof.Machine.execLinkControlBlock port f s
  | .mgtReadResponse port p => Sys2Proof.Machine.execMgtReadResponse port p s
  | .vsb1v8Removed => Sys2Proof.Machine.execVsb1v8Removed s
  | .railOutOfTolerance => Sys2Proof.Machine.execRailOutOfTolerance s
  | .dynamicAddressAssign addr => Sys2Proof.Machine.execDynamicAddressAssign addr s
  | .cxlResetMemClrDone ld => Sys2Proof.Machine.execCxlResetMemClrDone ld s

end Sys2Proof.Machine
end

