-- ==== Sys2Proof/WellFormed.lean ====
section
/-! DEFINITION. Which operands of a command are in their ranges: node IDs of 12 bits, subscribers below 64, ports below 6, packets whose LENGTH is
that of their payload, flits and control blocks of 256 bytes, register numbers below the size of their array. The meanings of the commands are
total: an operand outside its range changes nothing, or is what the rule says of it. -/

namespace Sys2Proof

open Sys2Proof.Machine

/-- A packet as a link delivers it: LENGTH payload bytes, 4096 at most, and a stream tag of 16 bytes where STREAM_EN is 1 (R323, R328). -/
def Packet.wf (p : Packet) : Bool :=
  decide (p.payload.length = p.length) && decide (p.length ≤ 4096) && decide (p.tag.length = if p.streamEn then 16 else 0)

/-- A register access path's source node, subscriber and port (R528). -/
def Path.wf : Path → Bool
  | .mmio => true
  | .mgt node sub port _ => decide (node < 4096) && decide (sub < 64) && decide (port < 6)
  | .fw => true

/-- A CXL.mem request names a logical device and a 64-byte line (R513); a write carries 64 bytes. -/
def CxlMem.wf (r : CxlMem) : Bool :=
  decide (r.ld < 16) && decide (r.hpa % 64 = 0) && decide (r.metaValue < 4) && decide (r.tag < 65536)
  && (r.data.isEmpty || decide (r.data.length = 64)) && decide (r.enables < 2 ^ 64)

/-- A mailbox is a logical device's or, as 16, the FM-owned LD's (R514). -/
def Mailbox.wf (m : Mailbox) : Bool := decide (m.ld ≤ 16)

/-- An SPDM request comes by one of two transports and has a code (R461). -/
def SpdmMsg.wf (m : SpdmMsg) : Bool := decide (m.via < 2) && !m.bytes.isEmpty

/-- Flash cells in rising order within 64 MiB (R484), straps and stacks in range (R281, R563). -/
def BoardInputs.wf (b : BoardInputs) : Bool :=
  decide (b.chainPort < 4) && decide (b.badStacks < 4096) && SMap.wf (fun _ => (0xFF : Byte)) b.flash
  && b.flash.all (fun e => decide (e.1 < 0x4000000))

/-- The registers of an HDM decoder are 64 bits wide (R515). -/
def HdmDecoder.wf (d : HdmDecoder) : Bool := decide (d.base < 2 ^ 64) && decide (d.size < 2 ^ 64) && decide (d.dpa < 2 ^ 64)

/-- A packet at a port. -/
def arrives (port : Nat) (p : Packet) : Bool := decide (port < 6) && p.wf

/-- A control block of a message type at a port (R309). -/
def blockOf (port : Nat) (f : Lcb) (ty : Nat) : Bool :=
  decide (port < 6) && decide (f.bytes.length = 256) && decide (leNat (slice f.bytes 8 2) = ty)

/-- Lanes of the CXL link (R512, R526). -/
def widthOk (w : Nat) : Bool := w == 2 || w == 4 || w == 8

/-- Bytes of the management space of 16 MiB (R527). -/
def regSpan (off n : Nat) : Bool := decide (0 < n) && decide (off + n ≤ 0x1000000)

/-- The operands of a command are in their ranges, and a packet or control block is of the command's kind. -/
def Instr.wf : Instr → Bool
  | .read port p => arrives port p && p.opcode == 1
  | .write port p => arrives port p && p.opcode == 2
  | .writeMasked port p => arrives port p && p.opcode == 3
  | .seqGapTimeout node seq => decide (node < 8192 + 16) && decide (seq < 65536)
  | .seqEntryWindowEnd node => decide (node < 8192 + 16)
  | .orderedStart node seq => decide (node < 8192 + 16) && decide (seq < 65536)
  | .ptnEntryWrite a entry reg _ => a.wf && decide (entry < 64) && decide (reg < 4)
  | .ptnGntWrite a k _ => a.wf && decide (k < 256)
  | .ptnSubQscWrite a _ => a.wf
  | .quiesceComplete sub => decide (sub < 64)
  | .ptnInit a _ => a.wf
  | .ptnInitDone => true
  | .ptnInitStop => true
  | .kwLoad a => a.wf
  | .kwStore a => a.wf
  | .ktuLdKeywayWrite a n _ => a.wf && decide (n < 16)
  | .walkFetchComplete _ ok data => ok || data.isEmpty
  | .walkFetchTimeout _ => true
  | .missDequeue miss => decide (miss < 1024)
  | .chunkTranslateRetry _ _ => true
  | .chunkTranslateAbort _ _ => true
  | .ktuInvCmd a _ => a.wf
  | .invDone => true
  | .fltRingTailWrite a _ => a.wf
  | .fltRingCtrlWrite a _ => a.wf
  | .fill port p => arrives port p && p.opcode == 0x10
  | .copy port p => arrives port p && p.opcode == 0x11
  | .copyRemote port p => arrives port p && p.opcode == 0x15
  | .compare port p => arrives port p && p.opcode == 0x12
  | .reduce port p => arrives port p && p.opcode == 0x13
  | .gatherReduce port p => arrives port p && p.opcode == 0x14
  | .atomic port p => arrives port p && p.opcode == 0x18
  | .colReduce port p => arrives port p && p.opcode == 0x23 && decide (p.vc < 4)
  | .chunkIssue _ _ engine => decide (engine < 96)
  | .chunkComplete _ _ => true
  | .remoteWriteResponse port p => arrives port p && p.opcode == 0x82
  | .remoteWriteResend _ _ => true
  | .remoteWriteTimeout _ _ => true
  | .colDescriptor port p => arrives port p && p.opcode == 0x23 && decide (4 ≤ p.vc)
  | .colPartial port p => arrives port p && p.opcode == 0x23 && decide (4 ≤ p.vc)
  | .colTimeout _ child => decide (child < 4096)
  | .wardWaitTimeout _ => true
  | .quantumExpiry engine => decide (engine < 96)
  | .wrdCtxWrite a n _ => a.wf && decide (n < 256)
  | .engineFault engine => decide (engine < 96)
  | .kvAppend port p => arrives port p && p.opcode == 0x20
  | .attend port p => arrives port p && p.opcode == 0x21
  | .attendMergeDescend port p => arrives port p && p.opcode == 0x22 && bits p.op.toNat 1 0 == 0
  | .attendMergePartial port p => arrives port p && p.opcode == 0x22 && bits p.op.toNat 1 0 != 0
  | .mergeTimeout _ child => decide (child < 4096)
  | .latchAdd port p => arrives port p && p.opcode == 0x30
  | .latchSub port p => arrives port p && p.opcode == 0x31
  | .latchWait port p => arrives port p && p.opcode == 0x32
  | .latchRead port p => arrives port p && p.opcode == 0x33
  | .latchSet port p => arrives port p && p.opcode == 0x34
  | .latchWaitTimeout wait => decide (wait < 4096)
  | .deadlockTest => true
  | .lchAccRead a => a.wf
  | .lchAccSet a => a.wf
  | .snapshotRelease a => a.wf
  | .lchGrpWrite a off _ => a.wf && decide (off % 4 = 0) && decide (off < 4096)
  | .rdShared port p => arrives port p && p.opcode == 0x40
  | .rdOwn port p => arrives port p && p.opcode == 0x41
  | .upgrade port p => arrives port p && p.opcode == 0x42
  | .rdCur port p => arrives port p && p.opcode == 0x43
  | .wbDirty port p => arrives port p && p.opcode == 0x44
  | .evictClean port p => arrives port p && p.opcode == 0x45
  | .snoopResponse port p => arrives port p && decide (0xC8 ≤ p.opcode) && decide (p.opcode ≤ 0xCB)
  | .compAck port p => arrives port p && p.opcode == 0x4C
  | .snoopTimeout line agent => decide (line % 64 = 0) && decide (agent < 512)
  | .dirAgentWrite a slot _ => a.wf && decide (slot < 512)
  | .dirFence a agent => a.wf && decide (agent < 512)
  | .dirFenceDone agent => decide (agent < 512)
  | .dirUnfence a agent => a.wf && decide (agent < 512)
  | .dirFlush a => a.wf
  | .dirFlushDone => true
  | .cxlMemRd r => r.wf
  | .cxlMemRdData r => r.wf
  | .cxlMemInv r => r.wf
  | .cxlMemWr r => r.wf
  | .cxlBiRsp ld line _ => decide (ld < 16) && decide (line % 64 = 0)
  | .cxlBiConflict ld line => decide (ld < 16) && decide (line % 64 = 0)
  | .cxlHoldRelease ld => decide (ld < 16)
  | .scChQscWrite a stack _ => a.wf && decide (stack < 12)
  | .channelQuiesceDone stack ch => decide (stack < 12) && decide (ch < 32)
  | .scTimingWrite a stack off _ => a.wf && decide (stack < 12) && decide (off % 4 = 0) && decide (off < 4096)
  | .arbiterGrant stack => decide (stack < 12)
  | .sectorCommandIssue stack ch pc => decide (stack < 12) && decide (ch < 32) && decide (pc < 2)
  | .refreshDue stack ch pc bank => decide (stack < 12) && decide (ch < 32) && decide (pc < 2) && decide (bank < 32)
  | .sectorReadComplete requester ppa flips =>
      decide (requester < 17) && decide (ppa % 64 = 0) && (flips.all fun e => decide (e.1 < 36) && decide (e.2 < 65536))
  | .scrubRead stack => decide (stack < 12)
  | .ceBucketLeak stack => decide (stack < 12)
  | .retirementCopyDone stack _ => decide (stack < 12)
  | .retirementLog stack _ => decide (stack < 12)
  | .scOffline a stack _ => a.wf && decide (stack < 12)
  | .stackFault stack => decide (stack < 12)
  | .stackTempSample stack temp => decide (stack < 12) && decide (temp < 256)
  | .flitSlot port => decide (port < 6)
  | .flitReceive port f => decide (port < 6) && decide (f.bytes.length = 256)
  | .replayTimeout port => decide (port < 6)
  | .hello port f => blockOf port f 1
  | .identity port f => blockOf port f 2
  | .keyShare port f => blockOf port f 3
  | .keyConfirm port f => blockOf port f 4
  | .retrain port f => blockOf port f 5
  | .rekeyShare port f => blockOf port f 6
  | .rekeyConfirm port f => blockOf port f 7
  | .swpRetrainWrite a port _ => a.wf && decide (port < 6)
  | .retrainComplete port width speed => decide (port < 6) && decide (width < 3) && decide (speed < 3)
  | .retrainTimeout port => decide (port < 6)
  | .bringupAttempt port => decide (port < 6)
  | .lanesTrained port width speed => decide (port < 6) && decide (width < 3) && decide (speed < 3)
  | .trainingTimeout port => decide (port < 6)
  | .authTimeout port => decide (port < 6)
  | .rekeyStart port => decide (port < 6)
  | .rekeyTimeout port => decide (port < 6)
  | .transitForward port p => arrives port p
  | .routeUpdate port p => arrives port p && p.opcode == 0x65
  | .rtbCommit a version => a.wf && decide (version < 2)
  | .rtbInvalidate a version => a.wf && decide (version < 2)
  | .rtbFlip a version => a.wf && decide (version < 2)
  | .rtbMcWrite a off _ => a.wf && decide (off % 4 = 0) && decide (off < 0xB000)
  | .fence port p => arrives port p && p.opcode == 0x66 && !bit p.op.toNat 12
  | .unfence port p => arrives port p && p.opcode == 0x66 && bit p.op.toNat 12
  | .enumStart a => a.wf
  | .enumAssign port p => arrives port p && p.opcode == 0x60 && bits p.op.toNat 1 0 != 1
  | .enumAssignResponse port p => arrives port p && p.opcode == 0xE0 && bits p.op.toNat 1 0 != 1
  | .enumPortTimeout => true
  | .rtbNodeWrite a _ => a.wf
  | .timeReqDue => true
  | .timeReq port p => arrives port p && p.opcode == 0x60 && bits p.op.toNat 1 0 == 1
  | .timeReqResponse port p => arrives port p && p.opcode == 0xE0 && bits p.op.toNat 1 0 == 1
  | .rtbTimeSet a _ => a.wf
  | .mgtRead port p => arrives port p && p.opcode == 0x61
  | .mgtWrite port p => arrives port p && p.opcode == 0x62
  | .registerWrite a off data => a.wf && regSpan off data.length
  | .bucketRefill => true
  | .calendarSlot port => decide (port < 6)
  | .congestionSample => true
  | .histogramSample => true
  | .tshHistClear a => a.wf
  | .meterUpdate meter _ _ => decide (meter < 256)
  | .planIntervalBoundary => true
  | .planSubslot => true
  | .planStale => true
  | .setPowerLimit mw => decide (mw < 2 ^ 32)
  | .getPower => true
  | .getLastFatal => true
  | .pairEnWrite a _ => a.wf
  | .beatSend => true
  | .beat port p => arrives port p && p.opcode == 0x67 && bits p.op.toNat 3 0 == 0
  | .epochClose => true
  | .journal port p => arrives port p && p.opcode == 0x67 && bits p.op.toNat 3 0 == 1
  | .jrnlAck port p => arrives port p && p.opcode == 0x67 && bits p.op.toNat 3 0 == 2
  | .resyncReq port p => arrives port p && p.opcode == 0x67 && bits p.op.toNat 3 0 == 3
  | .resyncData port p => arrives port p && p.opcode == 0x67 && bits p.op.toNat 3 0 == 4
  | .leaseRenew => true
  | .leaseReq port p => arrives port p && p.opcode == 0x67 && bits p.op.toNat 3 0 == 5
  | .witnessGrantDue pair => decide (pair < 16)
  | .leaseGrant port p => arrives port p && p.opcode == 0x67 && bits p.op.toNat 3 0 == 6
  | .leaseRefuse port p => arrives port p && p.opcode == 0x67 && bits p.op.toNat 3 0 == 7
  | .leaseRelease port p => arrives port p && p.opcode == 0x67 && bits p.op.toNat 3 0 == 8
  | .leaseExpiry => true
  | .partnerLost => true
  | .takeoverComplete => true
  | .takeoverWindowEnd => true
  | .holdDrop _ => true
  | .pairStatusSend => true
  | .hpsSwitch a => a.wf
  | .switchDrainEnd => true
  | .joiningRetry => true
  | .escalationWindowClose source => decide (source < 256)
  | .fltAck a _ => a.wf
  | .notifyDepart => true
  | .fatalRelease a => a.wf
  | .haltContinue => true
  | .glbLastFatalClear a => a.wf
  | .glbCntClr a _ => a.wf
  | .glbRstWarm a => a.wf
  | .glbRstCold a => a.wf
  | .warmReset => true
  | .warmStartComplete => true
  | .cohResume a => a.wf
  | .blkSoftReset a page => a.wf && decide (page < 1024)
  | .blockResetDone page => decide (page < 1024)
  | .blkEnableWrite a page _ => a.wf && decide (page < 1024)
  | .blkFreezeWrite a page _ => a.wf && decide (page < 1024)
  | .ftmInject a => a.wf
  | .validateToken a => a.wf
  | .keeperToken token => decide (token.length ≤ 4096)
  | .advanceSvn a => a.wf
  | .revokeSlot a arg => a.wf && decide (arg < 65536)
  | .streamRetire a arg => a.wf && decide (arg < 65536)
  | .streamRetireSub a arg => a.wf && decide (arg < 65536)
  | .streamRetireDone ctx => decide (ctx < 256)
  | .anchorSet a arg => a.wf && decide (arg < 65536)
  | .anchorClear a arg => a.wf && decide (arg < 65536)
  | .newChallenge a => a.wf
  | .spdmGetVersion m => m.wf
  | .spdmGetCapabilities m => m.wf
  | .spdmNegotiateAlgorithms m => m.wf
  | .spdmGetDigests m => m.wf
  | .spdmGetCertificate m => m.wf
  | .spdmChallenge m => m.wf
  | .spdmGetMeasurements m => m.wf
  | .spdmKeyExchange m => m.wf
  | .spdmFinish m => m.wf
  | .spdmKeyUpdate m => m.wf
  | .spdmHeartbeat m => m.wf
  | .spdmEndSession m => m.wf
  | .streamSetup m => m.wf
  | .streamRetireRequest m => m.wf
  | .rngFail => true
  | .rngRecover => true
  | .pwrGoodRise b => b.wf
  | .pwrGoodFall => true
  | .resetN => true
  | .warmResetN => true
  | .warmResetNRise => true
  | .thermtrip => true
  | .refclkLost => true
  | .controllerTempSample readings => decide (readings.length = 16)
  | .settingsSave a => a.wf
  | .settingsErase a => a.wf
  | .settingsSaveDone _ => true
  | .logSelect a _ => a.wf
  | .fwChunk port p => arrives port p && p.opcode == 0x64
  | .imageVerifyDone => true
  | .fwForwardResponse port p => arrives port p && p.opcode == 0xE4
  | .fwForwardTimeout => true
  | .fwActivate a => a.wf
  | .compatUnchecked => true
  | .activationPreloadDone => true
  | .fwConfirm a => a.wf
  | .healthConfirmed => true
  | .healthTimeout => true
  | .commitCopyDone _ => true
  | .fwRaise a => a.wf
  | .getLdInfo m => m.wf
  | .getLdAllocations m => m.wf
  | .setLdAllocations m => m.wf
  | .getQosControl m => m.wf
  | .setQosControl m => m.wf
  | .getQosStatus m => m.wf
  | .getQosAllocatedBw m => m.wf
  | .setQosAllocatedBw m => m.wf
  | .getQosBwLimit m => m.wf
  | .setQosBwLimit m => m.wf
  | .identify m => m.wf
  | .backgroundOperationStatus m => m.wf
  | .getEventRecords m => m.wf
  | .clearEventRecords m => m.wf
  | .getEventInterruptPolicy m => m.wf
  | .setEventInterruptPolicy m => m.wf
  | .getFwInfo m => m.wf
  | .transferFw m => m.wf
  | .activateFw m => m.wf
  | .getTimestamp m => m.wf
  | .setTimestamp m => m.wf
  | .getSupportedLogs m => m.wf
  | .getLog m => m.wf
  | .identifyMemoryDevice m => m.wf
  | .getHealthInfo m => m.wf
  | .getAlertConfiguration m => m.wf
  | .setAlertConfiguration m => m.wf
  | .getPoisonList m => m.wf
  | .injectPoison m => m.wf
  | .clearPoison m => m.wf
  | .sanitize m => m.wf
  | .sanitizeDone => true
  | .hdmDecoderCommit ld idx d => decide (ld < 16) && decide (idx < 4) && d.wf
  | .cxlLinkTrained width speed _ => widthOk width && decide (1 ≤ speed) && decide (speed ≤ 4)
  | .cxlLinkDown => true
  | .cxlFlr ld => decide (ld < 16)
  | .cxlReset ld _ => decide (ld < 16)
  | .secondaryBusReset => true
  | .resetNRise b => b.wf
  | .witnessLeaseExpiry pair => decide (pair < 16)
  | .continuationTimeout => true
  | .biHoldTimeEnd line => decide (line % 64 = 0)
  | .vorerWatchdog => true
  | .vorerException => true
  | .pllRelock _ => true
  | .debugInstruction core kind _ _ => decide (core < 256) && decide (kind < 16)
  | .busMasterEnableWrite ld _ => decide (ld < 16)
  | .msixVectorUnmask ld vector => decide (ld < 16) && decide (vector < 64)
  | .linkControlBlock port f => decide (port < 6) && decide (f.bytes.length = 256)
  | .mgtReadResponse port p => arrives port p && p.opcode == 0xE1
  | .vsb1v8Removed => true
  | .railOutOfTolerance => true
  | .dynamicAddressAssign addr => decide (addr < 128)
  | .cxlResetMemClrDone ld => decide (ld < 16)

end Sys2Proof
end

