-- ==== Sys2Proof/Safety.lean ====
section
/-! DEFINITION. What the statements about the block are written with: when a step answers, the invariant every step keeps, and the
conditions under which a command reaches what it acts on (a register, a header, a port, this chip). -/

namespace Sys2Proof.Machine

open Sys2Proof

/-! ### Answers -/

/-- A step answers a next state. -/
def answers (o : Host.Outcome State Fault Refusal) : Bool :=
  match o with
  | .next _ => true
  | .fault _ => false
  | .refused _ => false

/-- The state after n steps, where none of them stops. -/
def State.runs : Nat → State → Option State
  | 0, s => some s
  | n + 1, s => match step s with
    | .next t => State.runs n t
    | .fault _ => none
    | .refused _ => none

/-! ### The invariant -/

/-- Every command that waits is well-formed. -/
def State.pendingWf (s : State) : Bool := s.pending.all Instr.wf

/-- What every step keeps: data and check bytes in canonical form, pool time a 64-bit count (R355), waiting commands well-formed. -/
def State.inv (s : State) : Bool := s.memWf && decide (s.time < 18446744073709551616) && s.pendingWf

/-! ### Where a command reaches -/

/-- A write of a path reaches the register at an offset: the clocks run, the management space is served, the path's privilege reaches it, no
block reset holds its page (R528 to R531, R549). -/
def State.regOpen (s : State) (a : Path) (o : Nat) : Bool :=
  s.clocked && s.mgmtServed && s.mayReach (s.priv a) o true && !s.resetting.contains (headOf o)

/-- A write of a path reaches the header of a page (R542, R549). -/
def State.headOpen (s : State) (a : Path) (page : Nat) : Bool :=
  s.clocked && s.mgmtServed && pageHeader (page * 4096) && s.mayReach (s.priv a) (page * 4096 + 8) true

/-- The Keeper takes a command of a path: its register is reached and no command runs (R482). -/
def State.kprOpen (s : State) (a : Path) : Bool := s.regOpen a Reg.KPR_CMD.OFF && !s.flag Reg.KPR_CMD_STAT.BUSY

/-- The Keeper answers SPDM on a transport (R462). -/
def State.spdmOpen (s : State) (via : Nat) : Bool := s.clocked && s.spdmServed via

/-- A mailbox runs commands of an opcode: in service, its host link up, the opcode served, the firmware running (R514, R519). -/
def State.boxOpen (s : State) (box op : Nat) : Bool :=
  decide (box ≤ 16) && s.phase == .ready && s.cxlUp && s.boxServes box op && !s.fwDown

/-- A packet can come in at a port: the data plane runs, the part has the port, its link carries packets (R333). -/
def State.portOpen (s : State) (port : Nat) : Bool := s.active && s.part.hasPort port && s.linkUp port

/-- The state in which a packet that comes in at a port is looked at: its first slot came now (R356), its buffer units count as received (R302). -/
def State.landed (s : State) (port : Nat) (p : Packet) : State :=
  { s with rtb := { s.rtb with rxAt := s.time } }.unitsFreed port p.vc (units p.packetLen)

/-- The state u that a packet led to from s, where the request it became, if it is held at its port, keeps the packet's buffer units (R258). -/
def State.afterPacket (s : State) (p : Packet) (u : State) : State := u.keepUnits s.nextId (units p.packetLen)

/-- A packet that has come in is for this chip alone, well formed and from no fenced node (R330, R333, R349). -/
def State.mine (s : State) (p : Packet) : Bool :=
  s.takes p && s.hasId && !headerMalformed p && !p.mcast && p.dest != 0xFFE && !s.fenced p.src && !s.fenced p.dest && !s.forPair p
    && routeTarget (s.phaseStep p) == s.ownId

/-- The packet as this chip acts on it: its phase changes at its intermediate node (R333). -/
def State.asHere (s : State) (port : Nat) (p : Packet) : Packet := (s.landed port p).phaseStep p

/-- The state in which a packet for this chip is acted on: the LOCAL port counts it (R333), and its bytes where their energy class does (R394). -/
def State.local (s : State) (port : Nat) (p : Packet) : State :=
  ((s.landed port p).bump Reg.RTB_LOCAL_CNT.OFF).countTaken port (s.asHere port p)

/-- An answer or a message is well formed as this chip acts on it (R328, R330). -/
def State.wellSaid (s : State) (port : Nat) (p : Packet) : Bool := !wordsReserved (s.asHere port p) && !answerLengthBad (s.asHere port p)

/-! ### Requests that run at once -/

/-- A request whose number is new is taken as it stands: well formed, not of a stream, its subscriber neither quiesced nor policed (R27, R44,
R203, R330, R365). -/
def State.takesReq (s : State) (p : Packet) (n : Nat) : Bool :=
  !p.streamEn && (s.badOp p).isNone && (s.cohRefused p).isNone && decide (p.dest ≠ 0xFFE) && !p.mcast
    && (s.seqTake (s.seqKey p) p.seq (p.ordered || p.opcode == 0x30)).2 == .admits n
    && (decide (0x60 ≤ p.opcode) || !s.quiescing p.sub && !(s.flag Reg.TSH_CTRL.POLICE_EN && s.peakDeficit p.sub))

/-- The state that holds a request just taken, and the request: its number recorded (R44), its class as the shaper sets it and its bytes
charged (R361, R363). -/
def State.reqTaken (s : State) (port : Nat) (p : Packet) (n : Nat) : State × Req :=
  let v := (s.seqTake (s.seqKey p) p.seq (p.ordered || p.opcode == 0x30)).1
  let c := v.reqCharge p
  let r := c.1.reqOf port (setRoute p 57 56 c.2) (v.seqKey p) n true
  (c.1.addReq r, r)

/-- A request just taken runs at once: nothing orders it behind another, its segment is whole, this member answers, and no walk is its own yet (R46,
R47, R49, R68, R422). -/
def State.runsNow (x : State × Req) : Bool :=
  !x.1.dualSilent x.2.pkt && x.1.req? x.2.id == some x.2 && x.1.mayStart x.2 && !x.1.segmentBroken x.2 && !x.1.walking x.2.id

/-- The state a request runs in, and the request: it is marked started, and no record of it is journalled yet (R408). -/
def State.running (x : State × Req) : State × Req :=
  ((x.1.modReq x.2.id fun q => { q with started := true }).untouched, { x.2 with started := true })

/-! ### What stays as it is -/

/-- Nothing in the state waits for what a command's end does (Settle.lean): no waiter was told anything, no miss waits without the walker, no request,
operation, fence, snoop answer or packet is pending, no FATAL fault or blocked message is noted, the chip is in no pair and its journal is idle. -/
def State.quiet (s : State) : Bool :=
  (s.walkerOn || (s.ktu.walks.isEmpty && s.ktu.missq.isEmpty)) && s.wrd.heldAtoms.isEmpty && s.sc.held.isEmpty && s.dir.late.isEmpty
    && s.dir.fences.isEmpty && s.cxlWaiting == 0 && s.ktu.wakes.isEmpty && s.dir.pend.isEmpty && s.wrd.ops.isEmpty && s.rtb.fences.isEmpty && !s.rtb.enumWait && s.acts.isEmpty && s.logq.isEmpty
    && s.flt.blocked == 0 && !s.paired && s.hps.switching != 2 && s.hps.hold.isEmpty && s.hps.unsent.isEmpty && s.hps.repairAsk.isEmpty
    && !s.hps.touched && !s.flag Reg.HPS_STAT.BP && decide (s.unsentBytes ≤ s.f Reg.HPS_JRNL_CTRL.BP_MIB * 1048576) && !s.spillFull

/-- Two states differ in register words at the listed offsets at most. -/
def State.onlyWords (s t : State) (offs : List Nat) : Prop := t = { s with regs := t.regs } ∧ ∀ o, o ∉ offs → t.word o = s.word o

/-- The sector at a PPA decodes CLEAN (R265). -/
def State.sectorClean (s : State) (ppa : Nat) : Bool := decide (s.decodeSector ppa [] = .clean (s.sectorData (s.phys ppa)))

/-- Sector k of the pool is written whole by a write of enabled bytes v to [ppa, ppa + len) (R249). -/
def wholeSector (ppa len : Nat) (v : Nat → Option Byte) (k : Nat) : Bool :=
  (List.range 64).all fun i => decide (ppa ≤ k * 64 + i) && decide (k * 64 + i < ppa + len) && (v (k * 64 + i - ppa)).isSome

end Sys2Proof.Machine

namespace Sys2Proof

/-- What must run for a command to act (log entry 7): nothing but the pins, the clocks, or the data plane. -/
inductive Needs where
  | pins | clocks | service
  deriving DecidableEq, Repr

/-- What each command needs. -/
def Instr.needs : Instr → Needs
  | .read _ _ => .service
  | .write _ _ => .service
  | .writeMasked _ _ => .service
  | .seqGapTimeout _ _ => .service
  | .seqEntryWindowEnd _ => .service
  | .orderedStart _ _ => .service
  | .ptnEntryWrite _ _ _ _ => .clocks
  | .ptnGntWrite _ _ _ => .clocks
  | .ptnSubQscWrite _ _ => .clocks
  | .quiesceComplete _ => .service
  | .ptnInit _ _ => .clocks
  | .ptnInitDone => .service
  | .ptnInitStop => .service
  | .kwLoad _ => .clocks
  | .kwStore _ => .clocks
  | .ktuLdKeywayWrite _ _ _ => .clocks
  | .walkFetchComplete _ _ _ => .service
  | .walkFetchTimeout _ => .service
  | .missDequeue _ => .service
  | .chunkTranslateRetry _ _ => .service
  | .chunkTranslateAbort _ _ => .service
  | .ktuInvCmd _ _ => .clocks
  | .invDone => .service
  | .fltRingTailWrite _ _ => .clocks
  | .fltRingCtrlWrite _ _ => .clocks
  | .fill _ _ => .service
  | .copy _ _ => .service
  | .copyRemote _ _ => .service
  | .compare _ _ => .service
  | .reduce _ _ => .service
  | .gatherReduce _ _ => .service
  | .atomic _ _ => .service
  | .colReduce _ _ => .service
  | .chunkIssue _ _ _ => .service
  | .chunkComplete _ _ => .service
  | .remoteWriteResponse _ _ => .service
  | .remoteWriteResend _ _ => .service
  | .remoteWriteTimeout _ _ => .service
  | .colDescriptor _ _ => .service
  | .colPartial _ _ => .service
  | .colTimeout _ _ => .service
  | .wardWaitTimeout _ => .service
  | .quantumExpiry _ => .service
  | .wrdCtxWrite _ _ _ => .clocks
  | .engineFault _ => .service
  | .kvAppend _ _ => .service
  | .attend _ _ => .service
  | .attendMergeDescend _ _ => .service
  | .attendMergePartial _ _ => .service
  | .mergeTimeout _ _ => .service
  | .latchAdd _ _ => .service
  | .latchSub _ _ => .service
  | .latchWait _ _ => .service
  | .latchRead _ _ => .service
  | .latchSet _ _ => .service
  | .latchWaitTimeout _ => .service
  | .deadlockTest => .service
  | .lchAccRead _ => .clocks
  | .lchAccSet _ => .clocks
  | .snapshotRelease _ => .clocks
  | .lchGrpWrite _ _ _ => .clocks
  | .rdShared _ _ => .service
  | .rdOwn _ _ => .service
  | .upgrade _ _ => .service
  | .rdCur _ _ => .service
  | .wbDirty _ _ => .service
  | .evictClean _ _ => .service
  | .snoopResponse _ _ => .service
  | .compAck _ _ => .service
  | .snoopTimeout _ _ => .service
  | .dirAgentWrite _ _ _ => .clocks
  | .dirFence _ _ => .clocks
  | .dirFenceDone _ => .service
  | .dirUnfence _ _ => .clocks
  | .dirFlush _ => .clocks
  | .dirFlushDone => .service
  | .cxlMemRd _ => .service
  | .cxlMemRdData _ => .service
  | .cxlMemInv _ => .service
  | .cxlMemWr _ => .service
  | .cxlBiRsp _ _ _ => .service
  | .cxlBiConflict _ _ => .service
  | .cxlHoldRelease _ => .service
  | .scChQscWrite _ _ _ => .clocks
  | .channelQuiesceDone _ _ => .service
  | .scTimingWrite _ _ _ _ => .clocks
  | .arbiterGrant _ => .service
  | .sectorCommandIssue _ _ _ => .service
  | .refreshDue _ _ _ _ => .service
  | .sectorReadComplete _ _ _ => .service
  | .scrubRead _ => .service
  | .ceBucketLeak _ => .service
  | .retirementCopyDone _ _ => .service
  | .retirementLog _ _ => .service
  | .scOffline _ _ _ => .clocks
  | .stackFault _ => .service
  | .stackTempSample _ _ => .clocks
  | .flitSlot _ => .service
  | .flitReceive _ _ => .service
  | .replayTimeout _ => .service
  | .hello _ _ => .service
  | .identity _ _ => .service
  | .keyShare _ _ => .service
  | .keyConfirm _ _ => .service
  | .retrain _ _ => .service
  | .rekeyShare _ _ => .service
  | .rekeyConfirm _ _ => .service
  | .swpRetrainWrite _ _ _ => .clocks
  | .retrainComplete _ _ _ => .service
  | .retrainTimeout _ => .service
  | .bringupAttempt _ => .service
  | .lanesTrained _ _ _ => .service
  | .trainingTimeout _ => .service
  | .authTimeout _ => .service
  | .rekeyStart _ => .service
  | .rekeyTimeout _ => .service
  | .transitForward _ _ => .service
  | .routeUpdate _ _ => .service
  | .rtbCommit _ _ => .clocks
  | .rtbInvalidate _ _ => .clocks
  | .rtbFlip _ _ => .clocks
  | .rtbMcWrite _ _ _ => .clocks
  | .fence _ _ => .service
  | .unfence _ _ => .service
  | .enumStart _ => .clocks
  | .enumAssign _ _ => .service
  | .enumAssignResponse _ _ => .service
  | .enumPortTimeout => .service
  | .rtbNodeWrite _ _ => .clocks
  | .timeReqDue => .service
  | .timeReq _ _ => .service
  | .timeReqResponse _ _ => .service
  | .rtbTimeSet _ _ => .clocks
  | .mgtRead _ _ => .service
  | .mgtWrite _ _ => .service
  | .registerWrite _ _ _ => .clocks
  | .bucketRefill => .service
  | .calendarSlot _ => .service
  | .congestionSample => .service
  | .histogramSample => .service
  | .tshHistClear _ => .clocks
  | .meterUpdate _ _ _ => .service
  | .planIntervalBoundary => .service
  | .planSubslot => .service
  | .planStale => .service
  | .setPowerLimit _ => .clocks
  | .getPower => .clocks
  | .getLastFatal => .clocks
  | .pairEnWrite _ _ => .clocks
  | .beatSend => .service
  | .beat _ _ => .service
  | .epochClose => .service
  | .journal _ _ => .service
  | .jrnlAck _ _ => .service
  | .resyncReq _ _ => .service
  | .resyncData _ _ => .service
  | .leaseRenew => .service
  | .leaseReq _ _ => .service
  | .witnessGrantDue _ => .service
  | .leaseGrant _ _ => .service
  | .leaseRefuse _ _ => .service
  | .leaseRelease _ _ => .service
  | .leaseExpiry => .service
  | .partnerLost => .service
  | .takeoverComplete => .service
  | .takeoverWindowEnd => .service
  | .holdDrop _ => .service
  | .pairStatusSend => .service
  | .hpsSwitch _ => .clocks
  | .switchDrainEnd => .service
  | .joiningRetry => .service
  | .escalationWindowClose _ => .clocks
  | .fltAck _ _ => .clocks
  | .notifyDepart => .service
  | .fatalRelease _ => .clocks
  | .haltContinue => .clocks
  | .glbLastFatalClear _ => .clocks
  | .glbCntClr _ _ => .clocks
  | .glbRstWarm _ => .clocks
  | .glbRstCold _ => .clocks
  | .warmReset => .clocks
  | .warmStartComplete => .clocks
  | .cohResume _ => .clocks
  | .blkSoftReset _ _ => .clocks
  | .blockResetDone _ => .clocks
  | .blkEnableWrite _ _ _ => .clocks
  | .blkFreezeWrite _ _ _ => .clocks
  | .ftmInject _ => .clocks
  | .validateToken _ => .clocks
  | .keeperToken _ => .clocks
  | .advanceSvn _ => .clocks
  | .revokeSlot _ _ => .clocks
  | .streamRetire _ _ => .clocks
  | .streamRetireSub _ _ => .clocks
  | .streamRetireDone _ => .service
  | .anchorSet _ _ => .clocks
  | .anchorClear _ _ => .clocks
  | .newChallenge _ => .clocks
  | .spdmGetVersion _ => .clocks
  | .spdmGetCapabilities _ => .clocks
  | .spdmNegotiateAlgorithms _ => .clocks
  | .spdmGetDigests _ => .clocks
  | .spdmGetCertificate _ => .clocks
  | .spdmChallenge _ => .clocks
  | .spdmGetMeasurements _ => .clocks
  | .spdmKeyExchange _ => .clocks
  | .spdmFinish _ => .clocks
  | .spdmKeyUpdate _ => .clocks
  | .spdmHeartbeat _ => .clocks
  | .spdmEndSession _ => .clocks
  | .streamSetup _ => .clocks
  | .streamRetireRequest _ => .clocks
  | .rngFail => .clocks
  | .rngRecover => .clocks
  | .pwrGoodRise _ => .pins
  | .pwrGoodFall => .pins
  | .resetN => .pins
  | .warmResetN => .pins
  | .warmResetNRise => .pins
  | .thermtrip => .pins
  | .refclkLost => .pins
  | .controllerTempSample _ => .clocks
  | .settingsSave _ => .clocks
  | .settingsErase _ => .clocks
  | .settingsSaveDone _ => .clocks
  | .logSelect _ _ => .clocks
  | .fwChunk _ _ => .service
  | .imageVerifyDone => .clocks
  | .fwForwardResponse _ _ => .service
  | .fwForwardTimeout => .service
  | .fwActivate _ => .clocks
  | .compatUnchecked => .clocks
  | .activationPreloadDone => .clocks
  | .fwConfirm _ => .clocks
  | .healthConfirmed => .clocks
  | .healthTimeout => .clocks
  | .commitCopyDone _ => .clocks
  | .fwRaise _ => .clocks
  | .getLdInfo _ => .clocks
  | .getLdAllocations _ => .clocks
  | .setLdAllocations _ => .clocks
  | .getQosControl _ => .clocks
  | .setQosControl _ => .clocks
  | .getQosStatus _ => .clocks
  | .getQosAllocatedBw _ => .clocks
  | .setQosAllocatedBw _ => .clocks
  | .getQosBwLimit _ => .clocks
  | .setQosBwLimit _ => .clocks
  | .identify _ => .clocks
  | .backgroundOperationStatus _ => .clocks
  | .getEventRecords _ => .clocks
  | .clearEventRecords _ => .clocks
  | .getEventInterruptPolicy _ => .clocks
  | .setEventInterruptPolicy _ => .clocks
  | .getFwInfo _ => .clocks
  | .transferFw _ => .clocks
  | .activateFw _ => .clocks
  | .getTimestamp _ => .clocks
  | .setTimestamp _ => .clocks
  | .getSupportedLogs _ => .clocks
  | .getLog _ => .clocks
  | .identifyMemoryDevice _ => .clocks
  | .getHealthInfo _ => .clocks
  | .getAlertConfiguration _ => .clocks
  | .setAlertConfiguration _ => .clocks
  | .getPoisonList _ => .clocks
  | .injectPoison _ => .clocks
  | .clearPoison _ => .clocks
  | .sanitize _ => .clocks
  | .sanitizeDone => .clocks
  | .hdmDecoderCommit _ _ _ => .clocks
  | .cxlLinkTrained _ _ _ => .clocks
  | .cxlLinkDown => .clocks
  | .cxlFlr _ => .clocks
  | .cxlReset _ _ => .clocks
  | .secondaryBusReset => .clocks
  | .resetNRise _ => .pins
  | .witnessLeaseExpiry _ => .service
  | .continuationTimeout => .service
  | .biHoldTimeEnd _ => .service
  | .vorerWatchdog => .pins
  | .vorerException => .pins
  | .pllRelock _ => .pins
  | .debugInstruction _ _ _ _ => .pins
  | .busMasterEnableWrite _ _ => .clocks
  | .msixVectorUnmask _ _ => .clocks
  | .linkControlBlock _ _ => .service
  | .mgtReadResponse _ _ => .service
  | .vsb1v8Removed => .pins
  | .railOutOfTolerance => .pins
  | .dynamicAddressAssign _ => .pins
  | .cxlResetMemClrDone _ => .clocks

end Sys2Proof
end

