-- ==== Sys2Proof/Certificates/Slice0/Obligations.lean ====
section
/-! DEFINITION. The statements about the block for the provers. Each docstring names the rule of spec/ it formalises; `exec c s = .next t` says
that a command answers the state t; `s.ended u` is the end every command has: what follows from its effect u happens while the clocks run. -/

open Sys2Proof Sys2Proof.Machine

/-! ### The step, the queue and the invariant -/

/-- A step with a command at the front of the queue is exec of that command on the state with the queue's rest. -/
def Obligations.StepRunsTheFrontCommand : Prop :=
  ∀ (s : State) (c : Instr) (rest : List Instr), s.pending = c :: rest → step s = exec c { s with pending := rest }

/-- With an empty queue a step lets one nanosecond of the clock pass while the clocks run, and changes nothing else (log entry 5, the model's
choice): the chain's head, and a unit whose clock needs no correction, count one nanosecond of pool time; another counts it with its share of the
corrected rate (R355, R356). With the clocks stopped nothing passes. -/
def Obligations.StepWithoutCommandPassesTime : Prop :=
  ∀ s : State, s.pending = [] →
    (s.clocked = true → (s.flag Reg.RTB_ENUM_CTRL.CHAIN_HEAD = true ∨ s.rtb.rate = 0 ∧ s.rtb.frac = 0) →
      step s = .next { s with time := (s.time + 1) % 18446744073709551616, rtb := { s.rtb with frac := 0 } })
    ∧ (s.clocked = true → s.flag Reg.RTB_ENUM_CTRL.CHAIN_HEAD = false →
      step s = .next { s with
        time := (((s.time : Int) + 1 + (s.rtb.frac + s.rtb.rate).tdiv 1000000) % (18446744073709551616 : Int)).toNat
        rtb := { s.rtb with frac := (s.rtb.frac + s.rtb.rate).tmod 1000000 } })
    ∧ (s.clocked = false → step s = .next s)

/-- Every command answers a next state in every state, with the queue of waiting commands and the part as they were; so does every step. -/
def Obligations.CommandsAnswerAndKeepTheQueue : Prop :=
  ∀ s : State, (∀ c : Instr, ∃ t, exec c s = .next t ∧ t.pending = s.pending ∧ t.part = s.part) ∧ ∃ t, step s = .next t

/-- Every step from a state in order leaves a state in order: data and check bytes in canonical form, pool time below 2^64, waiting commands
well-formed. -/
def Obligations.StepKeepsInvariant : Prop :=
  ∀ s t : State, s.inv = true → step s = .next t → t.inv = true

/-- What reset leaves: the state is in order, READY, and nothing waits; no latch has a count (R176), no line is tracked, the fault ring holds no
record, the lottery's register of every stack holds 0xACE1 (R256), requests on COHERENT partitions are not held (R448), no fault is fatal. -/
def Obligations.ResetLeavesTheStateInOrder : Prop :=
  State.reset.inv = true ∧ State.cold.inv = true ∧ State.reset.quiet = true ∧ State.reset.phase = .ready ∧ State.reset.pending = []
  ∧ (∀ l, State.reset.latch l = 0) ∧ State.reset.dir.ents = [] ∧ State.reset.ringUsed = 0
  ∧ (∀ n, n < 12 → State.reset.f (Reg.SC_ARB_LFSR.LFSR n) = 0xACE1)
  ∧ State.reset.flag Reg.GLB_STAT.COH_HELD = false ∧ State.reset.flt.lastFatal = none ∧ State.reset.flt.alert = false

/-- Where what a command needs does not run, it leaves the state as it is: with the clocks stopped or the device held in a cold reset all but those
of pins, supplies and the debug port (R560, R562, R571), and outside service (halted, in recovery, from step 5 of a warm reset) those of the data
plane (R442, R447, R498; log entry 7). -/
def Obligations.CommandsActWhereTheirPartRuns : Prop :=
  ∀ (c : Instr) (s : State),
    (s.clocked = false → c.needs ≠ .pins → exec c s = .next s) ∧ (s.active = false → c.needs = .service → exec c s = .next s)

/-- Where nothing waits for a command's end, the command leaves exactly its own effect: the state it answers is that effect, with the queue and the
part as they were. With the statements that give each command's effect, this is their frame. -/
def Obligations.QuietEffectsStand : Prop :=
  ∀ s u : State, u.quiet = true → u.memWf = true → u.time < 18446744073709551616 →
    s.ended u = { u with pending := s.pending, part := s.part }

/-- The frame of commands that show something in registers: in a quiet state in order nothing but the words they name changes, neither memory nor
latches nor counters nor any other state. LCH_ACC_CMD.READ, KTU_KW_CMD.LOAD, a write of KTU_LD_KEYWAY_n, the end of a counting window, COH_RESUME. -/
def Obligations.RegisterCommandsChangeTheirWordsOnly : Prop :=
  ∀ s t : State, s.quiet = true → s.inv = true →
    (∀ a, s.regOpen a Reg.LCH_ACC_CMD.OFF = true → exec (.lchAccRead a) s = .next t → s.onlyWords t [Reg.LCH_ACC_VALUE.OFF])
    ∧ (∀ a, s.regOpen a Reg.KTU_KW_CMD.OFF = true → exec (.kwLoad a) s = .next t →
      s.onlyWords t ((List.range 8).map Reg.KTU_KW_DATA.OFF))
    ∧ (∀ (a : Path) (n : Nat) (v : Word), n < 16 → s.regOpen a (Reg.KTU_LD_KEYWAY.OFF n) = true → s.quiesced n = true →
      exec (.ktuLdKeywayWrite a n v) s = .next t → s.onlyWords t [Reg.KTU_LD_KEYWAY.OFF n])
    ∧ (∀ n, n < 199 → exec (.escalationWindowClose n) s = .next t → s.onlyWords t [Reg.FLT_SRC_CNT.OFF n])
    ∧ (∀ a, s.regOpen a Reg.GLB_CTRL.OFF = true → exec (.cohResume a) s = .next t → s.onlyWords t [Reg.GLB_STAT.OFF])

/-! ### Packets that arrive -/

/-- A request packet for this chip that nothing holds back runs at once: its own operation acts on the state that holds it, and the packet's
command answers that state. READ, WRITE, WRITE_MASKED, ATOMIC, latch, coherence, MGT, FW_CHUNK, ROUTE_UPDATE, FENCE and UNFENCE. -/
def Obligations.RequestsRun : Prop :=
  ∀ (s : State) (port : Nat) (p : Packet) (n : Nat),
    s.portOpen port = true → (s.landed port p).mine p = true → (s.local port p).takesReq (s.asHere port p) n = true →
    State.runsNow ((s.local port p).reqTaken port (s.asHere port p) n) = true →
    ∀ (w : State) (r : Req), State.running ((s.local port p).reqTaken port (s.asHere port p) n) = (w, r) →
    (p.opcode = 1 → exec (.read port p) s = .next (s.ended (s.afterPacket p (w.runRead r))))
    ∧ (p.opcode = 2 → exec (.write port p) s = .next (s.ended (s.afterPacket p (w.runWrite r))))
    ∧ (p.opcode = 3 → exec (.writeMasked port p) s = .next (s.ended (s.afterPacket p (w.runWriteMasked r))))
    ∧ (p.opcode = 0x18 → exec (.atomic port p) s = .next (s.ended (s.afterPacket p (w.runAtomic r))))
    ∧ (w.basic = false →
        (p.opcode = 0x30 → exec (.latchAdd port p) s = .next (s.ended (s.afterPacket p (w.runLatchAdd r))))
        ∧ (p.opcode = 0x31 → exec (.latchSub port p) s = .next (s.ended (s.afterPacket p (w.runLatchSub r))))
        ∧ (p.opcode = 0x32 → exec (.latchWait port p) s = .next (s.ended (s.afterPacket p (w.runLatchWait r))))
        ∧ (p.opcode = 0x33 → exec (.latchRead port p) s = .next (s.ended (s.afterPacket p (w.runLatchRead r))))
        ∧ (p.opcode = 0x34 → exec (.latchSet port p) s = .next (s.ended (s.afterPacket p (w.runLatchSet r)))))
    ∧ (w.part.full = true →
        (p.opcode = 0x40 → exec (.rdShared port p) s = .next (s.ended (s.afterPacket p (w.runCoh r))))
        ∧ (p.opcode = 0x41 → exec (.rdOwn port p) s = .next (s.ended (s.afterPacket p (w.runCoh r))))
        ∧ (p.opcode = 0x42 → exec (.upgrade port p) s = .next (s.ended (s.afterPacket p (w.runCoh r))))
        ∧ (p.opcode = 0x43 → exec (.rdCur port p) s = .next (s.ended (s.afterPacket p (w.runCoh r))))
        ∧ (p.opcode = 0x44 → exec (.wbDirty port p) s = .next (s.ended (s.afterPacket p (w.runReturn r))))
        ∧ (p.opcode = 0x45 → exec (.evictClean port p) s = .next (s.ended (s.afterPacket p (w.runReturn r)))))
    ∧ (p.opcode = 0x61 → exec (.mgtRead port p) s = .next (s.ended (s.afterPacket p (w.runMgtRead r))))
    ∧ (p.opcode = 0x62 → exec (.mgtWrite port p) s = .next (s.ended (s.afterPacket p (w.runMgtWrite r))))
    ∧ (p.opcode = 0x64 → exec (.fwChunk port p) s = .next (s.ended (s.afterPacket p (w.runChunk r))))
    ∧ (p.opcode = 0x65 → exec (.routeUpdate port p) s = .next (s.ended (s.afterPacket p (w.runRouteUpdate r))))
    ∧ (p.opcode = 0x66 → bit p.opw 12 = false → exec (.fence port p) s = .next (s.ended (s.afterPacket p (w.runFence r))))
    ∧ (p.opcode = 0x66 → bit p.opw 12 = true → exec (.unfence port p) s = .next (s.ended (s.afterPacket p (w.runFence r))))

/-- A ward or attention request for this chip that nothing holds back, from a bound subscriber's valid context with room in the dispatcher, is
admitted to it (R93, R126, R145): FILL, COPY, COPY_REMOTE, COMPARE, REDUCE, GATHER_REDUCE, COL_REDUCE, KV_APPEND and ATTEND. -/
def Obligations.WardRequestsAreAdmitted : Prop :=
  ∀ (s : State) (port : Nat) (p : Packet) (n : Nat),
    s.portOpen port = true → (s.landed port p).mine p = true → (s.local port p).takesReq (s.asHere port p) n = true →
    State.runsNow ((s.local port p).reqTaken port (s.asHere port p) n) = true →
    ∀ (w : State) (r : Req), State.running ((s.local port p).reqTaken port (s.asHere port p) n) = (w, r) →
    w.basic = false → r.bnd = true → w.ctxOk r.pkt = true → w.dispatched.length < 1024 → w.ctxOps r.pkt.ctx < 64 →
    (p.opcode = 0x10 → exec (.fill port p) s = .next (s.ended (s.afterPacket p (w.wardPut r (w.rootTree r.pkt)))))
    ∧ (p.opcode = 0x11 → exec (.copy port p) s = .next (s.ended (s.afterPacket p (w.wardPut r (w.rootTree r.pkt)))))
    ∧ (p.opcode = 0x15 → exec (.copyRemote port p) s = .next (s.ended (s.afterPacket p (w.wardPut r (w.rootTree r.pkt)))))
    ∧ (p.opcode = 0x12 → exec (.compare port p) s = .next (s.ended (s.afterPacket p (w.wardPut r (w.rootTree r.pkt)))))
    ∧ (p.opcode = 0x13 → exec (.reduce port p) s = .next (s.ended (s.afterPacket p (w.wardPut r (w.rootTree r.pkt)))))
    ∧ (p.opcode = 0x14 → exec (.gatherReduce port p) s = .next (s.ended (s.afterPacket p (w.wardPut r (w.rootTree r.pkt)))))
    ∧ (p.opcode = 0x23 → p.vc < 4 → (s.asHere port p).vc < 4 → exec (.colReduce port p) s = .next (s.ended (s.afterPacket p (w.wardPut r (w.rootTree r.pkt)))))
    ∧ (w.part.full = true → p.opcode = 0x21 → exec (.attend port p) s = .next (s.ended (s.afterPacket p (w.wardPut r (w.rootTree r.pkt)))))
    ∧ (w.part.full = true → p.opcode = 0x20 →
        w.kwLocal r.pkt.sub (kvKw r.pkt) (kvBlock r.pkt (w.kvSpan r.pkt) (apFirst r.pkt / 16)) ≠ .inl .foreignStripe →
        exec (.kvAppend port p) s = .next (s.ended (s.afterPacket p (w.wardPut r (w.rootTree r.pkt)))))

/-- Responses and packets between chips that reach this chip act: COMP_ACK, snoop responses, answers to remote WRITEs and forwarded chunks,
version answers, the packets of COL_REDUCE and of ATTEND_MERGE; and ENUM requests from a neighbour (DEST 0xFFE), which a unit without an ID
takes too. -/
def Obligations.AnswersAndTreePacketsAct : Prop :=
  ∀ (s : State) (port : Nat) (p : Packet), s.portOpen port = true →
    (p.dest = 0xFFE → (s.landed port p).takes p = true → (s.landed port p).hasId = true ∨ port < 4 → headerMalformed p = false →
      p.mcast = false → (s.landed port p).fenced p.src = false → p.opcode = 0x60 → enumBad p = false →
      ∀ u : State, u = ((s.landed port p).bump Reg.RTB_LOCAL_CNT.OFF).countTaken port p →
      (bits p.opw 1 0 = 0 → exec (.enumAssign port p) s = .next (s.ended (s.afterPacket p (u.assign port p))))
      ∧ (bits p.opw 1 0 = 1 → exec (.timeReq port p) s = .next (s.ended (s.afterPacket p (u.timeReqAnswer port p)))))
    ∧ ((s.landed port p).mine p = true → ∀ (u : State) (q : Packet), u = s.local port p → q = s.asHere port p →
    (s.wellSaid port p = true →
      (u.part.full = true → p.opcode = 0x4C → exec (.compAck port p) s = .next (s.ended (s.afterPacket p (u.compAckIn q))))
      ∧ (u.part.full = true → 0xC8 ≤ p.opcode → p.opcode ≤ 0xCB →
          exec (.snoopResponse port p) s = .next (s.ended (s.afterPacket p (u.snoopRsp port q))))
      ∧ (p.opcode = 0x82 → exec (.remoteWriteResponse port p) s = .next (s.ended (s.afterPacket p (u.remoteRsp q))))
      ∧ (p.opcode = 0xE4 → exec (.fwForwardResponse port p) s = .next (s.ended (s.afterPacket p (u.fwdResponse q))))
      ∧ (p.opcode = 0xE1 → exec (.mgtReadResponse port p) s = .next (s.ended (s.afterPacket p (u.versionAnswer q))))
      ∧ (p.opcode = 0xE0 → enumRspBad q = false → bits p.opw 1 0 = 0 →
          exec (.enumAssignResponse port p) s = .next (s.ended (s.afterPacket p (u.assignRsp port q))))
      ∧ (p.opcode = 0xE0 → enumRspBad q = false → bits p.opw 1 0 = 1 →
          exec (.timeReqResponse port p) s = .next (s.ended (s.afterPacket p (u.timeCorrect port q)))))
    ∧ (u.part.full = true → p.opcode = 0x22 → mgKind p = 0 →
        exec (.attendMergeDescend port p) s = .next (s.ended (s.afterPacket p (u.mergeDown port q))))
    ∧ (u.part.full = true → p.opcode = 0x22 → mgKind p = 1 →
        exec (.attendMergePartial port p) s = .next (s.ended (s.afterPacket p (u.mergeUp q))))
    ∧ (p.opcode = 0x23 → 4 ≤ q.vc → 4 ≤ p.vc → s.colOp p = none → u.colOp q = none → u.treeParent (bits (wParam q) 7 0) = some q.src →
        exec (.colDescriptor port p) s = .next (s.ended (s.afterPacket p (u.colDown port q))))
    ∧ (p.opcode = 0x23 → 4 ≤ q.vc → 4 ≤ p.vc → s.colOp p ≠ none → u.colOp q ≠ none →
        exec (.colPartial port p) s = .next (s.ended (s.afterPacket p (u.colUp q)))))

/-- The packets of a hinge pair and of its witness that reach the member or witness they are for act (R399, R407, R412, R424). -/
def Obligations.HeartbeatPacketsAct : Prop :=
  ∀ (s : State) (port : Nat) (p : Packet), s.portOpen port = true → (s.landed port p).mine p = true → p.opcode = 0x67 →
    ∀ (u : State) (q : Packet), u = s.local port p → q = s.asHere port p → hbMalformed q = false →
    (∀ w, u.witFind (hbPair q) q.src = some w →
      (hbKind p = 5 → exec (.leaseReq port p) s = .next (s.ended (s.afterPacket p (u.leaseReq w q))))
      ∧ (hbKind p = 8 → exec (.leaseRelease port p) s = .next (s.ended (s.afterPacket p (u.leaseRelease w q)))))
    ∧ (u.fromWitness q = true →
      (hbKind p = 6 → exec (.leaseGrant port p) s = .next (s.ended (s.afterPacket p (u.leaseGrant q))))
      ∧ (hbKind p = 7 → exec (.leaseRefuse port p) s = .next (s.ended (s.afterPacket p u.leaseRefuse))))
    ∧ (u.fromPartner q = true →
      (hbKind p = 0 → exec (.beat port p) s = .next (s.ended (s.afterPacket p (u.beatIn q))))
      ∧ (hbKind p = 1 → exec (.journal port p) s = .next (s.ended (s.afterPacket p (u.journalIn q))))
      ∧ (hbKind p = 2 → exec (.jrnlAck port p) s = .next (s.ended (s.afterPacket p (u.journalAck (hbEpoch q)))))
      ∧ (hbKind p = 3 → exec (.resyncReq port p) s = .next (s.ended (s.afterPacket p (u.resyncReq q))))
      ∧ (hbKind p = 4 → exec (.resyncData port p) s = .next (s.ended (s.afterPacket p (u.resyncIn q)))))

/-- A packet for another chip goes on: it joins the queue of the port the tables give, with the buffer it occupies (R301), and the transit counter
counts it (R333). -/
def Obligations.TransitPacketsGoOn : Prop :=
  ∀ (s : State) (port out : Nat) (p q : Packet) (u : State), s.portOpen port = true → s.foreign p = true →
    (s.landed port p).takes p = true → (s.landed port p).hasId = true → headerMalformed p = false → wordsReserved p = false →
    p.mcast = false → p.dest ≠ 0xFFE →
    (s.landed port p).forPair p = false → (s.landed port p).route p = (u, .send out q) →
    exec (.transitForward port p) s = .next (s.ended (s.afterPacket p
      ((u.bump Reg.RTB_TRANSIT_CNT.OFF).queueTransit out q (if (s.landed port p).linkUp port then some (port, p.vc) else none))))

/-- A packet whose header is malformed is dropped: counted and recorded, and nothing else (R10, R330). -/
def Obligations.MalformedPacketsAreDropped : Prop :=
  ∀ (s : State) (port : Nat) (p : Packet), s.portOpen port = true → (s.landed port p).takes p = true →
    (s.landed port p).hasId = true → headerMalformed p = true →
    ∀ t : State, t = s.afterPacket p ((s.landed port p).malformed p) →
    (p.opcode = 1 → exec (.read port p) s = .next (s.ended t))
    ∧ (p.opcode = 2 → exec (.write port p) s = .next (s.ended t))
    ∧ (p.opcode = 0x33 → exec (.latchRead port p) s = .next (s.ended t))
    ∧ (p.opcode = 0x62 → exec (.mgtWrite port p) s = .next (s.ended t))

/-! ### The pool, its partitions and its order -/

/-- Partition registers: an accepted write of an entry register changes what the spec says of it (R21 to R25), an accepted grant stands (R32), a
write of PTN_SUB_QSC takes the bits and ends the quiesce of those cleared (R26), PTN_INIT starts a fill (R30). -/
def Obligations.PartitionWritesAct : Prop :=
  ∀ (s : State) (a : Path) (n : Nat),
    (∀ v : Word, n < 64 → s.regOpen a (Reg.PTN_BASE.OFF n) = true → s.ptnAccepts n 0 v.toNat = true → s.f (Reg.PTN_SIZE.SIZE_GIB n) = 0 →
      exec (.ptnEntryWrite a n 0 v) s = .next (s.ended (s.setF (Reg.PTN_BASE.BASE_GIB n) (bits v.toNat 9 0))))
    ∧ (∀ v : Word, n < 64 → s.regOpen a (Reg.PTN_BASE.OFF n + 4) = true → s.ptnAccepts n 1 v.toNat = true → s.f (Reg.PTN_SIZE.SIZE_GIB n) = 0 →
      exec (.ptnEntryWrite a n 1 v) s = .next (s.ended (s.setF (Reg.PTN_SIZE.SIZE_GIB n) (bits v.toNat 9 0))))
    ∧ (∀ v : Word, n < 64 → s.regOpen a (Reg.PTN_BASE.OFF n + 4) = true → s.ptnAccepts n 1 v.toNat = true →
      s.f (Reg.PTN_SIZE.SIZE_GIB n) ≠ 0 → bits v.toNat 9 0 ≠ s.f (Reg.PTN_SIZE.SIZE_GIB n) →
      exec (.ptnEntryWrite a n 1 v) s =
        .next (s.ended (((s.setF (Reg.PTN_SIZE.SIZE_GIB n) (bits v.toNat 9 0)).setFlag (Reg.PTN_FLAGS.INITIALISED n) false).initStop n)))
    ∧ (∀ v : Word, n < 64 → s.regOpen a (Reg.PTN_BASE.OFF n + 8) = true → s.ptnAccepts n 2 v.toNat = true →
      exec (.ptnEntryWrite a n 2 v) s = .next (s.ended (s.setF (Reg.PTN_OWNER.OWNER n) (bits v.toNat 5 0))))
    ∧ (∀ v : Word, n < 64 → s.regOpen a (Reg.PTN_BASE.OFF n + 12) = true → s.ptnAccepts n 3 v.toNat = true →
      exec (.ptnEntryWrite a n 3 v) s = .next (s.ended (s.setWord (Reg.PTN_FLAGS.OFF n) (s.part.ptnFlags v.toNat))))
    ∧ (∀ v : Word, n < 256 → s.regOpen a (Reg.PTN_GNT.OFF n) = true → bit (s.word (Reg.PTN_GNT.OFF n)) 31 = false →
      s.gntOk (gntMask v.toNat) = true →
      exec (.ptnGntWrite a n v) s = .next (s.ended (s.setWord (Reg.PTN_GNT.OFF n) (gntMask v.toNat))))
    ∧ (∀ v : DWord, s.regOpen a Reg.PTN_SUB_QSC.OFF = true → (∀ b, b < 64 → bit v.toNat b = true → bit (s.f Reg.PTN_SUB_QSC.QSC) b = true) →
      exec (.ptnSubQscWrite a v) s =
        .next (s.ended ((s.setF Reg.PTN_SUB_QSC.QSC v.toNat).setF Reg.PTN_SUB_QSD.QSD (s.f Reg.PTN_SUB_QSD.QSD &&& v.toNat))))
    ∧ (∀ v : Word, s.regOpen a Reg.PTN_INIT.OFF = true → s.init = none → s.f (Reg.PTN_SIZE.SIZE_GIB (bits v.toNat 5 0)) ≠ 0 →
      s.quiesced (s.f (Reg.PTN_OWNER.OWNER (bits v.toNat 5 0))) = true →
      exec (.ptnInit a v) s = .next (s.ended ({ s with init := some (InitJob.mk (bits v.toNat 5 0) (bits v.toNat 31 8)
        (s.f (Reg.PTN_BASE.BASE_GIB (bits v.toNat 5 0))) (s.f (Reg.PTN_SIZE.SIZE_GIB (bits v.toNat 5 0))) false) }.setWord
          Reg.PTN_INIT_STAT.OFF 1)))

/-- Events of the pool: a quiesce completes (R27), a fill ends, waits for its allowance or stops (R30, R387), an ORDERED or
overlapping request starts, is ABORTED in a broken segment, or is translated while it must wait (R46, R47, R49, R68), a gap timer
expires (R48), a straggler window ends (R45). -/
def Obligations.PoolEventsAct : Prop :=
  ∀ s : State, s.active = true →
    (∀ b, b < 64 → s.quiescing b = true → s.subBusy b = false →
      exec (.quiesceComplete b) s = .next (s.ended (s.setF Reg.PTN_SUB_QSD.QSD (putBit (s.f Reg.PTN_SUB_QSD.QSD) b true))))
    ∧ (∀ j, s.init = some j → j.stop = true →
      exec .ptnInitStop s = .next (s.ended (((s.initCut j).setWord Reg.PTN_INIT_STAT.OFF (6 + j.entry * 256)).evt Pg.PTN 1)))
    ∧ (∀ j, s.init = some j → j.stop = false → s.fillWaits = false → s.maintAllowed = false →
      exec .ptnInitDone s = .next (s.ended s.noteMaintHeld))
    ∧ (∀ j u, s.init = some j → j.stop = false → s.fillWaits = false → s.maintAllowed = true →
      u = ((s.fillSectors (j.base * 2 ^ 30) (j.size * 16777216) j.pattern).memBytes none 11 (64 * (j.size * 16777216))).takeMaint
        (64 * (j.size * 16777216)) →
      exec .ptnInitDone s = .next (s.ended
        ((({ u with init := none }.setFlag (Reg.PTN_FLAGS.INITIALISED j.entry) true).setWord Reg.PTN_INIT_STAT.OFF (2 + j.entry * 256)).evt
          Pg.PTN 1)))
    ∧ (∀ key num r, s.waiting key num = some r → r.cxl.isSome = true ∨ s.dualSilent r.pkt = false → s.req? r.id = some r →
      (s.mayStart r = true → s.segmentBroken r = false → s.walking r.id = false →
        exec (.orderedStart key num) s = .next (s.ended ((State.running (s, r)).1.runReq (State.running (s, r)).2)))
      ∧ (s.mayStart r = true → s.segmentBroken r = false → s.walking r.id = true →
        exec (.orderedStart key num) s = .next (s.ended (s.modReq r.id fun q => { q with started := true })))
      ∧ (s.mayStart r = true → s.segmentBroken r = true →
        exec (.orderedStart key num) s = .next (s.ended (s.finish r.id stABORTED 0 (s.abortWord r) [])))
      ∧ (s.mayStart r = false → s.walking r.id = false → exec (.orderedStart key num) s = .next (s.ended (s.xlateAhead r))))
    ∧ (∀ key num r e m l u, s.waiting key num = some r → s.seqEntry key = some e → r.gap = true → e.missing r.n = m :: l →
      u = ((s.setSeq key (e.lose r.n)).bump Reg.GLB_SEQ_GAP.OFF).fault
        { mkRec 0 0 0x0002 with sub := r.pkt.sub, node := r.pkt.src, addr := m % 65536 } →
      ((r.pkt.ordered || r.pkt.opcode == 0x30) = true →
        exec (.seqGapTimeout key num) s = .next (s.ended (u.finish r.id stABORTED 0 (u.abortWord r) [])))
      ∧ ((r.pkt.ordered || r.pkt.opcode == 0x30) = false →
        exec (.seqGapTimeout key num) s = .next (s.ended (u.modReq r.id fun q => { q with gap := false }))))
    ∧ (∀ key e, s.seqEntry key = some e → exec (.seqEntryWindowEnd key) s = .next (s.ended (s.setSeq key { e with win := false })))

/-! ### Keyways and translation -/

/-- The keyway page: LOAD shows the selected descriptor in KTU_KW_DATA0 to 7 (R60), an accepted STORE replaces it and starts its walks again
(R61, R62), a quiesced logical device changes its keyway (R63), an invalidation starts (R74). -/
def Obligations.KeywayWritesAct : Prop :=
  ∀ (s : State) (a : Path),
    (s.regOpen a Reg.KTU_KW_CMD.OFF = true →
      exec (.kwLoad a) s = .next (s.ended ((List.range 8).foldl (fun (u : State) i =>
        u.setWord (Reg.KTU_KW_DATA.OFF i) (bits (s.desc (s.f Reg.KTU_KW_SEL.KEYWAY)) (32 * i + 31) (32 * i))) s)))
    ∧ (s.regOpen a Reg.KTU_KW_CMD.OFF = true → s.kwMay (s.desc (s.f Reg.KTU_KW_SEL.KEYWAY)) (descMask s.kwData) = true →
      exec (.kwStore a) s = .next (s.ended (State.restartWalks { s with ktu := { s.ktu with
        descs := SMap.set (fun _ => 0) s.ktu.descs (s.f Reg.KTU_KW_SEL.KEYWAY) (descMask s.kwData) } }
        fun w => w.kw == s.f Reg.KTU_KW_SEL.KEYWAY)))
    ∧ (s.regOpen a Reg.KTU_KW_CMD.OFF = true → s.kwMay (s.desc (s.f Reg.KTU_KW_SEL.KEYWAY)) (descMask s.kwData) = false →
      exec (.kwStore a) s = .next (s.ended (s.cfgReject a Pg.KTU 2 0x0112 Reg.KTU_KW_CMD.OFF (some (s.f Reg.KTU_KW_SEL.KEYWAY)))))
    ∧ (∀ (n : Nat) (v : Word), n < 16 → s.regOpen a (Reg.KTU_LD_KEYWAY.OFF n) = true → s.quiesced n = true →
      bits v.toNat 11 0 + bits v.toNat 31 31 * 2 ^ 31 ≠ s.word (Reg.KTU_LD_KEYWAY.OFF n) →
      exec (.ktuLdKeywayWrite a n v) s =
        .next (s.ended (s.setWord (Reg.KTU_LD_KEYWAY.OFF n) (bits v.toNat 11 0 + bits v.toNat 31 31 * 2 ^ 31))))
    ∧ (∀ v : Word, s.regOpen a Reg.KTU_INV_CMD.OFF = true → bits v.toNat 13 12 ≠ 3 → s.ktu.invs.length < 8 → (∀ x y z w, a ≠ .mgt x y z w) →
      exec (.ktuInvCmd a v) s = .next (s.ended (s.invStart v.toNat none)))

/-- Events of translation: a walk's read ends (R72, R73), a queued miss resumes (R71), an invalidation completes (R75, R77), a stopped chunk is
translated again or gives up (R68). -/
def Obligations.TranslationEventsAct : Prop :=
  ∀ s : State, s.active = true →
    (∀ i w data, s.walkAt i = some w → exec (.walkFetchComplete i true data) s = .next (s.ended (s.walkData i w data)))
    ∧ (∀ i w data, s.walkAt i = some w → exec (.walkFetchComplete i false data) s = .next (s.ended (s.walkFail i w)))
    ∧ (∀ i w, s.walkAt i = some w → exec (.walkFetchTimeout i) s = .next (s.ended (s.walkFail i w)))
    ∧ (∀ i m n, (s.ktu.missq ++ s.ktu.stalled)[i]? = some m → n = s.ktu.missq.length → s.ktu.walks.any (fun w => w.2.kw == m.kw) = false →
      s.ktu.walks.length < 32 → exec (.missDequeue i) s = .next (s.ended (State.wake { s with ktu := { s.ktu with
        missq := s.ktu.missq.eraseIdx i
        stalled := if i < n then s.ktu.stalled else s.ktu.stalled.eraseIdx (i - n) } } m.who .again)))
    ∧ (∀ x rest, s.ktu.invs = x :: rest → x.waits.all s.waiterEnded = true → x.notify = none →
      exec .invDone s = .next (s.ended ({ s with ktu := { s.ktu with invs := rest, doneTag := x.tag } }.evt Pg.KTU 1)))
    ∧ (∀ op k o r c, s.wop op = some o → s.wopPkt op = some r → o.chunk k = some c → c.stopped ≠ none →
      exec (.chunkTranslateRetry op k) s = .next (s.ended ((s.modChunk op k fun y => { y with
        stopped := none, segs := [], xl := [], todo := s.wardPieces o r.pkt k }).chunkGo op k)))
    ∧ (∀ op k o c, s.wop op = some o → o.chunk k = some c → c.failing ≠ none →
      exec (.chunkTranslateAbort op k) s = .next (s.ended (s.abortWop op)))

/-! ### Ward and attention operations as they run -/

/-- Chunks: one is translated and issued (R90), one finishes, applies its effect and its operation goes on (R90), and a context's quantum
expires while another waits (R128); an engine leaves service (R136); a wait on WAIT_LATCH ends (R124); a context register is written (R127). -/
def Obligations.WardEventsAct : Prop :=
  ∀ s : State, s.active = true →
    (∀ op k n o r, s.wop op = some o → s.wopPkt op = some r → o.wait = false → o.ending = none → o.done.contains k = false →
      wardMay o r.pkt k = true → s.engineFree n = true → s.inDeficit r.pkt.sub 3 = false → s.wardAllowed = true →
      s.engineTakes n r.pkt.ctx = true → o.chunk k = none →
      ∀ u o1 c, u = (s.modWop op fun y => { y with
          live := y.live ++ [Chunk.mk k n false [] (s.wardPieces o r.pkt k) none none 0 [] none] }).chunkGo op k →
        u.wop op = some o1 → o1.chunk k = some c → c.todo = [] → c.stopped = none → c.run = false →
        exec (.chunkIssue op k n) s = .next (s.ended (u.chunkRun op k n r c (u.wardAt o1 r.pkt) (wardKw r.pkt))))
    ∧ (∀ op k o r c z, s.wop op = some o → s.wopPkt op = some r → o.chunk k = some c → c.run = true → c.away = none → s.chunkHeld c = false →
      s.chunkLines op c = (z, true) →
      ∀ u, u = ((z.cohDone (.chunk op k)).chunkEffect op o r c).modWop op (fun y => { y with
          live := y.live.filter fun x => x.idx != k, done := y.done ++ [k] }) →
        exec (.chunkComplete op k) s = .next (s.ended
          ((u.addCnt (Reg.WE_BUSY_NS.OFF + 0x1000 * c.engine) (u.time - c.since)).wardAdvance op)))
    ∧ (∀ n u e, u = s.snoopYield n → e = u.engine n → (e.held && u.heldCtxs.contains e.ctx) = false → u.readyCtxs.any (fun c => c != e.ctx) = true →
      exec (.quantumExpiry n) s = .next (s.ended (u.setEngine n { e with
        quanta := e.quanta + 1, expired := decide (max 1 (u.f (Reg.WRD_CTX.WEIGHT e.ctx)) ≤ e.quanta + 1) || e.expired })))
    ∧ (∀ n, n < s.part.engines →
      exec (.engineFault n) s = .next (s.ended ((s.setEngine n { s.engine n with out := true }).evt (Pg.WE n) 0)))
    ∧ (∀ op o r, s.wop op = some o → s.wopPkt op = some r → o.wait = true →
      exec (.wardWaitTimeout op) s = .next (s.ended (((s.evt Pg.WRD 5).fault { mkRec 3 0 0x0305 with
        addr := lwWait (latchWord r.pkt), sub := r.pkt.sub, ctx := r.pkt.ctx, ctxValid := true, node := r.pkt.src }).abortWop op)))
    ∧ (∀ (a : Path) (n : Nat) (v : Word) (old new : Nat), n < 256 → s.regOpen a (Reg.WRD_CTX.OFF n) = true → old = s.word (Reg.WRD_CTX.OFF n) →
      new = bits v.toNat 5 0 + max 1 (bits v.toNat 15 8) * 2 ^ 8 + bits v.toNat 31 31 * 2 ^ 31 →
      (bit old 31 = false ∨ bit new 31 = true ∧ bits old 5 0 = bits new 5 0 →
        exec (.wrdCtxWrite a n v) s = .next (s.ended (s.setWord (Reg.WRD_CTX.OFF n) new)))
      ∧ (bit old 31 = true → bit new 31 = false →
        exec (.wrdCtxWrite a n v) s = .next (s.ended ((s.setWord (Reg.WRD_CTX.OFF n) new).ctxAbort n)))
      ∧ (bit old 31 = true → bit new 31 = true → bits old 5 0 ≠ bits new 5 0 →
        exec (.wrdCtxWrite a n v) s = .next (s.ended (s.cfgReject a Pg.WRD 3 0x0308 (Reg.WRD_CTX.OFF n) none))))

/-- A remote WRITE whose back-off is over is sent again as a new request, with a new tag and sequence number, and none is sent of an operation that is
ending; one unanswered for 10 ms ends its operation: counted, recorded with REMOTE_FAIL, given up, the operation ABORTED (R111), and of an operation
that is ending already it is only waited for no longer (R112). A child of a COL_REDUCE or of a merge is silent for COL_TMO: event, record, given up,
and the operation goes on without it (R123, R171). -/
def Obligations.TreeAndRemoteTimersAct : Prop :=
  ∀ s : State, s.active = true → ∀ op o r, s.wop op = some o → s.wopPkt op = some r →
    (∀ i w, o.remote.find? (fun x => x.idx == i && x.st == 2) = some w →
      (o.ending = none → exec (.remoteWriteResend op i) s = .next (s.ended (s.remoteSend op r w)))
      ∧ (o.ending ≠ none → exec (.remoteWriteResend op i) s = .next (s.ended s)))
    ∧ (∀ i w, o.remote.find? (fun x => x.idx == i && x.st == 1) = some w →
      (o.ending = none → exec (.remoteWriteTimeout op i) s = .next (s.ended
        (((((s.bump Reg.WRD_REMOTE_FAIL_CNT.OFF).evt Pg.WRD 3).fault { mkRec 3 2 0x0303 with
          sub := r.pkt.sub, ctx := r.pkt.ctx, ctxValid := true, node := r.pkt.src }).modWop op fun y => { y with
            remote := y.remote.filter fun x => x.idx != w.idx }).abortWop op)))
      ∧ (o.ending ≠ none → exec (.remoteWriteTimeout op i) s = .next (s.ended (s.remoteDone op w fun y => y))))
    ∧ (∀ n t, o.tree = some t → t.kids.any (fun k => k.node == n && !k.done && !k.lost && !k.fenced) = true →
      (r.pkt.opcode = 0x23 →
        exec (.colTimeout op n) s = .next (s.ended ((((s.evt Pg.WRD 4).fault { mkRec 3 2 0x0304 with
          sub := r.pkt.sub, ctx := r.pkt.ctx, ctxValid := true, node := n }).modKid op n fun k => { k with lost := true }).wardAdvance op)))
      ∧ (r.pkt.opcode ≠ 0x23 →
        exec (.mergeTimeout op n) s = .next (s.ended ((((((s.bump Reg.WRD_MERGE_TMO_CNT.OFF).evt Pg.WRD 6)).fault { mkRec 3 2 0x0402 with
          sub := r.pkt.sub, ctx := r.pkt.ctx, ctxValid := true, node := n }).modKid op n fun k => { k with lost := true }).wardAdvance op))))

/-! ### Coherent regions and CXL requests -/

/-- The directory's registers: an agent slot is written (R204), an agent is fenced or its fence lifted (R228, R230), a flush starts (R231). -/
def Obligations.DirectoryWritesAct : Prop :=
  ∀ (s : State) (a : Path),
    (∀ (x : Nat) (v : Word), x < 512 → s.regOpen a (Reg.DIR_AGENT.OFF x) = true → s.dirNames x = false →
      exec (.dirAgentWrite a x v) s = .next (s.ended (s.setWord (Reg.DIR_AGENT.OFF x)
        (bits v.toNat 16 0 + bits v.toNat 31 31 * 2 ^ 31 + bits (s.word (Reg.DIR_AGENT.OFF x)) 29 29 * 2 ^ 29))))
    ∧ (∀ x, x < 512 → s.regOpen a Reg.DIR_FENCE_CMD.OFF = true → s.flag Reg.DIR_FENCE_STAT.BUSY = false → s.flag (Reg.DIR_AGENT.VALID x) = true →
      exec (.dirFence a x) s = .next (s.ended ((s.setF Reg.DIR_FENCE_STAT.DONE 0).fenceAgent x)))
    ∧ (∀ x, x < 512 → s.regOpen a Reg.DIR_FENCE_CMD.OFF = true →
      s.flag Reg.DIR_FENCE_STAT.BUSY = false ∨ s.dir.fences.any (fun j => j.agent == x) = true → s.flag (Reg.DIR_AGENT.VALID x) = true →
      exec (.dirUnfence a x) s = .next (s.ended ((s.setF Reg.DIR_FENCE_STAT.DONE 0).liftFence x)))
    ∧ (s.regOpen a Reg.DIR_FLUSH_CMD.OFF = true → s.flag Reg.DIR_FLUSH_STAT.BUSY = false →
      exec (.dirFlush a) s = .next (s.ended s.flushStart))

/-- The directory's events: a snoop is unanswered for SNP_TMO (R223), a grant's hold time ends and the snoops it deferred go (R222), a fence walk
ends (R228, R230), a flush ends (R231). -/
def Obligations.DirectoryEventsAct : Prop :=
  ∀ s : State, s.active = true →
    (∀ line x t z, s.openSnoop line x = some (t, z) → s.dir.late.any (fun y => y.num == t.num && y.agent == x) = false →
      exec (.snoopTimeout line x) s = .next (s.ended (((s.bump Reg.DIR_SNP_TMO_CNT.OFF).evt Pg.DIR 1).fault
        { mkRec (s.dirSource line) 2 0x0601 with addr := line, addrPpa := true, node := s.f (Reg.DIR_AGENT.NODE x) })))
    ∧ (∀ line u, u = { s with dir := { s.dir with hold := s.dir.hold.filter fun h => h.1 != line } } →
      exec (.biHoldTimeEnd line) s = .next (s.ended
        ((s.dir.txns.filter fun t => t.line == line).foldl (fun (w : State) t => w.sendSnoops t.num) u)))
    ∧ (∀ x j u v w, s.dir.fences.find? (fun y => y.agent == x) = some j → j.txns.any (fun n => (s.txnOf n).isSome) = false → j.wait = [] →
      u = { s with dir := { s.dir with fences := s.dir.fences.filter fun y => y.agent != x } } →
      v = ((if u.dir.fences.isEmpty then u.setF Reg.DIR_FENCE_STAT.BUSY 0 else u).setF Reg.DIR_FENCE_STAT.DONE 1).evt Pg.DIR 2 →
      w = (if j.count = 0 then v else v.evt Pg.DIR 4).fault { mkRec (match j.first with
        | some l => v.dirSource l
        | none => 121) 1 0x0602 with addr := j.first.getD 0, addrPpa := true, count := j.count } →
      exec (.dirFenceDone x) s = .next (s.ended (if j.lift then w.setFlag (Reg.DIR_AGENT.FENCED x) false else w)))
    ∧ (s.flag Reg.DIR_FLUSH_STAT.BUSY = true → s.flushOpen = false →
      exec .dirFlushDone s = .next (s.ended
        ((({ s with dir := { s.dir with flush := [] } }.setF Reg.DIR_FLUSH_STAT.BUSY 0).setF Reg.DIR_FLUSH_STAT.DONE 1).evt Pg.DIR 3)))

/-- CXL.mem requests and back-invalidate messages (R233, R513): a request that the port takes is counted, then taken and started, or held while its
device is in deficit or others of it are held (R365, R366; log entry 96); a response to a back-invalidate snoop answers it; BIConflict is answered; the
oldest held request goes once its buckets leave deficit (R366). -/
def Obligations.CxlRequestsAct : Prop :=
  ∀ s : State, s.active = true →
    (∀ (r : CxlMem) (k : Nat) (c : Instr), s.cxlTakes r.ld = true →
      (k, c) ∈ [(0, Instr.cxlMemRd r), (1, Instr.cxlMemRdData r), (2, Instr.cxlMemInv r), (3, Instr.cxlMemWr r)] →
      ∀ u w, u = s.bump (if k = 3 then Reg.CXP_M2S_RWD_CNT.OFF else Reg.CXP_M2S_REQ_CNT.OFF) →
        w = { u with tsh := { u.tsh with hold := u.tsh.hold ++ [(k, r, u.time)] } } →
      (u.cxlPasses k r = true ∨ (u.flag Reg.TSH_CTRL.POLICE_EN && u.peakDeficit r.ld) = false ∧ u.heldOf r.ld = [] →
        (∀ t id, u.cxlTake k r = (t, some id) → exec c s = .next (s.ended (t.startReq id)))
        ∧ (∀ t, u.cxlTake k r = (t, none) → exec c s = .next (s.ended t)))
      ∧ (u.cxlPasses k r = false → (u.flag Reg.TSH_CTRL.POLICE_EN && u.peakDeficit r.ld) = true → exec c s = .next (s.ended (w.notePoliced r.ld)))
      ∧ (u.cxlPasses k r = false → (u.flag Reg.TSH_CTRL.POLICE_EN && u.peakDeficit r.ld) = false → u.heldOf r.ld ≠ [] →
        exec c s = .next (s.ended w)))
    ∧ (∀ ld line x t z, s.ldAgent ld = some x → s.openSnoop line x = some (t, z) →
      exec (.cxlBiRsp ld line .rspI) s = .next (s.ended (s.snoopAnswered ⟨t.num, x, 0, false, none, true, 4⟩))
      ∧ exec (.cxlBiRsp ld line .rspS) s = .next (s.ended (s.snoopAnswered ⟨t.num, x, 1, false, none, true, 4⟩))
      ∧ exec (.cxlBiRsp ld line .rspE) s = .next (s.ended (s.snoopAnswered ⟨t.num, x, 3, false, none, true, 4⟩)))
    ∧ (∀ ld line, s.cxlUp = true → ld < 16 → exec (.cxlBiConflict ld line) s = .next (s.ended (s.emit (.biConflictAck ld line))))
    ∧ (∀ ld h l u, s.heldOf ld = h :: l → s.peakDeficit ld = false → s.admitting = true →
      u = { s with tsh := { s.tsh with hold := s.tsh.hold.erase h } } →
      (∀ t id, u.cxlTake h.1 h.2.1 = (t, some id) → exec (.cxlHoldRelease ld) s = .next (s.ended (t.startReq id)))
      ∧ (∀ t, u.cxlTake h.1 h.2.1 = (t, none) → exec (.cxlHoldRelease ld) s = .next (s.ended t)))

/-! ### Stack controllers -/

/-- Writes of a stack controller: SC_CH_QSC quiesces and releases channels (R244), a timing register takes its value while its channels are
quiesced and is rejected otherwise (R243), OFFLINE fails the stack (R281). -/
def Obligations.StackWritesAct : Prop :=
  ∀ (s : State) (a : Path) (n : Nat), n < s.part.stacks →
    (∀ v : Word, s.regOpen a (Reg.SC_CH_QSC.OFF n) = true →
      exec (.scChQscWrite a n v) s = .next (s.ended (((s.setF (Reg.SC_CH_QSC.QSC n) v.toNat).setF (Reg.SC_CH_QSD.QSD n)
        (s.f (Reg.SC_CH_QSD.QSD n) &&& v.toNat)).releaseParked)))
    ∧ (∀ (off : Nat) (v : Word), timingReg off = true → s.regOpen a (Pg.SC n + off) = true →
      (s.timingOpen n off = true → exec (.scTimingWrite a n off v) s = .next (s.ended (s.regStore (Pg.SC n + off) v.toNat)))
      ∧ (s.timingOpen n off = false →
          exec (.scTimingWrite a n off v) s = .next (s.ended (s.cfgReject a (Pg.SC n) (100 + n) 0x0709 (Pg.SC n + off) none))))
    ∧ (∀ v : Word, s.regOpen a (Reg.SC_CTRL.OFF n) = true → bit v.toNat 0 = true → s.stackFailed n = false →
      exec (.scOffline a n v) s = .next (s.ended (s.failStack n 4)))

/-- Events of a stack controller: a channel falls idle (R244), the arbiter grants by the starvation rule and by lottery (R255, R257), the one
waiting command of a pseudo-channel is issued (R247), a refresh is issued, postponed, or stood for by one issued ahead (R260; how many are issued ahead
is a free value, log entry 93), a read returns (R267), the scrubber reads a sector (R270 to R272), the
bucket of corrected errors leaks (R274), a retirement is logged (R280), a stack fails (R281), its temperature is read (R284). -/
def Obligations.StackEventsAct : Prop :=
  ∀ (s : State) (n : Nat), s.active = true → n < s.part.stacks →
    (∀ c, c < 32 → bit (s.f (Reg.SC_CH_QSC.QSC n)) c = true → s.sc.cmds.any (fun x => x.q / 64 == n && queueCh x.q == c) = false →
      s.sc.reads.any (fun x => x.q / 64 == n && queueCh x.q == c) = false →
      exec (.channelQuiesceDone n c) s = .next (s.ended (s.setF (Reg.SC_CH_QSD.QSD n) (putBit (s.f (Reg.SC_CH_QSD.QSD n)) c true))))
    ∧ (∀ u heads i x, u = s.panicTest n → heads = (List.range 17).filterMap (fun j => (u.headAccess n j).map fun y => (j, y)) →
      u.f (Reg.SC_ARB_CTRL.STARV_N n) ≤ u.starv n + 1 → longest (u.headSince n) heads = some (i, x) →
      exec (.arbiterGrant n) s = .next (s.ended (((u.setStarv n 0).bump (Reg.SC_ARB_STARV_CNT.OFF n)).grantAccess n i x)))
    ∧ (∀ u heads cand i x t, u = s.panicTest n → heads = (List.range 17).filterMap (fun j => (u.headAccess n j).map fun y => (j, y)) →
      u.starv n + 1 < u.f (Reg.SC_ARB_CTRL.STARV_N n) → cand = (if u.panicking n then heads.filter fun h => u.inPanic n h.1 else heads) → cand ≠ [] →
      t = (cand.map fun h => u.f (Reg.SC_ARB_TKT.TICKETS n h.1)).foldl (· + ·) 0 →
      (if t = 0 then longest (u.headSince n) cand
        else lottery (fun j => u.f (Reg.SC_ARB_TKT.TICKETS n j)) cand 0 (u.f (Reg.SC_ARB_LFSR.LFSR n) * t / 65536)) = some (i, x) →
      exec (.arbiterGrant n) s = .next (s.ended (((u.setF (Reg.SC_ARB_LFSR.LFSR n) (lfsrNext (u.f (Reg.SC_ARB_LFSR.LFSR n)))).setStarv n
        (u.starv n + 1)).grantAccess n i x)))
    ∧ (∀ ch pc x q u, ch < 32 → pc < 2 → q = n * 64 + ch * 2 + pc → u = (s.panicTest n).drainTest n q →
      u.sc.cmds.filter (fun y => y.q == q) = [x] → u.f (Reg.SC_STAT.STATE n) = 1 → u.f Reg.EPL_PLAN_CMD.CAP = 0 ∨ x.exempt = true →
      exec (.sectorCommandIssue n ch pc) s = .next (s.ended ((u.issueCmd n q x).drainTest n q)))
    ∧ (∀ ch pc b q k, ch < 32 → pc < 2 → b < 32 → q = n * 64 + ch * 2 + pc → k = q * 32 + b → s.f (Reg.SC_STAT.STATE (q / 64)) = 1 →
      (0 < s.ahead k → exec (.refreshDue n ch pc b) s = .next (s.ended (s.setAhead k (s.ahead k - 1))))
      ∧ (s.ahead k = 0 → s.refreshDeferrable q b = true → s.postponed k < 8 → exec (.refreshDue n ch pc b) s =
        .next (s.ended ((s.setPostponed k (s.postponed k + 1)).bump (Reg.SC_REF_POSTPONE_CNT.OFF (q / 64)))))
      ∧ (s.ahead k = 0 → s.refreshDeferrable q b = false ∨ 8 ≤ s.postponed k → ∀ u, u = (s.setPostponed k 0).refresh k (1 + s.postponed k) →
        (u.bankIdle q b = false → exec (.refreshDue n ch pc b) s = .next (s.ended u))
        ∧ (u.bankIdle q b = true → ∀ m w, u.fresh 9 = (m, w) →
          exec (.refreshDue n ch pc b) s = .next (s.ended ((w.setAhead k m).refresh k m)))))
    ∧ (∀ m ppa fl k, m < 17 → ppa < s.part.ppaEnd → k = ppa / 64 * 64 →
      (s.sc.reads.find? (fun x => x.ppa == k) = none →
        exec (.sectorReadComplete m ppa fl) s = .next (s.ended (s.demandSector k 0 0xFFF fl).1))
      ∧ (∀ x u, s.sc.reads.find? (fun x => x.ppa == k) = some x → u = { s with sc := { s.sc with
          reads := dropOne x s.sc.reads
          cmds := if x.merge then s.sc.cmds ++ [{ x with write := true, merge := false, since := s.time }] else s.sc.cmds } } →
        (fl = [] → exec (.sectorReadComplete m ppa fl) s = .next (s.ended u))
        ∧ (fl ≠ [] → exec (.sectorReadComplete m ppa fl) s = .next (s.ended (u.demandSector k 0 0xFFF fl).1))))
    ∧ (∀ l g, s.flag (Reg.SC_SCRUB_CTRL.EN n) = true → s.f (Reg.SC_STAT.STATE n) = 1 → s.scrubAllowed = true →
      s.scrubFrom n 40000 (s.f (Reg.SC_SCRUB_POS.GRANULE n)) = some (l, g) →
      exec (.scrubRead n) s = .next (s.ended (s.scrubSector n l g)))
    ∧ exec (.ceBucketLeak n) s =
        .next (s.ended (s.setF (Reg.SC_CE_BUCKET.LEVEL n) (s.f (Reg.SC_CE_BUCKET.LEVEL n) - s.f (Reg.SC_CE_CTRL.LEAK n))))
    ∧ (∀ g, s.sc.unlogged.contains (n, g) = true → exec (.retirementLog n g) s = .next (s.ended (s.logRetire n g)))
    ∧ (s.stackFailed n = false → exec (.stackFault n) s = .next (s.ended (s.failStack n 5)))
    ∧ (∀ t, t < 105 → exec (.stackTempSample n t) s =
        .next (s.ended ((s.stackTemp n t).setF Reg.GLB_THERM.STACK_TEMP (s.stackTemp n t).hottestStack)))

/-- A retirement's copy ends (R277): the granule's sectors are copied by accesses of the maintenance requester, its remap entry is installed and its lock is released, waiting accesses
move to the spare's stack, it is counted, recorded, and the requests held for it start again. -/
def Obligations.RetirementsComplete : Prop :=
  ∀ (s : State) (n g : Nat) (r : Retire), s.active = true → n < s.part.stacks →
    s.sc.retire.find? (fun x => x.granule == g && s.stackAt (g * 4096) == n) = some r → s.stackFailed n = false →
    s.stackFailed (s.part.stackOf (s.part.sparePpa r.spare)) = false →
    s.granuleQuiesced (g * 4096) = false → s.granuleQuiesced (s.part.sparePpa r.spare) = false →
    ∀ q u v w, q = (s.queueAccess 15 (g * 4096) 4096 3 false []).queueAccess 15 (s.part.sparePpa r.spare) 4096 3 true
        (rangePuts (s.part.sparePpa r.spare) 4096) →
      u = ((List.range 64).foldl (fun (acc : State) i => acc.retireSector n r.spare (g * 4096 + 64 * i)) q).installRemap r →
      v = State.movePending { u with sc := { u.sc with retire := u.sc.retire.filter fun x => x.granule != g } } g →
      w = { v with sc := { v.sc with unlogged := v.sc.unlogged ++ [(n, g)] } }.memBytes none 11 8192 →
      exec (.retirementCopyDone n g) s = .next (s.ended ((((w.bump (Reg.SC_RETIRE_CNT.OFF n)).evt (Pg.SC n) 3).fault
        { mkRec (100 + n) 0 0x0704 with addr := g * 4096, addrPpa := true }).releaseParked))

/-! ### Traffic shaper and energy planner -/

/-- The shaper's events (R362, R367, R370, R374) and the clearing of its histograms. -/
def Obligations.ShaperCommandsAct : Prop :=
  ∀ s : State,
    (s.active = true →
      exec .bucketRefill s = .next (s.ended ((List.range 64).foldl (fun (u : State) b =>
        (List.range 4).foldl (fun (v : State) k => v.refillOne b k) u) s))
      ∧ (∀ p, exec (.calendarSlot p) s = .next (s.ended { s with tsh := { s.tsh with
          elig := s.tsh.elig.filter fun e => !(e.1 / 8 == p && decide (e.2 ≤ s.time)) } }))
      ∧ exec .congestionSample s = .next (s.ended { s with tsh := { s.tsh with
          cong := SMap.setMany (fun _ => 0) s.tsh.cong ((List.range 5).map fun p => (p, s.congestionNow p)) } })
      ∧ (s.flag Reg.TSH_HIST_CTRL.FREEZE = true → exec .histogramSample s = .next (s.ended s))
      ∧ (s.flag Reg.TSH_HIST_CTRL.FREEZE = false → ∃ u, exec .histogramSample s = .next (s.ended (u.bump Reg.TSH_SAMPLE_CNT.OFF)) ∧ u =
          (List.range 46).foldl (fun (u : State) q =>
            (u.histCount (q * 2 * 16 + histBin (s.histQueue q).1)).histCount ((q * 2 + 1) * 16 + histBin (match (s.histQueue q).2 with
              | some t => (s.time - t) / 16
              | none => 0))) s))
    ∧ (∀ a, s.regOpen a Reg.TSH_HIST_CTRL.OFF = true →
      exec (.tshHistClear a) s = .next (s.ended { s with tsh := { s.tsh with hist := [] } }))

/-- The energy planner's events: a meter reports (R378) or is faulty (R380), an interval ends (R382 to R394), a sub-slot opens (R385), a plan grows stale (R391);
the sideband's power messages (R567). -/
def Obligations.EnergyCommandsAct : Prop :=
  ∀ s : State,
    (s.active = true →
      (∀ m uj u w, s.part.meterPresent m = true → u = (s.addCnt (Reg.EPL_MTR_UJ.OFF m) uj).addCnt Reg.EPL_TOTAL_UJ.OFF uj →
        w = { u with epl := { u.epl with metered := addTally u.epl.metered m uj } } →
        exec (.meterUpdate m uj false) s = .next (s.ended w)
        ∧ (w.epl.faulty.contains m = false → w.epl.faultyNew.contains m = false → exec (.meterUpdate m uj true) s =
          .next (s.ended ({ w with epl := { w.epl with faultyNew := w.epl.faultyNew ++ [m] } }.fault (mkRec 135 2 0x0B04)))))
      ∧ (∀ s1 u v w, (s.planning = true → s.service = 0 → s1 = s.publishEp (s.pressure s.intervalUj)) →
        (s.planning = false ∨ s.service ≠ 0 → s1 = s) →
        u = ((s1.overBudget s.intervalUj).derate).chargeUj s.countedUj →
        (u.planning = true → v = u.makePlan.bump Reg.EPL_INTERVAL_CNT.OFF) →
        (u.planning = false → v = { u with epl := { u.epl with stale := u.epl.stale + 1 } }.bump Reg.EPL_STALE_CNT.OFF) →
        (v.f Reg.EPL_PLAN_CMD.CAP = 0 → w = v) → (v.f Reg.EPL_PLAN_CMD.CAP ≠ 0 → w = v.bump Reg.EPL_CAP_CNT.OFF) →
        exec .planIntervalBoundary s = .next (s.ended w.newInterval.openSlots))
      ∧ (s.epl.slot < 99 → exec .planSubslot s = .next (s.ended { s with epl := { s.epl with
          slot := s.epl.slot + 1
          wardLeft := nextSlot (s.f Reg.EPL_PLAN_WARD.BYTES) s.epl.wardLeft
          maintLeft := nextSlot (s.f Reg.EPL_PLAN_MAINT.BYTES) s.epl.maintLeft
          resyncLeft := nextSlot (s.f Reg.EPL_PLAN_RESYNC.BYTES) s.epl.resyncLeft } }))
      ∧ (∀ u, s.f Reg.EPL_CTRL.PLAN_TMO ≤ s.epl.stale → s.flag Reg.EPL_STAT.PLAN_STALE = false →
        u = s.setF Reg.EPL_PLAN_WARD.BYTES (min (s.f Reg.EPL_PLAN_WARD.BYTES) (Config.factory 4)) →
        exec .planStale s = .next (s.ended (((({ u with epl := { u.epl with
          wardLeft := min u.epl.wardLeft (2 * (u.f Reg.EPL_PLAN_WARD.BYTES / 100)) } }).setFlag Reg.EPL_STAT.PLAN_STALE true).evt Pg.EPL 2).fault
            (mkRec 135 2 0x0B03)))))
    ∧ (s.clocked = true → s.sidebandUp = true →
      (∀ mw, exec (.setPowerLimit mw) s = .next (s.ended ((s.setF Reg.EPL_SB_LIMIT.MW (min mw 900000)).emit (.sideband (leBytes 1 0)))))
      ∧ (s.phase = .ready → exec .getPower s = .next (s.ended (s.emit (.sideband (leBytes 1 0 ++ leBytes 4 (s.f Reg.EPL_EFF.MW)
          ++ leBytes 4 s.lastMw ++ leBytes 1 (s.f Reg.EPL_EFF.DERATE_PCT) ++ leBytes 1 (s.f Reg.GLB_THERM.CTRL_TEMP)
          ++ leBytes 1 s.hottestStack ++ leBytes 1 s.service)))))
      ∧ (∀ k, s.phase = .warm k → exec .getPower s = .next (s.ended (s.emit (.sideband (leBytes 1 2)))))
      ∧ (∀ r, s.flt.lastFatal = some r →
          exec .getLastFatal s = .next (s.ended (s.emit (.sideband (leBytes 1 0 ++ (leBytes 1 1 ++ r.bytes))))))
      ∧ (s.flt.lastFatal = none →
          exec .getLastFatal s = .next (s.ended (s.emit (.sideband (leBytes 1 0 ++ (leBytes 1 0 ++ zeros 32)))))))

/-! ### The fabric -/

/-- Writes of the router's page: COMMIT validates a version in which no entry fails and records the lowest entry and rule that do (R336),
INVALIDATE and FLIP act where R337 allows them and are rejected elsewhere, a multicast entry that is not VALID takes a write (R344), START begins
enumeration on the head (R352), RTB_NODE gives the node its ID (R354), RTB_TIME_SET the chain head's pool time (R355). -/
def Obligations.FabricWritesAct : Prop :=
  ∀ (s : State) (a : Path),
    (s.regOpen a Reg.RTB_TBL_CMD.OFF = true → ∀ v, v < 2 →
      (s.tableFail (bits (s.word Reg.RTB_PORT_DIR.OFF) 4 0) v = none →
        ∀ u, u = ((s.setVer v true).setF Reg.RTB_TBL_STAT.FAIL_INDEX 0).setF Reg.RTB_TBL_STAT.FAIL_RULE 0 →
          (v = 0 → exec (.rtbCommit a v) s =
            .next (s.ended { u with rtb := { u.rtb with dirA := bits (s.word Reg.RTB_PORT_DIR.OFF) 4 0 } }))
          ∧ (v = 1 → exec (.rtbCommit a v) s =
            .next (s.ended { u with rtb := { u.rtb with dirB := bits (s.word Reg.RTB_PORT_DIR.OFF) 4 0 } })))
      ∧ (∀ d k, s.tableFail (bits (s.word Reg.RTB_PORT_DIR.OFF) 4 0) v = some (d, k) → exec (.rtbCommit a v) s =
          .next (s.ended (((((s.setVer v false).setF Reg.RTB_TBL_STAT.FAIL_INDEX d).setF Reg.RTB_TBL_STAT.FAIL_RULE k).evt Pg.RTB 1).fault
            (mkRec 120 0 0x0905))))
      ∧ (s.mayInvalidate v = true → exec (.rtbInvalidate a v) s = .next (s.ended (s.setVer v false)))
      ∧ (s.mayInvalidate v = false → exec (.rtbInvalidate a v) s = .next (s.ended (s.rtbReject a Reg.RTB_TBL_CMD.OFF)))
      ∧ (s.verValid v = true → s.f Reg.RTB_CTRL.INJ_EPOCH = v → exec (.rtbFlip a v) s = .next (s.ended s))
      ∧ (s.verValid 0 = true → s.f Reg.RTB_CTRL.INJ_EPOCH = 1 → exec (.rtbFlip a 0) s =
          .next (s.ended { s.setF Reg.RTB_CTRL.INJ_EPOCH 0 with rtb := { s.rtb with leftB := some s.time } }))
      ∧ (s.verValid 1 = true → s.f Reg.RTB_CTRL.INJ_EPOCH = 0 → exec (.rtbFlip a 1) s =
          .next (s.ended { s.setF Reg.RTB_CTRL.INJ_EPOCH 1 with rtb := { s.rtb with leftA := some s.time } }))
      ∧ (s.verValid v = false → exec (.rtbFlip a v) s = .next (s.ended (s.rtbReject a Reg.RTB_TBL_CMD.OFF))))
    ∧ (∀ (g : Nat) (v : Word), g < 256 → s.regOpen a (Reg.RTB_MC_PORT.OFF g) = true → bit (s.word (Reg.RTB_MC_PORT.OFF g)) 31 = false →
      bit v.toNat 31 = false → exec (.rtbMcWrite a (0x9000 + 4 * g) v) s =
        .next (s.ended (s.setWord (Reg.RTB_MC_PORT.OFF g) (bits v.toNat 14 0 + bits v.toNat 21 16 * 2 ^ 16))))
    ∧ (s.regOpen a Reg.RTB_ENUM_CTRL.OFF = true → s.flag Reg.RTB_ENUM_CTRL.CHAIN_HEAD = true → s.hasId = true →
      ∀ u, u = (s.setF Reg.RTB_ENUM_HEAD.HEAD_ID s.ownId).setF Reg.RTB_ENUM_STAT.STATE 2 →
        exec (.enumStart a) s = .next (s.ended { u with rtb := { s.rtb with enumUp := none, enumWait := true } }.enumNext))
    ∧ (∀ v : Word, s.regOpen a Reg.RTB_NODE.OFF = true → s.hasId = false ∨ bits v.toNat 11 0 = s.ownId →
      (s.part.hinge && s.flag Reg.HPS_CTRL.PAIR_EN) = false →
      exec (.rtbNodeWrite a v) s = .next (s.ended (s.setWord Reg.RTB_NODE.OFF
        (bits v.toNat 12 0 + bits v.toNat 27 16 * 2 ^ 16 + bits v.toNat 28 28 * 2 ^ 28))))
    ∧ (∀ v : Word, s.regOpen a Reg.RTB_NODE.OFF = true → s.hasId = true → bits v.toNat 11 0 ≠ s.ownId →
      exec (.rtbNodeWrite a v) s = .next (s.ended (s.rtbReject a Reg.RTB_NODE.OFF)))
    ∧ (∀ v : DWord, s.regOpen a Reg.RTB_TIME_SET.OFF = true →
      (s.flag Reg.RTB_ENUM_CTRL.CHAIN_HEAD = true → exec (.rtbTimeSet a v) s = .next (s.ended { s with time := v.toNat }))
      ∧ (s.flag Reg.RTB_ENUM_CTRL.CHAIN_HEAD = false → exec (.rtbTimeSet a v) s = .next (s.ended (s.rtbReject a Reg.RTB_TIME_SET.OFF))))

/-- The fabric's timers: the chain port stays inactive for 100 ms and the chain ends here (R352), a unit below the head queues its TIME_REQ
upstream (R356; the stamp t1 it carries is renewed as its first slot leaves, R351). -/
def Obligations.FabricTimersAct : Prop :=
  ∀ s : State, s.active = true →
    (∀ u w, s.f Reg.RTB_ENUM_STAT.STATE = 2 → u = (s.setF Reg.RTB_ENUM_STAT.LAST_ID s.ownId).setF Reg.RTB_ENUM_STAT.STATE 3 →
      w = { u with rtb := { u.rtb with enumWait := false, enumUp := none } } →
      (∀ port q, s.rtb.enumUp = some (port, q) → exec .enumPortTimeout s = .next (s.ended (w.answer port q stOK 0 (s.ownId * 16) [])))
      ∧ (s.rtb.enumUp = none → w.flag Reg.RTB_ENUM_CTRL.CHAIN_HEAD = true → exec .enumPortTimeout s = .next (s.ended (w.evt Pg.RTB 2))))
    ∧ (s.flag Reg.RTB_ENUM_STAT.UP_VALID = true → s.linkUp (s.f Reg.RTB_ENUM_STAT.UPSTREAM) = true →
      s.flag Reg.RTB_ENUM_CTRL.CHAIN_HEAD = false →
      exec .timeReqDue s = .next (s.ended (s.queue (s.f Reg.RTB_ENUM_STAT.UPSTREAM)
        (({ dest := 0xFFE, src := s.ownId, vc := 6, opcode := 0x60, op := 1, payload := leBytes 8 s.time } : Form).packet) none)))

/-! ### Registers without a command of their own -/

/-- An aligned write of 4 or 8 bytes by MMIO, while the space is served: a register of 32 bits, or one of 64 written by its two words, that the page's
rules leave to its access codes takes the bits they name (R11, R535, R536), and so does a counter, kept apart (R444); what the manager may not write is dropped as a violation (R529), one violation for the two
words of an 8-byte access (R2, R55), and so is a write of another size (R536). -/
def Obligations.RegisterWritesAct : Prop :=
  ∀ (s : State) (o : Nat) (d : List Byte), s.clocked = true → s.mgmtServed = true →
    (∀ b0 b1 b2 b3 r, d = [b0, b1, b2, b3] → o % 4 = 0 → s.mayReach (s.priv .mmio) o true = true → o ≠ Reg.GLB_MGR_NODE.OFF →
      o / 4096 * 4096 ≠ Pg.FTM → wideAt o = none → (pageHeader o && decide (o % 4096 < 0x40)) = false → s.resetting.contains (headOf o) = false →
      s.cmdWrite .mmio o (wordOf d 0) = none → findReg o = some (r, false) → o / 4096 ≠ 0x60 → linkOff o = none →
      arrIdx (Reg.SC_SCHED.OFF 0) 65536 12 o = none → r.wide = false →
      o ≠ Reg.FLT_RING_CTRL.OFF → o ≠ Reg.FLT_RING_TAIL.OFF → o ≠ Reg.RTB_CTRL.OFF → r.cnt = false →
      exec (.registerWrite .mmio o d) s = .next (s.ended (s.setWord o (r.after s.factory false (s.word o) (wordOf d 0)))))
    ∧ (∀ r v, d.length = 8 → v = wordOf d 0 + wordOf d 1 * 2 ^ 32 → o % 8 = 0 → s.mayReach (s.priv .mmio) o true = true →
      s.mayReach (s.priv .mmio) (o + 4) true = true → o ≠ Reg.GLB_MGR_NODE.OFF → o + 4 ≠ Reg.GLB_MGR_NODE.OFF →
      o / 4096 * 4096 ≠ Pg.FTM → wideAt o = some (o, false) → wideAt (o + 4) = some (o, true) →
      (pageHeader (o + 4) && decide ((o + 4) % 4096 < 0x40)) = false → s.resetting.contains (headOf o) = false → s.cmdWrite .mmio o v = none →
      findReg o = some (r, false) → o / 4096 ≠ 0x60 → linkOff o = none → arrIdx (Reg.SC_SCHED.OFF 0) 65536 12 o = none → r.wide = true →
      o ≠ Reg.FLT_RING_CTRL.OFF → o ≠ Reg.FLT_RING_TAIL.OFF → o ≠ Reg.RTB_CTRL.OFF →
      ∀ u, (r.cnt = true → u = { s with cnts := SMap.set (fun _ => 0) s.cnts o (r.after s.factory false (s.cnt o) v) }) →
        (r.cnt = false → u = s.setWord64 o (r.after s.factory false (s.word64 o) v)) →
        exec (.registerWrite .mmio o d) s =
          .next (s.ended { u with mmio := { s.mmio with stage := none, hi := keepFor o s.mmio.hi } }))
    ∧ (d.length = 4 → o % 4 = 0 → s.mayReach (s.priv .mmio) o true = false → o ≠ Reg.GLB_MGR_NODE.OFF →
      exec (.registerWrite .mmio o d) s = .next (s.ended { s.regViolation (s.pathWho .mmio o) with mmio := s.mmio }))
    ∧ (d.length = 8 → o % 8 = 0 → s.mayReach (s.priv .mmio) o true = false → s.mayReach (s.priv .mmio) (o + 4) true = false →
      o ≠ Reg.GLB_MGR_NODE.OFF → o + 4 ≠ Reg.GLB_MGR_NODE.OFF →
      exec (.registerWrite .mmio o d) s = .next (s.ended { s.regViolation (s.pathWho .mmio o) with mmio := s.mmio }))
    ∧ (d.length ≠ 4 → d.length ≠ 8 → exec (.registerWrite .mmio o d) s = .next (s.ended (s.regViolation (s.pathWho .mmio o))))

/-- The fault ring: TAIL moves over records that are held (R84), and ENABLE and LOG2_SIZE take a write where R86 allows it. -/
def Obligations.RingWritesAct : Prop :=
  ∀ (s : State) (a : Path) (v : Word),
    (s.regOpen a Reg.FLT_RING_TAIL.OFF = true → (s.f Reg.FLT_RING_HEAD.HEAD + 4294967296 - v.toNat) % 4294967296 ≤ s.ringSize →
      exec (.fltRingTailWrite a v) s = .next (s.ended (s.setF Reg.FLT_RING_TAIL.TAIL v.toNat)))
    ∧ (s.regOpen a Reg.FLT_RING_TAIL.OFF = true → s.ringSize < (s.f Reg.FLT_RING_HEAD.HEAD + 4294967296 - v.toNat) % 4294967296 →
      exec (.fltRingTailWrite a v) s = .next (s.ended (s.fltReject a Reg.FLT_RING_TAIL.OFF)))
    ∧ (s.regOpen a Reg.FLT_RING_CTRL.OFF = true → bits v.toNat 12 8 = s.f Reg.FLT_RING_CTRL.LOG2_SIZE →
      exec (.fltRingCtrlWrite a v) s = .next (s.ended (s.setF Reg.FLT_RING_CTRL.ENABLE (bits v.toNat 0 0))))
    ∧ (s.regOpen a Reg.FLT_RING_CTRL.OFF = true → bits v.toNat 12 8 ≠ s.f Reg.FLT_RING_CTRL.LOG2_SIZE →
      s.flag Reg.FLT_RING_CTRL.ENABLE = false → 6 ≤ bits v.toNat 12 8 → bits v.toNat 12 8 ≤ 16 →
      ∀ u, u = (((s.setF Reg.FLT_RING_CTRL.ENABLE (bits v.toNat 0 0)).setF Reg.FLT_RING_CTRL.LOG2_SIZE (bits v.toNat 12 8)).setF
          Reg.FLT_RING_HEAD.HEAD 0).setF Reg.FLT_RING_TAIL.TAIL 0 →
        exec (.fltRingCtrlWrite a v) s = .next (s.ended { u with flt := { u.flt with ring := [] } }))

/-! ### Faults, counters and resets -/

/-- The collector: a counting window closes (R433), FLT_ACK frees the entries it names or all (R435), the oldest NOTIFY leaves (R438), the FATAL
event is cleared and ALERT_N released (R439), the last fatal record is cleared (R443), counters are cleared (R444). -/
def Obligations.CollectorCommandsAct : Prop :=
  ∀ s : State,
    (∀ n, s.clocked = true → n < 199 → exec (.escalationWindowClose n) s = .next (s.ended (s.setF (Reg.FLT_SRC_CNT.COUNT n) 0)))
    ∧ (∀ (a : Path) (v : Word), s.regOpen a Reg.FLT_ACK.OFF = true →
      (bit v.toNat 31 = true → exec (.fltAck a v) s = .next (s.ended { s with flt := { s.flt with store := [] } }))
      ∧ (bit v.toNat 31 = false → exec (.fltAck a v) s = .next (s.ended { s with flt := { s.flt with
          store := s.flt.store.filter fun e => !(e.2.source == bits v.toNat 7 0 && e.2.cls == bits v.toNat 9 8) } })))
    ∧ (∀ p rest u, s.active = true → s.flt.notify = p :: rest →
      (∀ port q, s.route (s.injected p) = (u, .send port q) →
        (units q.packetLen ≤ s.creditLeft port 6 → exec .notifyDepart s =
          .next (s.ended (({ u with flt := { u.flt with notify := rest } }.bump Reg.FLT_NOTIFY_CNT.OFF).queue port q none)))
        ∧ (s.creditLeft port 6 < units q.packetLen → exec .notifyDepart s = .next (s.ended s)))
      ∧ (∀ q, s.route (s.injected p) = (u, .here q) → exec .notifyDepart s =
          .next (s.ended (({ u with flt := { u.flt with notify := rest } }.bump Reg.FLT_NOTIFY_CNT.OFF).emit (.self q)))))
    ∧ (∀ a u, s.regOpen a (Pg.GLB + 0x10) = true → u = s.setF (Hdr.EVT_STAT Pg.GLB) (putBit (s.f (Hdr.EVT_STAT Pg.GLB)) 1 false) →
      exec (.fatalRelease a) s = .next (s.ended { u with flt := { u.flt with alert := false } }))
    ∧ (∀ a, s.regOpen a Reg.GLB_LAST_FATAL_V.OFF = true → exec (.glbLastFatalClear a) s =
      .next (s.ended { s.setFlag Reg.GLB_LAST_FATAL_V.VALID false with flt := { s.flt with lastFatal := none } }))
    ∧ (∀ (a : Path) (v : Word) (pg : Nat), s.regOpen a Reg.GLB_CNT_CLR.OFF = true → bit v.toNat 31 = true → pg = bits v.toNat 15 0 * 4096 →
      (bit v.toNat 30 = false → headerPage pg = true → pageKind s.part pg = .present → pg ≠ Pg.TSH →
        exec (.glbCntClr a v) s = .next (s.ended ({ s with
          cnts := s.cnts.filter fun e => decide (e.1 / 4096 ≠ pg / 4096)
          frozen := s.frozen.filter fun e => decide (e.1 ≠ pg) }.setFlag (Hdr.SAT pg) false)))
      ∧ (bit v.toNat 30 = false → pg = Pg.TSH →
        exec (.glbCntClr a v) s = .next (s.ended ({ s with
          cnts := s.cnts.filter fun e => decide (e.1 / 4096 ≠ pg / 4096)
          frozen := s.frozen.filter fun e => decide (e.1 ≠ pg)
          tsh := { s.tsh with hist := [] } }.setFlag (Hdr.SAT pg) false)))
      ∧ (bit v.toNat 30 = true → ∃ u, exec (.glbCntClr a v) s = .next (s.ended u) ∧ u.cnts = [] ∧ u.frozen = [] ∧ u.tsh.hist = []))

/-- A write of GLB_RST starts a warm or a cold reset (R446, R449); a warm reset goes through its steps, and waits before step 5 while WARM_RESET_N
is low (R447, R564); firmware starts again and the chip is READY with COH_HELD 1 (R447, R448); a halt goes on (R442); COH_RESUME (R448). -/
def Obligations.ResetCommandsAct : Prop :=
  ∀ s : State,
    (∀ a, s.regOpen a Reg.GLB_RST.OFF = true →
      (s.phase = .ready → s.everReady = true → exec (.glbRstWarm a) s = .next (s.ended (s.warmBegin.setF Reg.GLB_STAT.LAST_RESET 3)))
      ∧ (s.phase = .ready → s.everReady = false → exec (.glbRstWarm a) s = .next (s.ended (s.coldRestart 3)))
      ∧ (∀ k, s.phase = .warm k → exec (.glbRstWarm a) s =
          .next (s.ended { s.setF Reg.GLB_STAT.LAST_RESET 3 with phase := .warm 1 }))
      ∧ exec (.glbRstCold a) s = .next (s.ended (s.coldRestart 4)))
    ∧ (s.phase = .warm 1 → s.init = none →
      (s.pins.warmLow = false → exec .warmReset s = .next (s.ended s.warmPoison.stacksSleep.logicReset))
      ∧ (s.pins.warmLow = true → exec .warmReset s = .next (s.ended { s.warmPoison.stacksSleep with phase := .warm 4 })))
    ∧ (∀ u v, s.phase = .warm 5 → u = s.commitFinish.boardLoad.stacksUp.makePlan →
      v = { u.setFlag Reg.GLB_STAT.COH_HELD true with phase := .ready } →
      ∀ w, w = v.cxlStart.fault { mkRec 0 0 0x0D04 with addr := v.f Reg.GLB_STAT.LAST_RESET } →
      (w.paired && w.hpsState == 7) = false → exec .warmStartComplete s = .next (s.ended w))
    ∧ (s.phase = .haltWait → exec .haltContinue s =
      .next (s.ended ({ s.portsDown.cxlDown.stacksSleep with phase := .halted }.setF Reg.GLB_STAT.SERVICE 2)))
    ∧ (∀ a, s.regOpen a Reg.GLB_CTRL.OFF = true →
      exec (.cohResume a) s = .next (s.ended (s.setFlag Reg.GLB_STAT.COH_HELD false)))

/-- BLK_CTRL: SOFT_RESET starts a block reset of a page (R446, R549, R551, R199), of a link page of its ports only, of a stack's control page only
with every channel quiesced, and changes nothing on GLB, KPR and FTM or while one runs; it ends; ENABLE acts on link and engine pages (R546); FREEZE
takes and drops a snapshot (R547). -/
def Obligations.BlockCommandsAct : Prop :=
  ∀ (s : State) (a : Path) (page pg : Nat), pg = page * 4096 →
    (s.headOpen a page = true →
      (resetIgnored pg = true ∨ s.resetting.contains pg = true → exec (.blkSoftReset a page) s = .next (s.ended s))
      ∧ (resetIgnored pg = false → s.resetting.contains pg = false →
        (∀ n, ctrlStack pg = some n →
          (s.f (Reg.SC_CH_QSD.QSD n) ≠ 0xFFFFFFFF →
            exec (.blkSoftReset a page) s = .next (s.ended (s.cfgReject a pg (100 + n) 0x0709 (pg + 8) none)))
          ∧ (s.f (Reg.SC_CH_QSD.QSD n) = 0xFFFFFFFF → ∀ v, v = (s.chQscWrite n 0).pageReset pg →
            exec (.blkSoftReset a page) s = .next (s.ended { v with resetting := pg :: v.resetting })))
        ∧ (pagePorts pg ≠ [] → ∀ v, v = (pagePorts pg).foldl (fun (x : State) p => x.portDown p) s →
          ((pagePorts pg).any s.failedPorts.contains = false →
            exec (.blkSoftReset a page) s = .next (s.ended { v with resetting := pg :: v.resetting }))
          ∧ ((pagePorts pg).any s.failedPorts.contains = true → ∀ w, w = (s.pageReset pg).setFlag (Hdr.ENABLE pg) false →
            exec (.blkSoftReset a page) s = .next (s.ended { w with resetting := pg :: w.resetting })))
        ∧ (ctrlStack pg = none → pagePorts pg = [] → ∀ v w,
          (pg = Pg.LCH → v = s.latchReset) → (pg = Pg.WRD → v = s.wardReset) → (pg = Pg.PTN → v = s.ptnReset) →
          (pg ≠ Pg.LCH → pg ≠ Pg.WRD → pg ≠ Pg.PTN → v = s) → w = v.pageReset pg →
          (pg ≠ Pg.RTB → exec (.blkSoftReset a page) s = .next (s.ended { w with resetting := pg :: w.resetting }))
          ∧ (pg = Pg.RTB → exec (.blkSoftReset a page) s =
            .next (s.ended { w with resetting := pg :: w.resetting, rtb := { w.rtb with dropSeen := 0 } })))))
    ∧ (s.clocked = true → exec (.blockResetDone page) s =
      .next (s.ended { s with resetting := s.resetting.filter fun x => x != pg }))
    ∧ (∀ on, s.headOpen a page = true → s.flag (Hdr.ENABLE pg) = on → exec (.blkEnableWrite a page on) s = .next (s.ended s))
    ∧ (∀ on, s.headOpen a page = true → s.flag (Hdr.ENABLE pg) ≠ on → pagePorts pg ≠ [] →
      (pagePorts pg).any s.failedPorts.contains = false → exec (.blkEnableWrite a page on) s = .next (s.ended
        ((pagePorts pg).foldl (fun (u : State) p => if on then u.setF (Reg.SWP_STAT.STATE p) 1 else u.portDisable p)
          (s.setFlag (Hdr.ENABLE pg) on))))
    ∧ (∀ on, s.headOpen a page = true → s.flag (Hdr.ENABLE pg) ≠ on → 0x90000 ≤ pg → pg < 0xF0000 →
      exec (.blkEnableWrite a page on) s = .next (s.ended (s.setFlag (Hdr.ENABLE pg) on)))
    ∧ (s.headOpen a page = true → s.flag (Hdr.FREEZE pg) = false → ∀ u, u = s.setFlag (Hdr.FREEZE pg) true →
      exec (.blkFreezeWrite a page true) s =
        .next (s.ended { u with frozen := SMap.set (fun _ => []) u.frozen pg (u.pageCounts pg) }))
    ∧ (s.headOpen a page = true → s.flag (Hdr.FREEZE pg) = true → ∀ u, u = s.setFlag (Hdr.FREEZE pg) false →
      exec (.blkFreezeWrite a page false) s = .next (s.ended { u with frozen := u.frozen.filter fun e => e.1 != pg }))

/-- Factory fault injection (R451): a record, poison of a sector, symbols of a sector, a flit of a port. -/
def Obligations.FaultInjectionActs : Prop :=
  ∀ (s : State) (a : Path), s.regOpen a Reg.FTM_INJ_CMD.OFF = true → s.factory = true →
    ∀ kind ppa u, kind = s.f Reg.FTM_INJ_CTRL.KIND → ppa = s.f Reg.FTM_INJ_ADDR.PPA / 64 * 64 → u = s.bump Reg.FTM_INJ_CNT.OFF →
    (kind = 0 → exec (.ftmInject a) s = .next (s.ended
      (u.fault (mkRec (s.f Reg.FTM_INJ_CTRL.SOURCE) (s.f Reg.FTM_INJ_CTRL.CLASS) (s.f Reg.FTM_INJ_CTRL.CODE)))))
    ∧ (kind = 1 → exec (.ftmInject a) s = .next (s.ended ((u.poisonSector ppa).poisonList ppa true)))
    ∧ (kind = 2 → exec (.ftmInject a) s = .next (s.ended (u.putSector (s.phys ppa)
        ((List.range 64).map fun i => if bit (s.word64 Reg.FTM_INJ_MASK.OFF) (i / 2) then s.byte (s.phys ppa + i) ^^^ 0xFF
          else s.byte (s.phys ppa + i))
        (((s.sectorChk (s.phys ppa)).zipIdx).map fun e => if bit (s.word64 Reg.FTM_INJ_MASK.OFF) (32 + e.2) then e.1 ^^^ 0xFFFF else e.1))))
    ∧ (kind = 3 → exec (.ftmInject a) s = .next (s.ended { u with
        inj := SMap.set (fun _ => 0) u.inj (bits (s.word64 Reg.FTM_INJ_MASK.OFF) 2 0) (bits (s.word64 Reg.FTM_INJ_MASK.OFF) 15 8) }))
    ∧ (4 ≤ kind → exec (.ftmInject a) s = .next (s.ended (s.cfgReject a Pg.GLB 0 0x0001 Reg.FTM_INJ_CMD.OFF none)))

/-! ### Latches: their registers and timers -/

/-- A parked wait times out (R193), the deadlock detector raises an event once its conditions hold (R197, R198), the access register reads and
sets (R200), the snapshot is released (R198), a group that is not VALID, or whose owner is quiesced, is written, and its sharers at any time
(R180). -/
def Obligations.LatchCommandsAct : Prop :=
  ∀ s : State,
    (∀ i k, s.active = true → s.parked[i]? = some k → exec (.latchWaitTimeout i) s =
      .next (s.ended (((s.bump Reg.LCH_TIMEOUT_CNT.OFF).unpark k).reply k.r stTIMEOUT 0 (s.latch k.latch) [])))
    ∧ (s.active = true → s.deadlocked = false → exec .deadlockTest s = .next (s.ended s))
    ∧ (∀ u, s.active = true → s.deadlocked = true →
      u = (({ s with lch := { s.lch with raised := true } }.bump Reg.LCH_DEADLOCK_CNT.OFF).evt Pg.LCH 2).fault (mkRec 133 2 0x0504) →
      (u.flag Reg.LCH_DL_STAT.SNAP_VALID = true → exec .deadlockTest s = .next (s.ended u))
      ∧ (u.flag Reg.LCH_DL_STAT.SNAP_VALID = false → exec .deadlockTest s = .next (s.ended
          (({ u with lch := { u.lch with snap := u.lch.parks.map u.snapEntry } }.setF Reg.LCH_DL_STAT.SNAP_ENTRIES u.lch.parks.length).setFlag
            Reg.LCH_DL_STAT.SNAP_VALID true))))
    ∧ (∀ a, s.regOpen a Reg.LCH_ACC_CMD.OFF = true →
      exec (.lchAccRead a) s = .next (s.ended (s.setF Reg.LCH_ACC_VALUE.VALUE (s.latch (s.f Reg.LCH_ACC_SEL.LATCH))))
      ∧ exec (.lchAccSet a) s = .next (s.ended (((s.classBytes 10 1).setLatch (s.f Reg.LCH_ACC_SEL.LATCH)
          (s.f Reg.LCH_ACC_VALUE.VALUE)).examine (s.f Reg.LCH_ACC_SEL.LATCH))))
    ∧ (∀ a u, s.regOpen a Reg.LCH_DL_STAT.OFF = true →
      u = (s.setFlag Reg.LCH_DL_STAT.SNAP_VALID false).setF Reg.LCH_DL_STAT.SNAP_ENTRIES 0 →
      exec (.snapshotRelease a) s = .next (s.ended { u with lch := { s.lch with snap := [] } }))
    ∧ (∀ (g : Nat) (v : Word) (o new : Nat), g < 256 → o = Reg.LCH_GRP.OFF g → s.clocked = true → s.mgmtServed = true →
      s.resetting.contains Pg.LCH = false → s.mayReach .manager o true = true → new = bits v.toNat 5 0 + bits v.toNat 31 31 * 2 ^ 31 →
      bit (s.word o) 31 = false ∨ s.quiesced (bits (s.word o) 5 0) = true →
      (bit (s.word o) 31 = false ∨ bit new 31 = true →
        exec (.lchGrpWrite .mmio (o - Pg.LCH) v) s = .next (s.ended (s.setWord o new)))
      ∧ (bit (s.word o) 31 = true → bit new 31 = false → ∀ u, u = (s.setWord o new).grpClear g →
        exec (.lchGrpWrite .mmio (o - Pg.LCH) v) s = .next (s.ended { u with mmio := s.mmio })))
    ∧ (∀ (g : Nat) (v : Word) (o : Nat), g < 256 → o = Reg.LCH_GRP_SHARE.OFF g → s.clocked = true → s.mgmtServed = true →
      s.resetting.contains Pg.LCH = false → s.mayReach .manager o true = true → s.mayReach .manager (o + 4) true = true →
      exec (.lchGrpWrite .mmio (o - Pg.LCH) v) s =
        .next (s.ended { s with mmio := { s.mmio with stage := some (o, v.toNat), hi := s.mmio.hi.filter fun e => e.1 == o } })
      ∧ (∀ low, s.mmio.stage = some (o, low) → ∀ u, u = s.setWord64 o (low + v.toNat * 2 ^ 32) →
          exec (.lchGrpWrite .mmio (o + 4 - Pg.LCH) v) s = .next (s.ended { u with mmio := { s.mmio with stage := none } })))

/-! ### Link ports: flits -/

/-- A flit slot of a port sends a control block every sixteenth slot, else on an ACTIVE port the next flit of a replay, a new flit or an idle one
(R289, R298); a flit that comes in is bad, out of order, a duplicate, idle or taken (R295, R296, R303, R305); a replay starts after REPLAY_TMO
(R300). -/
def Obligations.FlitCommandsAct : Prop :=
  ∀ (s : State) (p : Nat), s.active = true → s.part.hasPort p = true → ∀ l, l = s.lnk p →
    (∀ u, u = s.setLnk p { l with slot := l.slot + 1 } →
      (2 ≤ s.portState p → l.slot % 16 = 15 → exec (.flitSlot p) s = .next (s.ended (u.emit (.linkMsg p l.block))))
      ∧ (s.portState p = 4 → l.slot % 16 ≠ 15 → l.askRetrain = true → exec (.flitSlot p) s = .next (s.ended (u.sendIdle p)))
      ∧ (s.portState p = 4 → l.slot % 16 ≠ 15 → l.askRetrain = false → l.rep = none →
          exec (.flitSlot p) s = .next (s.ended (u.sendNew p)))
      ∧ (∀ k, s.portState p = 4 → l.slot % 16 ≠ 15 → l.askRetrain = false → l.rep = some k →
          exec (.flitSlot p) s = .next (s.ended (u.sendReplay p k)))
      ∧ (s.portState p = 5 → l.slot % 16 ≠ 15 → l.askRetrain = true → exec (.flitSlot p) s = .next (s.ended (u.sendIdle p))))
    ∧ (∀ f : Flit, s.portState p = 4 → f.bytes.length = 256 →
      (flitDistance f.bytes l.e = none →
        exec (.flitReceive p f) s = .next (s.ended ((s.bump (Reg.SWP_BAD_FLIT_CNT.OFF p)).askReplay p)))
      ∧ (∀ d, flitDistance f.bytes l.e = some d → 1 ≤ d → d < 512 →
        exec (.flitReceive p f) s = .next (s.ended ((s.bump (Reg.SWP_DISCARD_CNT.OFF p)).askReplay p)))
      ∧ (∀ d, flitDistance f.bytes l.e = some d → 512 ≤ d →
        exec (.flitReceive p f) s = .next (s.ended (s.bump (Reg.SWP_DUP_CNT.OFF p))))
      ∧ (∀ t u, flitDistance f.bytes l.e = some 0 → t = leNat (slice f.bytes 240 8) → bit t 37 = true →
        u = (s.setLnk p { l with askReplay := false }).bump (Reg.SWP_RX_FLIT_CNT.OFF p) → u.portState p = 4 →
        exec (.flitReceive p f) s = .next (s.ended (u.takeTrailer p t)))
      ∧ (∀ t u v pkts, flitDistance f.bytes l.e = some 0 → t = leNat (slice f.bytes 240 8) → bit t 37 = false →
        u = (s.setLnk p { l with e := (l.e + 1) % 65536, askReplay := false }).bump (Reg.SWP_RX_FLIT_CNT.OFF p) →
        (u.takePhase p (bit t 38) (bits t 53 39)).takeSlots p (bits t 53 39) f.bytes (List.range 15) = (v, pkts) → v.portState p = 4 →
        exec (.flitReceive p f) s = .next (s.ended ((v.takeTrailer p t).packetsIn p pkts))))
    ∧ (∀ f rest, s.portState p = 4 → l.buf = f :: rest → exec (.replayTimeout p) s = .next (s.ended (s.replayFrom p f.1)))

/-! ### Link ports: messages and states -/

/-- Messages of control blocks, taken once in order (R309): HELLO and the start of authentication (R320), IDENTITY pieces (R466), the shares and
confirmations of keys and rekeys (R317, R466 to R468), RETRAIN (R312, R313). A block without a message, or with a reserved one, gives only its
acknowledgement. -/
def Obligations.LinkMessagesAct : Prop :=
  ∀ (s : State) (p : Nat) (f : Lcb) (b : List Byte), s.active = true → s.part.hasPort p = true → 2 ≤ s.portState p →
    lcbOk f.bytes = true → b = lcbBody f.bytes → ∀ k l u, k = (s.lnk p).acked' (lcbAck f.bytes) → l = { k with inSeq := lcbSeq f.bytes } →
    lcbSeq f.bytes = (k.inSeq + 1) % 65536 → u = s.setLnk p l →
    (lcbType f.bytes = 1 → s.portState p = 2 → exec (.hello p f) s = .next (s.ended ((u.setLnk p { u.lnk p with
        hello := slice b 0 32, peerNonce := leNat (slice b 8 8)
        limit := (List.range 8).map fun v => (v, leNat (slice b (16 + 2 * v) 2)) }).enterAuth p)))
    ∧ (∀ i n total pieces, lcbType f.bytes = 2 → s.portState p = 3 → i = (byteAt b 0).toNat → n = (byteAt b 1).toNat →
        total = leNat (slice b 2 2) → i < n → n ≤ 16 → total ≤ 3616 → pieces = SMap.set (fun _ => []) (u.lnk p).pieces i (slice b 6 226) →
        (pieces.length < n → exec (.identity p f) s = .next (s.ended (u.setLnk p { u.lnk p with pieces := pieces })))
        ∧ (∀ chain w, chain = (pieces.flatMap (·.2)).take total → n ≤ pieces.length →
          (u.rootAccepted chain false = true → w = u.setLnk p { u.lnk p with pieces := pieces, chain := some chain }) →
          (u.rootAccepted chain false = false → w = u.authFail p) → exec (.identity p f) s = .next (s.ended w)))
    ∧ (∀ n, lcbType f.bytes = 2 → s.portState p = 3 → n = (byteAt b 1).toNat →
        n ≤ (byteAt b 0).toNat ∨ 16 < n ∨ 3616 < leNat (slice b 2 2) → exec (.identity p f) s = .next (s.ended (u.authFail p)))
    ∧ (∀ v w, lcbType f.bytes = 3 → s.portState p = 3 → v = u.setLnk p { u.lnk p with peerShare := slice b 0 100 } →
        (u.shareGood p false 0 b = true → w = v.setLnk p ((v.lnk p).say 4 (v.confirmation p 0))) →
        (u.shareGood p false 0 b = false → w = u.authFail p) → exec (.keyShare p f) s = .next (s.ended w))
    ∧ (∀ v w x, lcbType f.bytes = 4 → s.portState p = 3 →
        v = u.setLnk p { u.lnk p with txKey := (u.linkKeys p 0).1, rxKey := (u.linkKeys p 0).2.1, priv := 0, slow := false } →
        w = (v.setF (Reg.SWP_STAT.STATE p) 4).setFlag (Reg.SWP_STAT.KEY_PHASE p) false →
        ((u.lnk p).peerShare ≠ [] → slice b 0 64 = u.confirmation p 0 → x = (w.bump Reg.KPR_AUTH_CNT.OFF).linkEvt p 1) →
        ((u.lnk p).peerShare = [] ∨ slice b 0 64 ≠ u.confirmation p 0 → x = u.authFail p) →
        exec (.keyConfirm p f) s = .next (s.ended x))
    ∧ (∀ v m n t node nonce, lcbType f.bytes = 5 → v = u.retrainStart p false false → m = v.lnk p →
        t = (byteAt b 0).toNat % 16 → node = leNat (slice b 2 2) → nonce = leNat (slice b 8 8) →
        n = { m with peerE := some (leNat (slice b 4 2)), peerNonce := nonce } →
        (v.portState p ≠ 5 → exec (.retrain p f) s = .next (s.ended v))
        ∧ (v.portState p = 5 →
          (bit (byteAt b 0).toNat 4 = true → exec (.retrain p f) s = .next (s.ended (v.setLnk p n)))
          ∧ (bit (byteAt b 0).toNat 4 = false →
            (m.own = false ∨ m.msgs.all (fun y => y.1 != 5) = true →
              exec (.retrain p f) s = .next (s.ended (v.setLnk p { n with target := meetTarget m.target t })))
            ∧ (m.own = true → m.msgs.all (fun y => y.1 != 5) = false →
              (node = u.ownId → nonce = m.nonce → exec (.retrain p f) s = .next (s.ended ((v.setLnk p n).sayRetrain p)))
              ∧ (node < u.ownId ∨ node = u.ownId ∧ nonce < m.nonce →
                exec (.retrain p f) s = .next (s.ended ((v.setLnk p { n with follow := true, target := t }).sayRetrain p)))
              ∧ (u.ownId < node ∨ node = u.ownId ∧ m.nonce < nonce → exec (.retrain p f) s = .next (s.ended (v.setLnk p n)))))))
    ∧ (∀ v w x n, lcbType f.bytes = 6 → s.linkUp p = true → n = (u.lnk p).rekeyN + 1 →
        v = (if (u.lnk p).rekey then u else u.rekeyStart p) → w = v.setLnk p { v.lnk p with peerShare := slice b 0 100 } →
        (u.shareGood p true n b = true → v.flag Reg.KPR_STAT.RNG_OK = true → x = w.setLnk p
          ({ w.lnk p with newRx := some (w.linkKeys p n).2.1 }.say 7 (w.confirmation p n))) →
        (u.shareGood p true n b = true → v.flag Reg.KPR_STAT.RNG_OK = false → x = v) →
        (u.shareGood p true n b = false → x = u.rekeyFail p) → exec (.rekeyShare p f) s = .next (s.ended x))
    ∧ (∀ v n x, lcbType f.bytes = 7 → s.linkUp p = true → v = u.lnk p → v.rekey = true → n = v.rekeyN + 1 →
        (v.peerShare ≠ [] → slice b 0 64 = u.confirmation p n → x = (u.setLnk p { v with
          newTx := some (u.linkKeys p n).1, rekey := false, rekeyN := n, priv := 0 }).bump
            (Reg.SWP_REKEY_CNT.OFF p)) →
        (v.peerShare = [] ∨ slice b 0 64 ≠ u.confirmation p n → x = u.rekeyFail p) → exec (.rekeyConfirm p f) s = .next (s.ended x))
    ∧ (lcbType f.bytes = 0 → exec (.linkControlBlock p f) s = .next (s.ended (s.setLnk p k)))
    ∧ (8 ≤ lcbType f.bytes → exec (.linkControlBlock p f) s = .next (s.ended u))

/-- Port states: SWP_CTRL and a retrain (R310), a retrain that ends, at its target's speed and no wider than its target (R300, R312, R313; lanes
that come to anything else have not completed it, log entry 95), or fails (R312), a bring-up (R309, R320), trained lanes, training and
authentication that time out (R316, R320), a rekey that starts or is late (R317, R319). -/
def Obligations.LinkEventsAct : Prop :=
  ∀ (s : State) (p : Nat), s.part.hasPort p = true →
    (∀ (a : Path) (v : Word) (old x : Nat), s.regOpen a (Reg.SWP_CTRL.OFF p) = true → old = s.word (Reg.SWP_CTRL.OFF p) →
      x = swpKeep old v.toNat →
      (bit v.toNat 7 = true ∨ bits x 3 0 ≠ bits old 3 0 →
        exec (.swpRetrainWrite a p v) s = .next (s.ended ((s.regStore (Reg.SWP_CTRL.OFF p) x).retrainStart p true true)))
      ∧ (bit v.toNat 7 = false → bits x 3 0 = bits old 3 0 →
        exec (.swpRetrainWrite a p v) s = .next (s.ended (s.regStore (Reg.SWP_CTRL.OFF p) x))))
    ∧ (s.active = true →
      (∀ w sp l k keep n u v x y z, s.portState p = 5 → l = s.lnk p → sp = l.target / 4 → l.target % 4 ≤ w →
        (∀ j, l.peerE = some j → (l.buf.any (fun f => f.1 == j) || j == l.next) = true → k = j) →
        (∀ j, l.peerE = some j → (l.buf.any (fun f => f.1 == j) || j == l.next) = false → k = (l.buf.headD (l.next, [])).1) →
        (l.peerE = none → k = (l.buf.headD (l.next, [])).1) → keep = l.buf.dropWhile (fun f => f.1 != k) →
        n = (if keep.isEmpty then 0 else if l.cntK = k ∧ l.numK ≠ 0 then l.numK + 1 else 1) →
        u = s.setLnk p { l with
          buf := keep, acked := (k + 65535) % 65536, rep := (keep.head?).map (·.1), repK := k, cntK := k, numK := n
          flying := l.flying.filter (fun f => keep.any fun b => b.1 == f), tries := 0, askRetrain := false, own := false
          follow := false, askReplay := false, chained := false } →
        v = ((u.setF (Reg.SWP_STAT.STATE p) 4).setF (Reg.SWP_STAT.WIDTH p) w).setF (Reg.SWP_STAT.SPEED p) sp →
        x = (v.setFlag (Reg.SWP_STAT.WIDTH_REDUCED p) (decide (l.target % 4 < w))).bump (Reg.SWP_RETRAIN_CNT.OFF p) →
        (keep = [] → y = x.linkEvt p 3) → (keep ≠ [] → y = (x.bump (Reg.SWP_REPLAY_CNT.OFF p)).linkEvt p 3) →
        (l.target % 4 < w → z = ((y.linkFault p 0 0x0802).linkEvt p 4).linkFault p 0 0x0803) →
        (w = l.target % 4 → l.chained = true ∨ w = s.f (Reg.SWP_STAT.WIDTH p) ∧ sp = s.f (Reg.SWP_STAT.SPEED p) →
          z = y.linkFault p 0 0x0802) →
        (w = l.target % 4 → l.chained = false → w ≠ s.f (Reg.SWP_STAT.WIDTH p) ∨ sp ≠ s.f (Reg.SWP_STAT.SPEED p) → z = y) →
        (l.again = false → exec (.retrainComplete p w sp) s = .next (s.ended z))
        ∧ (l.again = true → exec (.retrainComplete p w sp) s =
            .next (s.ended ((z.retrainStart p true false).setLnk p { (z.retrainStart p true false).lnk p with chained := true }))))
      ∧ (∀ w sp, s.portState p ≠ 5 ∨ sp ≠ (s.lnk p).target / 4 ∨ w < (s.lnk p).target % 4 →
        exec (.retrainComplete p w sp) s = .next (s.ended s))
      ∧ (s.portState p = 5 → (s.lnk p).tries ≤ 1 →
        exec (.retrainTimeout p) s = .next (s.ended ((s.setLnk p { s.lnk p with tries := 2 }).sayRetrain p)))
      ∧ (s.portState p = 5 → 2 ≤ (s.lnk p).tries → exec (.retrainTimeout p) s = .next (s.ended (s.portDown p)))
      ∧ (∀ n u alloc h, s.portState p = 1 → s.fresh (2 ^ 64) = (n, u) →
        alloc = (List.range 8).map (fun v => if v = 7 then 0 else s.f (Reg.SWP_VCBUF.UNITS p v)) → h = s.helloBody p n alloc →
        exec (.bringupAttempt p) s = .next (s.ended ((u.setLnk p ({ Lnk.none with nonce := n, alloc := alloc, mine := h }.say 1 h)).setF
          (Reg.SWP_STAT.STATE p) 2)))
      ∧ (∀ w sp u, s.portState p = 2 → u = ((s.setF (Reg.SWP_STAT.WIDTH p) w).setF (Reg.SWP_STAT.SPEED p) sp).setFlag
          (Reg.SWP_STAT.WIDTH_REDUCED p) false →
        exec (.lanesTrained p w sp) s = .next (s.ended ((u.setLnk p { u.lnk p with trained := true }).enterAuth p)))
      ∧ (s.portState p = 2 → (s.lnk p).trained = false → exec (.trainingTimeout p) s = .next (s.ended (s.portDown p)))
      ∧ (s.portState p = 3 → exec (.authTimeout p) s = .next (s.ended (s.authFail p)))
      ∧ (∀ u, s.linkUp p = true → u = s.setLnk p { s.lnk p with rekey := true, peerShare := [], newRx := none } →
        (s.flag Reg.KPR_STAT.RNG_OK = true → exec (.rekeyStart p) s = .next (s.ended (u.sayShare p true ((s.lnk p).rekeyN + 1))))
        ∧ (s.flag Reg.KPR_STAT.RNG_OK = false → exec (.rekeyStart p) s = .next (s.ended u)))
      ∧ ((s.lnk p).rekey = true → exec (.rekeyTimeout p) s = .next (s.ended ((s.linkFault p 2 0x0809).rekeyStart p))))

/-! ### Hinge pairs -/

/-- HPS_CTRL: a member joins a pair and asks for the lease, or joins as EXCLUDED, leaves it, or is refused (R398, R427); SWITCH starts a planned
switch-over on an active, changes nothing on one that switches over already, and is rejected elsewhere (R419), written alone or with the other
bits. -/
def Obligations.HingeWritesAct : Prop :=
  ∀ (s : State) (a : Path), s.regOpen a Reg.HPS_CTRL.OFF = true →
    (∀ (v : Word) (ok : Bool) (u w : State),
      ok = (s.hasId && s.f Reg.RTB_NODE.PAIR_ID != 0xFFF && s.f Reg.HPS_PARTNER.PARTNER != 0xFFF && s.f Reg.HPS_PARTNER.WITNESS != 0xFFF) →
      u = ((s.setF Reg.HPS_CTRL.DUAL (bits v.toNat 1 1)).setF Reg.HPS_CTRL.AUTO_SWITCH (bits v.toNat 2 2)).setF
        Reg.HPS_CTRL.WITNESS_EN (bits v.toNat 4 4) →
      (s.flag Reg.HPS_CTRL.PAIR_EN = false → bit v.toNat 0 = true → ok = false →
        exec (.pairEnWrite a v) s = .next (s.ended (s.hpsReject a Reg.HPS_CTRL.OFF)))
      ∧ ((s.flag Reg.HPS_CTRL.PAIR_EN = false → bit v.toNat 0 = true → u.hpsState ≠ 8 →
            w = ((u.setFlag Reg.HPS_CTRL.PAIR_EN true).setHpsState 1).leaseSend false) →
          (s.flag Reg.HPS_CTRL.PAIR_EN = false → bit v.toNat 0 = true → u.hpsState = 8 → w = u.setFlag Reg.HPS_CTRL.PAIR_EN true) →
          (s.flag Reg.HPS_CTRL.PAIR_EN = true → bit v.toNat 0 = false → w = u.pairLeave) →
          (s.flag Reg.HPS_CTRL.PAIR_EN = bit v.toNat 0 → w = u) →
          s.flag Reg.HPS_CTRL.PAIR_EN = true ∨ bit v.toNat 0 = false ∨ ok = true → ∀ x, x = w.dualSet →
          (bit v.toNat 3 = false → exec (.pairEnWrite a v) s = .next (s.ended x))
          ∧ (bit v.toNat 3 = true → x.hpsState = 2 → x.hps.switching = 0 →
            exec (.pairEnWrite a v) s = .next (s.ended { x with hps := { x.hps with switching := 1 } }))
          ∧ (bit v.toNat 3 = true → x.hpsState = 2 → x.hps.switching ≠ 0 → exec (.pairEnWrite a v) s = .next (s.ended x))
          ∧ (bit v.toNat 3 = true → x.hpsState ≠ 2 → exec (.pairEnWrite a v) s = .next (s.ended (x.hpsReject a Reg.HPS_CTRL.OFF)))))
    ∧ (s.hpsState = 2 → s.hps.switching = 0 →
      exec (.hpsSwitch a) s = .next (s.ended { s with hps := { s.hps with switching := 1 } }))
    ∧ (s.hpsState = 2 → s.hps.switching ≠ 0 → exec (.hpsSwitch a) s = .next (s.ended s))
    ∧ (s.hpsState ≠ 2 → exec (.hpsSwitch a) s = .next (s.ended (s.hpsReject a Reg.HPS_CTRL.OFF)))

/-- The pair's timers: BEATs (R404), the end of an epoch (R405), requests and renewals of the lease (R412), PAIR_STATUS (R413), the reckoning of
the lease and continuation (R414), a lost partner and held packets (R415), a takeover (R416, R417), the 1 ms of a switch-over (R419), and the
witness's waits and leases (R412). -/
def Obligations.HingeTimersAct : Prop :=
  ∀ s : State, s.active = true →
    (s.paired = true → s.hps.mute = false → exec .beatSend s = .next (s.ended (s.toPartner 0 s.epochNow (b2n s.contAck * 2 ^ 53
        + b2n (s.hpsState == 7) * 2 ^ 54 + (if s.serving || s.hpsState == 7 then s.hps.lastLoad * 2 ^ 60 else 0)) [])))
    ∧ (∀ e recs fin u, s.journalling = true → e = s.epochNow → recs = s.hps.cur ++ s.seqRecs → fin = JRec.epochEnd e recs.length →
      u = { s with hps := { s.hps with
        cur := [], seqTouched := [], spill := s.hps.spill ++ [(e, recs ++ [fin])]
        unsent := if s.journalSends then s.hps.unsent ++ (s.seqRecs ++ [fin]).map (fun r => (e, r)) else s.hps.unsent } }.setF
          Reg.HPS_EPOCH_NUM.EPOCH ((e + 1) % 2 ^ 48) →
      exec .epochClose s = .next (s.ended (u.trimSpill u.hps.spill.length).showSpill))
    ∧ (∀ u, s.paired = true → u = { s with hps := { s.hps with reqAt := s.time, reqSince := s.hps.reqSince || s.hpsState == 4 } } →
      (s.serving = true → exec .leaseRenew s = .next (s.ended (u.toWitness 5 0)))
      ∧ (s.hpsState = 1 → exec .joiningRetry s = .next (s.ended (u.toWitness 5 0))))
    ∧ (∀ u v, s.paired = true → s.serving = true →
      u = (((s.setLease false).stopServing.setHpsState 7).setFlag Reg.HPS_STAT.CONT false).setFlag Reg.HPS_STAT.IN_SYNC false →
      v = (u.dualSet.evt Pg.HPS 3).fault (mkRec 118 2 0x0C03) →
      (s.flag Reg.HPS_STAT.CONT = false → s.hps.contAt ≠ 0 → s.time ≤ s.hps.contAt + 2000 * s.f Reg.HPS_TIMERS.HB_US →
        exec .leaseExpiry s = .next (s.ended (s.setFlag Reg.HPS_STAT.CONT true)))
      ∧ (s.flag Reg.HPS_STAT.CONT = false → s.hps.contAt = 0 ∨ s.hps.contAt + 2000 * s.f Reg.HPS_TIMERS.HB_US < s.time →
        exec .leaseExpiry s = .next (s.ended v))
      ∧ (s.flag Reg.HPS_STAT.CONT = true → exec .continuationTimeout s = .next (s.ended v)))
    ∧ (∀ u v, s.paired = true → s.hps.lost = false →
      u = (s.setFlag Reg.HPS_STAT.PARTNER_UP false).addCnt Reg.HPS_HB_MISS_CNT.OFF (s.f Reg.HPS_TIMERS.MISS) →
      v = ({ u with hps := { s.hps with lost := true } }.evt Pg.HPS 1).fault (mkRec 118 2 0x0C01) →
      (s.hpsState = 4 → exec .partnerLost s = .next (s.ended (v.leaseSend false)))
      ∧ (∀ w, s.hpsState = 2 → w = (v.setHpsState 3).outOfSync → exec .partnerLost s = .next (s.ended
          (({ w with hps := { v.hps with held := [], unsent := [], resync := none } }.leaseSend true).evt Pg.HPS 4)))
      ∧ (s.hpsState ≠ 4 → s.hpsState ≠ 2 → exec .partnerLost s = .next (s.ended v)))
    ∧ (∀ u v w x, s.hpsState = 6 →
      u = (if s.hps.spill.any (fun e => e.1 == s.epochNow) then s else s.setF Reg.HPS_EPOCH_NUM.EPOCH ((s.epochNow + 1) % 2 ^ 48)) →
      v = ((u.setLease true).setHpsState 3).setFlag Reg.HPS_STAT.IN_SYNC false →
      w = { v with hps := { v.hps with gapUntil := s.time + 10000000, loadUntil := s.time + 1000000, switching := 0 } } →
      x = (((w.evt Pg.HPS 2).bump Reg.HPS_SWITCH_CNT.OFF).fault (mkRec 118 0 0x0C02)).pairStatus →
      exec .takeoverComplete s = .next (s.ended
        (((x.dir.ents.filter fun e => e.2.pin && x.mirrored e.2.line).map (·.2.line)).foldl (fun acc l => acc.recall l .cleanup) x)))
    ∧ exec .takeoverWindowEnd s = .next (s.ended { s with hps := { s.hps with gapUntil := 0 } })
    ∧ (∀ i port p t u, s.hps.hold[i]? = some (port, p, t) →
      u = ({ s with hps := { s.hps with hold := s.hps.hold.eraseIdx i } }.holdFreed port p.vc).bump Reg.HPS_HOLD_DROP_CNT.OFF →
      (bit (u.f (Hdr.EVT_STAT Pg.HPS)) 7 = true → exec (.holdDrop i) s = .next (s.ended u))
      ∧ (bit (u.f (Hdr.EVT_STAT Pg.HPS)) 7 = false →
        exec (.holdDrop i) s = .next (s.ended ((u.evt Pg.HPS 7).fault { mkRec 118 0 0x0C07 with node := p.src }))))
    ∧ (∀ n, s.mgrNode = some n → s.paired = true → s.serving = true → exec .pairStatusSend s = .next (s.ended
      (s.inject (s.heartbeat n 9 (s.f Reg.RTB_NODE.PAIR_ID) s.epochNow s.generation 0 []) none)))
    ∧ (∀ u v, s.hps.switching = 1 →
      u = (s.wrd.ops.filter fun o => (s.req? o.id).any fun r => s.toPair r.pkt).foldl (fun acc o => acc.abortWop o.id) s →
      v = u.abortParks (fun k => k.r.cxl.isNone && u.toPair k.r.pkt) →
      exec .switchDrainEnd s = .next (s.ended { v with hps := { v.hps with switching := 2 } }))
    ∧ (∀ k, k < 16 →
      exec (.witnessLeaseExpiry k) s = .next (s.ended (s.setFlag (Reg.HPS_WIT_HOLDER.HELD k) false))
      ∧ (s.flag (Reg.HPS_WIT_HOLDER.HELD k) = true → exec (.witnessGrantDue k) s = .next (s.ended s))
      ∧ (∀ w u, s.flag (Reg.HPS_WIT_HOLDER.HELD k) = false → s.hps.waits.find? (fun x => x.pair == k) = some w →
        u = { s with hps := { s.hps with waits := s.hps.waits.erase w } } →
        (w.gen = s.f (Reg.HPS_WIT_GEN.GEN k) → exec (.witnessGrantDue k) s = .next (s.ended (u.witGrant k w.node)))
        ∧ (w.gen ≠ s.f (Reg.HPS_WIT_GEN.GEN k) → exec (.witnessGrantDue k) s = .next (s.ended (u.witSend k w.node 7)))))

/-! ### The Keeper -/

/-- Keeper commands run to their end with DONE and a RESULT (R482): a token is tried (R480), security versions advance unless staging holds an image
(R465), a slot is revoked (R464), streams retire (R474), anchors are set and cleared (R466), a challenge is taken (R480). -/
def Obligations.KeeperCommandsAct : Prop :=
  ∀ (s : State) (a : Path), s.kprOpen a = true →
    (∀ u, (s.tokenResult s.kprBuf = 0 → u = s.newChallenge.tokenAct s.kprBuf) →
        (s.tokenResult s.kprBuf ≠ 0 → u = ((s.newChallenge.bump Reg.KPR_TOKEN_FAIL_CNT.OFF).evt Pg.KPR 5).fault (mkRec 138 0 0x0E02)) →
        exec (.validateToken a) s = .next (s.ended (u.kprEnd (s.tokenResult s.kprBuf))))
    ∧ (s.f Reg.GLB_FW_STAT.STATE < 2 → exec (.advanceSvn a) s = .next (s.ended
        (((s.setF Reg.KPR_SVN.KEEPER_FUSED (max (s.f Reg.KPR_SVN.KEEPER_FUSED) (s.f Reg.KPR_SVN.KEEPER_RUN))).setF
          Reg.KPR_SVN.MGMT_FUSED (max (s.f Reg.KPR_SVN.MGMT_FUSED) (s.f Reg.KPR_SVN.MGMT_RUN))).kprEnd 0)))
    ∧ (2 ≤ s.f Reg.GLB_FW_STAT.STATE → exec (.advanceSvn a) s = .next (s.ended (s.kprEnd 4)))
    ∧ (∀ x u, (Config.revocation s.kprBuf = none → u = s.kprEnd 2) →
        (∀ slot signer, Config.revocation s.kprBuf = some (slot, signer) → 4 ≤ slot ∨ 4 ≤ signer ∨ bit (s.f Reg.KPR_SLOTS.REVOKED) signer = true →
          u = s.kprEnd 2) →
        (∀ slot signer, Config.revocation s.kprBuf = some (slot, signer) → slot < 4 → signer < 4 → bit (s.f Reg.KPR_SLOTS.REVOKED) signer = false →
          (slot = s.f Reg.KPR_SLOTS.RUN_SLOT ∨ signer = slot → u = (s.fault (mkRec 138 0 0x0E07)).kprEnd 3)
          ∧ (slot ≠ s.f Reg.KPR_SLOTS.RUN_SLOT → signer ≠ slot →
            u = (s.setF Reg.KPR_SLOTS.REVOKED (putBit (s.f Reg.KPR_SLOTS.REVOKED) slot true)).kprEnd 0)) →
        exec (.revokeSlot a x) s = .next (s.ended u))
    ∧ (∀ x, x < 256 → exec (.streamRetire a x) s = .next (s.ended ((s.streamRetire x).kprEnd 0)))
    ∧ (∀ x, 256 ≤ x → x < 65536 → exec (.streamRetire a x) s = .next (s.ended (s.kprEnd 1)))
    ∧ (∀ x, x < 64 → exec (.streamRetireSub a x) s =
        .next (s.ended ((s.streamsRetire fun t => s.f (Reg.WRD_CTX.OWNER t.ctx) == x).kprEnd 0)))
    ∧ (∀ x, 64 ≤ x → x < 65536 → exec (.streamRetireSub a x) s = .next (s.ended (s.kprEnd 1)))
    ∧ (∀ x n u, x < 65536 → n = x % 256 → n < 8 →
        u = { s with kpr := { s.kpr with anchors := (n, slice s.kprBuf 0 64) :: s.kpr.anchors.filter fun e => e.1 != n } } →
        exec (.anchorSet a x) s = .next (s.ended ((((u.setFlag (Reg.KPR_ANCHOR.VALID n) true).setFlag (Reg.KPR_ANCHOR.LINK n)
          (bit x 8)).setFlag (Reg.KPR_ANCHOR.STREAM n) (bit x 9)).kprEnd 0)))
    ∧ (∀ x n u, x < 65536 → n = x % 256 → n < 8 →
        u = { s with kpr := { s.kpr with anchors := s.kpr.anchors.filter fun e => e.1 != n } } →
        exec (.anchorClear a x) s = .next (s.ended ((u.setWord (Reg.KPR_ANCHOR.OFF n) 0).kprEnd 0)))
    ∧ (∀ x, x < 65536 → 8 ≤ x % 256 → exec (.anchorSet a x) s = .next (s.ended (s.kprEnd 1))
        ∧ exec (.anchorClear a x) s = .next (s.ended (s.kprEnd 1)))
    ∧ exec (.newChallenge a) s = .next (s.ended (s.newChallenge.kprEnd 0))

/-- What reaches the Keeper besides its register: a token at the debug port (R480), a stream whose retirement is over (R474), the random source's
health (R481). -/
def Obligations.KeeperEventsAct : Prop :=
  ∀ s : State, s.clocked = true →
    (∀ b u n, s.sidebandUp = true → s.tokenTry b = (u, n) → exec (.keeperToken b) s = .next (s.ended u))
    ∧ (∀ c, s.active = true → s.kpr.retiring.contains c = true → s.ctxOps c = 0 → exec (.streamRetireDone c) s = .next (s.ended
        ({ s with kpr := { s.kpr with retiring := s.kpr.retiring.filter fun x => x != c } }.setFlag (Reg.KPR_STRM_STAT.ACTIVE c) false)))
    ∧ (s.flag Reg.KPR_STAT.RNG_OK = true →
        exec .rngFail s = .next (s.ended (((s.setFlag Reg.KPR_STAT.RNG_OK false).evt Pg.KPR 6).fault (mkRec 138 2 0x0E08))))
    ∧ exec .rngRecover s = .next (s.ended (s.setFlag Reg.KPR_STAT.RNG_OK true))

/-- SPDM requests are answered while the Keeper serves their transport (R458 to R462), sessions start, finish, take new keys and end, and a session
that may set up streams sets them up and retires them (R470, R471, R474). -/
def Obligations.SpdmRequestsAct : Prop :=
  ∀ (s : State) (m : SpdmMsg), s.spdmOpen m.via = true →
    (∀ u, u = { s with kpr := { s.kpr with conns := SMap.set (fun _ => []) s.kpr.conns m.via [] } } →
      exec (.spdmGetVersion m) s = .next (s.ended (u.spdmSay m .version)))
    ∧ exec (.spdmGetCapabilities m) s = .next (s.ended (s.spdmSay m .capabilities))
    ∧ exec (.spdmNegotiateAlgorithms m) s = .next (s.ended (s.spdmSay m .algorithms))
    ∧ exec (.spdmGetDigests m) s = .next (s.ended (s.spdmSay m (.digests s.chainDigest)))
    ∧ (∀ chain off n u, chain = Config.ownChain s.identity → off = leNat (slice m.bytes 1 2) →
        n = min (leNat (slice m.bytes 3 2)) (chain.length - off) → byteAt m.bytes 0 = 0 →
        (off < chain.length → u = s.spdmSay m (.certificate (slice chain off n) (chain.length - off - n))) →
        (chain.length ≤ off → u = s.spdmSay m (.error 1)) → exec (.spdmGetCertificate m) s = .next (s.ended u))
    ∧ exec (.spdmChallenge m) s = .next (s.ended (s.spdmSay m (.challengeAuth (s.spdmSign m))))
    ∧ (∀ i l, i = (byteAt m.bytes 0).toNat → (i = 255 → l = s.measurements) → (i ≠ 255 → l = s.measurements.filter fun e => e.1 == i) →
        (l ≠ [] ∨ i = 0 → exec (.spdmGetMeasurements m) s =
          .next (s.ended (s.spdmSay m (.measurements l (if byteAt m.bytes 1 = 0 then [] else s.spdmSign m)))))
        ∧ (l = [] → i ≠ 0 → exec (.spdmGetMeasurements m) s = .next (s.ended (s.spdmSay m (.error 1)))))
    ∧ (s.flag Reg.KPR_STAT.RNG_OK = false → exec (.spdmKeyExchange m) s = .next (s.ended (s.spdmSay m (.error 5))))
    ∧ (s.flag Reg.KPR_STAT.RNG_OK = true → 16 ≤ s.kpr.sessions.length →
        exec (.spdmKeyExchange m) s = .next (s.ended (s.spdmSay m (.error 10))))
    ∧ (∀ r u, s.flag Reg.KPR_STAT.RNG_OK = true → s.kpr.sessions.length < 16 → s.fresh (2 ^ 256) = (r, u) →
        exec (.spdmKeyExchange m) s = .next (s.ended ({ u with kpr := { u.kpr with
          sessions := u.kpr.sessions ++ [Session.mk s.kpr.nextSession m.via false false
            (Config.spdmBytes 1 (s.transcript m ++ leBytes 32 r))]
          nextSession := s.kpr.nextSession + 1 } }.spdmSay m (.keyExchange s.kpr.nextSession))))
    ∧ (∀ x, s.sessionOf m = some x →
        (∀ u, (Config.spdmVerify (x.secret ++ s.transcript m) m.chain = true → u = { s with kpr := { s.kpr with
              sessions := mapIf (fun y => y.id == x.id)
                (fun y => { y with up := true, streamOk := m.chain != [] && s.rootAccepted m.chain true }) s.kpr.sessions } }.spdmSay m .finish) →
          (Config.spdmVerify (x.secret ++ s.transcript m) m.chain = false → u = { s with kpr := { s.kpr with
              sessions := s.kpr.sessions.filter fun y => y.id != x.id } }.spdmSay m (.error 6)) →
          exec (.spdmFinish m) s = .next (s.ended u))
        ∧ (x.up = true →
          exec (.spdmKeyUpdate m) s = .next (s.ended ({ s with kpr := { s.kpr with
              sessions := mapIf (fun y => y.id == x.id)
                (fun y => { y with secret := Config.spdmBytes 2 x.secret }) s.kpr.sessions } }.spdmSay m .keyUpdate))
          ∧ exec (.spdmHeartbeat m) s = .next (s.ended (s.spdmSay m .heartbeat))
          ∧ exec (.spdmEndSession m) s = .next (s.ended ({ s with kpr := { s.kpr with
              sessions := s.kpr.sessions.filter fun y => y.id != x.id } }.spdmSay m .endSession))
          ∧ (∀ k base, s.setupStatus m x = 0 → k = streamKeys x.secret (rqCtx m) (rqNode m) (rqFirst m) →
              base = (s.seqEntry (rqNode m)).map (fun e => e.c + (rqFirst m + 65536 - e.c % 65536) % 65536) →
              ∀ u, u = { s with kpr := { s.kpr with
                streams := Stream.mk (rqCtx m) (rqNode m) (rqFirst m) base (slice k 0 32 ++ slice k 64 4)
                  (slice k 32 32 ++ slice k 68 4) :: s.kpr.streams.filter fun y => y.ctx != rqCtx m } } →
              exec (.streamSetup m) s = .next (s.ended ((((u.setF (Reg.KPR_STRM_STAT.NODE (rqCtx m)) (rqNode m)).setFlag
                (Reg.KPR_STRM_STAT.ACTIVE (rqCtx m)) true).bump Reg.KPR_STREAM_SETUP_CNT.OFF).spdmSay m (streamRsp 0 (rqCtx m)))))
          ∧ (s.setupStatus m x ≠ 0 →
              exec (.streamSetup m) s = .next (s.ended (s.spdmSay m (streamRsp (s.setupStatus m x) (rqCtx m)))))
          ∧ (x.streamOk = true → byteAt m.bytes 0 = 2 → rqCtx m < 256 → s.kpr.streams.any (fun t => t.ctx == rqCtx m) = true →
              exec (.streamRetireRequest m) s = .next (s.ended ((s.streamRetire (rqCtx m)).spdmSay m (streamRsp 0 (rqCtx m)))))))

/-! ### Mailboxes and the CXL port -/

/-- Mailbox commands that return what the device holds (R514, R519 to R522). -/
def Obligations.MailboxReadsAnswer : Prop :=
  ∀ (s : State) (m : Mailbox) (b : Nat), b = m.ld →
    (s.boxOpen b 0x5400 = true → exec (.getLdInfo m) s = .next (s.ended (s.boxDone b 0x5400 0 (.fields [s.part.gib * 2 ^ 30, 16]))))
    ∧ (∀ first n, s.boxOpen b 0x5401 = true → first = arg m 0 → first < 16 → n = min (arg m 1) (16 - first) →
        exec (.getLdAllocations m) s = .next (s.ended (s.boxDone b 0x5401 0
          (.fields ([16, first, n] ++ (upTo first (first + n)).flatMap fun ld => [s.ldAlloc ld 0, s.ldAlloc ld 1])))))
    ∧ (s.boxOpen b 0x5403 = true → exec (.getQosControl m) s = .next (s.ended (s.boxDone b 0x5403 0 (.fields [s.cxl.qosCtl, 4, 8, 12]))))
    ∧ (∀ v u, s.boxOpen b 0x5405 = true → s.fresh 101 = (v, u) →
        exec (.getQosStatus m) s = .next (s.ended (u.boxDone b 0x5405 0 (.fields [v]))))
    ∧ (s.boxOpen b 0x5406 = true → arg m 1 + arg m 0 ≤ 16 → exec (.getQosAllocatedBw m) s =
        .next (s.ended (s.boxDone b 0x5406 0 (.fields ([arg m 0, arg m 1] ++ List.replicate (arg m 0) 0xFF)))))
    ∧ (s.boxOpen b 0x5408 = true → arg m 1 + arg m 0 ≤ 16 → exec (.getQosBwLimit m) s =
        .next (s.ended (s.boxDone b 0x5408 0 (.fields ([arg m 0, arg m 1] ++ List.replicate (arg m 0) 0xFF)))))
    ∧ (s.boxOpen b 0x0001 = true → exec (.identify m) s =
        .next (s.ended (s.boxDone b 0x0001 0 (.fields ([0x1DC5, s.part.deviceId] ++ (List.range 3).map fun i => Config.factory (200 + i))))))
    ∧ (s.boxOpen b 0x0002 = true → s.cxl.bg.any (fun x => x.1 == b) = false → exec (.backgroundOperationStatus m) s =
        .next (s.ended (s.boxDone b 0x0002 0 (.fields [0, 100, 0x4400, SMap.get (fun _ => 0) s.cxl.bgLast b]))))
    ∧ (∀ v u, s.boxOpen b 0x0002 = true → s.cxl.bg.any (fun x => x.1 == b) = true → s.fresh 100 = (v, u) →
        exec (.backgroundOperationStatus m) s = .next (s.ended (u.boxDone b 0x0002 0 (.fields [1, v, 0x4400, 0]))))
    ∧ (∀ l, s.boxOpen b 0x0100 = true → arg m 0 ≤ 3 → l = s.evLog (s.boxLd b) (arg m 0) → exec (.getEventRecords m) s =
        .next (s.ended (s.boxDone b 0x0100 0 (.events l.recs false l.ovf l.ovfFirst l.ovfLast))))
    ∧ (s.boxOpen b 0x0102 = true → exec (.getEventInterruptPolicy m) s = .next (s.ended (s.boxDone b 0x0102 0
        (.fields ((List.range 4).map fun k => SMap.get (fun _ => 0) s.cxl.policy (s.boxLd b * 4 + k))))))
    ∧ (s.boxOpen b 0x0200 = true → exec (.getFwInfo m) s = .next (s.ended (s.boxDone b 0x0200 0
        (.fields [2, 1, 1, imgVersion (s.flashRead flImage 256), s.word64 Reg.GLB_FW_STG_VER.OFF]))))
    ∧ (s.boxOpen b 0x0300 = true → exec (.getTimestamp m) s = .next (s.ended (s.boxDone b 0x0300 0
        (.fields [(((s.time : Int) + SMap.get (fun _ => (0 : Int)) s.cxl.tsOff (s.boxLd b)) % 2 ^ 64).toNat]))))
    ∧ (s.boxOpen b 0x0400 = true → exec (.getSupportedLogs m) s = .next (s.ended (s.boxDone b 0x0400 0
        (.fields [1, ((ldOpcodes ++ upTo 0x5400 0x540A).filter (s.boxServes b)).length]))))
    ∧ (s.boxOpen b 0x0401 = true → exec (.getLog m) s = .next (s.ended (s.boxDone b 0x0401 0
        (.fields ((ldOpcodes ++ upTo 0x5400 0x540A).filter (s.boxServes b))))))
    ∧ (∀ c, s.boxOpen b 0x4000 = true → c = 4 * (s.ldAlloc (s.boxLd b) 0 + s.ldAlloc (s.boxLd b) 1) →
        exec (.identifyMemoryDevice m) s = .next (s.ended (s.boxDone b 0x4000 0 (.fields [c, c, 0, 512]))))
    ∧ (∀ h, s.boxOpen b 0x4200 = true → h = b2n ((List.range s.part.stacks).any fun n => decide (15000 < s.sparesUsed n))
          + 2 * b2n ((List.range s.part.stacks).any s.stackFailed) →
        exec (.getHealthInfo m) s = .next (s.ended (s.boxDone b 0x4200 0 (.fields [h, if s.basic then 2 else 0,
          s.hottestStack, min (((List.range s.part.stacks).map fun n => s.cnt (Reg.SC_CE_CNT.OFF n)).sum) (2 ^ 32 - 1)]))))
    ∧ (s.boxOpen b 0x4201 = true → exec (.getAlertConfiguration m) s = .next (s.ended (s.boxDone b 0x4201 0
        (.fields ((List.range 2).map fun i => SMap.get (fun _ => 0) s.cxl.alert (s.boxLd b * 2 + i))))))

/-- Mailbox commands that change the device (R514, R519 to R522); the two that set bandwidths are Unsupported (R514). -/
def Obligations.MailboxWritesAct : Prop :=
  ∀ (s : State) (m : Mailbox) (b : Nat), b = m.ld →
    (∀ kv u, s.boxOpen b 0x5402 = true → arg m 0 ≠ 0 → arg m 1 + arg m 0 ≤ 16 →
        kv = (List.range (2 * arg m 0)).map (fun i => (arg m 1 * 2 + i, arg m (2 + i))) →
        u = { s with cxl := { s.cxl with alloc := SMap.setMany (fun _ => 0) s.cxl.alloc kv } } →
        exec (.setLdAllocations m) s = .next (s.ended (u.boxDone b 0x5402 0 (.fields ([arg m 0, arg m 1] ++ kv.map (·.2))))))
    ∧ (s.boxOpen b 0x5404 = true → m.args.drop 1 = [4, 8, 12] → exec (.setQosControl m) s =
        .next (s.ended ({ s with cxl := { s.cxl with qosCtl := arg m 0 } }.boxDone b 0x5404 0 (.fields [arg m 0, 4, 8, 12]))))
    ∧ (s.boxOpen b 0x5404 = true → m.args.drop 1 ≠ [4, 8, 12] → exec (.setQosControl m) s = .next (s.ended (s.boxDone b 0x5404 2 .nothing)))
    ∧ (b ≤ 16 → s.phase = .ready → s.cxlUp = true →
        exec (.setQosAllocatedBw m) s = .next (s.ended (s.boxDone b 0x5407 3 .nothing))
        ∧ exec (.setQosBwLimit m) s = .next (s.ended (s.boxDone b 0x5409 3 .nothing)))
    ∧ (∀ l n, s.boxOpen b 0x0101 = true → arg m 0 ≤ 3 → l = s.evLog (s.boxLd b) (arg m 0) → n = (m.args.drop 2).length →
        (arg m 1 = 1 → exec (.clearEventRecords m) s = .next (s.ended ((s.setEvLog (s.boxLd b) (arg m 0)
          { l with recs := [], ovf := 0, ovfFirst := 0, ovfLast := 0 }).boxDone b 0x0101 0 .nothing)))
        ∧ (arg m 1 ≠ 1 → m.args.drop 2 = (l.recs.take n).map (·.handle) → exec (.clearEventRecords m) s =
            .next (s.ended ((s.setEvLog (s.boxLd b) (arg m 0)
              { l with recs := l.recs.drop n, ovf := 0, ovfFirst := 0, ovfLast := 0 }).boxDone b 0x0101 0 .nothing))))
    ∧ (∀ kv u, s.boxOpen b 0x0103 = true → kv = (List.range 4).map (fun k => (s.boxLd b * 4 + k, arg m k % 256)) →
        u = { s with cxl := { s.cxl with policy := SMap.setMany (fun _ => 0) s.cxl.policy kv } } →
        exec (.setEventInterruptPolicy m) s = .next (s.ended (u.boxDone b 0x0103 0 .nothing)))
    ∧ (s.boxOpen b 0x0201 = true → s.f Reg.GLB_FW_STAT.STATE < 3 → s.flashBusy = false →
        (arg m 0 = 4 → exec (.transferFw m) s = .next (s.ended (s.xferAbort.boxDone b 0x0201 0 .nothing)))
        ∧ (∀ u, arg m 0 = 1 → arg m 2 = 0 → m.data ≠ [] → m.data.length ≤ 0x1000000 →
            u = s.xferStart ((s.f Reg.GLB_FW_XFER.XFER_ID + 1) % 65536) →
            exec (.transferFw m) s = .next (s.ended ((u.stagePut 0 m.data false).boxDone b 0x0201 0 .nothing)))
        ∧ (∀ off, arg m 0 = 2 → off = arg m 2 * 128 → off = s.f Reg.GLB_FW_NEXT.OFFSET → s.f Reg.GLB_FW_STAT.STATE = 1 → m.data ≠ [] →
            off + m.data.length ≤ 0x1000000 →
            exec (.transferFw m) s = .next (s.ended ((s.stagePut off m.data false).boxDone b 0x0201 0 .nothing)))
        ∧ (∀ off u, arg m 0 = 3 → off = arg m 2 * 128 → off = s.f Reg.GLB_FW_NEXT.OFFSET → s.f Reg.GLB_FW_STAT.STATE = 1 → m.data ≠ [] →
            off + m.data.length ≤ 0x1000000 → u = s.stagePut off m.data true →
            exec (.transferFw m) s = .next (s.ended { u with fw := { u.fw with lastBox := some b } })))
    ∧ (∀ img c u, s.boxOpen b 0x0202 = true → arg m 0 = 0 → arg m 1 = 2 → s.f Reg.GLB_FW_STAT.STATE = 2 → s.fw.check = none →
        s.pairBars = false → img = s.imageAt flStaging → imgKind img = 2 → c = 1 - s.descriptor.2.1 →
        u = ((s.flashErase (flKeeper c) 0x100000).flashWrite (flKeeper c) img).setDescriptor c s.descriptor.2.2 →
        exec (.activateFw m) s = .next (s.ended ((((u.showStaging 0 []).bump Reg.GLB_FW_ACT_CNT.OFF).setF
          Reg.GLB_FW_XFER.RESULT 0).boxDone b 0x0202 0 .nothing)))
    ∧ (s.boxOpen b 0x0202 = true → arg m 0 = 0 → arg m 1 = 2 → s.f Reg.GLB_FW_STAT.STATE = 2 → s.fw.check = none →
        s.pairBars = false → imgKind (s.imageAt flStaging) = 1 →
        exec (.activateFw m) s = .next (s.ended (s.askAll .mmio false (some b)).checkEnd))
    ∧ (∀ off u, s.boxOpen b 0x0301 = true → off = (arg m 0 : Int) - s.time →
        u = { s with cxl := { s.cxl with tsOff := SMap.set (fun _ => (0 : Int)) s.cxl.tsOff (s.boxLd b) off } } →
        exec (.setTimestamp m) s = .next (s.ended (u.boxDone b 0x0301 0 .nothing)))
    ∧ (∀ kv u, s.boxOpen b 0x4202 = true → kv = (List.range 2).map (fun i => (s.boxLd b * 2 + i, arg m i)) →
        u = { s with cxl := { s.cxl with alert := SMap.setMany (fun _ => 0) s.cxl.alert kv } } →
        exec (.setAlertConfiguration m) s = .next (s.ended (u.boxDone b 0x4202 0 .nothing)))
    ∧ (∀ u id r, s.boxOpen b 0x4300 = true → arg m 1 ≤ 2 ^ 36 → s.flag (Reg.KTU_LD_KEYWAY.VALID b) = true → b < 16 →
        s.boxAdmit b opPoisonList (arg m 0) (arg m 1) [] = (u, id) → u.req? id = some r →
        exec (.getPoisonList m) s = .next (s.ended (u.runPoisonList r)))
    ∧ (∀ u id r, s.boxOpen b 0x4301 = true → s.flag (Reg.KTU_LD_KEYWAY.VALID b) = true → b < 16 →
        s.boxAdmit b opInject (arg m 0 / 64 * 64) 0 [] = (u, id) → u.req? id = some r →
        exec (.injectPoison m) s = .next (s.ended (u.runInject r)))
    ∧ (∀ u id r, s.boxOpen b 0x4302 = true → s.flag (Reg.KTU_LD_KEYWAY.VALID b) = true → b < 16 →
        s.boxAdmit b 2 (arg m 0 / 64 * 64) 0 (slice m.data 0 64) = (u, id) → u.req? id = some r →
        exec (.clearPoison m) s = .next (s.ended (u.runWrite r)))
    ∧ (∀ u, s.boxOpen b 0x4400 = true → b < 16 → s.quiesced b = true → s.cxl.clear.any (fun c => c.1 == b) = false →
        u = { s with cxl := { s.cxl with clear := s.cxl.clear ++ [(b, false)], bg := s.cxl.bg ++ [(b, b)] } } →
        exec (.sanitize m) s = .next (s.ended (u.boxDone b 0x4400 1 .nothing)))

/-- Events of the CXL port: a Sanitize ends (R519; like a PTN_INIT fill it waits for quiesced channels, R244, and the maintenance allowance, R387), a decoder is committed where R515 allows it, the link trains and goes down (R517, R525),
resets of a device and of the port (R525), Bus Master Enable and MSI-X masks (R523). -/
def Obligations.CxlEventsAct : Prop :=
  ∀ s : State, s.clocked = true →
    (∀ box ld l u v, s.cxl.bg = (box, ld) :: l → u = s.fillOwned ld →
      v = { u with cxl := { u.cxl with
        clear := u.cxl.clear.filter fun c => c != (ld, false)
        bg := l
        bgLast := SMap.set (fun _ => 0) u.cxl.bgLast box 0 } }.evt Pg.CXP 5 →
      (s.fillWaits = true → exec .sanitizeDone s = .next (s.ended s))
      ∧ (s.fillWaits = false → s.maintAllowed = false → exec .sanitizeDone s = .next (s.ended s.noteMaintHeld))
      ∧ (s.fillWaits = false → s.maintAllowed = true →
        (box < 16 → box ≠ s.mgrLd → exec .sanitizeDone s = .next (s.ended (v.msix box 0)))
        ∧ (16 ≤ box ∨ box = s.mgrLd → exec .sanitizeDone s = .next (s.ended v))))
    ∧ (∀ ld i d k u, ld < 16 → i < 4 → k = ld * 4 + i → s.cxl.locked.contains k = false →
      u = { s with cxl := { s.cxl with decoders := SMap.set (fun _ => noDecoder) s.cxl.decoders k d } } →
      (s.hdmOk ld i d = true → exec (.hdmDecoderCommit ld i d) s = .next (s.ended (State.showDecoders { u with cxl := { u.cxl with
        committed := k :: u.cxl.committed.filter fun x => x != k
        errNot := u.cxl.errNot.filter fun x => x != k
        locked := if d.lock then k :: u.cxl.locked else u.cxl.locked } } ld)))
      ∧ (s.hdmOk ld i d = false → exec (.hdmDecoderCommit ld i d) s = .next (s.ended (((u.hdmFail k).evt Pg.CXP 0).showDecoders ld))))
    ∧ (∀ w sp u, s.cxl.stopped = false →
      (u = (s.setWord Reg.CXP_STAT.OFF (w % 16 + sp % 8 * 16 + 128 + 256)).liftLink.evt Pg.CXP 1 →
        exec (.cxlLinkTrained w sp false) s = .next (s.ended u))
      ∧ (sp ≤ 3 → u = (s.setWord Reg.CXP_STAT.OFF (w % 16 + sp % 8 * 16 + 256)).liftLink.evt Pg.CXP 1 → ∀ bad, bad = u.cxl.committed.filter
          (fun k => (u.decoder (k / 4) (k % 4)).bi) → exec (.cxlLinkTrained w sp true) s = .next (s.ended
            ((List.range 16).foldl (fun (x : State) ld => x.showDecoders ld) (bad.foldl (fun (x : State) k => x.hdmFail k) u.fenceCxl)))))
    ∧ (∀ u, s.cxlUp = true → u = (s.setWord Reg.CXP_STAT.OFF 0).fenceCxl →
      ∀ v, v = (({ u with
        tsh := { u.tsh with hold := [] }, txq := u.txq.filter fun t => t.port != 6 }.bump Reg.CXP_LINK_DOWN_CNT.OFF).evt Pg.CXP 2).fault (mkRec 119 2 0x1001) →
        exec .cxlLinkDown s = .next (s.ended v) ∧ exec .secondaryBusReset s = .next (s.ended v))
    ∧ (∀ ld u, ld < 16 → u = (s.ldReqs ld true).foldl (fun (x : State) r =>
        if r.cxl = some (ld, 2 ^ 32 + 17) then x else x.dropReq r.id) s →
      exec (.cxlFlr ld) s = .next (s.ended { u with fw := { u.fw with
        lastBox := if u.fw.lastBox = some ld then none else u.fw.lastBox
        check := u.fw.check.map fun c => if c.mailbox = some ld then { c with mailbox := none } else c } }))
    ∧ (∀ ld clr u v, ld < 16 → u = (s.ldReqs ld false).foldl (fun (x : State) r => x.finish r.id stPOISON 0 0 (zeros 64)) s →
      v = ((List.range 512).filter fun a => u.flag (Reg.DIR_AGENT.VALID a) && u.agentCxl a && u.f (Reg.DIR_AGENT.LD a) == ld).foldl
        (fun (x : State) a => x.fenceAgent a) u →
      exec (.cxlReset ld clr) s = .next (s.ended ((State.showDecoders { v with cxl := { v.cxl with
        committed := v.cxl.committed.filter fun k => k / 4 != ld
        locked := v.cxl.locked.filter fun k => k / 4 != ld
        errNot := v.cxl.errNot.filter fun k => k / 4 != ld
        logs := SMap.drop v.cxl.logs fun k => k / 4 == ld
        clear := (v.cxl.clear.filter fun c => c.1 != ld) ++ (if clr then [(ld, true)] else [])
        bg := v.cxl.bg.filter fun b => b.2 != ld
        bgLast := (v.cxl.bg.filter fun b => b.2 == ld).foldl (fun x b => SMap.set (fun _ => 0) x b.1 0x12) v.cxl.bgLast } } ld).fault
          (mkRec 119 0 0x1005))))
    ∧ (∀ ld u, s.cxl.clear.contains (ld, true) = true → u = s.fillOwned ld →
      (s.fillWaits = true → exec (.cxlResetMemClrDone ld) s = .next (s.ended s))
      ∧ (s.fillWaits = false → s.maintAllowed = false → exec (.cxlResetMemClrDone ld) s = .next (s.ended s.noteMaintHeld))
      ∧ (s.fillWaits = false → s.maintAllowed = true → exec (.cxlResetMemClrDone ld) s =
        .next (s.ended { u with cxl := { u.cxl with clear := u.cxl.clear.filter fun c => c != (ld, true) } })))
    ∧ (∀ ld on, ld < 16 → exec (.busMasterEnableWrite ld on) s = .next (s.ended (s.setFlag (Reg.CXP_LD_STAT.BME ld) on)))
    ∧ (∀ ld vec u, u = { s with cxl := { s.cxl with
        unmasked := (ld, vec) :: s.cxl.unmasked.filter fun x => x != (ld, vec)
        pend := s.cxl.pend.filter fun x => x != (ld, vec) } } →
      (s.cxl.pend.contains (ld, vec) = true → exec (.msixVectorUnmask ld vec) s = .next (s.ended (u.msix ld vec)))
      ∧ (s.cxl.pend.contains (ld, vec) = false → exec (.msixVectorUnmask ld vec) s = .next (s.ended u)))

/-! ### Pins, supplies and the debug port -/

/-- The pins act at any time: PWR_GOOD rises into a cold start that shows a latched thermal trip and releases it (R497, R562, R571, R572) and falls
(R560), RESET_N (R562), WARM_RESET_N (R564), the thermal
trip and the supply of its latch (R571, R572). -/
def Obligations.PinCommandsAct : Prop :=
  ∀ s : State,
    (∀ b u v, s.pins.pwrGood = false → u = { s with pins := { s.pins with pwrGood := true, trip := false } } →
      (s.pins.trip = false → v = u.coldReset 0) → (s.pins.trip = true → v = (u.coldReset 5).setFlag Reg.GLB_THERM.THERMTRIP_SEEN true) →
      (s.pins.resetLow = false → exec (.pwrGoodRise b) s = .next (s.ended (v.coldStart b)))
      ∧ (s.pins.resetLow = true → exec (.pwrGoodRise b) s = .next (s.ended v)))
    ∧ (∀ u, s.pins.pwrGood = true → u = s.flashCut → exec .pwrGoodFall s = .next (s.ended
        { u with phase := .off, pins := { u.pins with pwrGood := false, i3c := none }, mem := [], chk := [], txq := [] }))
    ∧ (∀ u, s.pins.pwrGood = true → s.phase ≠ .off → u = State.flashCut { s with pins := { s.pins with resetLow := true } } →
      exec .resetN s = .next (s.ended (u.coldReset 1)))
    ∧ (∀ b u, s.pins.pwrGood = true → s.pins.resetLow = true → s.phase = .cold →
      u = { s with pins := { s.pins with resetLow := false } } → exec (.resetNRise b) s = .next (s.ended (u.coldStart b)))
    ∧ (∀ u, u = { s with pins := { s.pins with warmLow := true } } →
      (s.phase = .ready → s.everReady = true →
        exec .warmResetN s = .next (s.ended (u.warmBegin.setF Reg.GLB_STAT.LAST_RESET 2)))
      ∧ (∀ k v, s.phase = .warm k → v = u.setF Reg.GLB_STAT.LAST_RESET 2 → exec .warmResetN s = .next (s.ended { v with phase := .warm 1 })))
    ∧ (∀ u, u = { s with pins := { s.pins with warmLow := false } } →
      (s.phase = .warm 4 → exec .warmResetNRise s = .next (s.ended u.logicReset))
      ∧ (s.phase ≠ .warm 4 → exec .warmResetNRise s = .next (s.ended u)))
    ∧ (∀ u, s.pins.pwrGood = true → s.phase ≠ .off → u = s.flashCut →
      exec .thermtrip s = .next (s.ended { u with phase := .off, pins := { u.pins with trip := true } }))
    ∧ (∀ u, u = s.setFlag Reg.GLB_THERM.THERMTRIP_SEEN false →
      exec .vsb1v8Removed s = .next (s.ended { u with pins := { s.pins with trip := false } }))

/-- What the package reports while the clocks run: a clock that stops (R561) or relocks (R454), a rail out of tolerance (R558), the controller
sensors (R569, R571), the Vorer core (R454), the sideband address (R566), debug instructions (R478, R480, R568). -/
def Obligations.PackageEventsAct : Prop :=
  ∀ s : State, s.clocked = true →
    (s.pins.pwrGood = true → exec .refclkLost s = .next (s.ended (s.fault (mkRec 155 3 0x1107))))
    ∧ (∀ i, exec (.pllRelock i) s = .next (s.ended (s.fault (mkRec 155 0 0x1108))))
    ∧ (s.pins.pwrGood = true → exec .railOutOfTolerance s = .next (s.ended (s.reqs.foldl (fun (u : State) r => u.undefine r) s)))
    ∧ (∀ (l ts good : List Nat) (bad : List Nat) u m, ts = l.take 16 → good = ts.filter (fun t => !tempBad t) → m = good.foldl max 0 →
      bad = (List.range ts.length).filter (fun i => tempBad (ts.getD i 0) && !tempBad (s.epl.temps.getD i 0)) →
      u = bad.foldl (fun (x : State) _ => x.fault (mkRec 156 0 0x1109)) { s with epl := { s.epl with temps := ts } } →
      (good = [] → exec (.controllerTempSample l) s = .next (s.ended u))
      ∧ (good ≠ [] → m < 115 → exec (.controllerTempSample l) s = .next (s.ended (u.setF Reg.GLB_THERM.CTRL_TEMP m)))
      ∧ (good ≠ [] → 115 ≤ m → exec (.controllerTempSample l) s = .next (s.ended (u.setF Reg.GLB_THERM.CTRL_TEMP m).tripGo)))
    ∧ (exec .vorerWatchdog s = .next (s.ended (State.fault { s with fwDown := true } (mkRec 137 2 0x1102))))
    ∧ (exec .vorerException s = .next (s.ended (State.fault { s with fwDown := true } (mkRec 137 3 0x1101))))
    ∧ (s.sidebandUp = true →
      (∀ a, exec (.dynamicAddressAssign a) s = .next (s.ended { s with pins := { s.pins with i3c := some (a % 128) } }))
      ∧ (∀ a v, exec (.debugInstruction 2 1 a v) s = .next (s.ended (s.emit (.tdo (leBytes 4 s.part.idcode)))))
      ∧ (∀ k a v, k ≠ 1 → exec (.debugInstruction 2 k a v) s = .next (s.ended (s.emit (.tdo (leBytes 4 v)))))
      ∧ (∀ k a v, s.flag Reg.KPR_STAT.DEBUG_VORER = false → exec (.debugInstruction 0 k a v) s = .next (s.ended (s.emit (.tdo (leBytes 4 0)))))
      ∧ (∀ k a v, s.flag Reg.KPR_STAT.DEBUG_KEEPER = false → exec (.debugInstruction 1 k a v) s = .next (s.ended (s.emit (.tdo (leBytes 4 0)))))
      ∧ (∀ c a v n, c < 2 → s.flag (if c = 0 then Reg.KPR_STAT.DEBUG_VORER else Reg.KPR_STAT.DEBUG_KEEPER) = true → n = s.f Reg.DBG_STAT.BREAKPOINTS →
        exec (.debugInstruction c 3 a v) s = .next (s.ended (State.emit (s.setF Reg.DBG_STAT.BREAKPOINTS
          (if v % 2 = 1 then min 15 (n + 1) else n - 1)) (.tdo (leBytes 4 0)))))
      ∧ (s.flag Reg.KPR_STAT.DEBUG_VORER = true →
        (∀ a v u, u = s.setFlag Reg.DBG_STAT.VORER_HALTED true →
          exec (.debugInstruction 0 0 a v) s = .next (s.ended ((State.evt { u with fwDown := true } Pg.DBG 0).emit (.tdo (leBytes 4 0)))))
        ∧ (∀ a v u, u = s.setFlag Reg.DBG_STAT.VORER_HALTED false →
          exec (.debugInstruction 0 2 a v) s = .next (s.ended (State.emit { u with fwDown := false } (.tdo (leBytes 4 0)))))
        ∧ (∀ a v x u, s.fresh (2 ^ 32) = (x, u) → exec (.debugInstruction 0 4 a v) s = .next (s.ended (u.emit (.tdo (leBytes 4 x)))))))

/-! ### Settings, the log and images -/

/-- The settings commands (R494) and the log window (R496). -/
def Obligations.SettingsAct : Prop :=
  ∀ (s : State) (a : Path),
    (s.regOpen a Reg.GLB_SET_CMD.OFF = true →
      (s.flag Reg.GLB_SET_STAT.BUSY = false →
        exec (.settingsSave a) s = .next (s.ended s.settingsSave) ∧ exec (.settingsErase a) s = .next (s.ended s.settingsErase))
      ∧ (s.flag Reg.GLB_SET_STAT.BUSY = true → ∀ u, u = s.cfgReject a Pg.GLB 0 0x0001 Reg.GLB_SET_CMD.OFF none →
        exec (.settingsSave a) s = .next (s.ended u) ∧ exec (.settingsErase a) s = .next (s.ended u)))
    ∧ (∀ v u b, s.regOpen a Reg.GLB_LOG_SEL.OFF = true → b = s.logEntry (bits v.toNat 15 0) →
      u = (s.setF Reg.GLB_LOG_SEL.INDEX (bits v.toNat 15 0)).setFlag Reg.GLB_LOG_SEL.VALID true → exec (.logSelect a v) s =
        .next (s.ended ((List.range 16).foldl (fun (w : State) k => w.setWord (Reg.GLB_LOG_DATA.OFF k) (leNat (slice b (4 * k) 4))) u)))
    ∧ (s.clocked = true → s.flag Reg.GLB_SET_STAT.BUSY = true → ∀ u v c,
      u = (s.setFlag Reg.GLB_SET_STAT.BUSY false).setFlag Reg.GLB_SET_STAT.DONE true →
      v = { u with fw := { u.fw with setJob := 0 } } → c = 1 - s.f Reg.GLB_SET_STAT.IN_USE →
      (∀ w, s.fw.setJob = 1 →
        w = (v.setF Reg.GLB_SET_STAT.IN_USE c).setF Reg.GLB_SET_SEQ.SEQ ((s.f Reg.GLB_SET_SEQ.SEQ + 1) % 2 ^ 32) →
        exec (.settingsSaveDone true) s =
          .next (s.ended { w with fw := { w.fw with setDigest := sha512 ((s.settingsAt c).getD []) } }))
      ∧ (s.fw.setJob = 1 → exec (.settingsSaveDone false) s = .next (s.ended ((v.flashScramble (flSettings c) 64).flashErr)))
      ∧ (s.fw.setJob ≠ 1 → exec (.settingsSaveDone true) s = .next (s.ended v))
      ∧ (s.fw.setJob ≠ 1 → exec (.settingsSaveDone false) s = .next (s.ended v.flashErr)))

/-- Images: verification (R502), forwarding (R503), activation and its checks (R504, R505), preload, trial, health and commit (R506, R507, R509),
RAISE (R508). -/
def Obligations.ImageCommandsAct : Prop :=
  ∀ s : State, s.clocked = true →
    (∀ b u v w x r, s.fw.verifying = true → b = s.imageAt flStaging → r = s.imageResult b →
      u = { s with fw := { s.fw with verifying := false, lastReq := none, lastBox := none } } →
      v = (((u.fwRefused r).flashErase flStaging 0x1000000).showStaging 0 []).lastAnswer s.fw.lastReq s.fw.lastBox r →
      w = u.setF Reg.GLB_FW_XFER.RESULT 0 → (r ≠ 0 → x = v) →
      (r = 0 → imgKind b ≠ 1 ∨ imgVersion b ≠ s.word64 Reg.GLB_FW_RUN_VER.OFF →
        x = ((((w.showStaging 2 b).evt Pg.GLB 4).logUpdate (imgVersion b) 0 1).lastAnswer s.fw.lastReq s.fw.lastBox 0).fwdStart) →
      (r = 0 → imgKind b = 1 → imgVersion b = s.word64 Reg.GLB_FW_RUN_VER.OFF →
        x = (w.showStaging 0 []).lastAnswer s.fw.lastReq s.fw.lastBox 0) → exec .imageVerifyDone s = .next (s.ended x))
    ∧ (∀ k u, s.active = true → s.fw.fwd = some k → u = { s with fw := { s.fw with fwd := none } } →
      exec .fwForwardTimeout s = .next (s.ended (u.glbFault 0 0x0F06)))
    ∧ (∀ (a : Path), s.regOpen a Reg.GLB_FW_CTRL.OFF = true →
      (s.f Reg.GLB_FW_STAT.STATE ≠ 2 → exec (.fwActivate a) s = .next (s.ended (s.fwRefused 7)))
      ∧ (s.f Reg.GLB_FW_STAT.STATE = 2 → s.fw.check = none → s.pairBars = false →
        (imgKind (s.imageAt flStaging) = 2 → exec (.fwActivate a) s = .next (s.ended (s.keeperPut (s.imageAt flStaging) none)))
        ∧ (imgKind (s.imageAt flStaging) ≠ 2 → s.phase ≠ .recovery →
          exec (.fwActivate a) s = .next (s.ended (s.askAll a false none).checkEnd)))
      ∧ (s.f Reg.GLB_FW_STAT.STATE = 4 → exec (.fwConfirm a) s = .next (s.ended { s with fw := { s.fw with confirmed := true } }))
      ∧ (s.f Reg.GLB_FW_STAT.STATE = 0 → s.fw.check = none → exec (.fwRaise a) s = .next (s.ended (s.askAll a true none).checkEnd))
      ∧ (s.f Reg.GLB_FW_STAT.STATE ≠ 0 →
        exec (.fwRaise a) s = .next (s.ended (s.cfgReject a Pg.GLB 0 0x0001 Reg.GLB_FW_CTRL.OFF none))))
    ∧ (∀ c x l u, s.fw.check = some c → c.asks = x :: l → u = { s with fw := { s.fw with check := some { c with asks := l } } } →
      exec .compatUnchecked s = .next (s.ended (u.glbFault 0 0x0F07).checkEnd))
    ∧ (∀ b u v, s.f Reg.GLB_FW_STAT.STATE = 3 → b = s.imageAt flStaging → u = (s.runImage b false).setF Reg.GLB_FW_STAT.STATE 4 →
      (sha512 (imgBody b) = imgDigest b → v = State.logUpdate
        { u with fw := { u.fw with stagedCopy := b, planAt := s.f Reg.EPL_PLAN_SEQ.INTERVAL } } (imgVersion b) 0 2) →
      (sha512 (imgBody b) ≠ imgDigest b → v = (s.setF Reg.GLB_FW_STAT.STATE 2).fwRefused 3) →
      exec .activationPreloadDone s = .next (s.ended v))
    ∧ (∀ u, s.f Reg.GLB_FW_STAT.STATE = 4 → s.healthy = true →
      u = (s.setDescriptor s.descriptor.2.1 true).setF Reg.GLB_FW_STAT.STATE 5 →
      exec .healthConfirmed s = .next (s.ended { u with fw := { u.fw with tries := 0 } }))
    ∧ (∀ u v, s.f Reg.GLB_FW_STAT.STATE = 4 →
      u = (s.runImage s.fw.slotCopy (s.flag Reg.GLB_FW_STAT.RAISED)).setF Reg.GLB_FW_STAT.STATE 2 →
      v = ((u.setF Reg.GLB_FW_XFER.RESULT 10).bump Reg.GLB_FW_FALLBACK_CNT.OFF).evt Pg.GLB 6 →
      exec .healthTimeout s = .next (s.ended ((v.glbFault 2 0x0F04).logUpdate (s.word64 Reg.GLB_FW_STG_VER.OFF) 10 4)))
    ∧ (s.f Reg.GLB_FW_STAT.STATE = 5 →
      (∀ b u v, b = s.imageAt flStaging → u = ((s.storeImage b).setDescriptor s.descriptor.2.1 false).showStaging 0 [] →
        v = { u with fw := { u.fw with slotCopy := u.fw.stagedCopy, stagedCopy := [] } } →
        exec (.commitCopyDone true) s =
          .next (s.ended (((v.bump Reg.GLB_FW_COMMIT_CNT.OFF).evt Pg.GLB 5).logUpdate (imgVersion b) 0 3)))
      ∧ (∀ u, u = (s.bump Reg.GLB_FLASH_ERR_CNT.OFF).flashScramble flImage 256 → s.fw.tries < 2 →
        exec (.commitCopyDone false) s = .next (s.ended { u with fw := { u.fw with tries := s.fw.tries + 1 } }))
      ∧ (∀ u, u = (s.bump Reg.GLB_FLASH_ERR_CNT.OFF).flashScramble flImage 256 → 2 ≤ s.fw.tries →
        exec (.commitCopyDone false) s = .next (s.ended
          ((((u.setDescriptor s.descriptor.2.1 false).setF Reg.GLB_FW_STAT.STATE 2).setF Reg.GLB_FW_XFER.RESULT 9).glbFault 2 0x0F05))))

/-! ### Memory and its code -/

/-- R36 and R37: a PPA maps to a stack and a stack-local address by the fold and the interleave table, one to one, onto 64 GiB of every stack. -/
def Obligations.PlacementIsOneToOne : Prop :=
  ∀ p : Part, ∀ n, n = (if p = .cv1269 then 8 else 12) →
    (∀ ppa row fold slot, ppa < n * 2 ^ 36 → row = ppa / 4096 / n →
      fold = bits row 3 0 ^^^ bits row 7 4 ^^^ bits row 11 8 ^^^ bits row 15 12 ^^^ bits row 19 16 ^^^ bits row 23 20 →
      slot = (ppa / 4096 % n + fold) % n →
      p.stackOf ppa = (if p = .cv1269 then [0, 4, 1, 5, 2, 6, 3, 7] else [0, 6, 1, 7, 2, 8, 3, 9, 4, 10, 5, 11]).getD slot 0
      ∧ p.localOf ppa = row * 4096 + ppa % 4096)
    ∧ (∀ ppa, ppa < n * 2 ^ 36 → p.stackOf ppa < n ∧ p.localOf ppa < 2 ^ 36)
    ∧ (∀ a b, a < n * 2 ^ 36 → b < n * 2 ^ 36 → p.stackOf a = p.stackOf b → p.localOf a = p.localOf b → a = b)
    ∧ (∀ st l, st < n → l < 2 ^ 36 → ∃ a, a < n * 2 ^ 36 ∧ p.stackOf a = st ∧ p.localOf a = l)

/-- A sector with the check symbols of its data is CLEAN, unless it lies within two symbols of the poison word, which is tested first (R263 to
R266). The poison word itself decodes POISONED. -/
def Obligations.CodeWordsDecodeClean : Prop :=
  (∀ b : List Byte, b.length = 64 → 2 < poisonDistance (dataSymbols b) (rsEncode (dataSymbols b)) →
    rsDecode b (rsEncode (dataSymbols b)) = .clean b)
  ∧ rsDecode (zeros 64) poisonChecks = .poisoned true

/-- A sector with one symbol in error, data or check, decodes CORRECTED with the data that was stored, unless it lies within two symbols of the
poison word (R263 to R266). -/
def Obligations.OneSymbolErrorsAreCorrected : Prop :=
  ∀ (b : List Byte) (j e : Nat) (w : List Nat), b.length = 64 → j < 36 → 0 < e → e < 65536 →
    w = flipSym (wordSymbols (dataSymbols b) (rsEncode (dataSymbols b))) j e → 2 < poisonDistance (w.drop 4) (w.take 4) →
    rsDecode (symbolBytes (w.drop 4)) (w.take 4) = .corrected b

/-- A write of enabled bytes within one granule stores each of them at its place and leaves every other stored byte as it was, where each sector it
writes in part decodes CLEAN (R19, R249); whatever the sectors hold, no byte outside the sectors it touches changes. -/
def Obligations.StoresLandWhereTheyGo : Prop :=
  ∀ (u : State) (ppa len b node : Nat) (v : Nat → Option Byte), u.memWf = true → 0 < len → ppa % 4096 + len ≤ 4096 →
    (∀ a, (a < u.phys ppa / 64 * 64 ∨ (u.phys ppa + len + 63) / 64 * 64 ≤ a) → (u.writeRange ppa len b node v).1.byte a = u.byte a)
    ∧ ((∀ k, ppa / 64 ≤ k → k ≤ (ppa + len - 1) / 64 → wholeSector ppa len v k = false → u.sectorClean (k * 64) = true) →
      (u.writeRange ppa len b node v).2 = false
      ∧ ∀ a, (u.writeRange ppa len b node v).1.byte a
        = if u.phys ppa ≤ a ∧ a < u.phys ppa + len then (v (a - u.phys ppa)).getD (u.byte a) else u.byte a)

/-- A read within one granule of sectors that decode CLEAN answers the stored bytes, no poison, and changes nothing (R18, R19); a sector that was never
written reads as uncorrectable: zeros, with its mask bit (R28, R267). -/
def Obligations.ReadsReturnWhatStands : Prop :=
  ∀ (u : State) (ppa len b node : Nat), 0 < len → ppa % 4096 + len ≤ 4096 →
    ((∀ k, ppa / 64 ≤ k → k ≤ (ppa + len - 1) / 64 → u.sectorClean (k * 64) = true) →
      u.readRange ppa len b node = (u, (List.range len).map fun i => u.byte (u.phys ppa + i), 0))
    ∧ ((ppa + len - 1) / 64 = ppa / 64 → (∀ i, i < 64 → u.byte (u.phys (ppa / 64 * 64) + i) = 0) →
      (∀ i, i < 8 → SMap.get chkReset u.chk (u.phys (ppa / 64 * 64) / 64 * 8 + i) = 0xFF) →
      (u.readRange ppa len b node).2 = (zeros len, 2 ^ (ppa / 64 % 64)))

/-! ### Permissions and latches -/

/-- R33: the owner of a partition holds read, write and ward permission (bits 0, 1 and 2) on it; any other subscriber holds exactly the union of its
valid grants on it; and an access passes where the bits it needs are held. -/
def Obligations.PermissionsComeFromOwnershipAndGrants : Prop :=
  (∀ (s : State) (b n : Nat),
    (s.f (Reg.PTN_OWNER.OWNER n) = b → s.ptnPerm b n = some 7)
    ∧ (s.f (Reg.PTN_OWNER.OWNER n) ≠ b → ∀ i, i < 3 → ((∃ x, s.ptnPerm b n = some x ∧ bit x i = true) ↔
      ∃ k, k < 256 ∧ s.flag (Reg.PTN_GNT.VALID k) = true ∧ s.f (Reg.PTN_GNT.PARTITION k) = n ∧ s.f (Reg.PTN_GNT.GRANTEE k) = b
        ∧ bit (s.word (Reg.PTN_GNT.OFF k)) (16 + i) = true)))
  ∧ ∀ (x : Nat) (n : Need), permLacks x n = none ↔
    (n.r = true → bit x 0 = true) ∧ (n.w = true → bit x 1 = true) ∧ (n.ward = true → bit x 2 = true)

/-- R188 and R191: no count wraps. An add stops at 0xFFFFFFFF; a subtract below zero leaves the count; a satisfied wait with CONSUME = 1 subtracts VALUE
before its response is formed, one with CONSUME = 0 leaves the count, on arrival and when it was parked. Other latches and memory do not change. -/
def Obligations.LatchCountsNeverWrap : Prop :=
  ∀ (s : State) (r : Req) (l v : Nat), s.latchAllowed r = true → l = latchOf r.pkt → v = latchValue r.pkt →
    v < 2 ^ 32 ∧ (∀ n, (s.setLatch l n).latch l = n ∧ ∀ k, k ≠ l → (s.setLatch l n).latch k = s.latch k)
    ∧ ((s.latchAdd r.pkt l v).1.latch l = min (s.latch l + v) 0xFFFFFFFF ∧ (s.latchAdd r.pkt l v).2.1 = min (s.latch l + v) 0xFFFFFFFF
      ∧ ∀ k, k ≠ l → (s.latchAdd r.pkt l v).1.latch k = s.latch k)
    ∧ (s.runLatchSub r).latch l = (if v ≤ s.latch l then s.latch l - v else s.latch l)
    ∧ (∀ k, k ≠ l → (s.runLatchSub r).latch k = s.latch k)
    ∧ (v ≤ s.latch l → ∃ (u : State) (n : Nat), n = (if latchConsume r.pkt then s.latch l - v else s.latch l) ∧ u.latch l = n
      ∧ s.runLatchWait r = u.finish r.id stOK 0 n [] ∧ (s.runLatchWait r).latch l = n
      ∧ ∀ k, k ≠ l → (s.runLatchWait r).latch k = s.latch k)
    ∧ (∀ p : Park, p.thr ≤ s.latch p.latch →
      (s.release p).latch p.latch = (if p.consume then s.latch p.latch - p.thr else s.latch p.latch)
      ∧ ∀ k, k ≠ p.latch → (s.release p).latch k = s.latch k)
    ∧ (∀ a, (s.runLatchAdd r).byte a = s.byte a ∧ (s.runLatchSub r).byte a = s.byte a ∧ (s.runLatchWait r).byte a = s.byte a
      ∧ (s.runLatchRead r).byte a = s.byte a ∧ (s.runLatchSet r).byte a = s.byte a)

/-- R449: a warm reset asked for before the first READY acts as a cold reset; one asked for during a warm reset starts it again from step 1. By
WARM_RESET_N and by GLB_RST.WARM. -/
def Obligations.WarmResetRequestsFollowThePhase : Prop :=
  ∀ s u : State, u = { s with pins := { s.pins with warmLow := true } } →
    (s.everReady = false → s.phase = .recovery ∨ s.phase = .noKeeper →
      exec .warmResetN s = .next (s.ended (u.coldRestart 2))
      ∧ ∀ a, s.regOpen a Reg.GLB_RST.OFF = true → exec (.glbRstWarm a) s = .next (s.ended (s.coldRestart 3)))
    ∧ (∀ k t, s.phase = .warm k → (exec .warmResetN s = .next t ∨ ∃ a, s.regOpen a Reg.GLB_RST.OFF = true ∧ exec (.glbRstWarm a) s = .next t) →
      ∃ v, v.phase = .warm 1 ∧ t = s.ended v)
end

