-- ==== Sys2Proof/Laws/Maps.lean ====
section
/-! SUPPORT. Sparse maps: what a read gives after a write, and that every operation keeps the canonical form. -/

namespace Sys2Proof.Machine

variable {α : Type} {d : Nat → α}

/-! ### Reading an empty map, and beyond its keys -/

@[simp] theorem SMap.get_nil (k : Nat) : SMap.get d [] k = d k := rfl

theorem SMap.get_of_notMem {m : List (Nat × α)} {k : Nat} (h : ∀ e ∈ m, e.1 ≠ k) : SMap.get d m k = d k := by
  induction m with
  | nil => rfl
  | cons e r ih =>
    obtain ⟨a, v⟩ := e
    have ha : a ≠ k := h (a, v) (by simp)
    simp only [SMap.get, if_neg (Ne.symm ha)]
    exact ih fun e he => h e (List.mem_cons_of_mem _ he)

/-- Entries with other keys do not matter to a read. -/
theorem SMap.get_filter {m : List (Nat × α)} {t : Nat × α → Bool} {k : Nat} (h : ∀ v, t (k, v) = true) :
    SMap.get d (m.filter t) k = SMap.get d m k := by
  induction m with
  | nil => rfl
  | cons e r ih =>
    obtain ⟨a, v⟩ := e
    by_cases hk : k = a
    · subst hk; simp [List.filter, h, SMap.get]
    · by_cases ht : t (a, v) = true
      · simp [List.filter, ht, SMap.get, hk, ih]
      · simp [List.filter, ht, SMap.get, hk, ih]

theorem SMap.get_append_left {a b : List (Nat × α)} {k : Nat} (h : ∀ e ∈ b, e.1 ≠ k) :
    SMap.get d (a ++ b) k = SMap.get d a k := by
  induction a with
  | nil => simpa using SMap.get_of_notMem (d := d) h
  | cons e r ih => obtain ⟨c, v⟩ := e; simp [SMap.get, ih]

theorem SMap.get_append_right {a b : List (Nat × α)} {k : Nat} (h : ∀ e ∈ a, e.1 ≠ k) :
    SMap.get d (a ++ b) k = SMap.get d b k := by
  induction a with
  | nil => rfl
  | cons e r ih =>
    obtain ⟨c, v⟩ := e
    have hc : c ≠ k := h (c, v) (by simp)
    simp only [List.cons_append, SMap.get, if_neg (Ne.symm hc)]
    exact ih fun e he => h e (List.mem_cons_of_mem _ he)

variable [DecidableEq α]

/-! ### Setting one key -/

/-- A write leaves every other key alone. -/
theorem SMap.get_set_of_ne {m : List (Nat × α)} {k k' : Nat} {v : α} (h : k' ≠ k) :
    SMap.get d (SMap.set d m k v) k' = SMap.get d m k' := by
  have hf (l : List (Nat × α)) : SMap.get d (l.filter fun e => decide (e.1 ≠ k)) k' = SMap.get d l k' :=
    SMap.get_filter fun _ => by simpa using h
  induction m with
  | nil => unfold SMap.set; split <;> simp [SMap.get, h]
  | cons e r ih =>
    obtain ⟨a, w⟩ := e
    unfold SMap.set
    by_cases h1 : k < a
    · by_cases h2 : v = d k
      · rw [if_pos h1, if_pos h2, hf]
      · simp [h1, h2, SMap.get, h]
    · by_cases h3 : k = a
      · subst h3
        by_cases h2 : v = d k
        · rw [if_neg h1, if_pos rfl, if_pos h2, hf]; simp [SMap.get, h]
        · simp [h2, SMap.get, h]
      · simp [h1, h3, SMap.get, ih]

/-- A read after a write to the same key gives the value written. -/
theorem SMap.get_set_same {m : List (Nat × α)} {k : Nat} {v : α} : SMap.get d (SMap.set d m k v) k = v := by
  have hf (l : List (Nat × α)) : SMap.get d (l.filter fun e => decide (e.1 ≠ k)) k = d k :=
    SMap.get_of_notMem fun e he => by simpa using (List.mem_filter.1 he).2
  induction m with
  | nil => unfold SMap.set; split <;> simp_all [SMap.get]
  | cons e r ih =>
    obtain ⟨a, w⟩ := e
    unfold SMap.set
    by_cases h1 : k < a
    · by_cases h2 : v = d k
      · rw [if_pos h1, if_pos h2, hf, h2]
      · simp [h1, h2, SMap.get]
    · by_cases h3 : k = a
      · by_cases h2 : v = d k
        · rw [if_neg h1, if_pos h3, if_pos h2, hf, h2]
        · simp [h3, show ¬v = d a from h3 ▸ h2, SMap.get]
      · simp [h1, h3, SMap.get, ih]

/-! ### The canonical form -/

theorem SMap.wfFrom_cons {b k : Nat} {v : α} {r : List (Nat × α)} :
    SMap.wfFrom d b ((k, v) :: r) = true ↔ b ≤ k ∧ v ≠ d k ∧ SMap.wfFrom d (k + 1) r = true := by
  simp [SMap.wfFrom, and_assoc]

theorem SMap.wfFrom_mono {m : List (Nat × α)} {a b : Nat} (hab : a ≤ b) (h : SMap.wfFrom d b m = true) :
    SMap.wfFrom d a m = true := by
  cases m with
  | nil => rfl
  | cons e r =>
    obtain ⟨k, v⟩ := e
    rw [SMap.wfFrom_cons] at h ⊢
    exact ⟨hab.trans h.1, h.2⟩

/-- Keys of a canonical map lie at or above its bound. -/
theorem SMap.le_of_mem {m : List (Nat × α)} {b : Nat} (h : SMap.wfFrom d b m = true) {e : Nat × α} (he : e ∈ m) : b ≤ e.1 := by
  induction m generalizing b with
  | nil => simp at he
  | cons x r ih =>
    obtain ⟨k, v⟩ := x
    rw [SMap.wfFrom_cons] at h
    rcases List.mem_cons.1 he with rfl | he
    · exact h.1
    · exact Nat.le_trans (Nat.le_succ_of_le h.1) (ih h.2.2 he)

theorem SMap.wfFrom_filter {m : List (Nat × α)} {b : Nat} (t : Nat × α → Bool) (h : SMap.wfFrom d b m = true) :
    SMap.wfFrom d b (m.filter t) = true := by
  induction m generalizing b with
  | nil => rfl
  | cons e r ih =>
    obtain ⟨k, v⟩ := e
    rw [SMap.wfFrom_cons] at h
    by_cases ht : t (k, v) = true
    · simp only [List.filter, ht]; exact SMap.wfFrom_cons.2 ⟨h.1, h.2.1, ih h.2.2⟩
    · simp only [List.filter, ht]; exact SMap.wfFrom_mono (Nat.le_succ_of_le h.1) (ih h.2.2)

theorem SMap.wfFrom_set {m : List (Nat × α)} {b k : Nat} (v : α) (hb : b ≤ k) (h : SMap.wfFrom d b m = true) :
    SMap.wfFrom d b (SMap.set d m k v) = true := by
  induction m generalizing b with
  | nil =>
    unfold SMap.set; split
    · rfl
    · next hv => exact SMap.wfFrom_cons.2 ⟨hb, hv, rfl⟩
  | cons e r ih =>
    obtain ⟨a, w⟩ := e
    rw [SMap.wfFrom_cons] at h
    unfold SMap.set
    split
    · next hlt =>
      split
      · exact SMap.wfFrom_filter _ (SMap.wfFrom_cons.2 h)
      · next hv => exact SMap.wfFrom_cons.2 ⟨hb, hv, SMap.wfFrom_cons.2 ⟨hlt, h.2⟩⟩
    · next hlt =>
      split
      · next heq =>
        subst heq
        split
        · exact SMap.wfFrom_filter _ (SMap.wfFrom_mono (Nat.le_succ_of_le h.1) h.2.2)
        · next hv => exact SMap.wfFrom_cons.2 ⟨hb, hv, h.2.2⟩
      · next hne => exact SMap.wfFrom_cons.2 ⟨h.1, h.2.1, ih (by omega) h.2.2⟩

/-- A write keeps the canonical form. -/
theorem SMap.wf_set {m : List (Nat × α)} (k : Nat) (v : α) (h : SMap.wf d m = true) : SMap.wf d (SMap.set d m k v) = true :=
  SMap.wfFrom_set v (Nat.zero_le k) h

theorem SMap.wf_foldl_set {l m : List (Nat × α)} (h : SMap.wf d m = true) :
    SMap.wf d (l.foldl (fun acc e => SMap.set d acc e.1 e.2) m) = true := by
  induction l generalizing m with
  | nil => exact h
  | cons e r ih => exact ih (SMap.wf_set e.1 e.2 h)

theorem SMap.wf_setMany {l m : List (Nat × α)} (h : SMap.wf d m = true) : SMap.wf d (SMap.setMany d m l) = true :=
  SMap.wf_foldl_set h

theorem SMap.wf_tidy (m : List (Nat × α)) : SMap.wf d (SMap.tidy d m) = true := by
  unfold SMap.tidy; split
  · assumption
  · exact SMap.wf_foldl_set rfl

@[simp] theorem SMap.tidy_of_wf {m : List (Nat × α)} (h : SMap.wf d m = true) : SMap.tidy d m = m := by simp [SMap.tidy, h]

theorem SMap.wf_drop {m : List (Nat × α)} (t : Nat → Bool) (h : SMap.wf d m = true) : SMap.wf d (SMap.drop m t) = true :=
  SMap.wfFrom_filter _ h

/-! ### Consecutive keys -/

theorem SMap.listed_keys {k : Nat} {vs : List α} {e : Nat × α} (h : e ∈ SMap.listed d k vs) : k ≤ e.1 ∧ e.1 < k + vs.length := by
  induction vs generalizing k with
  | nil => simp [SMap.listed] at h
  | cons v r ih =>
    unfold SMap.listed at h
    split at h
    · have := ih h; simp only [List.length_cons]; omega
    · rcases List.mem_cons.1 h with rfl | h
      · simp
      · have := ih h; simp only [List.length_cons]; omega

theorem SMap.get_listed {k i : Nat} {vs : List α} (hi : i < vs.length) : SMap.get d (SMap.listed d k vs) (k + i) = vs[i] := by
  induction vs generalizing k i with
  | nil => simp at hi
  | cons v r ih =>
    cases i with
    | zero =>
      unfold SMap.listed
      split
      · next hv =>
        rw [SMap.get_of_notMem fun e he => by have := SMap.listed_keys he; omega]
        simp [hv]
      · simp [SMap.get]
    | succ j =>
      have hj : j < r.length := by simpa using hi
      have hk : k + (j + 1) = k + 1 + j := by omega
      unfold SMap.listed
      split
      · rw [hk, ih hj]; simp
      · simp only [SMap.get, if_neg (show ¬k + (j + 1) = k by omega)]
        rw [hk, ih hj]; simp

/-- A run of values written is read back. -/
theorem SMap.get_setRun_inside {m : List (Nat × α)} {k i : Nat} {vs : List α} (hi : i < vs.length) :
    SMap.get d (SMap.setRun d m k vs) (k + i) = vs[i] := by
  unfold SMap.setRun
  rw [SMap.get_append_left, SMap.get_append_right, SMap.get_listed hi]
  · intro e he; have := (List.mem_filter.1 he).2; simp only [decide_eq_true_eq] at this; omega
  · intro e he; have := (List.mem_filter.1 he).2; simp only [decide_eq_true_eq] at this; omega

/-- A run of values leaves every other key alone. -/
theorem SMap.get_setRun_outside {m : List (Nat × α)} {k a : Nat} {vs : List α} (ha : a < k ∨ k + vs.length ≤ a) :
    SMap.get d (SMap.setRun d m k vs) a = SMap.get d m a := by
  unfold SMap.setRun
  rcases ha with ha | ha
  · rw [List.append_assoc, SMap.get_append_left, SMap.get_filter]
    · intro v; simpa using ha
    · intro e he
      rcases List.mem_append.1 he with h | h
      · have := SMap.listed_keys h; omega
      · have := (List.mem_filter.1 h).2; simp only [decide_eq_true_eq] at this; omega
  · rw [SMap.get_append_right, SMap.get_filter]
    · intro v; simpa using ha
    · intro e he
      rcases List.mem_append.1 he with h | h
      · have := (List.mem_filter.1 h).2; simp only [decide_eq_true_eq] at this; omega
      · have := SMap.listed_keys h; omega

theorem SMap.wfFrom_append {a b : List (Nat × α)} {lo mid : Nat} (ha : SMap.wfFrom d lo a = true)
    (hlt : ∀ e ∈ a, e.1 < mid) (hlo : lo ≤ mid) (hb : SMap.wfFrom d mid b = true) : SMap.wfFrom d lo (a ++ b) = true := by
  induction a generalizing lo with
  | nil => exact SMap.wfFrom_mono hlo hb
  | cons e r ih =>
    obtain ⟨k, v⟩ := e
    rw [SMap.wfFrom_cons] at ha
    rw [List.cons_append, SMap.wfFrom_cons]
    exact ⟨ha.1, ha.2.1, ih ha.2.2 (fun e he => hlt e (List.mem_cons_of_mem _ he)) (hlt (k, v) (by simp))⟩

theorem SMap.wfFrom_listed (k : Nat) (vs : List α) : SMap.wfFrom d k (SMap.listed d k vs) = true := by
  induction vs generalizing k with
  | nil => rfl
  | cons v r ih =>
    unfold SMap.listed
    split
    · exact SMap.wfFrom_mono (Nat.le_succ k) (ih (k + 1))
    · next hv => exact SMap.wfFrom_cons.2 ⟨Nat.le_refl k, hv, ih (k + 1)⟩

theorem SMap.wfFrom_filter_ge {m : List (Nat × α)} {b n : Nat} (h : SMap.wfFrom d b m = true) :
    SMap.wfFrom d n (m.filter fun e => decide (n ≤ e.1)) = true := by
  induction m generalizing b with
  | nil => rfl
  | cons e r ih =>
    obtain ⟨k, v⟩ := e
    rw [SMap.wfFrom_cons] at h
    by_cases hk : n ≤ k
    · simp only [List.filter, hk, decide_true]
      exact SMap.wfFrom_cons.2 ⟨hk, h.2.1, SMap.wfFrom_filter _ h.2.2⟩
    · simp only [List.filter, hk, decide_false]; exact ih h.2.2

/-- Writing a run of values keeps the canonical form. -/
theorem SMap.wf_setRun {m : List (Nat × α)} (k : Nat) (vs : List α) (h : SMap.wf d m = true) :
    SMap.wf d (SMap.setRun d m k vs) = true := by
  unfold SMap.setRun
  rw [List.append_assoc]
  refine SMap.wfFrom_append (mid := k) (SMap.wfFrom_filter _ h) ?_ (Nat.zero_le k) ?_
  · intro e he; simpa using (List.mem_filter.1 he).2
  · refine SMap.wfFrom_append (SMap.wfFrom_listed k vs) (fun e he => (SMap.listed_keys he).2) (Nat.le_add_right _ _) ?_
    exact SMap.wfFrom_filter_ge h

omit [DecidableEq α] in
theorem SMap.getRun_eq (m : List (Nat × α)) (k n : Nat) :
    SMap.getRun d m k n = (List.range n).map fun i => SMap.get d m (k + i) := by
  unfold SMap.getRun
  refine List.map_congr_left fun i hi => SMap.get_filter fun v => ?_
  have := List.mem_range.1 hi
  simp [this]

omit [DecidableEq α] in
@[simp] theorem SMap.length_getRun (m : List (Nat × α)) (k n : Nat) : (SMap.getRun d m k n).length = n := by simp [SMap.getRun]

/-- A run of values written is read back as a run. -/
theorem SMap.getRun_setRun (m : List (Nat × α)) (k : Nat) (vs : List α) :
    SMap.getRun d (SMap.setRun d m k vs) k vs.length = vs := by
  rw [SMap.getRun_eq]
  refine List.ext_getElem (by simp) fun i h1 h2 => ?_
  simpa using SMap.get_setRun_inside h2

/-- A run that another run does not touch reads as before. -/
theorem SMap.getRun_setRun_outside (m : List (Nat × α)) {k a n : Nat} {vs : List α} (h : a + n ≤ k ∨ k + vs.length ≤ a) :
    SMap.getRun d (SMap.setRun d m k vs) a n = SMap.getRun d m a n := by
  rw [SMap.getRun_eq, SMap.getRun_eq]
  refine List.map_congr_left fun i hi => SMap.get_setRun_outside ?_
  have := List.mem_range.1 hi
  omega

end Sys2Proof.Machine
end

