-- ==== Sys2Proof/Laws/End.lean ====
section
/-! SUPPORT. The end of a command: what it leaves alone, and that each of its parts does nothing where nothing waits for it. -/

namespace Sys2Proof.Machine

open Sys2Proof

@[simp] theorem State.ended_pending (s u : State) : (s.ended u).pending = s.pending := rfl
@[simp] theorem State.ended_part (s u : State) : (s.ended u).part = s.part := rfl

/-- Data and check bytes are in canonical form at every command's end. -/
theorem State.ended_memWf (s u : State) : (s.ended u).memWf = true := by
  simp only [State.memWf, Bool.and_eq_true]
  exact ⟨SMap.wf_tidy _, SMap.wf_tidy _⟩

theorem walkerGone_idle (u : State) (h : (u.walkerOn || (u.ktu.walks.isEmpty && u.ktu.missq.isEmpty)) = true) : u.walkerGone = u := by
  unfold State.walkerGone
  rw [if_pos h]

theorem atomsWake_idle (u : State) (h : u.wrd.heldAtoms = []) : u.atomsWake = u := by simp [State.atomsWake, h]

theorem heldGone_idle (u : State) (h : u.sc.held = []) : u.heldGone = u := by
  unfold State.heldGone
  rw [h]
  simp only [List.filter_nil, List.foldl_nil]
  rw [← h]

theorem lateGo_idle (u : State) (h : u.dir.late = []) : u.lateGo = u := by
  unfold State.lateGo
  rw [h]
  simp only [List.filter_nil, List.foldl_nil]
  rw [← h]

theorem poisonGo_idle (u : State) (h : u.dir.fences = []) : u.poisonGo = u := by simp [State.poisonGo, h]

theorem cxlDrain_idle (u : State) (h : u.cxlWaiting = 0) : State.cxlDrain u.cxlWaiting u = u := by rw [h]; rfl

theorem tellAll_idle (n : Nat) (u : State) (h : u.ktu.wakes = []) : State.tellAll n u = u := by
  cases n <;> simp [State.tellAll, h]

theorem pendAll_idle (n : Nat) (u : State) (h : u.dir.pend = []) : State.pendAll n u = u := by
  cases n <;> simp [State.pendAll, State.pendNext, h]

theorem wardSweep_idle (u : State) (h : u.wrd.ops = []) : u.wardSweep = u := by simp [State.wardSweep, h]

theorem fenceEnd_idle (u : State) (h : u.rtb.fences = []) : u.fenceEnd = u := by simp [State.fenceEnd, h]

theorem enumNext_idle (u : State) (h : u.rtb.enumWait = false) : u.enumNext = u := by simp [State.enumNext, h]

theorem fatalActs_idle (n : Nat) (u : State) (h : u.acts = []) : State.fatalActs n u = u := by
  cases n <;> simp [State.fatalActs, h]

theorem switchClose_idle (u : State) (h : u.hps.switching ≠ 2) : u.switchClose = u := by simp [State.switchClose, h]

theorem excludeTest_idle (u : State) (h : u.paired = false) : u.excludeTest = u := by simp [State.excludeTest, h]

theorem holdGo_idle (u : State) (h : u.hps.hold = []) : u.holdGo = u := by simp [State.holdGo, h]

theorem blockedOut_idle (u : State) (h : u.flt.blocked = 0) : u.blockedOut = u := by
  unfold State.blockedOut
  rw [h]
  simp only [List.range_zero, List.foldl_nil]
  rw [← h]

theorem sendJournal_idle (n : Nat) (u : State) (h : u.hps.unsent = []) : State.sendJournal u n = u := by
  cases n <;> simp [State.sendJournal, h]

theorem askRepairs_idle (u : State) (h : u.hps.repairAsk = []) : u.askRepairs = u := by
  unfold State.askRepairs
  rw [h]
  simp only [List.foldl_nil, List.append_nil]
  rw [← h]

theorem logFatals_idle (u : State) (h : u.logq = []) : u.logFatals = u := by
  unfold State.logFatals
  rw [h]
  simp only [List.foldl_nil]
  rw [← h]

end Sys2Proof.Machine
end

