-- ==== Sys2Proof/Laws/Exec.lean ====
section
/-! SUPPORT. exec of each constructor is its meaning: one lemma each, so that no proof unfolds the whole dispatch. -/

namespace Sys2Proof.Machine

open Sys2Proof

theorem exec_read (port : Nat) (p : Packet) (s : State) : exec (.read port p) s = execRead port p s := rfl
theorem exec_write (port : Nat) (p : Packet) (s : State) : exec (.write port p) s = execWrite port p s := rfl
theorem exec_writeMasked (port : Nat) (p : Packet) (s : State) : exec (.writeMasked port p) s = execWriteMasked port p s := rfl
theorem exec_seqGapTimeout (node seq : Nat) (s : State) : exec (.seqGapTimeout node seq) s = execSeqGapTimeout node seq s := rfl
theorem exec_seqEntryWindowEnd (node : Nat) (s : State) : exec (.seqEntryWindowEnd node) s = execSeqEntryWindowEnd node s := rfl
theorem exec_orderedStart (node seq : Nat) (s : State) : exec (.orderedStart node seq) s = execOrderedStart node seq s := rfl
theorem exec_ptnEntryWrite (a : Path) (entry reg : Nat) (v : Word) (s : State) : exec (.ptnEntryWrite a entry reg v) s = execPtnEntryWrite a entry reg v s := rfl
theorem exec_ptnGntWrite (a : Path) (k : Nat) (v : Word) (s : State) : exec (.ptnGntWrite a k v) s = execPtnGntWrite a k v s := rfl
theorem exec_ptnSubQscWrite (a : Path) (v : DWord) (s : State) : exec (.ptnSubQscWrite a v) s = execPtnSubQscWrite a v s := rfl
theorem exec_quiesceComplete (sub : Nat) (s : State) : exec (.quiesceComplete sub) s = execQuiesceComplete sub s := rfl
theorem exec_ptnInit (a : Path) (v : Word) (s : State) : exec (.ptnInit a v) s = execPtnInit a v s := rfl
theorem exec_ptnInitDone (s : State) : exec .ptnInitDone s = execPtnInitDone s := rfl
theorem exec_ptnInitStop (s : State) : exec .ptnInitStop s = execPtnInitStop s := rfl
theorem exec_kwLoad (a : Path) (s : State) : exec (.kwLoad a) s = execKwLoad a s := rfl
theorem exec_kwStore (a : Path) (s : State) : exec (.kwStore a) s = execKwStore a s := rfl
theorem exec_ktuLdKeywayWrite (a : Path) (n : Nat) (v : Word) (s : State) : exec (.ktuLdKeywayWrite a n v) s = execKtuLdKeywayWrite a n v s := rfl
theorem exec_walkFetchComplete (walk : Nat) (ok : Bool) (data : List Byte) (s : State) : exec (.walkFetchComplete walk ok data) s = execWalkFetchComplete walk ok data s := rfl
theorem exec_walkFetchTimeout (walk : Nat) (s : State) : exec (.walkFetchTimeout walk) s = execWalkFetchTimeout walk s := rfl
theorem exec_missDequeue (miss : Nat) (s : State) : exec (.missDequeue miss) s = execMissDequeue miss s := rfl
theorem exec_chunkTranslateRetry (op chunk : Nat) (s : State) : exec (.chunkTranslateRetry op chunk) s = execChunkTranslateRetry op chunk s := rfl
theorem exec_chunkTranslateAbort (op chunk : Nat) (s : State) : exec (.chunkTranslateAbort op chunk) s = execChunkTranslateAbort op chunk s := rfl
theorem exec_ktuInvCmd (a : Path) (v : Word) (s : State) : exec (.ktuInvCmd a v) s = execKtuInvCmd a v s := rfl
theorem exec_invDone (s : State) : exec .invDone s = execInvDone s := rfl
theorem exec_fltRingTailWrite (a : Path) (v : Word) (s : State) : exec (.fltRingTailWrite a v) s = execFltRingTailWrite a v s := rfl
theorem exec_fltRingCtrlWrite (a : Path) (v : Word) (s : State) : exec (.fltRingCtrlWrite a v) s = execFltRingCtrlWrite a v s := rfl
theorem exec_fill (port : Nat) (p : Packet) (s : State) : exec (.fill port p) s = execFill port p s := rfl
theorem exec_copy (port : Nat) (p : Packet) (s : State) : exec (.copy port p) s = execCopy port p s := rfl
theorem exec_copyRemote (port : Nat) (p : Packet) (s : State) : exec (.copyRemote port p) s = execCopyRemote port p s := rfl
theorem exec_compare (port : Nat) (p : Packet) (s : State) : exec (.compare port p) s = execCompare port p s := rfl
theorem exec_reduce (port : Nat) (p : Packet) (s : State) : exec (.reduce port p) s = execReduce port p s := rfl
theorem exec_gatherReduce (port : Nat) (p : Packet) (s : State) : exec (.gatherReduce port p) s = execGatherReduce port p s := rfl
theorem exec_atomic (port : Nat) (p : Packet) (s : State) : exec (.atomic port p) s = execAtomic port p s := rfl
theorem exec_colReduce (port : Nat) (p : Packet) (s : State) : exec (.colReduce port p) s = execColReduce port p s := rfl
theorem exec_chunkIssue (op chunk engine : Nat) (s : State) : exec (.chunkIssue op chunk engine) s = execChunkIssue op chunk engine s := rfl
theorem exec_chunkComplete (op chunk : Nat) (s : State) : exec (.chunkComplete op chunk) s = execChunkComplete op chunk s := rfl
theorem exec_remoteWriteResponse (port : Nat) (p : Packet) (s : State) : exec (.remoteWriteResponse port p) s = execRemoteWriteResponse port p s := rfl
theorem exec_remoteWriteResend (op idx : Nat) (s : State) : exec (.remoteWriteResend op idx) s = execRemoteWriteResend op idx s := rfl
theorem exec_remoteWriteTimeout (op idx : Nat) (s : State) : exec (.remoteWriteTimeout op idx) s = execRemoteWriteTimeout op idx s := rfl
theorem exec_colDescriptor (port : Nat) (p : Packet) (s : State) : exec (.colDescriptor port p) s = execColDescriptor port p s := rfl
theorem exec_colPartial (port : Nat) (p : Packet) (s : State) : exec (.colPartial port p) s = execColPartial port p s := rfl
theorem exec_colTimeout (merge child : Nat) (s : State) : exec (.colTimeout merge child) s = execColTimeout merge child s := rfl
theorem exec_wardWaitTimeout (op : Nat) (s : State) : exec (.wardWaitTimeout op) s = execWardWaitTimeout op s := rfl
theorem exec_quantumExpiry (engine : Nat) (s : State) : exec (.quantumExpiry engine) s = execQuantumExpiry engine s := rfl
theorem exec_wrdCtxWrite (a : Path) (n : Nat) (v : Word) (s : State) : exec (.wrdCtxWrite a n v) s = execWrdCtxWrite a n v s := rfl
theorem exec_engineFault (engine : Nat) (s : State) : exec (.engineFault engine) s = execEngineFault engine s := rfl
theorem exec_kvAppend (port : Nat) (p : Packet) (s : State) : exec (.kvAppend port p) s = execKvAppend port p s := rfl
theorem exec_attend (port : Nat) (p : Packet) (s : State) : exec (.attend port p) s = execAttend port p s := rfl
theorem exec_attendMergeDescend (port : Nat) (p : Packet) (s : State) : exec (.attendMergeDescend port p) s = execAttendMergeDescend port p s := rfl
theorem exec_attendMergePartial (port : Nat) (p : Packet) (s : State) : exec (.attendMergePartial port p) s = execAttendMergePartial port p s := rfl
theorem exec_mergeTimeout (merge child : Nat) (s : State) : exec (.mergeTimeout merge child) s = execMergeTimeout merge child s := rfl
theorem exec_latchAdd (port : Nat) (p : Packet) (s : State) : exec (.latchAdd port p) s = execLatchAdd port p s := rfl
theorem exec_latchSub (port : Nat) (p : Packet) (s : State) : exec (.latchSub port p) s = execLatchSub port p s := rfl
theorem exec_latchWait (port : Nat) (p : Packet) (s : State) : exec (.latchWait port p) s = execLatchWait port p s := rfl
theorem exec_latchRead (port : Nat) (p : Packet) (s : State) : exec (.latchRead port p) s = execLatchRead port p s := rfl
theorem exec_latchSet (port : Nat) (p : Packet) (s : State) : exec (.latchSet port p) s = execLatchSet port p s := rfl
theorem exec_latchWaitTimeout (wait : Nat) (s : State) : exec (.latchWaitTimeout wait) s = execLatchWaitTimeout wait s := rfl
theorem exec_deadlockTest (s : State) : exec .deadlockTest s = execDeadlockTest s := rfl
theorem exec_lchAccRead (a : Path) (s : State) : exec (.lchAccRead a) s = execLchAccRead a s := rfl
theorem exec_lchAccSet (a : Path) (s : State) : exec (.lchAccSet a) s = execLchAccSet a s := rfl
theorem exec_snapshotRelease (a : Path) (s : State) : exec (.snapshotRelease a) s = execSnapshotRelease a s := rfl
theorem exec_lchGrpWrite (a : Path) (off : Nat) (v : Word) (s : State) : exec (.lchGrpWrite a off v) s = execLchGrpWrite a off v s := rfl
theorem exec_rdShared (port : Nat) (p : Packet) (s : State) : exec (.rdShared port p) s = execRdShared port p s := rfl
theorem exec_rdOwn (port : Nat) (p : Packet) (s : State) : exec (.rdOwn port p) s = execRdOwn port p s := rfl
theorem exec_upgrade (port : Nat) (p : Packet) (s : State) : exec (.upgrade port p) s = execUpgrade port p s := rfl
theorem exec_rdCur (port : Nat) (p : Packet) (s : State) : exec (.rdCur port p) s = execRdCur port p s := rfl
theorem exec_wbDirty (port : Nat) (p : Packet) (s : State) : exec (.wbDirty port p) s = execWbDirty port p s := rfl
theorem exec_evictClean (port : Nat) (p : Packet) (s : State) : exec (.evictClean port p) s = execEvictClean port p s := rfl
theorem exec_snoopResponse (port : Nat) (p : Packet) (s : State) : exec (.snoopResponse port p) s = execSnoopResponse port p s := rfl
theorem exec_compAck (port : Nat) (p : Packet) (s : State) : exec (.compAck port p) s = execCompAck port p s := rfl
theorem exec_snoopTimeout (line agent : Nat) (s : State) : exec (.snoopTimeout line agent) s = execSnoopTimeout line agent s := rfl
theorem exec_dirAgentWrite (a : Path) (slot : Nat) (v : Word) (s : State) : exec (.dirAgentWrite a slot v) s = execDirAgentWrite a slot v s := rfl
theorem exec_dirFence (a : Path) (agent : Nat) (s : State) : exec (.dirFence a agent) s = execDirFence a agent s := rfl
theorem exec_dirFenceDone (agent : Nat) (s : State) : exec (.dirFenceDone agent) s = execDirFenceDone agent s := rfl
theorem exec_dirUnfence (a : Path) (agent : Nat) (s : State) : exec (.dirUnfence a agent) s = execDirUnfence a agent s := rfl
theorem exec_dirFlush (a : Path) (s : State) : exec (.dirFlush a) s = execDirFlush a s := rfl
theorem exec_dirFlushDone (s : State) : exec .dirFlushDone s = execDirFlushDone s := rfl
theorem exec_cxlMemRd (r : CxlMem) (s : State) : exec (.cxlMemRd r) s = execCxlMemRd r s := rfl
theorem exec_cxlMemRdData (r : CxlMem) (s : State) : exec (.cxlMemRdData r) s = execCxlMemRdData r s := rfl
theorem exec_cxlMemInv (r : CxlMem) (s : State) : exec (.cxlMemInv r) s = execCxlMemInv r s := rfl
theorem exec_cxlMemWr (r : CxlMem) (s : State) : exec (.cxlMemWr r) s = execCxlMemWr r s := rfl
theorem exec_cxlBiRsp (ld : Nat) (line : Nat) (rsp : BiRsp) (s : State) : exec (.cxlBiRsp ld line rsp) s = execCxlBiRsp ld line rsp s := rfl
theorem exec_cxlBiConflict (ld : Nat) (line : Nat) (s : State) : exec (.cxlBiConflict ld line) s = execCxlBiConflict ld line s := rfl
theorem exec_cxlHoldRelease (ld : Nat) (s : State) : exec (.cxlHoldRelease ld) s = execCxlHoldRelease ld s := rfl
theorem exec_scChQscWrite (a : Path) (stack : Nat) (v : Word) (s : State) : exec (.scChQscWrite a stack v) s = execScChQscWrite a stack v s := rfl
theorem exec_channelQuiesceDone (stack ch : Nat) (s : State) : exec (.channelQuiesceDone stack ch) s = execChannelQuiesceDone stack ch s := rfl
theorem exec_scTimingWrite (a : Path) (stack off : Nat) (v : Word) (s : State) : exec (.scTimingWrite a stack off v) s = execScTimingWrite a stack off v s := rfl
theorem exec_arbiterGrant (stack : Nat) (s : State) : exec (.arbiterGrant stack) s = execArbiterGrant stack s := rfl
theorem exec_sectorCommandIssue (stack ch pc : Nat) (s : State) : exec (.sectorCommandIssue stack ch pc) s = execSectorCommandIssue stack ch pc s := rfl
theorem exec_refreshDue (stack ch pc bank : Nat) (s : State) : exec (.refreshDue stack ch pc bank) s = execRefreshDue stack ch pc bank s := rfl
theorem exec_sectorReadComplete (requester ppa : Nat) (flips : List (Nat × Nat)) (s : State) :
    exec (.sectorReadComplete requester ppa flips) s = execSectorReadComplete requester ppa flips s := rfl
theorem exec_scrubRead (stack : Nat) (s : State) : exec (.scrubRead stack) s = execScrubRead stack s := rfl
theorem exec_ceBucketLeak (stack : Nat) (s : State) : exec (.ceBucketLeak stack) s = execCeBucketLeak stack s := rfl
theorem exec_retirementCopyDone (stack granule : Nat) (s : State) : exec (.retirementCopyDone stack granule) s = execRetirementCopyDone stack granule s := rfl
theorem exec_retirementLog (stack granule : Nat) (s : State) : exec (.retirementLog stack granule) s = execRetirementLog stack granule s := rfl
theorem exec_scOffline (a : Path) (stack : Nat) (v : Word) (s : State) : exec (.scOffline a stack v) s = execScOffline a stack v s := rfl
theorem exec_stackFault (stack : Nat) (s : State) : exec (.stackFault stack) s = execStackFault stack s := rfl
theorem exec_stackTempSample (stack temp : Nat) (s : State) : exec (.stackTempSample stack temp) s = execStackTempSample stack temp s := rfl
theorem exec_flitSlot (port : Nat) (s : State) : exec (.flitSlot port) s = execFlitSlot port s := rfl
theorem exec_flitReceive (port : Nat) (f : Flit) (s : State) : exec (.flitReceive port f) s = execFlitReceive port f s := rfl
theorem exec_replayTimeout (port : Nat) (s : State) : exec (.replayTimeout port) s = execReplayTimeout port s := rfl
theorem exec_hello (port : Nat) (f : Lcb) (s : State) : exec (.hello port f) s = execHello port f s := rfl
theorem exec_identity (port : Nat) (f : Lcb) (s : State) : exec (.identity port f) s = execIdentity port f s := rfl
theorem exec_keyShare (port : Nat) (f : Lcb) (s : State) : exec (.keyShare port f) s = execKeyShare port f s := rfl
theorem exec_keyConfirm (port : Nat) (f : Lcb) (s : State) : exec (.keyConfirm port f) s = execKeyConfirm port f s := rfl
theorem exec_retrain (port : Nat) (f : Lcb) (s : State) : exec (.retrain port f) s = execRetrain port f s := rfl
theorem exec_rekeyShare (port : Nat) (f : Lcb) (s : State) : exec (.rekeyShare port f) s = execRekeyShare port f s := rfl
theorem exec_rekeyConfirm (port : Nat) (f : Lcb) (s : State) : exec (.rekeyConfirm port f) s = execRekeyConfirm port f s := rfl
theorem exec_swpRetrainWrite (a : Path) (port : Nat) (v : Word) (s : State) : exec (.swpRetrainWrite a port v) s = execSwpRetrainWrite a port v s := rfl
theorem exec_retrainComplete (port width speed : Nat) (s : State) : exec (.retrainComplete port width speed) s = execRetrainComplete port width speed s := rfl
theorem exec_retrainTimeout (port : Nat) (s : State) : exec (.retrainTimeout port) s = execRetrainTimeout port s := rfl
theorem exec_bringupAttempt (port : Nat) (s : State) : exec (.bringupAttempt port) s = execBringupAttempt port s := rfl
theorem exec_lanesTrained (port width speed : Nat) (s : State) : exec (.lanesTrained port width speed) s = execLanesTrained port width speed s := rfl
theorem exec_trainingTimeout (port : Nat) (s : State) : exec (.trainingTimeout port) s = execTrainingTimeout port s := rfl
theorem exec_authTimeout (port : Nat) (s : State) : exec (.authTimeout port) s = execAuthTimeout port s := rfl
theorem exec_rekeyStart (port : Nat) (s : State) : exec (.rekeyStart port) s = execRekeyStart port s := rfl
theorem exec_rekeyTimeout (port : Nat) (s : State) : exec (.rekeyTimeout port) s = execRekeyTimeout port s := rfl
theorem exec_transitForward (port : Nat) (p : Packet) (s : State) : exec (.transitForward port p) s = execTransitForward port p s := rfl
theorem exec_routeUpdate (port : Nat) (p : Packet) (s : State) : exec (.routeUpdate port p) s = execRouteUpdate port p s := rfl
theorem exec_rtbCommit (a : Path) (version : Nat) (s : State) : exec (.rtbCommit a version) s = execRtbCommit a version s := rfl
theorem exec_rtbInvalidate (a : Path) (version : Nat) (s : State) : exec (.rtbInvalidate a version) s = execRtbInvalidate a version s := rfl
theorem exec_rtbFlip (a : Path) (version : Nat) (s : State) : exec (.rtbFlip a version) s = execRtbFlip a version s := rfl
theorem exec_rtbMcWrite (a : Path) (off : Nat) (v : Word) (s : State) : exec (.rtbMcWrite a off v) s = execRtbMcWrite a off v s := rfl
theorem exec_fence (port : Nat) (p : Packet) (s : State) : exec (.fence port p) s = execFence port p s := rfl
theorem exec_unfence (port : Nat) (p : Packet) (s : State) : exec (.unfence port p) s = execUnfence port p s := rfl
theorem exec_enumStart (a : Path) (s : State) : exec (.enumStart a) s = execEnumStart a s := rfl
theorem exec_enumAssign (port : Nat) (p : Packet) (s : State) : exec (.enumAssign port p) s = execEnumAssign port p s := rfl
theorem exec_enumAssignResponse (port : Nat) (p : Packet) (s : State) : exec (.enumAssignResponse port p) s = execEnumAssignResponse port p s := rfl
theorem exec_enumPortTimeout (s : State) : exec .enumPortTimeout s = execEnumPortTimeout s := rfl
theorem exec_rtbNodeWrite (a : Path) (v : Word) (s : State) : exec (.rtbNodeWrite a v) s = execRtbNodeWrite a v s := rfl
theorem exec_timeReqDue (s : State) : exec .timeReqDue s = execTimeReqDue s := rfl
theorem exec_timeReq (port : Nat) (p : Packet) (s : State) : exec (.timeReq port p) s = execTimeReq port p s := rfl
theorem exec_timeReqResponse (port : Nat) (p : Packet) (s : State) : exec (.timeReqResponse port p) s = execTimeReqResponse port p s := rfl
theorem exec_rtbTimeSet (a : Path) (v : DWord) (s : State) : exec (.rtbTimeSet a v) s = execRtbTimeSet a v s := rfl
theorem exec_mgtRead (port : Nat) (p : Packet) (s : State) : exec (.mgtRead port p) s = execMgtRead port p s := rfl
theorem exec_mgtWrite (port : Nat) (p : Packet) (s : State) : exec (.mgtWrite port p) s = execMgtWrite port p s := rfl
theorem exec_registerWrite (a : Path) (off : Nat) (data : List Byte) (s : State) : exec (.registerWrite a off data) s = execRegisterWrite a off data s := rfl
theorem exec_bucketRefill (s : State) : exec .bucketRefill s = execBucketRefill s := rfl
theorem exec_calendarSlot (port : Nat) (s : State) : exec (.calendarSlot port) s = execCalendarSlot port s := rfl
theorem exec_congestionSample (s : State) : exec .congestionSample s = execCongestionSample s := rfl
theorem exec_histogramSample (s : State) : exec .histogramSample s = execHistogramSample s := rfl
theorem exec_tshHistClear (a : Path) (s : State) : exec (.tshHistClear a) s = execTshHistClear a s := rfl
theorem exec_meterUpdate (meter uj : Nat) (faulty : Bool) (s : State) : exec (.meterUpdate meter uj faulty) s = execMeterUpdate meter uj faulty s := rfl
theorem exec_planIntervalBoundary (s : State) : exec .planIntervalBoundary s = execPlanIntervalBoundary s := rfl
theorem exec_planSubslot (s : State) : exec .planSubslot s = execPlanSubslot s := rfl
theorem exec_planStale (s : State) : exec .planStale s = execPlanStale s := rfl
theorem exec_setPowerLimit (mw : Nat) (s : State) : exec (.setPowerLimit mw) s = execSetPowerLimit mw s := rfl
theorem exec_getPower (s : State) : exec .getPower s = execGetPower s := rfl
theorem exec_getLastFatal (s : State) : exec .getLastFatal s = execGetLastFatal s := rfl
theorem exec_pairEnWrite (a : Path) (v : Word) (s : State) : exec (.pairEnWrite a v) s = execPairEnWrite a v s := rfl
theorem exec_beatSend (s : State) : exec .beatSend s = execBeatSend s := rfl
theorem exec_beat (port : Nat) (p : Packet) (s : State) : exec (.beat port p) s = execBeat port p s := rfl
theorem exec_epochClose (s : State) : exec .epochClose s = execEpochClose s := rfl
theorem exec_journal (port : Nat) (p : Packet) (s : State) : exec (.journal port p) s = execJournal port p s := rfl
theorem exec_jrnlAck (port : Nat) (p : Packet) (s : State) : exec (.jrnlAck port p) s = execJrnlAck port p s := rfl
theorem exec_resyncReq (port : Nat) (p : Packet) (s : State) : exec (.resyncReq port p) s = execResyncReq port p s := rfl
theorem exec_resyncData (port : Nat) (p : Packet) (s : State) : exec (.resyncData port p) s = execResyncData port p s := rfl
theorem exec_leaseRenew (s : State) : exec .leaseRenew s = execLeaseRenew s := rfl
theorem exec_leaseReq (port : Nat) (p : Packet) (s : State) : exec (.leaseReq port p) s = execLeaseReq port p s := rfl
theorem exec_witnessGrantDue (pair : Nat) (s : State) : exec (.witnessGrantDue pair) s = execWitnessGrantDue pair s := rfl
theorem exec_leaseGrant (port : Nat) (p : Packet) (s : State) : exec (.leaseGrant port p) s = execLeaseGrant port p s := rfl
theorem exec_leaseRefuse (port : Nat) (p : Packet) (s : State) : exec (.leaseRefuse port p) s = execLeaseRefuse port p s := rfl
theorem exec_leaseRelease (port : Nat) (p : Packet) (s : State) : exec (.leaseRelease port p) s = execLeaseRelease port p s := rfl
theorem exec_leaseExpiry (s : State) : exec .leaseExpiry s = execLeaseExpiry s := rfl
theorem exec_partnerLost (s : State) : exec .partnerLost s = execPartnerLost s := rfl
theorem exec_takeoverComplete (s : State) : exec .takeoverComplete s = execTakeoverComplete s := rfl
theorem exec_takeoverWindowEnd (s : State) : exec .takeoverWindowEnd s = execTakeoverWindowEnd s := rfl
theorem exec_holdDrop (idx : Nat) (s : State) : exec (.holdDrop idx) s = execHoldDrop idx s := rfl
theorem exec_pairStatusSend (s : State) : exec .pairStatusSend s = execPairStatusSend s := rfl
theorem exec_hpsSwitch (a : Path) (s : State) : exec (.hpsSwitch a) s = execHpsSwitch a s := rfl
theorem exec_switchDrainEnd (s : State) : exec .switchDrainEnd s = execSwitchDrainEnd s := rfl
theorem exec_joiningRetry (s : State) : exec .joiningRetry s = execJoiningRetry s := rfl
theorem exec_escalationWindowClose (source : Nat) (s : State) : exec (.escalationWindowClose source) s = execEscalationWindowClose source s := rfl
theorem exec_fltAck (a : Path) (v : Word) (s : State) : exec (.fltAck a v) s = execFltAck a v s := rfl
theorem exec_notifyDepart (s : State) : exec .notifyDepart s = execNotifyDepart s := rfl
theorem exec_fatalRelease (a : Path) (s : State) : exec (.fatalRelease a) s = execFatalRelease a s := rfl
theorem exec_haltContinue (s : State) : exec .haltContinue s = execHaltContinue s := rfl
theorem exec_glbLastFatalClear (a : Path) (s : State) : exec (.glbLastFatalClear a) s = execGlbLastFatalClear a s := rfl
theorem exec_glbCntClr (a : Path) (v : Word) (s : State) : exec (.glbCntClr a v) s = execGlbCntClr a v s := rfl
theorem exec_glbRstWarm (a : Path) (s : State) : exec (.glbRstWarm a) s = execGlbRstWarm a s := rfl
theorem exec_glbRstCold (a : Path) (s : State) : exec (.glbRstCold a) s = execGlbRstCold a s := rfl
theorem exec_warmReset (s : State) : exec .warmReset s = execWarmReset s := rfl
theorem exec_warmStartComplete (s : State) : exec .warmStartComplete s = execWarmStartComplete s := rfl
theorem exec_cohResume (a : Path) (s : State) : exec (.cohResume a) s = execCohResume a s := rfl
theorem exec_blkSoftReset (a : Path) (page : Nat) (s : State) : exec (.blkSoftReset a page) s = execBlkSoftReset a page s := rfl
theorem exec_blockResetDone (page : Nat) (s : State) : exec (.blockResetDone page) s = execBlockResetDone page s := rfl
theorem exec_blkEnableWrite (a : Path) (page : Nat) (on : Bool) (s : State) : exec (.blkEnableWrite a page on) s = execBlkEnableWrite a page on s := rfl
theorem exec_blkFreezeWrite (a : Path) (page : Nat) (on : Bool) (s : State) : exec (.blkFreezeWrite a page on) s = execBlkFreezeWrite a page on s := rfl
theorem exec_ftmInject (a : Path) (s : State) : exec (.ftmInject a) s = execFtmInject a s := rfl
theorem exec_validateToken (a : Path) (s : State) : exec (.validateToken a) s = execValidateToken a s := rfl
theorem exec_keeperToken (token : List Byte) (s : State) : exec (.keeperToken token) s = execKeeperToken token s := rfl
theorem exec_advanceSvn (a : Path) (s : State) : exec (.advanceSvn a) s = execAdvanceSvn a s := rfl
theorem exec_revokeSlot (a : Path) (arg : Nat) (s : State) : exec (.revokeSlot a arg) s = execRevokeSlot a arg s := rfl
theorem exec_streamRetire (a : Path) (arg : Nat) (s : State) : exec (.streamRetire a arg) s = execStreamRetire a arg s := rfl
theorem exec_streamRetireSub (a : Path) (arg : Nat) (s : State) : exec (.streamRetireSub a arg) s = execStreamRetireSub a arg s := rfl
theorem exec_streamRetireDone (ctx : Nat) (s : State) : exec (.streamRetireDone ctx) s = execStreamRetireDone ctx s := rfl
theorem exec_anchorSet (a : Path) (arg : Nat) (s : State) : exec (.anchorSet a arg) s = execAnchorSet a arg s := rfl
theorem exec_anchorClear (a : Path) (arg : Nat) (s : State) : exec (.anchorClear a arg) s = execAnchorClear a arg s := rfl
theorem exec_newChallenge (a : Path) (s : State) : exec (.newChallenge a) s = execNewChallenge a s := rfl
theorem exec_spdmGetVersion (m : SpdmMsg) (s : State) : exec (.spdmGetVersion m) s = execSpdmGetVersion m s := rfl
theorem exec_spdmGetCapabilities (m : SpdmMsg) (s : State) : exec (.spdmGetCapabilities m) s = execSpdmGetCapabilities m s := rfl
theorem exec_spdmNegotiateAlgorithms (m : SpdmMsg) (s : State) : exec (.spdmNegotiateAlgorithms m) s = execSpdmNegotiateAlgorithms m s := rfl
theorem exec_spdmGetDigests (m : SpdmMsg) (s : State) : exec (.spdmGetDigests m) s = execSpdmGetDigests m s := rfl
theorem exec_spdmGetCertificate (m : SpdmMsg) (s : State) : exec (.spdmGetCertificate m) s = execSpdmGetCertificate m s := rfl
theorem exec_spdmChallenge (m : SpdmMsg) (s : State) : exec (.spdmChallenge m) s = execSpdmChallenge m s := rfl
theorem exec_spdmGetMeasurements (m : SpdmMsg) (s : State) : exec (.spdmGetMeasurements m) s = execSpdmGetMeasurements m s := rfl
theorem exec_spdmKeyExchange (m : SpdmMsg) (s : State) : exec (.spdmKeyExchange m) s = execSpdmKeyExchange m s := rfl
theorem exec_spdmFinish (m : SpdmMsg) (s : State) : exec (.spdmFinish m) s = execSpdmFinish m s := rfl
theorem exec_spdmKeyUpdate (m : SpdmMsg) (s : State) : exec (.spdmKeyUpdate m) s = execSpdmKeyUpdate m s := rfl
theorem exec_spdmHeartbeat (m : SpdmMsg) (s : State) : exec (.spdmHeartbeat m) s = execSpdmHeartbeat m s := rfl
theorem exec_spdmEndSession (m : SpdmMsg) (s : State) : exec (.spdmEndSession m) s = execSpdmEndSession m s := rfl
theorem exec_streamSetup (m : SpdmMsg) (s : State) : exec (.streamSetup m) s = execStreamSetup m s := rfl
theorem exec_streamRetireRequest (m : SpdmMsg) (s : State) : exec (.streamRetireRequest m) s = execStreamRetireRequest m s := rfl
theorem exec_rngFail (s : State) : exec .rngFail s = execRngFail s := rfl
theorem exec_rngRecover (s : State) : exec .rngRecover s = execRngRecover s := rfl
theorem exec_pwrGoodRise (b : BoardInputs) (s : State) : exec (.pwrGoodRise b) s = execPwrGoodRise b s := rfl
theorem exec_pwrGoodFall (s : State) : exec .pwrGoodFall s = execPwrGoodFall s := rfl
theorem exec_resetN (s : State) : exec .resetN s = execResetN s := rfl
theorem exec_warmResetN (s : State) : exec .warmResetN s = execWarmResetN s := rfl
theorem exec_warmResetNRise (s : State) : exec .warmResetNRise s = execWarmResetNRise s := rfl
theorem exec_thermtrip (s : State) : exec .thermtrip s = execThermtrip s := rfl
theorem exec_refclkLost (s : State) : exec .refclkLost s = execRefclkLost s := rfl
theorem exec_controllerTempSample (readings : List Nat) (s : State) : exec (.controllerTempSample readings) s = execControllerTempSample readings s := rfl
theorem exec_settingsSave (a : Path) (s : State) : exec (.settingsSave a) s = execSettingsSave a s := rfl
theorem exec_settingsErase (a : Path) (s : State) : exec (.settingsErase a) s = execSettingsErase a s := rfl
theorem exec_settingsSaveDone (ok : Bool) (s : State) : exec (.settingsSaveDone ok) s = execSettingsSaveDone ok s := rfl
theorem exec_logSelect (a : Path) (v : Word) (s : State) : exec (.logSelect a v) s = execLogSelect a v s := rfl
theorem exec_fwChunk (port : Nat) (p : Packet) (s : State) : exec (.fwChunk port p) s = execFwChunk port p s := rfl
theorem exec_imageVerifyDone (s : State) : exec .imageVerifyDone s = execImageVerifyDone s := rfl
theorem exec_fwForwardResponse (port : Nat) (p : Packet) (s : State) : exec (.fwForwardResponse port p) s = execFwForwardResponse port p s := rfl
theorem exec_fwForwardTimeout (s : State) : exec .fwForwardTimeout s = execFwForwardTimeout s := rfl
theorem exec_fwActivate (a : Path) (s : State) : exec (.fwActivate a) s = execFwActivate a s := rfl
theorem exec_compatUnchecked (s : State) : exec .compatUnchecked s = execCompatUnchecked s := rfl
theorem exec_activationPreloadDone (s : State) : exec .activationPreloadDone s = execActivationPreloadDone s := rfl
theorem exec_fwConfirm (a : Path) (s : State) : exec (.fwConfirm a) s = execFwConfirm a s := rfl
theorem exec_healthConfirmed (s : State) : exec .healthConfirmed s = execHealthConfirmed s := rfl
theorem exec_healthTimeout (s : State) : exec .healthTimeout s = execHealthTimeout s := rfl
theorem exec_commitCopyDone (ok : Bool) (s : State) : exec (.commitCopyDone ok) s = execCommitCopyDone ok s := rfl
theorem exec_fwRaise (a : Path) (s : State) : exec (.fwRaise a) s = execFwRaise a s := rfl
theorem exec_getLdInfo (m : Mailbox) (s : State) : exec (.getLdInfo m) s = execGetLdInfo m s := rfl
theorem exec_getLdAllocations (m : Mailbox) (s : State) : exec (.getLdAllocations m) s = execGetLdAllocations m s := rfl
theorem exec_setLdAllocations (m : Mailbox) (s : State) : exec (.setLdAllocations m) s = execSetLdAllocations m s := rfl
theorem exec_getQosControl (m : Mailbox) (s : State) : exec (.getQosControl m) s = execGetQosControl m s := rfl
theorem exec_setQosControl (m : Mailbox) (s : State) : exec (.setQosControl m) s = execSetQosControl m s := rfl
theorem exec_getQosStatus (m : Mailbox) (s : State) : exec (.getQosStatus m) s = execGetQosStatus m s := rfl
theorem exec_getQosAllocatedBw (m : Mailbox) (s : State) : exec (.getQosAllocatedBw m) s = execGetQosAllocatedBw m s := rfl
theorem exec_setQosAllocatedBw (m : Mailbox) (s : State) : exec (.setQosAllocatedBw m) s = execSetQosAllocatedBw m s := rfl
theorem exec_getQosBwLimit (m : Mailbox) (s : State) : exec (.getQosBwLimit m) s = execGetQosBwLimit m s := rfl
theorem exec_setQosBwLimit (m : Mailbox) (s : State) : exec (.setQosBwLimit m) s = execSetQosBwLimit m s := rfl
theorem exec_identify (m : Mailbox) (s : State) : exec (.identify m) s = execIdentify m s := rfl
theorem exec_backgroundOperationStatus (m : Mailbox) (s : State) : exec (.backgroundOperationStatus m) s = execBackgroundOperationStatus m s := rfl
theorem exec_getEventRecords (m : Mailbox) (s : State) : exec (.getEventRecords m) s = execGetEventRecords m s := rfl
theorem exec_clearEventRecords (m : Mailbox) (s : State) : exec (.clearEventRecords m) s = execClearEventRecords m s := rfl
theorem exec_getEventInterruptPolicy (m : Mailbox) (s : State) : exec (.getEventInterruptPolicy m) s = execGetEventInterruptPolicy m s := rfl
theorem exec_setEventInterruptPolicy (m : Mailbox) (s : State) : exec (.setEventInterruptPolicy m) s = execSetEventInterruptPolicy m s := rfl
theorem exec_getFwInfo (m : Mailbox) (s : State) : exec (.getFwInfo m) s = execGetFwInfo m s := rfl
theorem exec_transferFw (m : Mailbox) (s : State) : exec (.transferFw m) s = execTransferFw m s := rfl
theorem exec_activateFw (m : Mailbox) (s : State) : exec (.activateFw m) s = execActivateFw m s := rfl
theorem exec_getTimestamp (m : Mailbox) (s : State) : exec (.getTimestamp m) s = execGetTimestamp m s := rfl
theorem exec_setTimestamp (m : Mailbox) (s : State) : exec (.setTimestamp m) s = execSetTimestamp m s := rfl
theorem exec_getSupportedLogs (m : Mailbox) (s : State) : exec (.getSupportedLogs m) s = execGetSupportedLogs m s := rfl
theorem exec_getLog (m : Mailbox) (s : State) : exec (.getLog m) s = execGetLog m s := rfl
theorem exec_identifyMemoryDevice (m : Mailbox) (s : State) : exec (.identifyMemoryDevice m) s = execIdentifyMemoryDevice m s := rfl
theorem exec_getHealthInfo (m : Mailbox) (s : State) : exec (.getHealthInfo m) s = execGetHealthInfo m s := rfl
theorem exec_getAlertConfiguration (m : Mailbox) (s : State) : exec (.getAlertConfiguration m) s = execGetAlertConfiguration m s := rfl
theorem exec_setAlertConfiguration (m : Mailbox) (s : State) : exec (.setAlertConfiguration m) s = execSetAlertConfiguration m s := rfl
theorem exec_getPoisonList (m : Mailbox) (s : State) : exec (.getPoisonList m) s = execGetPoisonList m s := rfl
theorem exec_injectPoison (m : Mailbox) (s : State) : exec (.injectPoison m) s = execInjectPoison m s := rfl
theorem exec_clearPoison (m : Mailbox) (s : State) : exec (.clearPoison m) s = execClearPoison m s := rfl
theorem exec_sanitize (m : Mailbox) (s : State) : exec (.sanitize m) s = execSanitize m s := rfl
theorem exec_sanitizeDone (s : State) : exec .sanitizeDone s = execSanitizeDone s := rfl
theorem exec_hdmDecoderCommit (ld idx : Nat) (d : HdmDecoder) (s : State) : exec (.hdmDecoderCommit ld idx d) s = execHdmDecoderCommit ld idx d s := rfl
theorem exec_cxlLinkTrained (width speed : Nat) (flit68 : Bool) (s : State) : exec (.cxlLinkTrained width speed flit68) s = execCxlLinkTrained width speed flit68 s := rfl
theorem exec_cxlLinkDown (s : State) : exec .cxlLinkDown s = execCxlLinkDown s := rfl
theorem exec_cxlFlr (ld : Nat) (s : State) : exec (.cxlFlr ld) s = execCxlFlr ld s := rfl
theorem exec_cxlReset (ld : Nat) (memClr : Bool) (s : State) : exec (.cxlReset ld memClr) s = execCxlReset ld memClr s := rfl
theorem exec_secondaryBusReset (s : State) : exec .secondaryBusReset s = execSecondaryBusReset s := rfl
theorem exec_resetNRise (b : BoardInputs) (s : State) : exec (.resetNRise b) s = execResetNRise b s := rfl
theorem exec_witnessLeaseExpiry (pair : Nat) (s : State) : exec (.witnessLeaseExpiry pair) s = execWitnessLeaseExpiry pair s := rfl
theorem exec_continuationTimeout (s : State) : exec .continuationTimeout s = execContinuationTimeout s := rfl
theorem exec_biHoldTimeEnd (line : Nat) (s : State) : exec (.biHoldTimeEnd line) s = execBiHoldTimeEnd line s := rfl
theorem exec_vorerWatchdog (s : State) : exec .vorerWatchdog s = execVorerWatchdog s := rfl
theorem exec_vorerException (s : State) : exec .vorerException s = execVorerException s := rfl
theorem exec_pllRelock (island : Nat) (s : State) : exec (.pllRelock island) s = execPllRelock island s := rfl
theorem exec_debugInstruction (core kind : Nat) (addr value : Nat) (s : State) : exec (.debugInstruction core kind addr value) s = execDebugInstruction core kind addr value s := rfl
theorem exec_busMasterEnableWrite (ld : Nat) (on : Bool) (s : State) : exec (.busMasterEnableWrite ld on) s = execBusMasterEnableWrite ld on s := rfl
theorem exec_msixVectorUnmask (ld vector : Nat) (s : State) : exec (.msixVectorUnmask ld vector) s = execMsixVectorUnmask ld vector s := rfl
theorem exec_linkControlBlock (port : Nat) (f : Lcb) (s : State) : exec (.linkControlBlock port f) s = execLinkControlBlock port f s := rfl
theorem exec_mgtReadResponse (port : Nat) (p : Packet) (s : State) : exec (.mgtReadResponse port p) s = execMgtReadResponse port p s := rfl
theorem exec_vsb1v8Removed (s : State) : exec .vsb1v8Removed s = execVsb1v8Removed s := rfl
theorem exec_railOutOfTolerance (s : State) : exec .railOutOfTolerance s = execRailOutOfTolerance s := rfl
theorem exec_dynamicAddressAssign (addr : Nat) (s : State) : exec (.dynamicAddressAssign addr) s = execDynamicAddressAssign addr s := rfl
theorem exec_cxlResetMemClrDone (ld : Nat) (s : State) : exec (.cxlResetMemClrDone ld) s = execCxlResetMemClrDone ld s := rfl

end Sys2Proof.Machine
end

