-- ==== Sys2Proof/Laws/Memory.lean ====
section
/-! SUPPORT. The pool's memory: every operation on sectors keeps the canonical form, a read after a write gives what was written, and a write leaves
every other sector alone. -/

namespace Sys2Proof.Machine

open Sys2Proof

theorem leBytes_length (n v : Nat) : (leBytes n v).length = n := by
  induction n generalizing v with
  | zero => rfl
  | succ n ih => simp [leBytes, ih]

/-- Storing a sector word keeps the canonical form. -/
theorem State.putSector_memWf (s : State) (a : Nat) (data : List Byte) (c : List Nat) (h : s.memWf = true) :
    (s.putSector a data c).memWf = true := by
  simp only [State.memWf, Bool.and_eq_true] at h ⊢
  exact ⟨SMap.wf_setRun _ _ h.1, SMap.wf_setRun _ _ h.2⟩

/-- A stored byte reads back. -/
theorem State.putSector_byte_inside (s : State) (a i : Nat) (data : List Byte) (c : List Nat) (h : i < data.length) :
    (s.putSector a data c).byte (a / 64 * 64 + i) = data[i] := SMap.get_setRun_inside h

/-- Bytes outside the sector stay. -/
theorem State.putSector_byte_outside (s : State) (a x : Nat) (data : List Byte) (c : List Nat)
    (h : x < a / 64 * 64 ∨ a / 64 * 64 + data.length ≤ x) : (s.putSector a data c).byte x = s.byte x := SMap.get_setRun_outside h

/-- The data of a sector reads back whole. -/
theorem State.putSector_sectorData (s : State) (a : Nat) (data : List Byte) (c : List Nat) (h : data.length = 64) :
    (s.putSector a data c).sectorData a = data := by
  unfold State.sectorData State.putSector
  have := SMap.getRun_setRun (d := memReset) s.mem (a / 64 * 64) data
  rw [h] at this
  exact this

/-- Another sector's data stays. -/
theorem State.putSector_sectorData_other (s : State) (a b : Nat) (data : List Byte) (c : List Nat) (h : data.length = 64)
    (hab : a / 64 ≠ b / 64) : (s.putSector a data c).sectorData b = s.sectorData b :=
  SMap.getRun_setRun_outside _ (by omega)

/-- Another sector's check symbols stay. -/
theorem State.putSector_sectorChk_other (s : State) (a b : Nat) (data : List Byte) (c : List Nat) (h : c.length = 4)
    (hab : a / 64 ≠ b / 64) : (s.putSector a data c).sectorChk b = s.sectorChk b := by
  have hl : (c.flatMap fun x => leBytes 2 x).length = 8 := by
    match c, h with
    | [p, q, r, t], _ => simp [leBytes_length]
  unfold State.sectorChk State.putSector
  have := SMap.getRun_setRun_outside (d := chkReset) s.chk (k := a / 64 * 8) (a := b / 64 * 8) (n := 8)
    (vs := c.flatMap fun x => leBytes 2 x) (by omega)
  simp only [this]

theorem State.journal_memWf (s : State) (r : JRec) : (s.journal r).memWf = s.memWf := by
  unfold State.journal; split <;> rfl

theorem State.journal_byte (s : State) (r : JRec) (a : Nat) : (s.journal r).byte a = s.byte a := by
  unfold State.journal; split <;> rfl

theorem State.storeSector_memWf (s : State) (ppa : Nat) (data : List Byte) (h : s.memWf = true) : (s.storeSector ppa data).memWf = true :=
  State.putSector_memWf _ _ _ _ h

theorem State.poisonSector_memWf (s : State) (ppa : Nat) (h : s.memWf = true) : (s.poisonSector ppa).memWf = true := by
  unfold State.poisonSector
  dsimp only
  split
  · rw [State.journal_memWf]; exact State.putSector_memWf _ _ _ _ h
  · exact State.putSector_memWf _ _ _ _ h

theorem State.writeSector_memWf (s : State) (ppa : Nat) (data : List Byte) (h : s.memWf = true) : (s.writeSector ppa data).memWf = true := by
  unfold State.writeSector
  dsimp only
  split
  · rw [State.journal_memWf]; exact State.storeSector_memWf _ _ _ h
  · exact State.storeSector_memWf _ _ _ h

end Sys2Proof.Machine
end

