-- ==== Sys2Proof/Laws/Packets.lean ====
section
/-! SUPPORT. What a packet for this chip does: it is delivered, a request that nothing holds back is taken and run. -/

namespace Sys2Proof.Machine

open Sys2Proof

theorem phaseStep_xact (s : State) (p : Packet) : (s.phaseStep p).xact = p.xact := by
  unfold State.phaseStep setRoute; repeat' split
  all_goals rfl

theorem phaseStep_op (s : State) (p : Packet) : (s.phaseStep p).op = p.op := by
  unfold State.phaseStep setRoute; repeat' split
  all_goals rfl

theorem phaseStep_payload (s : State) (p : Packet) : (s.phaseStep p).payload = p.payload := by
  unfold State.phaseStep setRoute; repeat' split
  all_goals rfl

theorem phaseStep_opcode (s : State) (p : Packet) : (s.phaseStep p).opcode = p.opcode := by
  simp [Packet.opcode, phaseStep_xact]

theorem asHere_opcode (s : State) (port) (p : Packet) : (s.asHere port p).opcode = p.opcode := phaseStep_opcode _ _

/-- A packet for this chip alone is delivered. -/
theorem arrive_mine (w : State) (port : Nat) (p : Packet) (hm : w.mine p = true) : w.arrive port p = w.deliver port (w.phaseStep p) := by
  simp only [State.mine, Bool.and_eq_true, bne_iff_ne, ne_eq, Bool.not_eq_true', beq_iff_eq] at hm
  obtain ⟨⟨⟨⟨⟨⟨⟨⟨a1, a2⟩, a3⟩, a4⟩, a5⟩, a6⟩, a7⟩, a8⟩, a9⟩ := hm
  have hfp : w.forPair p = false := a8
  simp [State.arrive, a1, a2, a3, a4, a5, hfp, State.passOn, State.route, a6, a7, a9, State.routeOn]

theorem packet_arrives (s : State) (port : Nat) (p : Packet) (t : Packet → Bool)
    (ho : s.portOpen port = true) (hm : (s.landed port p).mine p = true) (ht : t p = true) :
    s.onPacket t port p = .next (s.ended (s.afterPacket p ((s.landed port p).deliver port (s.asHere port p)))) := by
  simp only [State.portOpen, Bool.and_eq_true] at ho
  obtain ⟨⟨h1, h2⟩, h3⟩ := ho
  have h3' : State.linkUp { s with rtb := { s.rtb with rxAt := s.time } } port = true := h3
  have key := arrive_mine _ port p hm
  simp only [State.onPacket, State.live, h1, if_true, State.packetOf?, ht, State.packetIn, State.packetAt, h2, h3, h3', Bool.and_self]
  simp only [State.landed] at key
  rw [key]
  rfl

/-- A packet that is no answer or message acts as its opcode asks. -/
theorem deliver_request (s : State) (port : Nat) (p : Packet) (h : isResponse p = false) (h1 : p.opcode ≠ 0x4C) (h2 : p.opcode ≠ 0x63) :
    s.deliver port p = s.deliverOn port p := by
  simp [State.deliver, h, h1, h2]

/-- An answer or message that is well formed acts as its opcode asks. -/
theorem deliver_said (s : State) (port : Nat) (p : Packet) (h : s.wellSaid port p = true) :
    (s.landed port p).deliver port (s.asHere port p) = (s.landed port p).deliverOn port (s.asHere port p) := by
  simp only [State.wellSaid, Bool.and_eq_true, Bool.not_eq_true'] at h
  simp [State.deliver, h.1, h.2]

theorem setSeq_quiescing (s : State) (k : Nat) (e : SeqEntry) (b : Nat) : (s.setSeq k e).quiescing b = s.quiescing b := rfl

theorem seqTake_admits (s : State) (k m : Nat) (o : Bool) (n : Nat) (h : (s.seqTake k m o).2 = .admits n) :
    ∃ e, (s.seqTake k m o).1 = s.setSeq k e := by
  unfold State.seqTake at h ⊢
  simp only at h ⊢
  split <;> simp_all

theorem reqIn_runs (s : State) (port : Nat) (p : Packet) (n : Nat) (h : s.takesReq p n = true)
    (hr : State.runsNow (s.reqTaken port p n) = true) :
    s.reqIn port p = (State.running (s.reqTaken port p n)).1.runReq (State.running (s.reqTaken port p n)).2 := by
  simp only [State.takesReq, Bool.and_eq_true, Bool.not_eq_true', Option.isNone_iff_eq_none, decide_eq_true_eq, beq_iff_eq, ne_eq] at h
  obtain ⟨⟨⟨⟨⟨⟨h1, h2⟩, h3⟩, h4⟩, h5⟩, h6⟩, h7⟩ := h
  obtain ⟨e, he⟩ := seqTake_admits _ _ _ _ _ h6
  have hk : s.reqIn port p = (s.seqTake (s.seqKey p) p.seq (p.ordered || p.opcode == 0x30)).1.reqTake port p n true := by
    simp [State.reqIn, h1, h2, h3, h4, h5]
    rw [h6]
  rw [hk]
  simp only [State.runsNow, Bool.and_eq_true, Bool.not_eq_true', beq_iff_eq] at hr
  obtain ⟨⟨⟨⟨r1, r2⟩, r3⟩, r4⟩, r5⟩ := hr
  have hq : ∀ b, (s.seqTake (s.seqKey p) p.seq (p.ordered || p.opcode == 0x30)).1.quiescing b = s.quiescing b := by
    intro b; rw [he]; rfl
  have hpol : (s.seqTake (s.seqKey p) p.seq (p.ordered || p.opcode == 0x30)).1.flag Reg.TSH_CTRL.POLICE_EN = s.flag Reg.TSH_CTRL.POLICE_EN := by
    rw [he]; rfl
  have hpd : ∀ b, (s.seqTake (s.seqKey p) p.seq (p.ordered || p.opcode == 0x30)).1.peakDeficit b = s.peakDeficit b := by
    intro b; rw [he]; rfl
  unfold State.reqTake
  have c1 : ((s.seqTake (s.seqKey p) p.seq (p.ordered || p.opcode == 0x30)).1.quiescing p.sub && !decide (0x60 ≤ p.opcode)) = false := by
    rw [hq]; revert h7; cases decide (0x60 ≤ p.opcode) <;> simp <;> tauto
  have c2 : ((s.seqTake (s.seqKey p) p.seq (p.ordered || p.opcode == 0x30)).1.flag Reg.TSH_CTRL.POLICE_EN && (s.seqTake (s.seqKey p) p.seq (p.ordered || p.opcode == 0x30)).1.peakDeficit p.sub && !decide (0x60 ≤ p.opcode) && p.opcode != 0x44 && p.opcode != 0x45) = false := by
    rw [hpol, hpd]; revert h7; cases decide (0x60 ≤ p.opcode) <;> simp <;> intros <;> simp_all
  simp only [c1, c2, if_false, Bool.false_eq_true]
  simp only [State.reqTaken] at r1 r2 r3 r4 r5 ⊢
  simp only [r1, Bool.false_eq_true, if_false, State.startReq, r2, r3, r4, r5, State.running, Bool.true_eq_false]

  rfl

theorem request_runs (s : State) (port : Nat) (p : Packet) (n : Nat) (t : Packet → Bool)
    (ho : s.portOpen port = true) (hm : (s.landed port p).mine p = true) (ht : t p = true)
    (hk : (s.local port p).takesReq (s.asHere port p) n = true)
    (hr : State.runsNow ((s.local port p).reqTaken port (s.asHere port p) n) = true)
    (hq : 0x60 < p.opcode ∧ p.opcode < 0x63 ∨ p.opcode = 0x64 ∨ p.opcode = 0x65 ∨ p.opcode = 0x66 ∨ p.opcode < 0x22 ∨ (0x24 ≤ p.opcode ∧ p.opcode < 0x48) ∨ p.opcode = 0x23 ∧ (s.asHere port p).vc < 4) :
    s.onPacket t port p = .next (s.ended (s.afterPacket p ((State.running ((s.local port p).reqTaken port (s.asHere port p) n)).1.runReq
      (State.running ((s.local port p).reqTaken port (s.asHere port p) n)).2))) := by
  rw [packet_arrives s port p t ho hm ht, ← reqIn_runs _ _ _ _ hk hr]
  have e := asHere_opcode s port p
  have e1 : isResponse (s.asHere port p) = false := by simp [isResponse, e]; omega
  rw [deliver_request _ _ _ e1 (by omega) (by omega)]
  unfold State.deliverOn
  simp only [e, e1]
  rw [if_neg (by simp; omega), if_neg (by omega), if_neg (by omega), if_neg (by omega), if_neg (by omega), if_neg (by omega)]
  rfl

theorem setRoute_opcode (p : Packet) (a b v : Nat) : (setRoute p a b v).opcode = p.opcode := by simp only [Packet.opcode, setRoute]

theorem taken_opcode (s : State) (port : Nat) (p : Packet) (n : Nat) : (State.running (s.reqTaken port p n)).2.pkt.opcode = p.opcode := by
  simp only [State.running, State.reqTaken, State.reqOf, setRoute_opcode]

theorem taken_cxl (s : State) (port : Nat) (p : Packet) (n : Nat) : (State.running (s.reqTaken port p n)).2.cxl = none := by
  simp only [State.running, State.reqTaken, State.reqOf]

/-- The oldest NOTIFY goes where its route leads (R438). -/
theorem State.notifyLeave_cons {s : State} {p : Packet} {rest : List Packet} (h : s.flt.notify = p :: rest) :
    s.notifyLeave = s.notifyOn rest (s.route (s.injected p)) := by
  rw [State.notifyLeave]; split <;> simp_all

theorem State.notifyOn_send (s u : State) (rest : List Packet) (port : Nat) (q : Packet) : s.notifyOn rest (u, .send port q) =
    if units q.packetLen ≤ s.creditLeft port 6 then
      ({ u with flt := { u.flt with notify := rest } }.bump Reg.FLT_NOTIFY_CNT.OFF).queue port q none
    else s := rfl

theorem State.notifyOn_here (s u : State) (rest : List Packet) (q : Packet) : s.notifyOn rest (u, .here q) =
    ({ u with flt := { u.flt with notify := rest } }.bump Reg.FLT_NOTIFY_CNT.OFF).emit (.self q) := rfl

theorem untouched2 (s : State) : s.untouched.untouched = s.untouched := rfl

end Sys2Proof.Machine
end

