-- ==== Sys2Proof/Laws/Reach.lean ====
section
/-! SUPPORT. How a command reaches what it acts on: registers, headers, the Keeper, mailboxes, control blocks, tables. -/

namespace Sys2Proof.Machine

open Sys2Proof

/-- A register command of a path that reaches its register does its effect. -/
theorem regOpen_cmd (s : State) (a : Path) (o : Nat) (go : State → State) (h : s.regOpen a o = true) :
    s.onReg a o go = .next (s.ended (go s)) := by
  simp only [State.regOpen, Bool.and_eq_true, Bool.not_eq_true'] at h
  obtain ⟨⟨⟨h1, h2⟩, h3⟩, h4⟩ := h
  simp only [State.onReg, State.event, State.regCmd, h1, h2, h3, h4, Bool.true_eq_false, Bool.false_eq_true, if_true, if_false]

/-- The same for a register command of a stack that the part has. -/
theorem regOpen_ev (s : State) (n) (a : Path) (o : Nat) (go : State → State) (h : s.regOpen a o = true) (hn : n < s.part.stacks):
    (s.event fun u => u.stackDo n fun w => w.regCmd a o go) = .next (s.ended (go s)) := by
  simp only [State.regOpen, Bool.and_eq_true, Bool.not_eq_true'] at h
  obtain ⟨⟨⟨h1, h2⟩, h3⟩, h4⟩ := h
  simp only [State.event, State.stackDo, hn, State.regCmd, h1, h2, h3, h4, Bool.true_eq_false, Bool.false_eq_true, if_true, if_false]

/-- An event of the data plane does its effect while the data plane runs. -/
theorem active_live (s : State) (go : State → State) (h : s.active = true) : s.live go = .next (s.ended (go s)) := by
  simp only [State.live, h, if_true]

/-- An event does its effect while the clocks run. -/
theorem clocked_event (s : State) (go : State → State) (h : s.clocked = true) : s.event go = .next (s.ended (go s)) := by
  simp only [State.event, h, if_true]

/-- The clocks run where the data plane does. -/
theorem active_clocked (s : State) (h : s.active = true) : s.clocked = true := by
  unfold State.active at h; unfold State.clocked
  split at h <;> simp_all

/-- A header command reaches its page. -/
theorem headOpen_cmd (s : State) (a : Path) (o : Nat) (go : State → State) (h : s.headOpen a o = true) :
    s.onHead a o go = .next (s.ended (go s)) := by
  simp only [State.headOpen, Bool.and_eq_true] at h
  obtain ⟨⟨⟨h1, h2⟩, h3⟩, h4⟩ := h
  simp only [State.onHead, State.event, h1, h2, h3, h4, Bool.true_eq_false, Bool.false_eq_true, if_true, if_false, or_self]

/-- No packet is complete: nothing comes in. -/
theorem packetsIn_nil (s : State) (p : Nat) : s.packetsIn p [] = s := by rfl

/-- A new message of a control block is taken (R309). -/
theorem lcbIn_new (s : State) (p : Nat) (f : Lcb) (ty : Nat) (go) (k l u) (hp : s.part.hasPort p = true) (h2 : 2 ≤ s.portState p)
    (hok : lcbOk f.bytes = true) (hk : k = (s.lnk p).acked' (lcbAck f.bytes)) (hl : l = { k with inSeq := lcbSeq f.bytes })
    (hs : lcbSeq f.bytes = (k.inSeq + 1) % 65536) (hu : u = s.setLnk p l) (ht : lcbType f.bytes = ty) (h0 : ty ≠ 0) :
    s.lcbIn p f ty go = go u p (lcbBody f.bytes) := by
  have e : s.takeBlock p f.bytes ty = (u, true) := by
    unfold State.takeBlock
    simp only [hp, hok, ← hk, ← hs, ht, ← hl, ← hu]
    rw [if_neg (by simp; omega)]; simp [h0]
  unfold State.lcbIn
  rw [if_neg (by simp [ht])]
  simp only [e, if_true]

/-- The Keeper takes a command (R482). -/
theorem kprOp_open (s : State) (a : Path) (op x : Nat) (h : s.kprOpen a = true) (hop : op < 256) :
    s.kprOp a op x = .next (s.ended (s.kprCmdWrite a (op + x % 65536 * 2 ^ 8 + 2 ^ 31))) := by
  simp only [State.kprOpen, Bool.and_eq_true] at h
  unfold State.kprOp
  rw [regOpen_cmd _ _ _ _ h.1]

/-- Fields of a Keeper command word. -/
theorem kprBits (op x : Nat) (hop : op < 256) : bits (op + x % 65536 * 2 ^ 8 + 2 ^ 31) 7 0 = op ∧ bits (op + x % 65536 * 2 ^ 8 + 2 ^ 31) 23 8 = x % 65536 ∧
    bit (op + x % 65536 * 2 ^ 8 + 2 ^ 31) 31 = true := by
  have hx := Nat.mod_lt x (show 0 < 65536 by decide)
  generalize x % 65536 = y at *
  refine ⟨?_, ?_, ?_⟩
  · simp only [bits, Nat.shiftRight_zero]; omega
  · simp only [bits, Nat.shiftRight_eq_div_pow]; omega
  · simp only [bit, Nat.testBit, Nat.shiftRight_eq_div_pow, Nat.and_comm 1, Nat.and_one_is_mod, Nat.one_and_eq_mod_two]; simp; omega

/-- A mailbox command runs (R514, R519). -/
theorem boxOpen_go (s : State) (m : Mailbox) (b op : Nat) (go : State → State) (hb : b = m.ld) (h : s.boxOpen b op = true) :
    s.onBox m op go = .next (s.ended (go s)) := by
  simp only [State.boxOpen, Bool.and_eq_true, Bool.not_eq_true', decide_eq_true_eq, beq_iff_eq] at h
  obtain ⟨⟨⟨⟨h1, h2⟩, h3⟩, h4⟩, h5⟩ := h
  have hc : s.clocked = true := by simp [State.clocked, h2]
  subst hb
  simp only [State.onBox, State.event, hc, if_true, State.boxGo, h1, h2, h3, h4, h5]
  rw [if_neg (by simp; omega)]
  simp

/-- The logical device of a mailbox. -/
theorem boxLd_le (s : State) (b op : Nat) (h : s.boxOpen b op = true) : s.boxLd b = b := by
  simp only [State.boxOpen, Bool.and_eq_true, Bool.not_eq_true', decide_eq_true_eq, beq_iff_eq] at h
  unfold State.boxLd; rw [if_neg]; omega

/-- COMMIT of a version in which no entry fails (R336). -/
theorem commit_none (s : State) (v : Nat) (ht : s.tableFail (bits (s.word Reg.RTB_PORT_DIR.OFF) 4 0) v = none) :
    s.commit v = s.commitAs v (bits (s.word Reg.RTB_PORT_DIR.OFF) 4 0) none := by
  unfold State.commit; rw [ht]

/-- COMMIT of a version in which an entry fails (R336). -/
theorem commit_some (s : State) (v d k : Nat) (ht : s.tableFail (bits (s.word Reg.RTB_PORT_DIR.OFF) 4 0) v = some (d, k)) :
    s.commit v = s.commitAs v (bits (s.word Reg.RTB_PORT_DIR.OFF) 4 0) (some (d, k)) := by
  unfold State.commit; rw [ht]

end Sys2Proof.Machine
end

