-- ==== Sys2Proof/Laws/State.lean ====
section
/-! SUPPORT. What the basic updates of the state leave alone: one lemma for each field and each update. -/

namespace Sys2Proof.Machine

open Sys2Proof

/-! ### State.setWord -/

@[simp] theorem State.setWord_pending (s : State) (o v : Nat) : (s.setWord o v).pending = s.pending := rfl
@[simp] theorem State.setWord_part (s : State) (o v : Nat) : (s.setWord o v).part = s.part := rfl
@[simp] theorem State.setWord_phase (s : State) (o v : Nat) : (s.setWord o v).phase = s.phase := rfl
@[simp] theorem State.setWord_free (s : State) (o v : Nat) : (s.setWord o v).free = s.free := rfl
@[simp] theorem State.setWord_nextId (s : State) (o v : Nat) : (s.setWord o v).nextId = s.nextId := rfl
@[simp] theorem State.setWord_cnts (s : State) (o v : Nat) : (s.setWord o v).cnts = s.cnts := rfl
@[simp] theorem State.setWord_frozen (s : State) (o v : Nat) : (s.setWord o v).frozen = s.frozen := rfl
@[simp] theorem State.setWord_resetting (s : State) (o v : Nat) : (s.setWord o v).resetting = s.resetting := rfl
@[simp] theorem State.setWord_time (s : State) (o v : Nat) : (s.setWord o v).time = s.time := rfl
@[simp] theorem State.setWord_mmio (s : State) (o v : Nat) : (s.setWord o v).mmio = s.mmio := rfl
@[simp] theorem State.setWord_fwp (s : State) (o v : Nat) : (s.setWord o v).fwp = s.fwp := rfl
@[simp] theorem State.setWord_seqs (s : State) (o v : Nat) : (s.setWord o v).seqs = s.seqs := rfl
@[simp] theorem State.setWord_reqs (s : State) (o v : Nat) : (s.setWord o v).reqs = s.reqs := rfl
@[simp] theorem State.setWord_ktu (s : State) (o v : Nat) : (s.setWord o v).ktu = s.ktu := rfl
@[simp] theorem State.setWord_flt (s : State) (o v : Nat) : (s.setWord o v).flt = s.flt := rfl
@[simp] theorem State.setWord_acts (s : State) (o v : Nat) : (s.setWord o v).acts = s.acts := rfl
@[simp] theorem State.setWord_rtb (s : State) (o v : Nat) : (s.setWord o v).rtb = s.rtb := rfl
@[simp] theorem State.setWord_txq (s : State) (o v : Nat) : (s.setWord o v).txq = s.txq := rfl
@[simp] theorem State.setWord_lines (s : State) (o v : Nat) : (s.setWord o v).lines = s.lines := rfl
@[simp] theorem State.setWord_tsh (s : State) (o v : Nat) : (s.setWord o v).tsh = s.tsh := rfl
@[simp] theorem State.setWord_cxl (s : State) (o v : Nat) : (s.setWord o v).cxl = s.cxl := rfl
@[simp] theorem State.setWord_logq (s : State) (o v : Nat) : (s.setWord o v).logq = s.logq := rfl
@[simp] theorem State.setWord_hps (s : State) (o v : Nat) : (s.setWord o v).hps = s.hps := rfl
@[simp] theorem State.setWord_mem (s : State) (o v : Nat) : (s.setWord o v).mem = s.mem := rfl
@[simp] theorem State.setWord_chk (s : State) (o v : Nat) : (s.setWord o v).chk = s.chk := rfl
@[simp] theorem State.setWord_sc (s : State) (o v : Nat) : (s.setWord o v).sc = s.sc := rfl
@[simp] theorem State.setWord_wrd (s : State) (o v : Nat) : (s.setWord o v).wrd = s.wrd := rfl
@[simp] theorem State.setWord_lch (s : State) (o v : Nat) : (s.setWord o v).lch = s.lch := rfl
@[simp] theorem State.setWord_epl (s : State) (o v : Nat) : (s.setWord o v).epl = s.epl := rfl
@[simp] theorem State.setWord_dir (s : State) (o v : Nat) : (s.setWord o v).dir = s.dir := rfl
@[simp] theorem State.setWord_init (s : State) (o v : Nat) : (s.setWord o v).init = s.init := rfl
@[simp] theorem State.setWord_fwDown (s : State) (o v : Nat) : (s.setWord o v).fwDown = s.fwDown := rfl
@[simp] theorem State.setWord_lnks (s : State) (o v : Nat) : (s.setWord o v).lnks = s.lnks := rfl
@[simp] theorem State.setWord_kpr (s : State) (o v : Nat) : (s.setWord o v).kpr = s.kpr := rfl
@[simp] theorem State.setWord_pins (s : State) (o v : Nat) : (s.setWord o v).pins = s.pins := rfl
@[simp] theorem State.setWord_everReady (s : State) (o v : Nat) : (s.setWord o v).everReady = s.everReady := rfl
@[simp] theorem State.setWord_flash (s : State) (o v : Nat) : (s.setWord o v).flash = s.flash := rfl
@[simp] theorem State.setWord_fw (s : State) (o v : Nat) : (s.setWord o v).fw = s.fw := rfl
@[simp] theorem State.setWord_inj (s : State) (o v : Nat) : (s.setWord o v).inj = s.inj := rfl
@[simp] theorem State.setWord_board (s : State) (o v : Nat) : (s.setWord o v).board = s.board := rfl
@[simp] theorem State.setWord_failedPorts (s : State) (o v : Nat) : (s.setWord o v).failedPorts = s.failedPorts := rfl

/-! ### State.setWord64 -/

@[simp] theorem State.setWord64_pending (s : State) (o v : Nat) : (s.setWord64 o v).pending = s.pending := rfl
@[simp] theorem State.setWord64_part (s : State) (o v : Nat) : (s.setWord64 o v).part = s.part := rfl
@[simp] theorem State.setWord64_phase (s : State) (o v : Nat) : (s.setWord64 o v).phase = s.phase := rfl
@[simp] theorem State.setWord64_free (s : State) (o v : Nat) : (s.setWord64 o v).free = s.free := rfl
@[simp] theorem State.setWord64_nextId (s : State) (o v : Nat) : (s.setWord64 o v).nextId = s.nextId := rfl
@[simp] theorem State.setWord64_cnts (s : State) (o v : Nat) : (s.setWord64 o v).cnts = s.cnts := rfl
@[simp] theorem State.setWord64_frozen (s : State) (o v : Nat) : (s.setWord64 o v).frozen = s.frozen := rfl
@[simp] theorem State.setWord64_resetting (s : State) (o v : Nat) : (s.setWord64 o v).resetting = s.resetting := rfl
@[simp] theorem State.setWord64_time (s : State) (o v : Nat) : (s.setWord64 o v).time = s.time := rfl
@[simp] theorem State.setWord64_mmio (s : State) (o v : Nat) : (s.setWord64 o v).mmio = s.mmio := rfl
@[simp] theorem State.setWord64_fwp (s : State) (o v : Nat) : (s.setWord64 o v).fwp = s.fwp := rfl
@[simp] theorem State.setWord64_seqs (s : State) (o v : Nat) : (s.setWord64 o v).seqs = s.seqs := rfl
@[simp] theorem State.setWord64_reqs (s : State) (o v : Nat) : (s.setWord64 o v).reqs = s.reqs := rfl
@[simp] theorem State.setWord64_ktu (s : State) (o v : Nat) : (s.setWord64 o v).ktu = s.ktu := rfl
@[simp] theorem State.setWord64_flt (s : State) (o v : Nat) : (s.setWord64 o v).flt = s.flt := rfl
@[simp] theorem State.setWord64_acts (s : State) (o v : Nat) : (s.setWord64 o v).acts = s.acts := rfl
@[simp] theorem State.setWord64_rtb (s : State) (o v : Nat) : (s.setWord64 o v).rtb = s.rtb := rfl
@[simp] theorem State.setWord64_txq (s : State) (o v : Nat) : (s.setWord64 o v).txq = s.txq := rfl
@[simp] theorem State.setWord64_lines (s : State) (o v : Nat) : (s.setWord64 o v).lines = s.lines := rfl
@[simp] theorem State.setWord64_tsh (s : State) (o v : Nat) : (s.setWord64 o v).tsh = s.tsh := rfl
@[simp] theorem State.setWord64_cxl (s : State) (o v : Nat) : (s.setWord64 o v).cxl = s.cxl := rfl
@[simp] theorem State.setWord64_logq (s : State) (o v : Nat) : (s.setWord64 o v).logq = s.logq := rfl
@[simp] theorem State.setWord64_hps (s : State) (o v : Nat) : (s.setWord64 o v).hps = s.hps := rfl
@[simp] theorem State.setWord64_mem (s : State) (o v : Nat) : (s.setWord64 o v).mem = s.mem := rfl
@[simp] theorem State.setWord64_chk (s : State) (o v : Nat) : (s.setWord64 o v).chk = s.chk := rfl
@[simp] theorem State.setWord64_sc (s : State) (o v : Nat) : (s.setWord64 o v).sc = s.sc := rfl
@[simp] theorem State.setWord64_wrd (s : State) (o v : Nat) : (s.setWord64 o v).wrd = s.wrd := rfl
@[simp] theorem State.setWord64_lch (s : State) (o v : Nat) : (s.setWord64 o v).lch = s.lch := rfl
@[simp] theorem State.setWord64_epl (s : State) (o v : Nat) : (s.setWord64 o v).epl = s.epl := rfl
@[simp] theorem State.setWord64_dir (s : State) (o v : Nat) : (s.setWord64 o v).dir = s.dir := rfl
@[simp] theorem State.setWord64_init (s : State) (o v : Nat) : (s.setWord64 o v).init = s.init := rfl
@[simp] theorem State.setWord64_fwDown (s : State) (o v : Nat) : (s.setWord64 o v).fwDown = s.fwDown := rfl
@[simp] theorem State.setWord64_lnks (s : State) (o v : Nat) : (s.setWord64 o v).lnks = s.lnks := rfl
@[simp] theorem State.setWord64_kpr (s : State) (o v : Nat) : (s.setWord64 o v).kpr = s.kpr := rfl
@[simp] theorem State.setWord64_pins (s : State) (o v : Nat) : (s.setWord64 o v).pins = s.pins := rfl
@[simp] theorem State.setWord64_everReady (s : State) (o v : Nat) : (s.setWord64 o v).everReady = s.everReady := rfl
@[simp] theorem State.setWord64_flash (s : State) (o v : Nat) : (s.setWord64 o v).flash = s.flash := rfl
@[simp] theorem State.setWord64_fw (s : State) (o v : Nat) : (s.setWord64 o v).fw = s.fw := rfl
@[simp] theorem State.setWord64_inj (s : State) (o v : Nat) : (s.setWord64 o v).inj = s.inj := rfl
@[simp] theorem State.setWord64_board (s : State) (o v : Nat) : (s.setWord64 o v).board = s.board := rfl
@[simp] theorem State.setWord64_failedPorts (s : State) (o v : Nat) : (s.setWord64 o v).failedPorts = s.failedPorts := rfl

/-! ### State.setF -/

@[simp] theorem State.setF_pending (s : State) (x : Fld) (v : Nat) : (s.setF x v).pending = s.pending := by unfold State.setF; split <;> rfl
@[simp] theorem State.setF_part (s : State) (x : Fld) (v : Nat) : (s.setF x v).part = s.part := by unfold State.setF; split <;> rfl
@[simp] theorem State.setF_phase (s : State) (x : Fld) (v : Nat) : (s.setF x v).phase = s.phase := by unfold State.setF; split <;> rfl
@[simp] theorem State.setF_free (s : State) (x : Fld) (v : Nat) : (s.setF x v).free = s.free := by unfold State.setF; split <;> rfl
@[simp] theorem State.setF_nextId (s : State) (x : Fld) (v : Nat) : (s.setF x v).nextId = s.nextId := by unfold State.setF; split <;> rfl
@[simp] theorem State.setF_cnts (s : State) (x : Fld) (v : Nat) : (s.setF x v).cnts = s.cnts := by unfold State.setF; split <;> rfl
@[simp] theorem State.setF_frozen (s : State) (x : Fld) (v : Nat) : (s.setF x v).frozen = s.frozen := by unfold State.setF; split <;> rfl
@[simp] theorem State.setF_resetting (s : State) (x : Fld) (v : Nat) : (s.setF x v).resetting = s.resetting := by unfold State.setF; split <;> rfl
@[simp] theorem State.setF_time (s : State) (x : Fld) (v : Nat) : (s.setF x v).time = s.time := by unfold State.setF; split <;> rfl
@[simp] theorem State.setF_mmio (s : State) (x : Fld) (v : Nat) : (s.setF x v).mmio = s.mmio := by unfold State.setF; split <;> rfl
@[simp] theorem State.setF_fwp (s : State) (x : Fld) (v : Nat) : (s.setF x v).fwp = s.fwp := by unfold State.setF; split <;> rfl
@[simp] theorem State.setF_seqs (s : State) (x : Fld) (v : Nat) : (s.setF x v).seqs = s.seqs := by unfold State.setF; split <;> rfl
@[simp] theorem State.setF_reqs (s : State) (x : Fld) (v : Nat) : (s.setF x v).reqs = s.reqs := by unfold State.setF; split <;> rfl
@[simp] theorem State.setF_ktu (s : State) (x : Fld) (v : Nat) : (s.setF x v).ktu = s.ktu := by unfold State.setF; split <;> rfl
@[simp] theorem State.setF_flt (s : State) (x : Fld) (v : Nat) : (s.setF x v).flt = s.flt := by unfold State.setF; split <;> rfl
@[simp] theorem State.setF_acts (s : State) (x : Fld) (v : Nat) : (s.setF x v).acts = s.acts := by unfold State.setF; split <;> rfl
@[simp] theorem State.setF_rtb (s : State) (x : Fld) (v : Nat) : (s.setF x v).rtb = s.rtb := by unfold State.setF; split <;> rfl
@[simp] theorem State.setF_txq (s : State) (x : Fld) (v : Nat) : (s.setF x v).txq = s.txq := by unfold State.setF; split <;> rfl
@[simp] theorem State.setF_lines (s : State) (x : Fld) (v : Nat) : (s.setF x v).lines = s.lines := by unfold State.setF; split <;> rfl
@[simp] theorem State.setF_tsh (s : State) (x : Fld) (v : Nat) : (s.setF x v).tsh = s.tsh := by unfold State.setF; split <;> rfl
@[simp] theorem State.setF_cxl (s : State) (x : Fld) (v : Nat) : (s.setF x v).cxl = s.cxl := by unfold State.setF; split <;> rfl
@[simp] theorem State.setF_logq (s : State) (x : Fld) (v : Nat) : (s.setF x v).logq = s.logq := by unfold State.setF; split <;> rfl
@[simp] theorem State.setF_hps (s : State) (x : Fld) (v : Nat) : (s.setF x v).hps = s.hps := by unfold State.setF; split <;> rfl
@[simp] theorem State.setF_mem (s : State) (x : Fld) (v : Nat) : (s.setF x v).mem = s.mem := by unfold State.setF; split <;> rfl
@[simp] theorem State.setF_chk (s : State) (x : Fld) (v : Nat) : (s.setF x v).chk = s.chk := by unfold State.setF; split <;> rfl
@[simp] theorem State.setF_sc (s : State) (x : Fld) (v : Nat) : (s.setF x v).sc = s.sc := by unfold State.setF; split <;> rfl
@[simp] theorem State.setF_wrd (s : State) (x : Fld) (v : Nat) : (s.setF x v).wrd = s.wrd := by unfold State.setF; split <;> rfl
@[simp] theorem State.setF_lch (s : State) (x : Fld) (v : Nat) : (s.setF x v).lch = s.lch := by unfold State.setF; split <;> rfl
@[simp] theorem State.setF_epl (s : State) (x : Fld) (v : Nat) : (s.setF x v).epl = s.epl := by unfold State.setF; split <;> rfl
@[simp] theorem State.setF_dir (s : State) (x : Fld) (v : Nat) : (s.setF x v).dir = s.dir := by unfold State.setF; split <;> rfl
@[simp] theorem State.setF_init (s : State) (x : Fld) (v : Nat) : (s.setF x v).init = s.init := by unfold State.setF; split <;> rfl
@[simp] theorem State.setF_fwDown (s : State) (x : Fld) (v : Nat) : (s.setF x v).fwDown = s.fwDown := by unfold State.setF; split <;> rfl
@[simp] theorem State.setF_lnks (s : State) (x : Fld) (v : Nat) : (s.setF x v).lnks = s.lnks := by unfold State.setF; split <;> rfl
@[simp] theorem State.setF_kpr (s : State) (x : Fld) (v : Nat) : (s.setF x v).kpr = s.kpr := by unfold State.setF; split <;> rfl
@[simp] theorem State.setF_pins (s : State) (x : Fld) (v : Nat) : (s.setF x v).pins = s.pins := by unfold State.setF; split <;> rfl
@[simp] theorem State.setF_everReady (s : State) (x : Fld) (v : Nat) : (s.setF x v).everReady = s.everReady := by unfold State.setF; split <;> rfl
@[simp] theorem State.setF_flash (s : State) (x : Fld) (v : Nat) : (s.setF x v).flash = s.flash := by unfold State.setF; split <;> rfl
@[simp] theorem State.setF_fw (s : State) (x : Fld) (v : Nat) : (s.setF x v).fw = s.fw := by unfold State.setF; split <;> rfl
@[simp] theorem State.setF_inj (s : State) (x : Fld) (v : Nat) : (s.setF x v).inj = s.inj := by unfold State.setF; split <;> rfl
@[simp] theorem State.setF_board (s : State) (x : Fld) (v : Nat) : (s.setF x v).board = s.board := by unfold State.setF; split <;> rfl
@[simp] theorem State.setF_failedPorts (s : State) (x : Fld) (v : Nat) : (s.setF x v).failedPorts = s.failedPorts := by unfold State.setF; split <;> rfl

/-! ### State.setFlag -/

@[simp] theorem State.setFlag_pending (s : State) (x : Fld) (v : Bool) : (s.setFlag x v).pending = s.pending := State.setF_pending s x (b2n v)
@[simp] theorem State.setFlag_part (s : State) (x : Fld) (v : Bool) : (s.setFlag x v).part = s.part := State.setF_part s x (b2n v)
@[simp] theorem State.setFlag_phase (s : State) (x : Fld) (v : Bool) : (s.setFlag x v).phase = s.phase := State.setF_phase s x (b2n v)
@[simp] theorem State.setFlag_free (s : State) (x : Fld) (v : Bool) : (s.setFlag x v).free = s.free := State.setF_free s x (b2n v)
@[simp] theorem State.setFlag_nextId (s : State) (x : Fld) (v : Bool) : (s.setFlag x v).nextId = s.nextId := State.setF_nextId s x (b2n v)
@[simp] theorem State.setFlag_cnts (s : State) (x : Fld) (v : Bool) : (s.setFlag x v).cnts = s.cnts := State.setF_cnts s x (b2n v)
@[simp] theorem State.setFlag_frozen (s : State) (x : Fld) (v : Bool) : (s.setFlag x v).frozen = s.frozen := State.setF_frozen s x (b2n v)
@[simp] theorem State.setFlag_resetting (s : State) (x : Fld) (v : Bool) : (s.setFlag x v).resetting = s.resetting := State.setF_resetting s x (b2n v)
@[simp] theorem State.setFlag_time (s : State) (x : Fld) (v : Bool) : (s.setFlag x v).time = s.time := State.setF_time s x (b2n v)
@[simp] theorem State.setFlag_mmio (s : State) (x : Fld) (v : Bool) : (s.setFlag x v).mmio = s.mmio := State.setF_mmio s x (b2n v)
@[simp] theorem State.setFlag_fwp (s : State) (x : Fld) (v : Bool) : (s.setFlag x v).fwp = s.fwp := State.setF_fwp s x (b2n v)
@[simp] theorem State.setFlag_seqs (s : State) (x : Fld) (v : Bool) : (s.setFlag x v).seqs = s.seqs := State.setF_seqs s x (b2n v)
@[simp] theorem State.setFlag_reqs (s : State) (x : Fld) (v : Bool) : (s.setFlag x v).reqs = s.reqs := State.setF_reqs s x (b2n v)
@[simp] theorem State.setFlag_ktu (s : State) (x : Fld) (v : Bool) : (s.setFlag x v).ktu = s.ktu := State.setF_ktu s x (b2n v)
@[simp] theorem State.setFlag_flt (s : State) (x : Fld) (v : Bool) : (s.setFlag x v).flt = s.flt := State.setF_flt s x (b2n v)
@[simp] theorem State.setFlag_acts (s : State) (x : Fld) (v : Bool) : (s.setFlag x v).acts = s.acts := State.setF_acts s x (b2n v)
@[simp] theorem State.setFlag_rtb (s : State) (x : Fld) (v : Bool) : (s.setFlag x v).rtb = s.rtb := State.setF_rtb s x (b2n v)
@[simp] theorem State.setFlag_txq (s : State) (x : Fld) (v : Bool) : (s.setFlag x v).txq = s.txq := State.setF_txq s x (b2n v)
@[simp] theorem State.setFlag_lines (s : State) (x : Fld) (v : Bool) : (s.setFlag x v).lines = s.lines := State.setF_lines s x (b2n v)
@[simp] theorem State.setFlag_tsh (s : State) (x : Fld) (v : Bool) : (s.setFlag x v).tsh = s.tsh := State.setF_tsh s x (b2n v)
@[simp] theorem State.setFlag_cxl (s : State) (x : Fld) (v : Bool) : (s.setFlag x v).cxl = s.cxl := State.setF_cxl s x (b2n v)
@[simp] theorem State.setFlag_logq (s : State) (x : Fld) (v : Bool) : (s.setFlag x v).logq = s.logq := State.setF_logq s x (b2n v)
@[simp] theorem State.setFlag_hps (s : State) (x : Fld) (v : Bool) : (s.setFlag x v).hps = s.hps := State.setF_hps s x (b2n v)
@[simp] theorem State.setFlag_mem (s : State) (x : Fld) (v : Bool) : (s.setFlag x v).mem = s.mem := State.setF_mem s x (b2n v)
@[simp] theorem State.setFlag_chk (s : State) (x : Fld) (v : Bool) : (s.setFlag x v).chk = s.chk := State.setF_chk s x (b2n v)
@[simp] theorem State.setFlag_sc (s : State) (x : Fld) (v : Bool) : (s.setFlag x v).sc = s.sc := State.setF_sc s x (b2n v)
@[simp] theorem State.setFlag_wrd (s : State) (x : Fld) (v : Bool) : (s.setFlag x v).wrd = s.wrd := State.setF_wrd s x (b2n v)
@[simp] theorem State.setFlag_lch (s : State) (x : Fld) (v : Bool) : (s.setFlag x v).lch = s.lch := State.setF_lch s x (b2n v)
@[simp] theorem State.setFlag_epl (s : State) (x : Fld) (v : Bool) : (s.setFlag x v).epl = s.epl := State.setF_epl s x (b2n v)
@[simp] theorem State.setFlag_dir (s : State) (x : Fld) (v : Bool) : (s.setFlag x v).dir = s.dir := State.setF_dir s x (b2n v)
@[simp] theorem State.setFlag_init (s : State) (x : Fld) (v : Bool) : (s.setFlag x v).init = s.init := State.setF_init s x (b2n v)
@[simp] theorem State.setFlag_fwDown (s : State) (x : Fld) (v : Bool) : (s.setFlag x v).fwDown = s.fwDown := State.setF_fwDown s x (b2n v)
@[simp] theorem State.setFlag_lnks (s : State) (x : Fld) (v : Bool) : (s.setFlag x v).lnks = s.lnks := State.setF_lnks s x (b2n v)
@[simp] theorem State.setFlag_kpr (s : State) (x : Fld) (v : Bool) : (s.setFlag x v).kpr = s.kpr := State.setF_kpr s x (b2n v)
@[simp] theorem State.setFlag_pins (s : State) (x : Fld) (v : Bool) : (s.setFlag x v).pins = s.pins := State.setF_pins s x (b2n v)
@[simp] theorem State.setFlag_everReady (s : State) (x : Fld) (v : Bool) : (s.setFlag x v).everReady = s.everReady := State.setF_everReady s x (b2n v)
@[simp] theorem State.setFlag_flash (s : State) (x : Fld) (v : Bool) : (s.setFlag x v).flash = s.flash := State.setF_flash s x (b2n v)
@[simp] theorem State.setFlag_fw (s : State) (x : Fld) (v : Bool) : (s.setFlag x v).fw = s.fw := State.setF_fw s x (b2n v)
@[simp] theorem State.setFlag_inj (s : State) (x : Fld) (v : Bool) : (s.setFlag x v).inj = s.inj := State.setF_inj s x (b2n v)
@[simp] theorem State.setFlag_board (s : State) (x : Fld) (v : Bool) : (s.setFlag x v).board = s.board := State.setF_board s x (b2n v)
@[simp] theorem State.setFlag_failedPorts (s : State) (x : Fld) (v : Bool) : (s.setFlag x v).failedPorts = s.failedPorts := State.setF_failedPorts s x (b2n v)

/-! ### State.addCnt -/

@[simp] theorem State.addCnt_pending (s : State) (o n : Nat) : (s.addCnt o n).pending = s.pending := by
  unfold State.addCnt; dsimp only; split
  · rfl
  · exact State.setFlag_pending _ _ _
@[simp] theorem State.addCnt_part (s : State) (o n : Nat) : (s.addCnt o n).part = s.part := by
  unfold State.addCnt; dsimp only; split
  · rfl
  · exact State.setFlag_part _ _ _
@[simp] theorem State.addCnt_phase (s : State) (o n : Nat) : (s.addCnt o n).phase = s.phase := by
  unfold State.addCnt; dsimp only; split
  · rfl
  · exact State.setFlag_phase _ _ _
@[simp] theorem State.addCnt_free (s : State) (o n : Nat) : (s.addCnt o n).free = s.free := by
  unfold State.addCnt; dsimp only; split
  · rfl
  · exact State.setFlag_free _ _ _
@[simp] theorem State.addCnt_nextId (s : State) (o n : Nat) : (s.addCnt o n).nextId = s.nextId := by
  unfold State.addCnt; dsimp only; split
  · rfl
  · exact State.setFlag_nextId _ _ _
@[simp] theorem State.addCnt_frozen (s : State) (o n : Nat) : (s.addCnt o n).frozen = s.frozen := by
  unfold State.addCnt; dsimp only; split
  · rfl
  · exact State.setFlag_frozen _ _ _
@[simp] theorem State.addCnt_resetting (s : State) (o n : Nat) : (s.addCnt o n).resetting = s.resetting := by
  unfold State.addCnt; dsimp only; split
  · rfl
  · exact State.setFlag_resetting _ _ _
@[simp] theorem State.addCnt_time (s : State) (o n : Nat) : (s.addCnt o n).time = s.time := by
  unfold State.addCnt; dsimp only; split
  · rfl
  · exact State.setFlag_time _ _ _
@[simp] theorem State.addCnt_mmio (s : State) (o n : Nat) : (s.addCnt o n).mmio = s.mmio := by
  unfold State.addCnt; dsimp only; split
  · rfl
  · exact State.setFlag_mmio _ _ _
@[simp] theorem State.addCnt_fwp (s : State) (o n : Nat) : (s.addCnt o n).fwp = s.fwp := by
  unfold State.addCnt; dsimp only; split
  · rfl
  · exact State.setFlag_fwp _ _ _
@[simp] theorem State.addCnt_seqs (s : State) (o n : Nat) : (s.addCnt o n).seqs = s.seqs := by
  unfold State.addCnt; dsimp only; split
  · rfl
  · exact State.setFlag_seqs _ _ _
@[simp] theorem State.addCnt_reqs (s : State) (o n : Nat) : (s.addCnt o n).reqs = s.reqs := by
  unfold State.addCnt; dsimp only; split
  · rfl
  · exact State.setFlag_reqs _ _ _
@[simp] theorem State.addCnt_ktu (s : State) (o n : Nat) : (s.addCnt o n).ktu = s.ktu := by
  unfold State.addCnt; dsimp only; split
  · rfl
  · exact State.setFlag_ktu _ _ _
@[simp] theorem State.addCnt_flt (s : State) (o n : Nat) : (s.addCnt o n).flt = s.flt := by
  unfold State.addCnt; dsimp only; split
  · rfl
  · exact State.setFlag_flt _ _ _
@[simp] theorem State.addCnt_acts (s : State) (o n : Nat) : (s.addCnt o n).acts = s.acts := by
  unfold State.addCnt; dsimp only; split
  · rfl
  · exact State.setFlag_acts _ _ _
@[simp] theorem State.addCnt_rtb (s : State) (o n : Nat) : (s.addCnt o n).rtb = s.rtb := by
  unfold State.addCnt; dsimp only; split
  · rfl
  · exact State.setFlag_rtb _ _ _
@[simp] theorem State.addCnt_txq (s : State) (o n : Nat) : (s.addCnt o n).txq = s.txq := by
  unfold State.addCnt; dsimp only; split
  · rfl
  · exact State.setFlag_txq _ _ _
@[simp] theorem State.addCnt_lines (s : State) (o n : Nat) : (s.addCnt o n).lines = s.lines := by
  unfold State.addCnt; dsimp only; split
  · rfl
  · exact State.setFlag_lines _ _ _
@[simp] theorem State.addCnt_tsh (s : State) (o n : Nat) : (s.addCnt o n).tsh = s.tsh := by
  unfold State.addCnt; dsimp only; split
  · rfl
  · exact State.setFlag_tsh _ _ _
@[simp] theorem State.addCnt_cxl (s : State) (o n : Nat) : (s.addCnt o n).cxl = s.cxl := by
  unfold State.addCnt; dsimp only; split
  · rfl
  · exact State.setFlag_cxl _ _ _
@[simp] theorem State.addCnt_logq (s : State) (o n : Nat) : (s.addCnt o n).logq = s.logq := by
  unfold State.addCnt; dsimp only; split
  · rfl
  · exact State.setFlag_logq _ _ _
@[simp] theorem State.addCnt_hps (s : State) (o n : Nat) : (s.addCnt o n).hps = s.hps := by
  unfold State.addCnt; dsimp only; split
  · rfl
  · exact State.setFlag_hps _ _ _
@[simp] theorem State.addCnt_mem (s : State) (o n : Nat) : (s.addCnt o n).mem = s.mem := by
  unfold State.addCnt; dsimp only; split
  · rfl
  · exact State.setFlag_mem _ _ _
@[simp] theorem State.addCnt_chk (s : State) (o n : Nat) : (s.addCnt o n).chk = s.chk := by
  unfold State.addCnt; dsimp only; split
  · rfl
  · exact State.setFlag_chk _ _ _
@[simp] theorem State.addCnt_sc (s : State) (o n : Nat) : (s.addCnt o n).sc = s.sc := by
  unfold State.addCnt; dsimp only; split
  · rfl
  · exact State.setFlag_sc _ _ _
@[simp] theorem State.addCnt_wrd (s : State) (o n : Nat) : (s.addCnt o n).wrd = s.wrd := by
  unfold State.addCnt; dsimp only; split
  · rfl
  · exact State.setFlag_wrd _ _ _
@[simp] theorem State.addCnt_lch (s : State) (o n : Nat) : (s.addCnt o n).lch = s.lch := by
  unfold State.addCnt; dsimp only; split
  · rfl
  · exact State.setFlag_lch _ _ _
@[simp] theorem State.addCnt_epl (s : State) (o n : Nat) : (s.addCnt o n).epl = s.epl := by
  unfold State.addCnt; dsimp only; split
  · rfl
  · exact State.setFlag_epl _ _ _
@[simp] theorem State.addCnt_dir (s : State) (o n : Nat) : (s.addCnt o n).dir = s.dir := by
  unfold State.addCnt; dsimp only; split
  · rfl
  · exact State.setFlag_dir _ _ _
@[simp] theorem State.addCnt_init (s : State) (o n : Nat) : (s.addCnt o n).init = s.init := by
  unfold State.addCnt; dsimp only; split
  · rfl
  · exact State.setFlag_init _ _ _
@[simp] theorem State.addCnt_fwDown (s : State) (o n : Nat) : (s.addCnt o n).fwDown = s.fwDown := by
  unfold State.addCnt; dsimp only; split
  · rfl
  · exact State.setFlag_fwDown _ _ _
@[simp] theorem State.addCnt_lnks (s : State) (o n : Nat) : (s.addCnt o n).lnks = s.lnks := by
  unfold State.addCnt; dsimp only; split
  · rfl
  · exact State.setFlag_lnks _ _ _
@[simp] theorem State.addCnt_kpr (s : State) (o n : Nat) : (s.addCnt o n).kpr = s.kpr := by
  unfold State.addCnt; dsimp only; split
  · rfl
  · exact State.setFlag_kpr _ _ _
@[simp] theorem State.addCnt_pins (s : State) (o n : Nat) : (s.addCnt o n).pins = s.pins := by
  unfold State.addCnt; dsimp only; split
  · rfl
  · exact State.setFlag_pins _ _ _
@[simp] theorem State.addCnt_everReady (s : State) (o n : Nat) : (s.addCnt o n).everReady = s.everReady := by
  unfold State.addCnt; dsimp only; split
  · rfl
  · exact State.setFlag_everReady _ _ _
@[simp] theorem State.addCnt_flash (s : State) (o n : Nat) : (s.addCnt o n).flash = s.flash := by
  unfold State.addCnt; dsimp only; split
  · rfl
  · exact State.setFlag_flash _ _ _
@[simp] theorem State.addCnt_fw (s : State) (o n : Nat) : (s.addCnt o n).fw = s.fw := by
  unfold State.addCnt; dsimp only; split
  · rfl
  · exact State.setFlag_fw _ _ _
@[simp] theorem State.addCnt_inj (s : State) (o n : Nat) : (s.addCnt o n).inj = s.inj := by
  unfold State.addCnt; dsimp only; split
  · rfl
  · exact State.setFlag_inj _ _ _
@[simp] theorem State.addCnt_board (s : State) (o n : Nat) : (s.addCnt o n).board = s.board := by
  unfold State.addCnt; dsimp only; split
  · rfl
  · exact State.setFlag_board _ _ _
@[simp] theorem State.addCnt_failedPorts (s : State) (o n : Nat) : (s.addCnt o n).failedPorts = s.failedPorts := by
  unfold State.addCnt; dsimp only; split
  · rfl
  · exact State.setFlag_failedPorts _ _ _

/-! ### State.bump -/

@[simp] theorem State.bump_pending (s : State) (o : Nat) : (s.bump o).pending = s.pending := State.addCnt_pending s o 1
@[simp] theorem State.bump_part (s : State) (o : Nat) : (s.bump o).part = s.part := State.addCnt_part s o 1
@[simp] theorem State.bump_phase (s : State) (o : Nat) : (s.bump o).phase = s.phase := State.addCnt_phase s o 1
@[simp] theorem State.bump_free (s : State) (o : Nat) : (s.bump o).free = s.free := State.addCnt_free s o 1
@[simp] theorem State.bump_nextId (s : State) (o : Nat) : (s.bump o).nextId = s.nextId := State.addCnt_nextId s o 1
@[simp] theorem State.bump_frozen (s : State) (o : Nat) : (s.bump o).frozen = s.frozen := State.addCnt_frozen s o 1
@[simp] theorem State.bump_resetting (s : State) (o : Nat) : (s.bump o).resetting = s.resetting := State.addCnt_resetting s o 1
@[simp] theorem State.bump_time (s : State) (o : Nat) : (s.bump o).time = s.time := State.addCnt_time s o 1
@[simp] theorem State.bump_mmio (s : State) (o : Nat) : (s.bump o).mmio = s.mmio := State.addCnt_mmio s o 1
@[simp] theorem State.bump_fwp (s : State) (o : Nat) : (s.bump o).fwp = s.fwp := State.addCnt_fwp s o 1
@[simp] theorem State.bump_seqs (s : State) (o : Nat) : (s.bump o).seqs = s.seqs := State.addCnt_seqs s o 1
@[simp] theorem State.bump_reqs (s : State) (o : Nat) : (s.bump o).reqs = s.reqs := State.addCnt_reqs s o 1
@[simp] theorem State.bump_ktu (s : State) (o : Nat) : (s.bump o).ktu = s.ktu := State.addCnt_ktu s o 1
@[simp] theorem State.bump_flt (s : State) (o : Nat) : (s.bump o).flt = s.flt := State.addCnt_flt s o 1
@[simp] theorem State.bump_acts (s : State) (o : Nat) : (s.bump o).acts = s.acts := State.addCnt_acts s o 1
@[simp] theorem State.bump_rtb (s : State) (o : Nat) : (s.bump o).rtb = s.rtb := State.addCnt_rtb s o 1
@[simp] theorem State.bump_txq (s : State) (o : Nat) : (s.bump o).txq = s.txq := State.addCnt_txq s o 1
@[simp] theorem State.bump_lines (s : State) (o : Nat) : (s.bump o).lines = s.lines := State.addCnt_lines s o 1
@[simp] theorem State.bump_tsh (s : State) (o : Nat) : (s.bump o).tsh = s.tsh := State.addCnt_tsh s o 1
@[simp] theorem State.bump_cxl (s : State) (o : Nat) : (s.bump o).cxl = s.cxl := State.addCnt_cxl s o 1
@[simp] theorem State.bump_logq (s : State) (o : Nat) : (s.bump o).logq = s.logq := State.addCnt_logq s o 1
@[simp] theorem State.bump_hps (s : State) (o : Nat) : (s.bump o).hps = s.hps := State.addCnt_hps s o 1
@[simp] theorem State.bump_mem (s : State) (o : Nat) : (s.bump o).mem = s.mem := State.addCnt_mem s o 1
@[simp] theorem State.bump_chk (s : State) (o : Nat) : (s.bump o).chk = s.chk := State.addCnt_chk s o 1
@[simp] theorem State.bump_sc (s : State) (o : Nat) : (s.bump o).sc = s.sc := State.addCnt_sc s o 1
@[simp] theorem State.bump_wrd (s : State) (o : Nat) : (s.bump o).wrd = s.wrd := State.addCnt_wrd s o 1
@[simp] theorem State.bump_lch (s : State) (o : Nat) : (s.bump o).lch = s.lch := State.addCnt_lch s o 1
@[simp] theorem State.bump_epl (s : State) (o : Nat) : (s.bump o).epl = s.epl := State.addCnt_epl s o 1
@[simp] theorem State.bump_dir (s : State) (o : Nat) : (s.bump o).dir = s.dir := State.addCnt_dir s o 1
@[simp] theorem State.bump_init (s : State) (o : Nat) : (s.bump o).init = s.init := State.addCnt_init s o 1
@[simp] theorem State.bump_fwDown (s : State) (o : Nat) : (s.bump o).fwDown = s.fwDown := State.addCnt_fwDown s o 1
@[simp] theorem State.bump_lnks (s : State) (o : Nat) : (s.bump o).lnks = s.lnks := State.addCnt_lnks s o 1
@[simp] theorem State.bump_kpr (s : State) (o : Nat) : (s.bump o).kpr = s.kpr := State.addCnt_kpr s o 1
@[simp] theorem State.bump_pins (s : State) (o : Nat) : (s.bump o).pins = s.pins := State.addCnt_pins s o 1
@[simp] theorem State.bump_everReady (s : State) (o : Nat) : (s.bump o).everReady = s.everReady := State.addCnt_everReady s o 1
@[simp] theorem State.bump_flash (s : State) (o : Nat) : (s.bump o).flash = s.flash := State.addCnt_flash s o 1
@[simp] theorem State.bump_fw (s : State) (o : Nat) : (s.bump o).fw = s.fw := State.addCnt_fw s o 1
@[simp] theorem State.bump_inj (s : State) (o : Nat) : (s.bump o).inj = s.inj := State.addCnt_inj s o 1
@[simp] theorem State.bump_board (s : State) (o : Nat) : (s.bump o).board = s.board := State.addCnt_board s o 1
@[simp] theorem State.bump_failedPorts (s : State) (o : Nat) : (s.bump o).failedPorts = s.failedPorts := State.addCnt_failedPorts s o 1

/-! ### State.emit -/

@[simp] theorem State.emit_pending (s : State) (o : Out) : (s.emit o).pending = s.pending := rfl
@[simp] theorem State.emit_part (s : State) (o : Out) : (s.emit o).part = s.part := rfl
@[simp] theorem State.emit_phase (s : State) (o : Out) : (s.emit o).phase = s.phase := rfl
@[simp] theorem State.emit_free (s : State) (o : Out) : (s.emit o).free = s.free := rfl
@[simp] theorem State.emit_nextId (s : State) (o : Out) : (s.emit o).nextId = s.nextId := rfl
@[simp] theorem State.emit_regs (s : State) (o : Out) : (s.emit o).regs = s.regs := rfl
@[simp] theorem State.emit_cnts (s : State) (o : Out) : (s.emit o).cnts = s.cnts := rfl
@[simp] theorem State.emit_frozen (s : State) (o : Out) : (s.emit o).frozen = s.frozen := rfl
@[simp] theorem State.emit_resetting (s : State) (o : Out) : (s.emit o).resetting = s.resetting := rfl
@[simp] theorem State.emit_time (s : State) (o : Out) : (s.emit o).time = s.time := rfl
@[simp] theorem State.emit_mmio (s : State) (o : Out) : (s.emit o).mmio = s.mmio := rfl
@[simp] theorem State.emit_fwp (s : State) (o : Out) : (s.emit o).fwp = s.fwp := rfl
@[simp] theorem State.emit_seqs (s : State) (o : Out) : (s.emit o).seqs = s.seqs := rfl
@[simp] theorem State.emit_reqs (s : State) (o : Out) : (s.emit o).reqs = s.reqs := rfl
@[simp] theorem State.emit_ktu (s : State) (o : Out) : (s.emit o).ktu = s.ktu := rfl
@[simp] theorem State.emit_flt (s : State) (o : Out) : (s.emit o).flt = s.flt := rfl
@[simp] theorem State.emit_acts (s : State) (o : Out) : (s.emit o).acts = s.acts := rfl
@[simp] theorem State.emit_rtb (s : State) (o : Out) : (s.emit o).rtb = s.rtb := rfl
@[simp] theorem State.emit_txq (s : State) (o : Out) : (s.emit o).txq = s.txq := rfl
@[simp] theorem State.emit_tsh (s : State) (o : Out) : (s.emit o).tsh = s.tsh := rfl
@[simp] theorem State.emit_cxl (s : State) (o : Out) : (s.emit o).cxl = s.cxl := rfl
@[simp] theorem State.emit_logq (s : State) (o : Out) : (s.emit o).logq = s.logq := rfl
@[simp] theorem State.emit_hps (s : State) (o : Out) : (s.emit o).hps = s.hps := rfl
@[simp] theorem State.emit_mem (s : State) (o : Out) : (s.emit o).mem = s.mem := rfl
@[simp] theorem State.emit_chk (s : State) (o : Out) : (s.emit o).chk = s.chk := rfl
@[simp] theorem State.emit_sc (s : State) (o : Out) : (s.emit o).sc = s.sc := rfl
@[simp] theorem State.emit_wrd (s : State) (o : Out) : (s.emit o).wrd = s.wrd := rfl
@[simp] theorem State.emit_lch (s : State) (o : Out) : (s.emit o).lch = s.lch := rfl
@[simp] theorem State.emit_epl (s : State) (o : Out) : (s.emit o).epl = s.epl := rfl
@[simp] theorem State.emit_dir (s : State) (o : Out) : (s.emit o).dir = s.dir := rfl
@[simp] theorem State.emit_init (s : State) (o : Out) : (s.emit o).init = s.init := rfl
@[simp] theorem State.emit_fwDown (s : State) (o : Out) : (s.emit o).fwDown = s.fwDown := rfl
@[simp] theorem State.emit_lnks (s : State) (o : Out) : (s.emit o).lnks = s.lnks := rfl
@[simp] theorem State.emit_kpr (s : State) (o : Out) : (s.emit o).kpr = s.kpr := rfl
@[simp] theorem State.emit_pins (s : State) (o : Out) : (s.emit o).pins = s.pins := rfl
@[simp] theorem State.emit_everReady (s : State) (o : Out) : (s.emit o).everReady = s.everReady := rfl
@[simp] theorem State.emit_flash (s : State) (o : Out) : (s.emit o).flash = s.flash := rfl
@[simp] theorem State.emit_fw (s : State) (o : Out) : (s.emit o).fw = s.fw := rfl
@[simp] theorem State.emit_inj (s : State) (o : Out) : (s.emit o).inj = s.inj := rfl
@[simp] theorem State.emit_board (s : State) (o : Out) : (s.emit o).board = s.board := rfl
@[simp] theorem State.emit_failedPorts (s : State) (o : Out) : (s.emit o).failedPorts = s.failedPorts := rfl

/-! ### State.putSector -/

@[simp] theorem State.putSector_pending (s : State) (a : Nat) (d : List Byte) (c : List Nat) : (s.putSector a d c).pending = s.pending := rfl
@[simp] theorem State.putSector_part (s : State) (a : Nat) (d : List Byte) (c : List Nat) : (s.putSector a d c).part = s.part := rfl
@[simp] theorem State.putSector_phase (s : State) (a : Nat) (d : List Byte) (c : List Nat) : (s.putSector a d c).phase = s.phase := rfl
@[simp] theorem State.putSector_free (s : State) (a : Nat) (d : List Byte) (c : List Nat) : (s.putSector a d c).free = s.free := rfl
@[simp] theorem State.putSector_nextId (s : State) (a : Nat) (d : List Byte) (c : List Nat) : (s.putSector a d c).nextId = s.nextId := rfl
@[simp] theorem State.putSector_regs (s : State) (a : Nat) (d : List Byte) (c : List Nat) : (s.putSector a d c).regs = s.regs := rfl
@[simp] theorem State.putSector_cnts (s : State) (a : Nat) (d : List Byte) (c : List Nat) : (s.putSector a d c).cnts = s.cnts := rfl
@[simp] theorem State.putSector_frozen (s : State) (a : Nat) (d : List Byte) (c : List Nat) : (s.putSector a d c).frozen = s.frozen := rfl
@[simp] theorem State.putSector_resetting (s : State) (a : Nat) (d : List Byte) (c : List Nat) : (s.putSector a d c).resetting = s.resetting := rfl
@[simp] theorem State.putSector_time (s : State) (a : Nat) (d : List Byte) (c : List Nat) : (s.putSector a d c).time = s.time := rfl
@[simp] theorem State.putSector_mmio (s : State) (a : Nat) (d : List Byte) (c : List Nat) : (s.putSector a d c).mmio = s.mmio := rfl
@[simp] theorem State.putSector_fwp (s : State) (a : Nat) (d : List Byte) (c : List Nat) : (s.putSector a d c).fwp = s.fwp := rfl
@[simp] theorem State.putSector_seqs (s : State) (a : Nat) (d : List Byte) (c : List Nat) : (s.putSector a d c).seqs = s.seqs := rfl
@[simp] theorem State.putSector_reqs (s : State) (a : Nat) (d : List Byte) (c : List Nat) : (s.putSector a d c).reqs = s.reqs := rfl
@[simp] theorem State.putSector_ktu (s : State) (a : Nat) (d : List Byte) (c : List Nat) : (s.putSector a d c).ktu = s.ktu := rfl
@[simp] theorem State.putSector_flt (s : State) (a : Nat) (d : List Byte) (c : List Nat) : (s.putSector a d c).flt = s.flt := rfl
@[simp] theorem State.putSector_acts (s : State) (a : Nat) (d : List Byte) (c : List Nat) : (s.putSector a d c).acts = s.acts := rfl
@[simp] theorem State.putSector_rtb (s : State) (a : Nat) (d : List Byte) (c : List Nat) : (s.putSector a d c).rtb = s.rtb := rfl
@[simp] theorem State.putSector_txq (s : State) (a : Nat) (d : List Byte) (c : List Nat) : (s.putSector a d c).txq = s.txq := rfl
@[simp] theorem State.putSector_lines (s : State) (a : Nat) (d : List Byte) (c : List Nat) : (s.putSector a d c).lines = s.lines := rfl
@[simp] theorem State.putSector_tsh (s : State) (a : Nat) (d : List Byte) (c : List Nat) : (s.putSector a d c).tsh = s.tsh := rfl
@[simp] theorem State.putSector_cxl (s : State) (a : Nat) (d : List Byte) (c : List Nat) : (s.putSector a d c).cxl = s.cxl := rfl
@[simp] theorem State.putSector_logq (s : State) (a : Nat) (d : List Byte) (c : List Nat) : (s.putSector a d c).logq = s.logq := rfl
@[simp] theorem State.putSector_hps (s : State) (a : Nat) (d : List Byte) (c : List Nat) : (s.putSector a d c).hps = s.hps := rfl
@[simp] theorem State.putSector_sc (s : State) (a : Nat) (d : List Byte) (c : List Nat) : (s.putSector a d c).sc = s.sc := rfl
@[simp] theorem State.putSector_wrd (s : State) (a : Nat) (d : List Byte) (c : List Nat) : (s.putSector a d c).wrd = s.wrd := rfl
@[simp] theorem State.putSector_lch (s : State) (a : Nat) (d : List Byte) (c : List Nat) : (s.putSector a d c).lch = s.lch := rfl
@[simp] theorem State.putSector_epl (s : State) (a : Nat) (d : List Byte) (c : List Nat) : (s.putSector a d c).epl = s.epl := rfl
@[simp] theorem State.putSector_dir (s : State) (a : Nat) (d : List Byte) (c : List Nat) : (s.putSector a d c).dir = s.dir := rfl
@[simp] theorem State.putSector_init (s : State) (a : Nat) (d : List Byte) (c : List Nat) : (s.putSector a d c).init = s.init := rfl
@[simp] theorem State.putSector_fwDown (s : State) (a : Nat) (d : List Byte) (c : List Nat) : (s.putSector a d c).fwDown = s.fwDown := rfl
@[simp] theorem State.putSector_lnks (s : State) (a : Nat) (d : List Byte) (c : List Nat) : (s.putSector a d c).lnks = s.lnks := rfl
@[simp] theorem State.putSector_kpr (s : State) (a : Nat) (d : List Byte) (c : List Nat) : (s.putSector a d c).kpr = s.kpr := rfl
@[simp] theorem State.putSector_pins (s : State) (a : Nat) (d : List Byte) (c : List Nat) : (s.putSector a d c).pins = s.pins := rfl
@[simp] theorem State.putSector_everReady (s : State) (a : Nat) (d : List Byte) (c : List Nat) : (s.putSector a d c).everReady = s.everReady := rfl
@[simp] theorem State.putSector_flash (s : State) (a : Nat) (d : List Byte) (c : List Nat) : (s.putSector a d c).flash = s.flash := rfl
@[simp] theorem State.putSector_fw (s : State) (a : Nat) (d : List Byte) (c : List Nat) : (s.putSector a d c).fw = s.fw := rfl
@[simp] theorem State.putSector_inj (s : State) (a : Nat) (d : List Byte) (c : List Nat) : (s.putSector a d c).inj = s.inj := rfl
@[simp] theorem State.putSector_board (s : State) (a : Nat) (d : List Byte) (c : List Nat) : (s.putSector a d c).board = s.board := rfl
@[simp] theorem State.putSector_failedPorts (s : State) (a : Nat) (d : List Byte) (c : List Nat) : (s.putSector a d c).failedPorts = s.failedPorts := rfl

/-! ### State.setLnk -/

@[simp] theorem State.setLnk_pending (s : State) (p : Nat) (l : Lnk) : (s.setLnk p l).pending = s.pending := rfl
@[simp] theorem State.setLnk_part (s : State) (p : Nat) (l : Lnk) : (s.setLnk p l).part = s.part := rfl
@[simp] theorem State.setLnk_phase (s : State) (p : Nat) (l : Lnk) : (s.setLnk p l).phase = s.phase := rfl
@[simp] theorem State.setLnk_free (s : State) (p : Nat) (l : Lnk) : (s.setLnk p l).free = s.free := rfl
@[simp] theorem State.setLnk_nextId (s : State) (p : Nat) (l : Lnk) : (s.setLnk p l).nextId = s.nextId := rfl
@[simp] theorem State.setLnk_regs (s : State) (p : Nat) (l : Lnk) : (s.setLnk p l).regs = s.regs := rfl
@[simp] theorem State.setLnk_cnts (s : State) (p : Nat) (l : Lnk) : (s.setLnk p l).cnts = s.cnts := rfl
@[simp] theorem State.setLnk_frozen (s : State) (p : Nat) (l : Lnk) : (s.setLnk p l).frozen = s.frozen := rfl
@[simp] theorem State.setLnk_resetting (s : State) (p : Nat) (l : Lnk) : (s.setLnk p l).resetting = s.resetting := rfl
@[simp] theorem State.setLnk_time (s : State) (p : Nat) (l : Lnk) : (s.setLnk p l).time = s.time := rfl
@[simp] theorem State.setLnk_mmio (s : State) (p : Nat) (l : Lnk) : (s.setLnk p l).mmio = s.mmio := rfl
@[simp] theorem State.setLnk_fwp (s : State) (p : Nat) (l : Lnk) : (s.setLnk p l).fwp = s.fwp := rfl
@[simp] theorem State.setLnk_seqs (s : State) (p : Nat) (l : Lnk) : (s.setLnk p l).seqs = s.seqs := rfl
@[simp] theorem State.setLnk_reqs (s : State) (p : Nat) (l : Lnk) : (s.setLnk p l).reqs = s.reqs := rfl
@[simp] theorem State.setLnk_ktu (s : State) (p : Nat) (l : Lnk) : (s.setLnk p l).ktu = s.ktu := rfl
@[simp] theorem State.setLnk_flt (s : State) (p : Nat) (l : Lnk) : (s.setLnk p l).flt = s.flt := rfl
@[simp] theorem State.setLnk_acts (s : State) (p : Nat) (l : Lnk) : (s.setLnk p l).acts = s.acts := rfl
@[simp] theorem State.setLnk_rtb (s : State) (p : Nat) (l : Lnk) : (s.setLnk p l).rtb = s.rtb := rfl
@[simp] theorem State.setLnk_txq (s : State) (p : Nat) (l : Lnk) : (s.setLnk p l).txq = s.txq := rfl
@[simp] theorem State.setLnk_lines (s : State) (p : Nat) (l : Lnk) : (s.setLnk p l).lines = s.lines := rfl
@[simp] theorem State.setLnk_tsh (s : State) (p : Nat) (l : Lnk) : (s.setLnk p l).tsh = s.tsh := rfl
@[simp] theorem State.setLnk_cxl (s : State) (p : Nat) (l : Lnk) : (s.setLnk p l).cxl = s.cxl := rfl
@[simp] theorem State.setLnk_logq (s : State) (p : Nat) (l : Lnk) : (s.setLnk p l).logq = s.logq := rfl
@[simp] theorem State.setLnk_hps (s : State) (p : Nat) (l : Lnk) : (s.setLnk p l).hps = s.hps := rfl
@[simp] theorem State.setLnk_mem (s : State) (p : Nat) (l : Lnk) : (s.setLnk p l).mem = s.mem := rfl
@[simp] theorem State.setLnk_chk (s : State) (p : Nat) (l : Lnk) : (s.setLnk p l).chk = s.chk := rfl
@[simp] theorem State.setLnk_sc (s : State) (p : Nat) (l : Lnk) : (s.setLnk p l).sc = s.sc := rfl
@[simp] theorem State.setLnk_wrd (s : State) (p : Nat) (l : Lnk) : (s.setLnk p l).wrd = s.wrd := rfl
@[simp] theorem State.setLnk_lch (s : State) (p : Nat) (l : Lnk) : (s.setLnk p l).lch = s.lch := rfl
@[simp] theorem State.setLnk_epl (s : State) (p : Nat) (l : Lnk) : (s.setLnk p l).epl = s.epl := rfl
@[simp] theorem State.setLnk_dir (s : State) (p : Nat) (l : Lnk) : (s.setLnk p l).dir = s.dir := rfl
@[simp] theorem State.setLnk_init (s : State) (p : Nat) (l : Lnk) : (s.setLnk p l).init = s.init := rfl
@[simp] theorem State.setLnk_fwDown (s : State) (p : Nat) (l : Lnk) : (s.setLnk p l).fwDown = s.fwDown := rfl
@[simp] theorem State.setLnk_kpr (s : State) (p : Nat) (l : Lnk) : (s.setLnk p l).kpr = s.kpr := rfl
@[simp] theorem State.setLnk_pins (s : State) (p : Nat) (l : Lnk) : (s.setLnk p l).pins = s.pins := rfl
@[simp] theorem State.setLnk_everReady (s : State) (p : Nat) (l : Lnk) : (s.setLnk p l).everReady = s.everReady := rfl
@[simp] theorem State.setLnk_flash (s : State) (p : Nat) (l : Lnk) : (s.setLnk p l).flash = s.flash := rfl
@[simp] theorem State.setLnk_fw (s : State) (p : Nat) (l : Lnk) : (s.setLnk p l).fw = s.fw := rfl
@[simp] theorem State.setLnk_inj (s : State) (p : Nat) (l : Lnk) : (s.setLnk p l).inj = s.inj := rfl
@[simp] theorem State.setLnk_board (s : State) (p : Nat) (l : Lnk) : (s.setLnk p l).board = s.board := rfl
@[simp] theorem State.setLnk_failedPorts (s : State) (p : Nat) (l : Lnk) : (s.setLnk p l).failedPorts = s.failedPorts := rfl

/-! ### Reading what was not written -/

/-- Fields are read from the register words. -/
theorem f_of_regs (s t : State) (x : Fld) (h : s.regs = t.regs) : s.f x = t.f x := by simp only [State.f, State.word, State.word64, h]

theorem flag_of_regs (s t : State) (x : Fld) (h : s.regs = t.regs) : s.flag x = t.flag x := by simp only [State.flag, f_of_regs s t x h]

@[simp] theorem State.emit_f (s : State) (o : Out) (x : Fld) : (s.emit o).f x = s.f x := rfl
@[simp] theorem State.emit_flag (s : State) (o : Out) (x : Fld) : (s.emit o).flag x = s.flag x := rfl
@[simp] theorem State.putSector_f (s : State) (a : Nat) (d : List Byte) (c : List Nat) (x : Fld) : (s.putSector a d c).f x = s.f x := rfl
@[simp] theorem State.setLnk_f (s : State) (p : Nat) (l : Lnk) (x : Fld) : (s.setLnk p l).f x = s.f x := rfl
@[simp] theorem State.setLnk_flag (s : State) (p : Nat) (l : Lnk) (x : Fld) : (s.setLnk p l).flag x = s.flag x := rfl

end Sys2Proof.Machine
end

