-- ==== Sys2Proof/Tests/Slice0.lean ====
section
/-! SUPPORT. Tests: what WellFormed refuses, single steps with results worked out from the rules, and states that meet the hypotheses of each
statement. -/

namespace Sys2Proof.Tests

open Sys2Proof Sys2Proof.Machine

set_option Elab.async false

/-! ### States and packets -/

/-- READY, with node ID 0x101, port 0 and hinge port 4 ACTIVE, and the CXL link up. -/
def net : State :=
  ((((State.reset.setF Reg.RTB_NODE.ID 0x101).setFlag Reg.RTB_NODE.ID_VALID true).setF (Reg.SWP_STAT.STATE 0) 4).setF
    (Reg.SWP_STAT.STATE 4) 4).setFlag Reg.CXP_STAT.LINK_UP true

/-- A packet from node 5 to this chip. -/
def pkt (vc opcode addr op : Nat) (payload : List Byte) : Packet :=
  ({ dest := 0x101, src := 5, inter := 0, vc := vc, phase := if vc = 1 ∨ vc = 5 then 1 else 0, opcode := opcode, addr := addr, op := op, payload := payload } : Form).packet

/-- The request a packet on port 0 becomes. -/
def taken (s : State) (p : Packet) : State × Req := (s.local 0 p).reqTaken 0 (s.asHere 0 p) 65536

/-- The hypotheses of the statements about requests. -/
def canRun (s : State) (p : Packet) : Bool :=
  s.portOpen 0 && (s.landed 0 p).mine p && (s.local 0 p).takesReq (s.asHere 0 p) 65536 && State.runsNow (taken s p)

/-- A request as it waits. -/
def rq (p : Packet) : Req := ⟨7, p, 0, none, 0, true, false, false, none, [], false, true, 0, none, false, false, 0, 0⟩

/-- An operation as it stands before its first chunk. -/
def op0 : Wop := ⟨7, false, [], [], [], [], none, false, false, false, [], false, [], [], [], [], 0, none, none, false, 0⟩

/-! ### What WellFormed refuses and takes -/

/-- A packet by opcode, operation word and virtual channel. -/
def pk (opcode op vc : Nat) : Packet := ({ dest := 0, src := 0, vc := vc, opcode := opcode, op := op } : Form).packet

/-- An SPDM request by transport. -/
def sp (via : Nat) : SpdmMsg := ⟨via, none, [0], []⟩

/-- A mailbox command by logical device. -/
def mb (ld : Nat) : Mailbox := ⟨ld, [], []⟩

/-- CXL.mem requests: the last tag, and a line off its alignment. -/
def cx : CxlMem := ⟨15, 64, false, 3, 0, 65535, false, 2 ^ 64 - 1, []⟩
def cxBad : CxlMem := { cx with hpa := 65 }

/-- A control block with a message of a type. -/
def lb (ty : Nat) : Lcb := ⟨zeros 8 ++ leBytes 2 ty ++ zeros 246⟩

/-- Straps and stacks at their bounds, and past them. -/
def bd : BoardInputs := ⟨true, 3, false, [(0x3FFFFFF, 0)], 4095, none⟩
def bdBad : BoardInputs := { bd with flash := [(0x4000000, 0)] }

/-- HDM decoders at their bounds, and past them. -/
def hd : HdmDecoder := ⟨2 ^ 64 - 1, 2 ^ 64 - 1, 1, 256, 2 ^ 64 - 1, true, false⟩
def hdBad : HdmDecoder := { hd with base := 2 ^ 64 }

/-- Operands at the ends of their ranges are taken. -/
theorem test_wf_takes_0 : ([
    .read 0 (pk 1 0 1), .write 0 (pk 2 0 1), .writeMasked 0 (pk 3 0 1), .seqGapTimeout (8192 + 16 - 1) (65536 - 1),
    .seqEntryWindowEnd (8192 + 16 - 1), .orderedStart (8192 + 16 - 1) (65536 - 1), .ptnEntryWrite .mmio (64 - 1) (4 - 1) 0,
    .ptnGntWrite .mmio (256 - 1) 0, .ptnSubQscWrite .mmio 0, .quiesceComplete (64 - 1), .ptnInit .mmio 0, .ptnInitDone, .ptnInitStop,
    .kwLoad .mmio, .kwStore .mmio, .ktuLdKeywayWrite .mmio (16 - 1) 0, .walkFetchComplete 0 true [], .walkFetchTimeout 0, .missDequeue (1024 - 1),
    .chunkTranslateRetry 0 0, .chunkTranslateAbort 0 0, .ktuInvCmd .mmio 0, .invDone, .fltRingTailWrite .mmio 0, .fltRingCtrlWrite .mmio 0,
    .fill 0 (pk 0x10 0 1), .copy 0 (pk 0x11 0 1), .copyRemote 0 (pk 0x15 0 1), .compare 0 (pk 0x12 0 1), .reduce 0 (pk 0x13 0 1),
    .gatherReduce 0 (pk 0x14 0 1), .atomic 0 (pk 0x18 0 1), .colReduce 0 (pk 0x23 0 1), .chunkIssue 0 0 (96 - 1), .chunkComplete 0 0,
    .remoteWriteResponse 0 (pk 0x82 0 1), .remoteWriteResend 0 0, .remoteWriteTimeout 0 0, .colDescriptor 0 (pk 0x23 0 4),
    .colPartial 0 (pk 0x23 0 4), .colTimeout 0 (4096 - 1), .wardWaitTimeout 0, .quantumExpiry (96 - 1), .wrdCtxWrite .mmio (256 - 1) 0,
    .engineFault (96 - 1), .kvAppend 0 (pk 0x20 0 1), .attend 0 (pk 0x21 0 1), .attendMergeDescend 0 (pk 0x22 0 1),
    .attendMergePartial 0 (pk 0x22 1 1), .mergeTimeout 0 (4096 - 1), .latchAdd 0 (pk 0x30 0 1), .latchSub 0 (pk 0x31 0 1),
    .latchWait 0 (pk 0x32 0 1), .latchRead 0 (pk 0x33 0 1), .latchSet 0 (pk 0x34 0 1), .latchWaitTimeout (4096 - 1), .deadlockTest,
    .lchAccRead .mmio, .lchAccSet .mmio, .snapshotRelease .mmio] : List Instr).all (fun i => i.wf) = true := by
  decide +kernel

/-- Operands at the ends of their ranges are taken. -/
theorem test_wf_takes_1 : ([
    .lchGrpWrite .mmio 0 0, .rdShared 0 (pk 0x40 0 1), .rdOwn 0 (pk 0x41 0 1), .upgrade 0 (pk 0x42 0 1), .rdCur 0 (pk 0x43 0 1),
    .wbDirty 0 (pk 0x44 0 1), .evictClean 0 (pk 0x45 0 1), .snoopResponse 0 (pk 0xC8 0 1), .compAck 0 (pk 0x4C 0 1), .snoopTimeout 0 (512 - 1),
    .dirAgentWrite .mmio (512 - 1) 0, .dirFence .mmio (512 - 1), .dirFenceDone (512 - 1), .dirUnfence .mmio (512 - 1), .dirFlush .mmio,
    .dirFlushDone, .cxlMemRd cx, .cxlMemRdData cx, .cxlMemInv cx, .cxlMemWr cx, .cxlBiRsp (16 - 1) 0 .rspI, .cxlBiConflict (16 - 1) 0,
    .cxlHoldRelease (16 - 1), .scChQscWrite .mmio (12 - 1) 0, .channelQuiesceDone (12 - 1) (32 - 1), .scTimingWrite .mmio (12 - 1) 0 0,
    .arbiterGrant (12 - 1), .sectorCommandIssue (12 - 1) (32 - 1) (2 - 1), .refreshDue (12 - 1) (32 - 1) (2 - 1) (32 - 1),
    .sectorReadComplete (17 - 1) 0 [], .scrubRead (12 - 1), .ceBucketLeak (12 - 1), .retirementCopyDone (12 - 1) 0, .retirementLog (12 - 1) 0,
    .scOffline .mmio (12 - 1) 0, .stackFault (12 - 1), .stackTempSample (12 - 1) (256 - 1), .flitSlot (6 - 1), .flitReceive (6 - 1) ⟨zeros 256⟩,
    .replayTimeout (6 - 1), .hello 0 (lb 1), .identity 0 (lb 2), .keyShare 0 (lb 3), .keyConfirm 0 (lb 4), .retrain 0 (lb 5),
    .rekeyShare 0 (lb 6), .rekeyConfirm 0 (lb 7), .swpRetrainWrite .mmio (6 - 1) 0, .retrainComplete (6 - 1) (3 - 1) (3 - 1),
    .retrainTimeout (6 - 1), .bringupAttempt (6 - 1), .lanesTrained (6 - 1) (3 - 1) (3 - 1), .trainingTimeout (6 - 1), .authTimeout (6 - 1),
    .rekeyStart (6 - 1), .rekeyTimeout (6 - 1), .transitForward 0 (pk 1 0 1), .routeUpdate 0 (pk 0x65 0 1), .rtbCommit .mmio (2 - 1),
    .rtbInvalidate .mmio (2 - 1)] : List Instr).all (fun i => i.wf) = true := by
  decide +kernel

/-- Operands at the ends of their ranges are taken. -/
theorem test_wf_takes_2 : ([
    .rtbFlip .mmio (2 - 1), .rtbMcWrite .mmio 0 0, .fence 0 (pk 0x66 0 1), .unfence 0 (pk 0x66 0x1000 1), .enumStart .mmio,
    .enumAssign 0 (pk 0x60 0 1), .enumAssignResponse 0 (pk 0xE0 0 1), .enumPortTimeout, .rtbNodeWrite .mmio 0, .timeReqDue,
    .timeReq 0 (pk 0x60 1 1), .timeReqResponse 0 (pk 0xE0 1 1), .rtbTimeSet .mmio 0, .mgtRead 0 (pk 0x61 0 1), .mgtWrite 0 (pk 0x62 0 1),
    .registerWrite .mmio 0 [0, 0, 0, 0], .bucketRefill, .calendarSlot (6 - 1), .congestionSample, .histogramSample, .tshHistClear .mmio,
    .meterUpdate (256 - 1) 0 true, .planIntervalBoundary, .planSubslot, .planStale, .setPowerLimit (2 ^ 32 - 1), .getPower, .getLastFatal,
    .pairEnWrite .mmio 0, .beatSend, .beat 0 (pk 0x67 0 1), .epochClose, .journal 0 (pk 0x67 1 1), .jrnlAck 0 (pk 0x67 2 1),
    .resyncReq 0 (pk 0x67 3 1), .resyncData 0 (pk 0x67 4 1), .leaseRenew, .leaseReq 0 (pk 0x67 5 1), .witnessGrantDue (16 - 1),
    .leaseGrant 0 (pk 0x67 6 1), .leaseRefuse 0 (pk 0x67 7 1), .leaseRelease 0 (pk 0x67 8 1), .leaseExpiry, .partnerLost, .takeoverComplete,
    .takeoverWindowEnd, .holdDrop 0, .pairStatusSend, .hpsSwitch .mmio, .switchDrainEnd, .joiningRetry, .escalationWindowClose (256 - 1),
    .fltAck .mmio 0, .notifyDepart, .fatalRelease .mmio, .haltContinue, .glbLastFatalClear .mmio, .glbCntClr .mmio 0, .glbRstWarm .mmio,
    .glbRstCold .mmio] : List Instr).all (fun i => i.wf) = true := by
  decide +kernel

/-- Operands at the ends of their ranges are taken. -/
theorem test_wf_takes_3 : ([
    .warmReset, .warmStartComplete, .cohResume .mmio, .blkSoftReset .mmio (1024 - 1), .blockResetDone (1024 - 1),
    .blkEnableWrite .mmio (1024 - 1) true, .blkFreezeWrite .mmio (1024 - 1) true, .ftmInject .mmio, .validateToken .mmio, .keeperToken [],
    .advanceSvn .mmio, .revokeSlot .mmio (65536 - 1), .streamRetire .mmio (65536 - 1), .streamRetireSub .mmio (65536 - 1),
    .streamRetireDone (256 - 1), .anchorSet .mmio (65536 - 1), .anchorClear .mmio (65536 - 1), .newChallenge .mmio, .spdmGetVersion (sp 0),
    .spdmGetCapabilities (sp 0), .spdmNegotiateAlgorithms (sp 0), .spdmGetDigests (sp 0), .spdmGetCertificate (sp 0), .spdmChallenge (sp 0),
    .spdmGetMeasurements (sp 0), .spdmKeyExchange (sp 0), .spdmFinish (sp 0), .spdmKeyUpdate (sp 0), .spdmHeartbeat (sp 0),
    .spdmEndSession (sp 0), .streamSetup (sp 0), .streamRetireRequest (sp 0), .rngFail, .rngRecover, .pwrGoodRise bd, .pwrGoodFall, .resetN,
    .warmResetN, .warmResetNRise, .thermtrip, .refclkLost, .controllerTempSample (List.replicate 16 40), .settingsSave .mmio,
    .settingsErase .mmio, .settingsSaveDone true, .logSelect .mmio 0, .fwChunk 0 (pk 0x64 0 1), .imageVerifyDone,
    .fwForwardResponse 0 (pk 0xE4 0 1), .fwForwardTimeout, .fwActivate .mmio, .compatUnchecked, .activationPreloadDone, .fwConfirm .mmio,
    .healthConfirmed, .healthTimeout, .commitCopyDone true, .fwRaise .mmio, .getLdInfo (mb 16), .getLdAllocations (mb 16)] : List Instr).all (fun i => i.wf) = true := by
  decide +kernel

/-- Operands at the ends of their ranges are taken. -/
theorem test_wf_takes_4 : ([
    .setLdAllocations (mb 16), .getQosControl (mb 16), .setQosControl (mb 16), .getQosStatus (mb 16), .getQosAllocatedBw (mb 16),
    .setQosAllocatedBw (mb 16), .getQosBwLimit (mb 16), .setQosBwLimit (mb 16), .identify (mb 16), .backgroundOperationStatus (mb 16),
    .getEventRecords (mb 16), .clearEventRecords (mb 16), .getEventInterruptPolicy (mb 16), .setEventInterruptPolicy (mb 16), .getFwInfo (mb 16),
    .transferFw (mb 16), .activateFw (mb 16), .getTimestamp (mb 16), .setTimestamp (mb 16), .getSupportedLogs (mb 16), .getLog (mb 16),
    .identifyMemoryDevice (mb 16), .getHealthInfo (mb 16), .getAlertConfiguration (mb 16), .setAlertConfiguration (mb 16), .getPoisonList (mb 16),
    .injectPoison (mb 16), .clearPoison (mb 16), .sanitize (mb 16), .sanitizeDone, .hdmDecoderCommit (16 - 1) (4 - 1) hd,
    .cxlLinkTrained 8 4 true, .cxlLinkDown, .cxlFlr (16 - 1), .cxlReset (16 - 1) true, .secondaryBusReset, .resetNRise bd,
    .witnessLeaseExpiry (16 - 1), .continuationTimeout, .biHoldTimeEnd 0, .vorerWatchdog, .vorerException, .pllRelock 0,
    .debugInstruction (256 - 1) (16 - 1) 0 0, .busMasterEnableWrite (16 - 1) true, .msixVectorUnmask (16 - 1) (64 - 1),
    .linkControlBlock (6 - 1) (lb 0), .mgtReadResponse 0 (pk 0xE1 0 1), .vsb1v8Removed, .railOutOfTolerance, .dynamicAddressAssign (128 - 1),
    .cxlResetMemClrDone (16 - 1)] : List Instr).all (fun i => i.wf) = true := by
  decide +kernel

/-- Operands one past their ranges, and packets or messages of another kind, are refused. -/
theorem test_wf_refuses_0 : ([
    .read 6 (pk 1 0 1), .read 0 { (pk 1 0 1) with tag := [0] }, .read 0 (pk 0 0 1), .write 6 (pk 2 0 1), .write 0 { (pk 2 0 1) with tag := [0] },
    .write 0 (pk 0 0 1), .writeMasked 6 (pk 3 0 1), .writeMasked 0 { (pk 3 0 1) with tag := [0] }, .writeMasked 0 (pk 0 0 1),
    .seqGapTimeout (8192 + 16) (65536 - 1), .seqGapTimeout (8192 + 16 - 1) (65536), .seqEntryWindowEnd (8192 + 16),
    .orderedStart (8192 + 16) (65536 - 1), .orderedStart (8192 + 16 - 1) (65536), .ptnEntryWrite .mmio (64) (4 - 1) 0,
    .ptnEntryWrite .mmio (64 - 1) (4) 0, .ptnEntryWrite (.mgt 4096 0 0 false) (64 - 1) (4 - 1) 0, .ptnGntWrite .mmio (256) 0,
    .ptnGntWrite (.mgt 4096 0 0 false) (256 - 1) 0, .ptnSubQscWrite (.mgt 4096 0 0 false) 0, .quiesceComplete (64),
    .ptnInit (.mgt 4096 0 0 false) 0, .kwLoad (.mgt 4096 0 0 false), .kwStore (.mgt 4096 0 0 false), .ktuLdKeywayWrite .mmio (16) 0,
    .ktuLdKeywayWrite (.mgt 4096 0 0 false) (16 - 1) 0, .walkFetchComplete 0 false [0], .missDequeue (1024), .ktuInvCmd (.mgt 4096 0 0 false) 0,
    .fltRingTailWrite (.mgt 4096 0 0 false) 0, .fltRingCtrlWrite (.mgt 4096 0 0 false) 0, .fill 6 (pk 0x10 0 1),
    .fill 0 { (pk 0x10 0 1) with tag := [0] }, .fill 0 (pk 0 0 1), .copy 6 (pk 0x11 0 1), .copy 0 { (pk 0x11 0 1) with tag := [0] },
    .copy 0 (pk 0 0 1), .copyRemote 6 (pk 0x15 0 1), .copyRemote 0 { (pk 0x15 0 1) with tag := [0] }, .copyRemote 0 (pk 0 0 1),
    .compare 6 (pk 0x12 0 1), .compare 0 { (pk 0x12 0 1) with tag := [0] }, .compare 0 (pk 0 0 1), .reduce 6 (pk 0x13 0 1),
    .reduce 0 { (pk 0x13 0 1) with tag := [0] }, .reduce 0 (pk 0 0 1), .gatherReduce 6 (pk 0x14 0 1),
    .gatherReduce 0 { (pk 0x14 0 1) with tag := [0] }, .gatherReduce 0 (pk 0 0 1), .atomic 6 (pk 0x18 0 1),
    .atomic 0 { (pk 0x18 0 1) with tag := [0] }, .atomic 0 (pk 0 0 1), .colReduce 6 (pk 0x23 0 1), .colReduce 0 { (pk 0x23 0 1) with tag := [0] },
    .colReduce 0 (pk 0 0 1), .colReduce 0 (pk 0x23 0 4), .chunkIssue 0 0 (96), .remoteWriteResponse 6 (pk 0x82 0 1),
    .remoteWriteResponse 0 { (pk 0x82 0 1) with tag := [0] }, .remoteWriteResponse 0 (pk 0 0 1)] : List Instr).all (fun i => !i.wf) = true := by
  decide +kernel

/-- Operands one past their ranges, and packets or messages of another kind, are refused. -/
theorem test_wf_refuses_1 : ([
    .colDescriptor 6 (pk 0x23 0 4), .colDescriptor 0 { (pk 0x23 0 4) with tag := [0] }, .colDescriptor 0 (pk 0 0 4),
    .colDescriptor 0 (pk 0x23 0 3), .colPartial 6 (pk 0x23 0 4), .colPartial 0 { (pk 0x23 0 4) with tag := [0] }, .colPartial 0 (pk 0 0 4),
    .colPartial 0 (pk 0x23 0 3), .colTimeout 0 (4096), .quantumExpiry (96), .wrdCtxWrite .mmio (256) 0,
    .wrdCtxWrite (.mgt 4096 0 0 false) (256 - 1) 0, .engineFault (96), .kvAppend 6 (pk 0x20 0 1), .kvAppend 0 { (pk 0x20 0 1) with tag := [0] },
    .kvAppend 0 (pk 0 0 1), .attend 6 (pk 0x21 0 1), .attend 0 { (pk 0x21 0 1) with tag := [0] }, .attend 0 (pk 0 0 1),
    .attendMergeDescend 6 (pk 0x22 0 1), .attendMergeDescend 0 { (pk 0x22 0 1) with tag := [0] }, .attendMergeDescend 0 (pk 0 0 1),
    .attendMergeDescend 0 (pk 0x22 1 1), .attendMergePartial 6 (pk 0x22 1 1), .attendMergePartial 0 { (pk 0x22 1 1) with tag := [0] },
    .attendMergePartial 0 (pk 0 1 1), .attendMergePartial 0 (pk 0x22 0 1), .mergeTimeout 0 (4096), .latchAdd 6 (pk 0x30 0 1),
    .latchAdd 0 { (pk 0x30 0 1) with tag := [0] }, .latchAdd 0 (pk 0 0 1), .latchSub 6 (pk 0x31 0 1),
    .latchSub 0 { (pk 0x31 0 1) with tag := [0] }, .latchSub 0 (pk 0 0 1), .latchWait 6 (pk 0x32 0 1),
    .latchWait 0 { (pk 0x32 0 1) with tag := [0] }, .latchWait 0 (pk 0 0 1), .latchRead 6 (pk 0x33 0 1),
    .latchRead 0 { (pk 0x33 0 1) with tag := [0] }, .latchRead 0 (pk 0 0 1), .latchSet 6 (pk 0x34 0 1),
    .latchSet 0 { (pk 0x34 0 1) with tag := [0] }, .latchSet 0 (pk 0 0 1), .latchWaitTimeout (4096), .lchAccRead (.mgt 4096 0 0 false),
    .lchAccSet (.mgt 4096 0 0 false), .snapshotRelease (.mgt 4096 0 0 false), .lchGrpWrite .mmio (4096) 0, .lchGrpWrite .mmio 1 0,
    .lchGrpWrite (.mgt 4096 0 0 false) 0 0, .rdShared 6 (pk 0x40 0 1), .rdShared 0 { (pk 0x40 0 1) with tag := [0] }, .rdShared 0 (pk 0 0 1),
    .rdOwn 6 (pk 0x41 0 1), .rdOwn 0 { (pk 0x41 0 1) with tag := [0] }, .rdOwn 0 (pk 0 0 1), .upgrade 6 (pk 0x42 0 1),
    .upgrade 0 { (pk 0x42 0 1) with tag := [0] }, .upgrade 0 (pk 0 0 1), .rdCur 6 (pk 0x43 0 1)] : List Instr).all (fun i => !i.wf) = true := by
  decide +kernel

/-- Operands one past their ranges, and packets or messages of another kind, are refused. -/
theorem test_wf_refuses_2 : ([
    .rdCur 0 { (pk 0x43 0 1) with tag := [0] }, .rdCur 0 (pk 0 0 1), .wbDirty 6 (pk 0x44 0 1), .wbDirty 0 { (pk 0x44 0 1) with tag := [0] },
    .wbDirty 0 (pk 0 0 1), .evictClean 6 (pk 0x45 0 1), .evictClean 0 { (pk 0x45 0 1) with tag := [0] }, .evictClean 0 (pk 0 0 1),
    .snoopResponse 6 (pk 0xC8 0 1), .snoopResponse 0 { (pk 0xC8 0 1) with tag := [0] }, .snoopResponse 0 (pk 0 0 1),
    .snoopResponse 0 (pk 0xCC 0 1), .compAck 6 (pk 0x4C 0 1), .compAck 0 { (pk 0x4C 0 1) with tag := [0] }, .compAck 0 (pk 0 0 1),
    .snoopTimeout 0 (512), .snoopTimeout 1 (512 - 1), .dirAgentWrite .mmio (512) 0, .dirAgentWrite (.mgt 4096 0 0 false) (512 - 1) 0,
    .dirFence .mmio (512), .dirFence (.mgt 4096 0 0 false) (512 - 1), .dirFenceDone (512), .dirUnfence .mmio (512),
    .dirUnfence (.mgt 4096 0 0 false) (512 - 1), .dirFlush (.mgt 4096 0 0 false), .cxlMemRd cxBad, .cxlMemRdData cxBad, .cxlMemInv cxBad,
    .cxlMemWr cxBad, .cxlBiRsp (16) 0 .rspI, .cxlBiRsp (16 - 1) 1 .rspI, .cxlBiConflict (16) 0, .cxlBiConflict (16 - 1) 1, .cxlHoldRelease (16),
    .scChQscWrite .mmio (12) 0, .scChQscWrite (.mgt 4096 0 0 false) (12 - 1) 0, .channelQuiesceDone (12) (32 - 1),
    .channelQuiesceDone (12 - 1) (32), .scTimingWrite .mmio (12) 0 0, .scTimingWrite .mmio (12 - 1) (4096) 0, .scTimingWrite .mmio (12 - 1) 1 0,
    .scTimingWrite (.mgt 4096 0 0 false) (12 - 1) 0 0, .arbiterGrant (12), .sectorCommandIssue (12) (32 - 1) (2 - 1),
    .sectorCommandIssue (12 - 1) (32) (2 - 1), .sectorCommandIssue (12 - 1) (32 - 1) (2), .refreshDue (12) (32 - 1) (2 - 1) (32 - 1),
    .refreshDue (12 - 1) (32) (2 - 1) (32 - 1), .refreshDue (12 - 1) (32 - 1) (2) (32 - 1), .refreshDue (12 - 1) (32 - 1) (2 - 1) (32),
    .sectorReadComplete (17) 0 [], .sectorReadComplete (17 - 1) 1 [], .sectorReadComplete (17 - 1) 0 [(36, 0)],
    .sectorReadComplete (17 - 1) 0 [(0, 65536)], .scrubRead (12), .ceBucketLeak (12), .retirementCopyDone (12) 0, .retirementLog (12) 0,
    .scOffline .mmio (12) 0, .scOffline (.mgt 4096 0 0 false) (12 - 1) 0] : List Instr).all (fun i => !i.wf) = true := by
  decide +kernel

/-- Operands one past their ranges, and packets or messages of another kind, are refused. -/
theorem test_wf_refuses_3 : ([
    .stackFault (12), .stackTempSample (12) (256 - 1), .stackTempSample (12 - 1) (256), .flitSlot (6), .flitReceive (6) ⟨zeros 256⟩,
    .flitReceive (6 - 1) ⟨zeros 255⟩, .replayTimeout (6), .hello 6 (lb 1), .hello 0 (lb 2), .hello 0 ⟨zeros 255⟩, .identity 6 (lb 2),
    .identity 0 (lb 3), .identity 0 ⟨zeros 255⟩, .keyShare 6 (lb 3), .keyShare 0 (lb 4), .keyShare 0 ⟨zeros 255⟩, .keyConfirm 6 (lb 4),
    .keyConfirm 0 (lb 5), .keyConfirm 0 ⟨zeros 255⟩, .retrain 6 (lb 5), .retrain 0 (lb 6), .retrain 0 ⟨zeros 255⟩, .rekeyShare 6 (lb 6),
    .rekeyShare 0 (lb 7), .rekeyShare 0 ⟨zeros 255⟩, .rekeyConfirm 6 (lb 7), .rekeyConfirm 0 (lb 8), .rekeyConfirm 0 ⟨zeros 255⟩,
    .swpRetrainWrite .mmio (6) 0, .swpRetrainWrite (.mgt 4096 0 0 false) (6 - 1) 0, .retrainComplete (6) (3 - 1) (3 - 1),
    .retrainComplete (6 - 1) (3) (3 - 1), .retrainComplete (6 - 1) (3 - 1) (3), .retrainTimeout (6), .bringupAttempt (6),
    .lanesTrained (6) (3 - 1) (3 - 1), .lanesTrained (6 - 1) (3) (3 - 1), .lanesTrained (6 - 1) (3 - 1) (3), .trainingTimeout (6),
    .authTimeout (6), .rekeyStart (6), .rekeyTimeout (6), .transitForward 6 (pk 1 0 1), .transitForward 0 { (pk 1 0 1) with tag := [0] },
    .routeUpdate 6 (pk 0x65 0 1), .routeUpdate 0 { (pk 0x65 0 1) with tag := [0] }, .routeUpdate 0 (pk 0 0 1), .rtbCommit .mmio (2),
    .rtbCommit (.mgt 4096 0 0 false) (2 - 1), .rtbInvalidate .mmio (2), .rtbInvalidate (.mgt 4096 0 0 false) (2 - 1), .rtbFlip .mmio (2),
    .rtbFlip (.mgt 4096 0 0 false) (2 - 1), .rtbMcWrite .mmio (0xB000) 0, .rtbMcWrite .mmio 1 0, .rtbMcWrite (.mgt 4096 0 0 false) 0 0,
    .fence 6 (pk 0x66 0 1), .fence 0 { (pk 0x66 0 1) with tag := [0] }, .fence 0 (pk 0 0 1), .fence 0 (pk 0x66 0x1000 1)] : List Instr).all (fun i => !i.wf) = true := by
  decide +kernel

/-- Operands one past their ranges, and packets or messages of another kind, are refused. -/
theorem test_wf_refuses_4 : ([
    .unfence 6 (pk 0x66 0x1000 1), .unfence 0 { (pk 0x66 0x1000 1) with tag := [0] }, .unfence 0 (pk 0 0x1000 1), .unfence 0 (pk 0x66 0 1),
    .enumStart (.mgt 4096 0 0 false), .enumAssign 6 (pk 0x60 0 1), .enumAssign 0 { (pk 0x60 0 1) with tag := [0] }, .enumAssign 0 (pk 0 0 1),
    .enumAssign 0 (pk 0x60 1 1), .enumAssignResponse 6 (pk 0xE0 0 1), .enumAssignResponse 0 { (pk 0xE0 0 1) with tag := [0] },
    .enumAssignResponse 0 (pk 0 0 1), .enumAssignResponse 0 (pk 0xE0 1 1), .rtbNodeWrite (.mgt 4096 0 0 false) 0, .timeReq 6 (pk 0x60 1 1),
    .timeReq 0 { (pk 0x60 1 1) with tag := [0] }, .timeReq 0 (pk 0 1 1), .timeReq 0 (pk 0x60 2 1), .timeReqResponse 6 (pk 0xE0 1 1),
    .timeReqResponse 0 { (pk 0xE0 1 1) with tag := [0] }, .timeReqResponse 0 (pk 0 1 1), .timeReqResponse 0 (pk 0xE0 2 1),
    .rtbTimeSet (.mgt 4096 0 0 false) 0, .mgtRead 6 (pk 0x61 0 1), .mgtRead 0 { (pk 0x61 0 1) with tag := [0] }, .mgtRead 0 (pk 0 0 1),
    .mgtWrite 6 (pk 0x62 0 1), .mgtWrite 0 { (pk 0x62 0 1) with tag := [0] }, .mgtWrite 0 (pk 0 0 1),
    .registerWrite (.mgt 4096 0 0 false) 0 [0, 0, 0, 0], .registerWrite .mmio 0 [], .registerWrite .mmio 0xFFFFFD [0, 0, 0, 0], .calendarSlot (6),
    .tshHistClear (.mgt 4096 0 0 false), .meterUpdate (256) 0 true, .setPowerLimit (2 ^ 32), .pairEnWrite (.mgt 4096 0 0 false) 0,
    .beat 6 (pk 0x67 0 1), .beat 0 { (pk 0x67 0 1) with tag := [0] }, .beat 0 (pk 0 0 1), .beat 0 (pk 0x67 1 1), .journal 6 (pk 0x67 1 1),
    .journal 0 { (pk 0x67 1 1) with tag := [0] }, .journal 0 (pk 0 1 1), .journal 0 (pk 0x67 2 1), .jrnlAck 6 (pk 0x67 2 1),
    .jrnlAck 0 { (pk 0x67 2 1) with tag := [0] }, .jrnlAck 0 (pk 0 2 1), .jrnlAck 0 (pk 0x67 3 1), .resyncReq 6 (pk 0x67 3 1),
    .resyncReq 0 { (pk 0x67 3 1) with tag := [0] }, .resyncReq 0 (pk 0 3 1), .resyncReq 0 (pk 0x67 4 1), .resyncData 6 (pk 0x67 4 1),
    .resyncData 0 { (pk 0x67 4 1) with tag := [0] }, .resyncData 0 (pk 0 4 1), .resyncData 0 (pk 0x67 5 1), .leaseReq 6 (pk 0x67 5 1),
    .leaseReq 0 { (pk 0x67 5 1) with tag := [0] }, .leaseReq 0 (pk 0 5 1)] : List Instr).all (fun i => !i.wf) = true := by
  decide +kernel

/-- Operands one past their ranges, and packets or messages of another kind, are refused. -/
theorem test_wf_refuses_5 : ([
    .leaseReq 0 (pk 0x67 6 1), .witnessGrantDue (16), .leaseGrant 6 (pk 0x67 6 1), .leaseGrant 0 { (pk 0x67 6 1) with tag := [0] },
    .leaseGrant 0 (pk 0 6 1), .leaseGrant 0 (pk 0x67 7 1), .leaseRefuse 6 (pk 0x67 7 1), .leaseRefuse 0 { (pk 0x67 7 1) with tag := [0] },
    .leaseRefuse 0 (pk 0 7 1), .leaseRefuse 0 (pk 0x67 8 1), .leaseRelease 6 (pk 0x67 8 1), .leaseRelease 0 { (pk 0x67 8 1) with tag := [0] },
    .leaseRelease 0 (pk 0 8 1), .leaseRelease 0 (pk 0x67 9 1), .hpsSwitch (.mgt 4096 0 0 false), .escalationWindowClose (256),
    .fltAck (.mgt 4096 0 0 false) 0, .fatalRelease (.mgt 4096 0 0 false), .glbLastFatalClear (.mgt 4096 0 0 false),
    .glbCntClr (.mgt 4096 0 0 false) 0, .glbRstWarm (.mgt 4096 0 0 false), .glbRstCold (.mgt 4096 0 0 false), .cohResume (.mgt 4096 0 0 false),
    .blkSoftReset .mmio (1024), .blkSoftReset (.mgt 4096 0 0 false) (1024 - 1), .blockResetDone (1024), .blkEnableWrite .mmio (1024) true,
    .blkEnableWrite (.mgt 4096 0 0 false) (1024 - 1) true, .blkFreezeWrite .mmio (1024) true,
    .blkFreezeWrite (.mgt 4096 0 0 false) (1024 - 1) true, .ftmInject (.mgt 4096 0 0 false), .validateToken (.mgt 4096 0 0 false),
    .keeperToken (zeros 4097), .advanceSvn (.mgt 4096 0 0 false), .revokeSlot .mmio (65536), .revokeSlot (.mgt 4096 0 0 false) (65536 - 1),
    .streamRetire .mmio (65536), .streamRetire (.mgt 4096 0 0 false) (65536 - 1), .streamRetireSub .mmio (65536),
    .streamRetireSub (.mgt 4096 0 0 false) (65536 - 1), .streamRetireDone (256), .anchorSet .mmio (65536),
    .anchorSet (.mgt 4096 0 0 false) (65536 - 1), .anchorClear .mmio (65536), .anchorClear (.mgt 4096 0 0 false) (65536 - 1),
    .newChallenge (.mgt 4096 0 0 false), .spdmGetVersion (sp 2), .spdmGetCapabilities (sp 2), .spdmNegotiateAlgorithms (sp 2),
    .spdmGetDigests (sp 2), .spdmGetCertificate (sp 2), .spdmChallenge (sp 2), .spdmGetMeasurements (sp 2), .spdmKeyExchange (sp 2),
    .spdmFinish (sp 2), .spdmKeyUpdate (sp 2), .spdmHeartbeat (sp 2), .spdmEndSession (sp 2), .streamSetup (sp 2), .streamRetireRequest (sp 2)] : List Instr).all (fun i => !i.wf) = true := by
  decide +kernel

/-- Operands one past their ranges, and packets or messages of another kind, are refused. -/
theorem test_wf_refuses_6 : ([
    .pwrGoodRise bdBad, .controllerTempSample [40], .settingsSave (.mgt 4096 0 0 false), .settingsErase (.mgt 4096 0 0 false),
    .logSelect (.mgt 4096 0 0 false) 0, .fwChunk 6 (pk 0x64 0 1), .fwChunk 0 { (pk 0x64 0 1) with tag := [0] }, .fwChunk 0 (pk 0 0 1),
    .fwForwardResponse 6 (pk 0xE4 0 1), .fwForwardResponse 0 { (pk 0xE4 0 1) with tag := [0] }, .fwForwardResponse 0 (pk 0 0 1),
    .fwActivate (.mgt 4096 0 0 false), .fwConfirm (.mgt 4096 0 0 false), .fwRaise (.mgt 4096 0 0 false), .getLdInfo (mb 17),
    .getLdAllocations (mb 17), .setLdAllocations (mb 17), .getQosControl (mb 17), .setQosControl (mb 17), .getQosStatus (mb 17),
    .getQosAllocatedBw (mb 17), .setQosAllocatedBw (mb 17), .getQosBwLimit (mb 17), .setQosBwLimit (mb 17), .identify (mb 17),
    .backgroundOperationStatus (mb 17), .getEventRecords (mb 17), .clearEventRecords (mb 17), .getEventInterruptPolicy (mb 17),
    .setEventInterruptPolicy (mb 17), .getFwInfo (mb 17), .transferFw (mb 17), .activateFw (mb 17), .getTimestamp (mb 17), .setTimestamp (mb 17),
    .getSupportedLogs (mb 17), .getLog (mb 17), .identifyMemoryDevice (mb 17), .getHealthInfo (mb 17), .getAlertConfiguration (mb 17),
    .setAlertConfiguration (mb 17), .getPoisonList (mb 17), .injectPoison (mb 17), .clearPoison (mb 17), .sanitize (mb 17),
    .hdmDecoderCommit (16) (4 - 1) hd, .hdmDecoderCommit (16 - 1) (4) hd, .hdmDecoderCommit (16 - 1) (4 - 1) hdBad, .cxlLinkTrained 16 4 true,
    .cxlLinkTrained 8 5 true, .cxlLinkTrained 8 0 true, .cxlFlr (16), .cxlReset (16) true, .resetNRise bdBad, .witnessLeaseExpiry (16),
    .biHoldTimeEnd 1, .debugInstruction (256) (16 - 1) 0 0, .debugInstruction (256 - 1) (16) 0 0, .busMasterEnableWrite (16) true,
    .msixVectorUnmask (16) (64 - 1)] : List Instr).all (fun i => !i.wf) = true := by
  decide +kernel

/-- Operands one past their ranges, and packets or messages of another kind, are refused. -/
theorem test_wf_refuses_7 : ([
    .msixVectorUnmask (16 - 1) (64), .linkControlBlock (6) (lb 0), .linkControlBlock (6 - 1) ⟨zeros 255⟩, .mgtReadResponse 6 (pk 0xE1 0 1),
    .mgtReadResponse 0 { (pk 0xE1 0 1) with tag := [0] }, .mgtReadResponse 0 (pk 0 0 1), .dynamicAddressAssign (128), .cxlResetMemClrDone (16)] : List Instr).all (fun i => !i.wf) = true := by
  decide +kernel

/-- Every bound of a path, a packet, a CXL.mem request, a board and a decoder refuses. -/
theorem test_wf_operands_refuse :
    ([.mgt 0 64 0 false, .mgt 0 0 6 false, .mgt 4096 0 0 true] : List Path).all (fun a => !a.wf) = true
    ∧ ([{ pk 1 0 1 with payload := [0] }, ({ dest := 0, src := 0, vc := 1, opcode := 2, payload := zeros 4097 } : Form).packet,
        { pk 1 0 1 with tag := zeros 16 }] : List Packet).all (fun p => !p.wf) = true
    ∧ ([{ cx with ld := 16 }, { cx with metaValue := 4 }, { cx with tag := 65536 }, { cx with data := [0] },
        { cx with enables := 2 ^ 64 }] : List CxlMem).all (fun r => !r.wf) = true
    ∧ ([{ bd with chainPort := 4 }, { bd with badStacks := 4096 }, { bd with flash := [(1, 0), (0, 0)] },
        { bd with flash := [(0, 0xFF)] }] : List BoardInputs).all (fun b => !b.wf) = true
    ∧ ([{ hd with size := 2 ^ 64 }, { hd with dpa := 2 ^ 64 }] : List HdmDecoder).all (fun d => !d.wf) = true
    ∧ (⟨0, none, [], []⟩ : SpdmMsg).wf = false := by
  decide +kernel

/-- A packet of 4096 payload bytes and one with a stream tag are taken. -/
theorem test_wf_packets_take :
    (({ dest := 0, src := 0, vc := 1, opcode := 2, payload := zeros 4096 } : Form).packet).wf = true
    ∧ (({ dest := 0, src := 0, vc := 1, opcode := 2, high := 2 ^ 15, stag := zeros 16 } : Form).packet).wf = true := by
  decide +kernel

/-! ### Worked examples and single steps -/

/-- The worked example of R36: PPA 0x12_3456_7040 lies on stack 9 at local 0x1_845C_8040; g + 1 on stack 4, g + 5 on stack 6. -/
theorem test_placement_example : Part.cv1275.stackOf 0x1234567040 = 9 ∧ Part.cv1275.localOf 0x1234567040 = 0x1845C8040
    ∧ Part.cv1275.stackOf 0x1234568040 = 4 ∧ Part.cv1275.stackOf 0x123456C040 = 6 := by decide +kernel

/-- The worked example of R38: in a span of 4 chips, offset 0x2C34_5678 belongs to member 1 at chip-local 0x0B14_5678. -/
theorem test_span_example : spanMember 4 0x2C345678 = 1 ∧ spanLocal 4 0x2C345678 = 0x0B145678 := by decide +kernel

/-- The worked example of R256: the register after 0xACE1, and the shares of two draws over 148 tickets. -/
theorem test_lottery_example : lfsrNext 0xACE1 = 0x5670 ∧ 0xACE1 * 148 / 65536 = 99 ∧ 0x5670 * 148 / 65536 = 49 := by decide +kernel

/-- The worked example of R516: HPA 0x40_0001_6A40 of four devices at 4 KiB from 0x40_0000_0000 is DPA 0x5A40. -/
theorem test_hdm_example : hdmDpa ⟨0x4000000000, 0x100000000, 4, 4096, 0, false, false⟩ 0x4000016A40 = 0x5A40 := by decide +kernel

/-- CRC-32 and CRC-64 of the nine digits' check string, as their catalogues give them (R309, R291). -/
theorem test_crc_check_values : crc32 [0x31, 0x32, 0x33, 0x34, 0x35, 0x36, 0x37, 0x38, 0x39] = 0xCBF43926
    ∧ crc64 [0x31, 0x32, 0x33, 0x34, 0x35, 0x36, 0x37, 0x38, 0x39] = 0x995DC9BBDF1939FA := by decide +kernel

/-- A KV_APPEND at the geometry of R140's worked example: H 8, D 128, MXFP4, KV_BASE 0x4_0000_0000. -/
def kvExample : Packet := ({ dest := 0, src := 0, vc := 1, opcode := 0x20
                             payload := leBytes 8 (0x400000000 * 4096) ++ zeros 8 ++ leBytes 8 (8 + 8 * 2 ^ 16 + 2 ^ 24) ++ zeros 8 } : Form).packet

/-- The worked example of R140: P 1,088, S 17,408, and token 5,000's block 312 lies at 0x4_0052_E000. -/
theorem test_kv_example : kvP kvExample = 1088 ∧ kvS kvExample = 17408 ∧ kvBlock kvExample false 312 = 0x40052E000 := by decide +kernel

/-- The packet of R534's worked example, unicast from the manager's node. -/
def mgtExample : Packet := ({ dest := 0x101, src := 0x10, vc := 6, opcode := 0x62, tag := 0x91, op := 0x30080
                              payload := leBytes 4 0 ++ leBytes 4 1 ++ leBytes 4 0x20000000 ++ leBytes 4 0 ++ leBytes 4 0x004102A1 } : Form).packet

/-- The state after one step, or the same state where it stops. -/
def next (c : Instr) (s : State) : State :=
  match step { s with pending := [c] } with
  | .next t => t
  | _ => s

/-- LCH_ACC_CMD: SET puts VALUE into the latch and READ shows it (R200); a latch has count 0 at reset (R176). -/
theorem test_latch_register :
    (next (.lchAccSet .mmio) ((net.setF Reg.LCH_ACC_SEL.LATCH 65535).setF Reg.LCH_ACC_VALUE.VALUE 7)).latch 65535 = 7
    ∧ (next (.lchAccRead .mmio) (net.setF Reg.LCH_ACC_VALUE.VALUE 9)).f Reg.LCH_ACC_VALUE.VALUE = 0 := by decide +kernel

/-- The MGT_WRITE of the worked example of R534: START 0x1_0000_0000, LEN 0x2000_0000, and the invalidation of keyway 0x2A1 with tag 0x0041 starts. -/
theorem test_mgt_write_example :
    (let t := next (.mgtWrite 0 mgtExample) ((net.setF Reg.GLB_MGR_NODE.NODE 0x10).setFlag Reg.GLB_MGR_NODE.VALID true)
     t.word64 Reg.KTU_INV_START.OFF = 0x100000000 ∧ t.word64 Reg.KTU_INV_LEN.OFF = 0x20000000 ∧ t.ktu.invs.length = 1) := by decide +kernel

/-- Poison by FTM_INJ (R451): the sector then decodes as poisoned, and the next does not. -/
theorem test_inject_poison :
    (let t := next (.ftmInject .mmio) (((net.setFlag Reg.GLB_STAT.FACTORY true).setF Reg.FTM_INJ_CTRL.KIND 1).setF Reg.FTM_INJ_ADDR.PPA 0x1234567040)
     t.sectorChk 0x1234567040 ≠ net.sectorChk 0x1234567040 ∧ t.sectorChk 0x1234567080 = net.sectorChk 0x1234567080) := by decide +kernel
/-! ### States that meet the hypotheses of the statements -/

/-- The clocks stopped, the device halted, and no command waiting. -/
def stopped : State := { State.reset with phase := .off }
def halted : State := { State.reset with phase := .halted }

/-- Whether a command answers a next state. -/
def answers (c : Instr) (s : State) : Bool :=
  match exec c s with
  | .next _ => true
  | _ => false

theorem wit_StepRunsTheFrontCommand :
    ({ State.reset with pending := [.rngFail, .rngRecover] } : State).pending = .rngFail :: [.rngRecover] := by decide +kernel

theorem wit_StepWithoutCommandPassesTime : State.reset.pending = [] ∧ State.reset.clocked = true ∧ stopped.pending = [] ∧ stopped.clocked = false := by
  decide +kernel

theorem wit_StepKeepsInvariant : State.reset.inv = true ∧ (∃ t, step State.reset = .next t)
    ∧ ({ State.reset with pending := [.rngFail], time := 2 ^ 64 - 1, mem := [(0, 1), (2 ^ 40 - 1, 1)] } : State).inv = true := by
  refine ⟨by decide +kernel, ⟨_, rfl⟩, by decide +kernel⟩

theorem wit_CommandsActWhereTheirPartRuns : stopped.clocked = false ∧ Instr.rngFail.needs ≠ .pins ∧ halted.active = false
    ∧ Instr.bucketRefill.needs = .service := by decide +kernel

theorem wit_QuietEffectsStand : State.reset.quiet = true ∧ State.reset.memWf = true ∧ State.reset.time < 18446744073709551616 := by decide +kernel

/-- READY with every subscriber quiesced, and quiet. -/
def still : State := (State.reset.setF Reg.PTN_SUB_QSC.QSC (2 ^ 64 - 1)).setF Reg.PTN_SUB_QSD.QSD (2 ^ 64 - 1)

theorem wit_RegisterCommandsChangeTheirWordsOnly : still.quiet = true ∧ still.inv = true
    ∧ ([Reg.LCH_ACC_CMD.OFF, Reg.KTU_KW_CMD.OFF, Reg.KTU_LD_KEYWAY.OFF 0, Reg.KTU_LD_KEYWAY.OFF 15, Reg.GLB_CTRL.OFF].all
      (still.regOpen .mmio)) = true ∧ still.quiesced 0 = true ∧ still.quiesced 15 = true
    ∧ ([.lchAccRead .mmio, .kwLoad .mmio, .ktuLdKeywayWrite .mmio 0 1, .ktuLdKeywayWrite .mmio 15 0x80000FFF, .escalationWindowClose 0,
        .escalationWindowClose 198, .cohResume .mmio] : List Instr).all (fun c => answers c still) = true := by decide +kernel

/-! Requests. -/

/-- The network state with subscriber 0 bound to node 5, context 0 its own, agent slot 0 and the manager at node 5, and this chip the root of
group 1. -/
def host : State :=
  (((((net.setWord64 (Reg.PTN_NODE_SUBS.OFF 5) 1).setWord (Reg.WRD_CTX.OFF 0) (2 ^ 31)).setWord (Reg.DIR_AGENT.OFF 0) (5 + 2 ^ 31)).setF
    Reg.GLB_MGR_NODE.NODE 5).setFlag Reg.GLB_MGR_NODE.VALID true).setWord (Reg.RTB_MC_TREE.OFF 1) (0xFFF + 0x10000 + 2 ^ 31)

/-- The hypotheses about a request, and those of its clause, in the state it runs in. -/
def runs (clause : State → Req → Bool) (p : Packet) : Bool :=
  canRun host p && clause (State.running (taken host p)).1 (State.running (taken host p)).2

/-- A request by opcode, operation word and payload. -/
def req (opcode op : Nat) (payload : List Byte) : Packet := pkt 1 opcode 0 op payload

/-- A management request. -/
def mgt (opcode op : Nat) (payload : List Byte) : Packet := pkt 6 opcode 0 op payload

/-- The payload of a ward request: bytes a row, PARAM, latches, and ranges of keyway 0 at 0, 64, .... -/
def ward (rowLen param n : Nat) : List Byte :=
  leBytes 8 (rowLen + 2 ^ 40) ++ zeros 8 ++ leBytes 8 param ++ zeros 8
    ++ (List.range n).flatMap fun i => leBytes 8 (4096 * 64 * i) ++ leBytes 8 0

theorem wit_RequestsRun :
    ([req 1 1 [], req 1 4096 [], req 2 0 [1], req 2 0 (zeros 256), req 3 0 (zeros 33), req 3 0 (zeros 288), req 0x18 0 (zeros 4),
      mgt 0x61 (4 * 2 ^ 24) [], mgt 0x62 0 (zeros 4), mgt 0x64 0 [1], mgt 0x65 0 [], mgt 0x65 (2 ^ 20) (zeros 4), mgt 0x66 0 [],
      mgt 0x66 0x1FFE []] : List Packet).all (runs fun _ _ => true) = true
    ∧ ([req 0x30 (2 ^ 32) [], req 0x30 (0xFFFFFFFF * 2 ^ 32 + 0xFFFF) [], req 0x31 (2 ^ 32) [], req 0x32 (2 ^ 32) [], req 0x33 0 [],
      req 0x34 (2 ^ 32) []] : List Packet).all (runs fun w _ => !w.basic) = true
    ∧ ([req 0x40 0 [], req 0x41 0 [], req 0x42 0 [], req 0x43 0 [], req 0x44 0 (zeros 64), req 0x45 0 []] : List Packet).all
      (runs fun w _ => w.part.full) = true
    ∧ bit (mgt 0x66 0 []).opw 12 = false ∧ bit (mgt 0x66 0x1FFE []).opw 12 = true := by decide +kernel

/-- What admits a ward request. -/
def admitted (w : State) (r : Req) : Bool :=
  !w.basic && r.bnd && w.ctxOk r.pkt && decide (w.wrd.ops.length < 1024) && decide (w.ctxOps r.pkt.ctx < 64)

/-- A KV_APPEND of one token and an ATTEND of one query at the smallest geometry. -/
def append1 : Packet := req 0x20 0 (zeros 8 ++ leBytes 8 (2 ^ 32) ++ leBytes 8 (1 + 2 ^ 16) ++ zeros 264)
def attend1 : Packet := req 0x21 0 (zeros 24 ++ leBytes 8 (1 + 2 ^ 16 + 2 ^ 32 + 2 ^ 48 + 2 ^ 56) ++ leBytes 8 (2 ^ 16 + 0x101 * 2 ^ 32) ++ zeros 152)

/-- A COL_REDUCE at its root. -/
def col1 : Packet := req 0x23 (2 * 2 ^ 19) (ward 4 1 2)

theorem wit_WardRequestsAreAdmitted :
    ([req 0x10 (2 ^ 19) (ward 1 0 1), req 0x11 (2 * 2 ^ 19) (ward 1 0 2), req 0x15 (2 * 2 ^ 19) (ward 1 0xFFF 2),
      req 0x12 (2 * 2 ^ 19) (ward 1 0 2), req 0x12 (2 ^ 19 + 2 ^ 16) (ward 1 0 1), req 0x13 (2 * 2 ^ 19) (ward 4 0 2),
      req 0x13 (17 * 2 ^ 19) (ward 4 0 17), req 0x14 (4 * 2 ^ 19 + 2 ^ 15) (zeros 0 ++ ward 4 (1 + 2 ^ 13) 4), col1] : List Packet).all
        (runs admitted) = true
    ∧ col1.vc < 4 ∧ (host.asHere 0 col1).vc < 4
    ∧ runs (fun w r => admitted w r && w.part.full) attend1 = true
    ∧ runs (fun w r => admitted w r && w.part.full && w.kwLocal r.pkt.sub (kvKw r.pkt)
        (kvBlock r.pkt (w.kvSpan r.pkt) (apFirst r.pkt / 16)) != .inl .foreignStripe) append1 = true := by decide +kernel
/-! Responses, tree packets, pairs, transit. -/

/-- What every packet for this chip meets. -/
def lands (s : State) (p : Packet) : Bool := s.portOpen 0 && (s.landed 0 p).mine p

/-- This chip a member of group 1 below node 5. -/
def member : State := host.setWord (Reg.RTB_MC_TREE.OFF 1) (5 + 0x10000 + 2 ^ 31)

/-- A COL_REDUCE at its root waits for its child at node 5. -/
def waiting1 : State :=
  { host with
    reqs := [rq col1]
    wrd := { host.wrd with ops := [{ op0 with tree := some ⟨0x101, 5, 0, 1, none, [⟨5, [], 0, false, false, false⟩], true⟩ }] } }

/-- A COL packet of COL_REDUCE from node 5: its head names the operation of the root, requester and tag. -/
def colPkt : Packet := pkt 5 0x23 (5 * 2 ^ 16 + 0x101 * 2 ^ 28) (2 * 2 ^ 19) (ward 4 1 2)

/-- An ENUM from the neighbour. -/
def enum (op : Nat) (payload : List Byte) : Packet := ({ dest := 0xFFE, src := 0xFFF, vc := 6, opcode := 0x60, op := op, payload := payload } : Form).packet

/-- A chip without an ID, with port 0 ACTIVE. -/
def fresh : State := State.reset.setF (Reg.SWP_STAT.STATE 0) 4

/-- What an ENUM from a neighbour meets. -/
def enumTaken (s : State) (p : Packet) : Bool :=
  s.portOpen 0 && (s.landed 0 p).takes p && !headerMalformed p && !p.mcast && !(s.landed 0 p).fenced p.src && p.dest == 0xFFE
    && p.opcode == 0x60 && !enumBad p

theorem wit_AnswersAndTreePacketsAct :
    ([pkt 3 0x4C 0 0 [], pkt 3 0xC8 0 0 [], pkt 3 0xCB 0 0 [], pkt 3 0x82 0 0 [], pkt 3 0xE4 0 0 [], pkt 3 0xE1 0 0 [], pkt 3 0xE0 0 0 [],
      pkt 3 0xE0 0 1 (zeros 16), pkt 5 0x22 0 0 [], pkt 5 0x22 0 1 []] : List Packet).all (fun p => lands host p && (host.local 0 p).part.full) = true
    ∧ enumRspBad (host.asHere 0 (pkt 3 0xE0 0 0 [])) = false ∧ enumRspBad (host.asHere 0 (pkt 3 0xE0 0 1 (zeros 16))) = false
    ∧ (enumTaken fresh (enum 0 []) = true ∧ (fresh.landed 0 (enum 0 [])).hasId = false ∧ bits (enum 0 []).opw 1 0 = 0)
    ∧ (enumTaken host (enum 1 (zeros 8)) = true ∧ (host.landed 0 (enum 1 (zeros 8))).hasId = true ∧ bits (enum 1 (zeros 8)).opw 1 0 = 1)
    ∧ (lands member colPkt = true ∧ 4 ≤ colPkt.vc ∧ 4 ≤ (member.asHere 0 colPkt).vc ∧ member.colOp colPkt = none
      ∧ (member.local 0 colPkt).colOp (member.asHere 0 colPkt) = none
      ∧ (member.local 0 colPkt).treeParent (bits (wParam (member.asHere 0 colPkt)) 7 0) = some (member.asHere 0 colPkt).src)
    ∧ (lands waiting1 colPkt = true ∧ 4 ≤ (waiting1.asHere 0 colPkt).vc ∧ waiting1.colOp colPkt ≠ none
      ∧ (waiting1.local 0 colPkt).colOp (waiting1.asHere 0 colPkt) ≠ none) := by decide +kernel

/-- A member of pair 0x200, with node 5 its partner, or its witness. -/
def pairOf (partner witness : Nat) : State :=
  (((net.setFlag Reg.HPS_CTRL.PAIR_EN true).setF Reg.HPS_PARTNER.PARTNER partner).setF Reg.HPS_PARTNER.WITNESS witness).setF Reg.RTB_NODE.PAIR_ID 0x200

/-- The witness of pair 0x200, of which node 5 is a member. -/
def witness : State :=
  ((net.setFlag Reg.HPS_CTRL.WITNESS_EN true).setWord (Reg.HPS_WIT_ID.OFF 15) (0x200 + 2 ^ 31)).setF (Reg.HPS_WIT_MEMBERS.MEMBER_B 15) 5

/-- A HEARTBEAT of pair 0x200 by kind. -/
def beat (kind : Nat) : Packet := pkt 6 0x67 0 (kind + 0x200 * 16) (if kind = 4 then zeros 4096 else if kind = 3 then zeros 8 else [])

/-- What a HEARTBEAT meets, with a test of the state and packet it acts on. -/
def beats (s : State) (t : State → Packet → Bool) (kind : Nat) : Bool :=
  lands s (beat kind) && !hbMalformed (s.asHere 0 (beat kind)) && hbKind (beat kind) == kind && t (s.local 0 (beat kind)) (s.asHere 0 (beat kind))

theorem wit_HeartbeatPacketsAct :
    ([0, 1, 2, 3, 4].all (beats (pairOf 5 6) fun u q => u.fromPartner q)) = true
    ∧ ([6, 7].all (beats (pairOf 6 5) fun u q => u.fromWitness q)) = true
    ∧ ([5, 8].all (beats witness fun u q => u.witFind (hbPair q) q.src == some 15)) = true := by decide +kernel

/-- Table version A valid, with node 9 behind port 1, which is ACTIVE. -/
def router : State :=
  ((net.setF (Reg.SWP_STAT.STATE 1) 4).setFlag Reg.RTB_TBL_STAT.VALID_A true).setWord (Reg.RTB_ROUTE.OFF 0 9) (1 + 8 + 2 ^ 31)

/-- A READ for node 9. -/
def through : Packet := ({ dest := 9, src := 5, vc := 1, phase := 1, opcode := 1, op := 64 } : Form).packet

theorem wit_TransitPacketsGoOn :
    router.portOpen 0 = true ∧ router.foreign through = true ∧ (router.landed 0 through).takes through = true ∧ (router.landed 0 through).hasId = true
    ∧ headerMalformed through = false ∧ through.mcast = false ∧ through.dest ≠ 0xFFE ∧ (router.landed 0 through).forPair through = false
    ∧ (match ((router.landed 0 through).route through).2 with | .send out _ => out == 1 | _ => false) = true := by decide +kernel

/-- A packet with its LENGTH one short of its payload. -/
def cut (vc opcode : Nat) : Packet := { pkt vc opcode 0 0 [] with payload := [0] }

theorem wit_MalformedPacketsAreDropped :
    ([cut 1 1, cut 1 2, cut 1 0x33, cut 6 0x62] : List Packet).all (fun p => net.portOpen 0 && (net.landed 0 p).takes p && (net.landed 0 p).hasId
      && headerMalformed p) = true := by decide +kernel

/-! Partitions, order, keyways. -/

/-- Registers that a command finds open by MMIO. -/
def opens (s : State) (l : List Nat) : Bool := l.all (s.regOpen .mmio)

/-- Entry 0 of 8 GiB, SHAREABLE, its owner 0 quiesced. -/
def parted : State := ((still.setWord (Reg.PTN_BASE.OFF 0) 0).setF (Reg.PTN_SIZE.SIZE_GIB 0) 8).setFlag (Reg.PTN_FLAGS.SHAREABLE 0) true

theorem wit_PartitionWritesAct :
    opens still [Reg.PTN_BASE.OFF 0, Reg.PTN_BASE.OFF 63, Reg.PTN_BASE.OFF 63 + 4, Reg.PTN_BASE.OFF 63 + 8, Reg.PTN_BASE.OFF 63 + 12,
      Reg.PTN_GNT.OFF 0, Reg.PTN_GNT.OFF 255, Reg.PTN_SUB_QSC.OFF, Reg.PTN_INIT.OFF] = true
    ∧ (still.f (Reg.PTN_SIZE.SIZE_GIB 63) = 0 ∧ [0, 1, 2, 3].all (fun k => still.ptnAccepts 63 k 1) = true)
    ∧ (parted.regOpen .mmio (Reg.PTN_BASE.OFF 0 + 4) = true ∧ parted.ptnAccepts 0 1 9 = true ∧ parted.f (Reg.PTN_SIZE.SIZE_GIB 0) ≠ 0
      ∧ bits 9 9 0 ≠ parted.f (Reg.PTN_SIZE.SIZE_GIB 0))
    ∧ (bit (parted.word (Reg.PTN_GNT.OFF 255)) 31 = false ∧ parted.gntOk (gntMask (2 ^ 31 + 2 ^ 8)) = true)
    ∧ (still.init = none ∧ parted.f (Reg.PTN_SIZE.SIZE_GIB (bits 0 5 0)) ≠ 0
      ∧ parted.quiesced (parted.f (Reg.PTN_OWNER.OWNER (bits 0 5 0))) = true) := by decide +kernel

/-- Every quiesce bit may stay as it is, or be cleared. -/
theorem wit_PartitionWritesAct_quiesce : ∀ b, b < 64 → bit (0#64).toNat b = true → bit (still.f Reg.PTN_SUB_QSC.QSC) b = true := by
  decide +kernel

/-- Node 5 has sent number 3 of an ORDERED request, here a LATCH_ADD, and 1 and 2 are missing. -/
def gap1 : State :=
  { net with reqs := [{ rq (req 0x30 (2 ^ 32) []) with n := 65539, gap := true }], seqs := [(5, ⟨65536, 65536, true, [⟨65539, true, false, false⟩]⟩)] }

/-- It is number 1 and nothing is missing. -/
def due1 : State := { gap1 with reqs := [{ rq (req 0x30 (2 ^ 32) []) with n := 65537 }], seqs := [(5, ⟨65536, 65536, true, [⟨65537, true, false, false⟩]⟩)] }

/-- Its translation is under way; and it is number 2, after one that was lost. -/
def due2 : State := { due1 with ktu := { due1.ktu with missq := [⟨0, 0, .req 7⟩] } }
def due3 : State :=
  { gap1 with
    reqs := [{ rq (req 0x30 (2 ^ 32) []) with n := 65538 }]
    seqs := [(5, ⟨65537, 65536, true, [⟨65538, true, false, false⟩, ⟨65537, false, true, true⟩]⟩)] }

/-- A management request without the ORDERED flag waits at a gap. -/
def gap2 : State := { gap1 with reqs := [{ rq (mgt 0x61 (4 * 2 ^ 24) []) with n := 65539, gap := true }] }

/-- A fill, with a number of bytes left of the maintenance allowance. -/
def initing (left : Nat) : State := { net with init := some ⟨63, 0, 0, 8, false⟩, epl := { net.epl with maintLeft := left } }

theorem wit_PoolEventsAct :
    gap1.active = true
    ∧ ([0, 64].all fun x => (initing x).active && !(initing x).fillWaits && ((initing x).maintAllowed == decide (0 < x))) = true
    ∧ (match due2.waiting 5 1, due3.waiting 5 2, gap1.waiting 5 3 with
        | some r, some q, some g => due2.req? r.id == some r && due2.mayStart r && !due2.segmentBroken r && due2.walking r.id
            && due3.req? q.id == some q && due3.mayStart q && due3.segmentBroken q && gap1.req? g.id == some g && !gap1.mayStart g
            && !gap1.walking g.id && !gap1.dualSilent g.pkt
        | _, _, _ => false) = true
    ∧ (let s := still.setF Reg.PTN_SUB_QSD.QSD 0; [0, 63].all (fun b => s.quiescing b && !s.subBusy b) = true)
    ∧ ({ net with init := some ⟨0, 0, 0, 8, true⟩ } : State).active = true
    ∧ (match due1.waiting 5 1 with
        | some r => !due1.dualSilent r.pkt && due1.req? r.id == some r && due1.mayStart r && !due1.segmentBroken r && !due1.walking r.id
        | none => false) = true
    ∧ (match gap1.waiting 5 3, gap1.seqEntry 5 with
        | some r, some e => r.gap && e.missing r.n == [65537, 65538] && (r.pkt.ordered || r.pkt.opcode == 0x30)
        | _, _ => false) = true
    ∧ (match gap2.waiting 5 3, gap2.seqEntry 5 with
        | some r, some e => r.gap && e.missing r.n == [65537, 65538] && !(r.pkt.ordered || r.pkt.opcode == 0x30)
        | _, _ => false) = true
    ∧ gap1.seqEntry 5 ≠ none := by decide +kernel

/-- Keyway 0 selected, and a descriptor of owner 0 in KTU_KW_DATA; then one past its count. -/
def stored : State := still.setWord (Reg.KTU_KW_DATA.OFF 0) 1
def refused : State := still.setWord (Reg.KTU_KW_DATA.OFF 1) 0x10001

theorem wit_KeywayWritesAct :
    opens stored [Reg.KTU_KW_CMD.OFF, Reg.KTU_LD_KEYWAY.OFF 0, Reg.KTU_LD_KEYWAY.OFF 15, Reg.KTU_INV_CMD.OFF] = true
    ∧ stored.kwMay (stored.desc (stored.f Reg.KTU_KW_SEL.KEYWAY)) (descMask stored.kwData) = true
    ∧ refused.regOpen .mmio Reg.KTU_KW_CMD.OFF = true
    ∧ refused.kwMay (refused.desc (refused.f Reg.KTU_KW_SEL.KEYWAY)) (descMask refused.kwData) = false
    ∧ (stored.quiesced 0 = true ∧ stored.quiesced 15 = true ∧ bits 0x80000FFF 11 0 + bits 0x80000FFF 31 31 * 2 ^ 31
      ≠ stored.word (Reg.KTU_LD_KEYWAY.OFF 15))
    ∧ (bits 0 13 12 ≠ 3 ∧ stored.ktu.invs.length < 8 ∧ ∀ x y z w, Path.mmio ≠ .mgt x y z w) := by
  refine ⟨by decide +kernel, by decide +kernel, by decide +kernel, by decide +kernel, by decide +kernel, by decide, by decide +kernel, nofun⟩

/-- A walk, a miss, an invalidation, and an operation with a chunk whose translation stopped. -/
def walking : State :=
  { net with
    reqs := [rq (req 0x10 (2 ^ 19) (ward 1 0 1))]
    wrd := { net.wrd with ops := [{ op0 with live := [⟨0, 0, false, [], [], some 0, some 0, 0, [], none⟩] }] }
    ktu := { net.ktu with
      walks := [(0, ⟨1, 0, .req 7, 0, 0, [], none⟩)]
      missq := [⟨2, 0, .req 7⟩]
      stalled := [⟨3, 0, .req 7⟩]
      invs := [⟨1, 0, none, []⟩] } }

theorem wit_TranslationEventsAct :
    walking.active = true ∧ (walking.walkAt 0).isSome = true ∧ (walking.ktu.missq ++ walking.ktu.stalled)[0]? = some ⟨2, 0, .req 7⟩
    ∧ (walking.ktu.missq ++ walking.ktu.stalled)[1]? = some ⟨3, 0, .req 7⟩
    ∧ walking.ktu.walks.any (fun w => w.2.kw == 2 || w.2.kw == 3) = false ∧ walking.ktu.walks.length < 32
    ∧ (walking.ktu.invs = [⟨1, 0, none, []⟩] ∧ ([] : List Waiter).all walking.waiterEnded = true)
    ∧ (match walking.wop 7, walking.wopPkt 7 with
        | some o, some _ => (match o.chunk 0 with | some c => c.stopped != none && c.failing != none | none => false)
        | _, _ => false) = true := by decide +kernel

/-! Ward operations, coherence, CXL. -/

/-- A FILL admitted and not begun, with no keyway to go through; then with its chunk running, and waiting on a latch. -/
def filling : State := { host with reqs := [rq (req 0x10 (2 ^ 19) (ward 1 0 1))], wrd := { host.wrd with ops := [op0] } }
def running1 : State := { filling with wrd := { host.wrd with ops := [{ op0 with live := [⟨0, 0, true, [], [], none, none, 0, [], none⟩] }] } }
def waits1 : State := { filling with wrd := { host.wrd with ops := [{ op0 with wait := true }] } }

/-- A FILL of context 1, while engine 95 has context 0. -/
def other1 : State := { filling with reqs := [rq ({ req 0x10 (2 ^ 19) (ward 1 0 1) with xact := (0x10 + 2 ^ 40 : Nat) })] }

/-- The hypotheses of a chunk's issue. -/
def issues (s : State) (op k n : Nat) : Bool :=
  match s.wop op, s.wopPkt op with
  | some o, some r =>
    !o.wait && o.ending.isNone && !o.done.contains k && wardMay o r.pkt k && s.engineTakes n r.pkt.ctx && s.engineFree n && !s.inDeficit r.pkt.sub 3
      && s.wardAllowed && (o.chunk k).isNone
      && (match ((s.modWop op fun y => { y with
            live := y.live ++ [Chunk.mk k n false [] (s.wardPieces o r.pkt k) none none 0 [] none] }).chunkGo op k).wop op with
          | some o1 => (match o1.chunk k with
            | some c => c.todo.isEmpty && c.stopped.isNone && !c.run
            | none => false)
          | none => false)
  | _, _ => false

/-- The hypotheses of a chunk's end. -/
def ends (s : State) (op k : Nat) : Bool :=
  match s.wop op, s.wopPkt op with
  | some o, some _ => (match o.chunk k with
    | some c => c.run && c.away.isNone && !s.chunkHeld c && (s.chunkLines op c).2
    | none => false)
  | _, _ => false

theorem wit_WardEventsAct :
    host.active = true ∧ issues filling 7 0 0 = true ∧ issues filling 7 0 95 = true ∧ ends running1 7 0 = true
    ∧ (let u := other1.snoopYield 95
       let e := u.engine 95
       (e.held && u.heldCtxs.contains e.ctx) = false ∧ u.readyCtxs.any (fun c => c != e.ctx) = true
         ∧ max 1 (u.f (Reg.WRD_CTX.WEIGHT e.ctx)) ≤ e.quanta + 1)
    ∧ 95 < host.part.engines
    ∧ (match waits1.wop 7, waits1.wopPkt 7 with | some o, some _ => o.wait | _, _ => false) = true
    ∧ (opens host [Reg.WRD_CTX.OFF 255] = true ∧ bit (host.word (Reg.WRD_CTX.OFF 255)) 31 = false)
    ∧ (let s := host.setWord (Reg.WRD_CTX.OFF 255) (2 ^ 31 + 3)
       s.active = true ∧ opens s [Reg.WRD_CTX.OFF 255] = true ∧ bit (s.word (Reg.WRD_CTX.OFF 255)) 31 = true
         ∧ bits (s.word (Reg.WRD_CTX.OFF 255)) 5 0 = 3) := by decide +kernel

/-- A COPY_REMOTE with a WRITE to be sent again and one not answered; a merge with a child at node 5. -/
def remote1 : State :=
  { host with
    reqs := [rq (req 0x15 (2 * 2 ^ 19) (ward 1 9 2))]
    wrd := { host.wrd with ops := [{ op0 with remote := [⟨0, 0, [1], 1, 1, 0, 2⟩, ⟨1, 0, [1], 2, 2, 0, 1⟩] }] } }
def remote2 : State :=
  { remote1 with
    wrd := { host.wrd with ops := [{ op0 with ending := some stABORTED, remote := [⟨0, 0, [1], 1, 1, 0, 2⟩, ⟨1, 0, [1], 2, 2, 0, 1⟩] }] } }
def merge1 : State :=
  { host with
    reqs := [rq attend1]
    wrd := { host.wrd with ops := [{ op0 with tree := some ⟨0x101, 5, 0, 1, none, [⟨5, [], 0, false, false, false⟩], true⟩ }] } }

/-- A child an operation still waits for. -/
def awaits (s : State) (n op : Nat) : Bool :=
  match s.wop op, s.wopPkt op with
  | some o, some _ => (match o.tree with
    | some t => t.kids.any fun k => k.node == n && !k.done && !k.lost && !k.fenced
    | none => false)
  | _, _ => false

theorem wit_TreeAndRemoteTimersAct :
    ([remote1, remote2, waiting1, merge1].all fun s => s.active) = true
    ∧ ([(remote1, true), (remote2, false)].all fun s => match s.1.wop 7, s.1.wopPkt 7 with
        | some o, some _ => (o.remote.find? fun x => x.idx == 0 && x.st == 2).isSome && o.ending.isNone == s.2
            && (o.remote.find? fun x => x.idx == 1 && x.st == 1).isSome
        | _, _ => false) = true
    ∧ (awaits waiting1 5 7 = true ∧ (waiting1.wopPkt 7).map (fun r => r.pkt.opcode) = some 0x23)
    ∧ (awaits merge1 5 7 = true ∧ (merge1.wopPkt 7).map (fun r => r.pkt.opcode) = some 0x21) := by decide +kernel

theorem wit_DirectoryWritesAct :
    opens host [Reg.DIR_AGENT.OFF 0, Reg.DIR_AGENT.OFF 511, Reg.DIR_FENCE_CMD.OFF, Reg.DIR_FLUSH_CMD.OFF] = true
    ∧ host.dirNames 511 = false ∧ host.flag Reg.DIR_FENCE_STAT.BUSY = false ∧ host.flag (Reg.DIR_AGENT.VALID 0) = true
    ∧ host.flag Reg.DIR_FLUSH_STAT.BUSY = false
    ∧ (let s := { host.setFlag (Reg.DIR_AGENT.VALID 511) true with dir := { host.dir with fences := [⟨511, 0, none, [], false, []⟩] } }
       opens s [Reg.DIR_FENCE_CMD.OFF] = true ∧ s.dir.fences.any (fun j => j.agent == 511) = true ∧ s.flag (Reg.DIR_AGENT.VALID 511) = true) := by decide +kernel

/-- A snoop of agent 0 of line 64 is open; a fence walk and a flush have nothing left to do. -/
def snooping : State :=
  { host with dir := { host.dir with
      txns := [⟨1, 64, .victim, 0x48, none, [⟨0, 0x48, true, true, false, false, false, false, 0, false⟩], false, false, false, 0⟩]
      fences := [⟨0, 0, none, [], false, []⟩] } }.setF Reg.DIR_FLUSH_STAT.BUSY 1

theorem wit_DirectoryEventsAct :
    snooping.active = true ∧ (snooping.openSnoop 64 0).isSome = true ∧ (snooping.dir.txns.filter fun t => t.line == 128) = []
    ∧ snooping.dir.late.any (fun y => y.num == 1 && y.agent == 0) = false
    ∧ snooping.dir.fences.find? (fun y => y.agent == 0) = some ⟨0, 0, none, [], false, []⟩ ∧ snooping.flag Reg.DIR_FLUSH_STAT.BUSY = true ∧ snooping.flushOpen = false := by decide +kernel

/-- LD 15 with a decoder of 256 MiB from 0, bound to keyway 1; agent slot 0 is LD 15's. -/
def cxl1 : State :=
  { (host.setWord (Reg.KTU_LD_KEYWAY.OFF 15) (1 + 2 ^ 31)).setWord (Reg.DIR_AGENT.OFF 0) (15 * 2 ^ 12 + 2 ^ 16 + 2 ^ 31) with
    cxl := { host.cxl with decoders := [(60, ⟨0, 0x10000000, 1, 256, 0, false, false⟩)], committed := [60] } }

/-- The same with the snoop of slot 0, and with a held request. -/
def cxlSnoop : State := { cxl1 with dir := snooping.dir }
def cxlHeld : State := { cxl1 with tsh := { cxl1.tsh with hold := [(0, { cx with hpa := 0 }, 0)] } }

/-- LD 15's decoder is of HDM-DB; it is policed, its peak bucket in deficit; or a request of it is still held. -/
def cxlDb : State := { cxl1 with cxl := { cxl1.cxl with decoders := [(60, ⟨0, 0x10000000, 1, 256, 0, true, false⟩)] } }
def cxlPoliced : State :=
  { ((cxlDb.setFlag Reg.TSH_CTRL.POLICE_EN true).setF (Reg.TSH_SUB_LPIR.RATE 15) 1).setF (Reg.TSH_SUB_LCIR.RATE 15) 1 with tsh := { cxl1.tsh with lvl := [(15 * 4 + 1, -1)] } }
def cxlBehind : State := { cxlDb with tsh := { cxl1.tsh with hold := [(0, { cx with hpa := 0 }, 0)] } }

/-- A CXL.mem request as the port counts it. -/
def counted (s : State) (k : Nat) : State := s.bump (if k = 3 then Reg.CXP_M2S_RWD_CNT.OFF else Reg.CXP_M2S_REQ_CNT.OFF)

/-- A request that the port holds or takes: an HPA inside the decoder. -/
def cxIn : CxlMem := { cx with hpa := 0, meta0 := true, metaValue := 2, data := zeros 64 }

theorem wit_CxlRequestsAct :
    ([cxl1, cxlPoliced, cxlBehind, cxlSnoop, cxlHeld].all fun s => s.active && s.cxlTakes 15) = true
    ∧ ([0, 1, 2, 3].all fun k => let u := counted cxl1 k
        !(u.flag Reg.TSH_CTRL.POLICE_EN && u.peakDeficit 15) && (u.heldOf 15).isEmpty && (u.cxlTake k cxIn).2.isSome
          && u.cxlPasses k { cx with hpa := 2 ^ 28 } && (u.cxlTake k { cx with hpa := 2 ^ 28 }).2.isNone) = true
    ∧ ([0, 1, 2, 3].all fun k => let u := counted cxlPoliced k
        !u.cxlPasses k cxIn && u.flag Reg.TSH_CTRL.POLICE_EN && u.peakDeficit 15) = true
    ∧ ([0, 1, 2, 3].all fun k => let u := counted cxlBehind k
        !u.cxlPasses k cxIn && !(u.flag Reg.TSH_CTRL.POLICE_EN && u.peakDeficit 15) && !(u.heldOf 15).isEmpty) = true
    ∧ (cxlSnoop.ldAgent 15 = some 0 ∧ (cxlSnoop.openSnoop 64 0).isSome = true)
    ∧ (cxlHeld.heldOf 15 = [(0, { cx with hpa := 0 }, 0)] ∧ cxlHeld.peakDeficit 15 = false ∧ cxlHeld.admitting = true
      ∧ (({ cxlHeld with tsh := { cxlHeld.tsh with hold := [] } }.cxlTake 0 { cx with hpa := 0 }).2).isSome = true) := by decide +kernel
/-! Stacks, shaper, energy. -/

/-- Stack 11 with every channel quiesced, one access of requester 16, and a partition over the start of memory. -/
def stacked : State :=
  { (((net.setF (Reg.SC_CH_QSC.QSC 11) 0xFFFFFFFF).setF (Reg.SC_CH_QSD.QSD 11) 0xFFFFFFFF).setF (Reg.PTN_SIZE.SIZE_GIB 0) 64).setFlag
      (Reg.PTN_FLAGS.INITIALISED 0) true with sc := { net.sc with pend := [⟨10, 16, 0x5000, 64, false, false, 0, []⟩], unlogged := [(10, 3)] } }

/-- One read waits at queue 0 of stack 10, with its row open; then a read of another bank's row, of ordinary priority. -/
def reading : State := { stacked with sc := { net.sc with cmds := [⟨640, 0, 0, 0, false, false, false, false, 0⟩], rows := [(640 * 32, 0)] } }

/-- The arbiter of stack 10 at its starvation bound. -/
def starved : State := stacked.setStarv 10 (stacked.f (Reg.SC_ARB_CTRL.STARV_N 10) - 1)

theorem wit_StackWritesAct :
    11 < stacked.part.stacks ∧ opens stacked [Reg.SC_CH_QSC.OFF 11, Pg.SC 11 + 0x1040, Pg.SC 11 + 0x2100, Pg.SC 11 + 0x2A7C, Reg.SC_CTRL.OFF 11] = true
    ∧ ([0x1040, 0x1044, 0x1048, 0x2100, 0x28F0, 0x2A00, 0x2A7C].all fun o => timingReg o && stacked.timingOpen 11 o && !stacked.timingOpen 0 o) = true
    ∧ stacked.stackFailed 11 = false ∧ bit (1#32).toNat 0 = true := by decide +kernel

/-- The heads of a stack's arbiter. -/
def headsOf (s : State) (n : Nat) : List (Nat × Access) := (List.range 17).filterMap fun j => (s.headAccess n j).map fun y => (j, y)

theorem wit_StackEventsAct :
    stacked.active = true ∧ 10 < stacked.part.stacks ∧ 11 < stacked.part.stacks
    ∧ ([0, 31].all fun c => bit (stacked.f (Reg.SC_CH_QSC.QSC 11)) c && !(stacked.sc.cmds.any fun x => x.q / 64 == 11 && queueCh x.q == c)
      && !(stacked.sc.reads.any fun x => x.q / 64 == 11 && queueCh x.q == c)) = true
    ∧ (let u := starved.panicTest 10
       u.f (Reg.SC_ARB_CTRL.STARV_N 10) ≤ u.starv 10 + 1 ∧ (longest (u.headSince 10) (headsOf u 10)).isSome = true)
    ∧ (let u := stacked.panicTest 10
       let t := ((headsOf u 10).map fun h => u.f (Reg.SC_ARB_TKT.TICKETS 10 h.1)).foldl (· + ·) 0
       u.starv 10 + 1 < u.f (Reg.SC_ARB_CTRL.STARV_N 10) ∧ u.panicking 10 = false ∧ headsOf u 10 ≠ [] ∧ t ≠ 0
       ∧ (lottery (fun j => u.f (Reg.SC_ARB_TKT.TICKETS 10 j)) (headsOf u 10) 0 (u.f (Reg.SC_ARB_LFSR.LFSR 10) * t / 65536)).isSome = true)
    ∧ (reading.active = true ∧ ((reading.panicTest 10).drainTest 10 640).sc.cmds.filter (fun y => y.q == 640)
        = [⟨640, 0, 0, 0, false, false, false, false, 0⟩] ∧ ((reading.panicTest 10).drainTest 10 640).f (Reg.SC_STAT.STATE 10) = 1
      ∧ ((reading.panicTest 10).drainTest 10 640).f Reg.EPL_PLAN_CMD.CAP = 0)
    ∧ (let s := { reading.setF Reg.EPL_PLAN_CMD.CAP 1 with sc := { reading.sc with cmds := [⟨703, 31, 0, 0, false, false, false, true, 0⟩] } }
       s.active = true ∧ ((s.panicTest 10).drainTest 10 703).sc.cmds.filter (fun y => y.q == 703)
         = [⟨703, 31, 0, 0, false, false, false, true, 0⟩] ∧ ((s.panicTest 10).drainTest 10 703).f (Reg.SC_STAT.STATE 10) = 1)
    ∧ (reading.refreshDeferrable 640 0 = true ∧ reading.postponed (640 * 32) < 8 ∧ reading.ahead (640 * 32) = 0
      ∧ 0 < (reading.setAhead (640 * 32) 1).ahead (640 * 32) ∧ (reading.setAhead (640 * 32) 1).f (Reg.SC_STAT.STATE 10) = 1)
    ∧ (reading.refreshDeferrable 703 31 = false ∧ reading.ahead (703 * 32 + 31) = 0
      ∧ (let k := 703 * 32 + 31
         ((reading.setPostponed k 0).refresh k (1 + reading.postponed k)).bankIdle 703 31 = true)
      ∧ (let k := 640 * 32
         let s := reading.setPostponed k 8
         s.postponed k = 8 ∧ ((s.setPostponed k 0).refresh k 9).bankIdle 640 0 = false))
    ∧ (reading.sc.reads = [] ∧ (let x : SecCmd := ⟨640, 0, 0, 64, false, false, true, false, 0⟩
         let s := { reading with sc := { reading.sc with reads := [x] } }
         s.active = true ∧ s.sc.reads.find? (fun y => y.ppa == 64 / 64 * 64) = some x ∧ 64 < s.part.ppaEnd))
    ∧ (net.sc.reads.find? (fun x => x.ppa == (net.part.ppaEnd - 1) / 64 * 64) = none ∧ 0 < net.part.ppaEnd)
    ∧ (let s := { stacked.setFlag (Reg.SC_SCRUB_CTRL.EN 0) true with epl := { stacked.epl with maintLeft := 64 } }
       s.active = true ∧ s.flag (Reg.SC_SCRUB_CTRL.EN 0) = true ∧ s.f (Reg.SC_STAT.STATE 0) = 1 ∧ s.scrubAllowed = true
       ∧ (s.scrubFrom 0 40000 (s.f (Reg.SC_SCRUB_POS.GRANULE 0))).isSome = true)
    ∧ stacked.sc.unlogged.contains (10, 3) = true ∧ stacked.stackFailed 11 = false := by decide +kernel

/-- Granule 3 is being retired onto spare 0. -/
def retiring : State := { stacked with sc := { stacked.sc with retire := [⟨3, 0, none⟩] } }

theorem wit_RetirementsComplete :
    retiring.active = true ∧ retiring.stackAt (3 * 4096) < retiring.part.stacks
    ∧ retiring.sc.retire.find? (fun x => x.granule == 3 && retiring.stackAt (3 * 4096) == retiring.stackAt (3 * 4096)) = some ⟨3, 0, none⟩
    ∧ retiring.stackFailed (retiring.stackAt (3 * 4096)) = false
    ∧ retiring.stackFailed (retiring.part.stackOf (retiring.part.sparePpa 0)) = false
    ∧ retiring.granuleQuiesced (3 * 4096) = false ∧ retiring.granuleQuiesced (retiring.part.sparePpa 0) = false := by decide +kernel

theorem wit_ShaperCommandsAct :
    net.active = true ∧ net.flag Reg.TSH_HIST_CTRL.FREEZE = false ∧ (net.setFlag Reg.TSH_HIST_CTRL.FREEZE true).active = true
    ∧ (net.setFlag Reg.TSH_HIST_CTRL.FREEZE true).flag Reg.TSH_HIST_CTRL.FREEZE = true ∧ opens net [Reg.TSH_HIST_CTRL.OFF] = true := by decide +kernel

/-- PLAN_TMO intervals have passed without a plan; a FATAL record is held; the chip is in a warm reset. -/
def stale1 : State := { net with epl := { net.epl with stale := 255, slot := 98 } }
def fatal1 : State := { net with flt := { net.flt with lastFatal := some (mkRec 137 3 0x1101) } }
def warm1 : State := { net with phase := .warm 1 }

theorem wit_EnergyCommandsAct :
    ([0, 11, 23, 119, 135].all fun m => net.part.meterPresent m && !net.epl.faulty.contains m && !net.epl.faultyNew.contains m) = true
    ∧ (stale1.active = true ∧ stale1.epl.slot < 99 ∧ stale1.f Reg.EPL_CTRL.PLAN_TMO ≤ stale1.epl.stale ∧ stale1.flag Reg.EPL_STAT.PLAN_STALE = false)
    ∧ ([net, warm1, fatal1].all fun s => s.clocked && s.sidebandUp) = true ∧ net.phase = .ready ∧ warm1.phase = .warm 1
    ∧ fatal1.flt.lastFatal = some (mkRec 137 3 0x1101) ∧ net.flt.lastFatal = none := by decide +kernel

/-- Some value is one thing where a test holds and another where it does not. -/
theorem both {α : Type} (c : Bool) (a b : α) : ∃ x, (c = true → x = a) ∧ (c = false → x = b) := by
  cases c
  · exact ⟨b, nofun, fun _ => rfl⟩
  · exact ⟨a, fun _ => rfl, nofun⟩

/-- An interval without a plan. -/
def unplanned (u : State) : State := { u with epl := { u.epl with stale := u.epl.stale + 1 } }.bump Reg.EPL_STALE_CNT.OFF

/-- The state that has charged an interval's energy. -/
def charged (s1 s : State) : State := ((s1.overBudget s.intervalUj).derate).chargeUj s.countedUj

/-- The states of an interval's end exist whatever the factory constants are. -/
theorem wit_EnergyCommandsAct_plan (s : State) : ∃ s1 u v w,
    (s.planning = true → s.service = 0 → s1 = s.publishEp (s.pressure s.intervalUj)) ∧ (s.planning = false ∨ s.service ≠ 0 → s1 = s)
    ∧ u = charged s1 s ∧ (u.planning = true → v = u.makePlan.bump Reg.EPL_INTERVAL_CNT.OFF)
    ∧ (u.planning = false → v = unplanned u)
    ∧ (v.f Reg.EPL_PLAN_CMD.CAP = 0 → w = v) ∧ (v.f Reg.EPL_PLAN_CMD.CAP ≠ 0 → w = v.bump Reg.EPL_CAP_CNT.OFF) := by
  obtain ⟨s1, h1, h2⟩ := both (s.planning && s.service == 0) (s.publishEp (s.pressure s.intervalUj)) s
  simp only [Bool.and_eq_true, beq_iff_eq, and_imp, Bool.and_eq_false_iff, beq_eq_false_iff_ne] at h1 h2
  obtain ⟨v, h3, h4⟩ := both (charged s1 s).planning ((charged s1 s).makePlan.bump Reg.EPL_INTERVAL_CNT.OFF) (unplanned (charged s1 s))
  by_cases h : v.f Reg.EPL_PLAN_CMD.CAP = 0
  · exact ⟨s1, _, v, v, h1, h2, rfl, h3, h4, fun _ => rfl, fun h' => absurd h h'⟩
  · exact ⟨s1, _, v, _, h1, h2, rfl, h3, h4, fun h' => absurd h' h, fun _ => rfl⟩
/-! Fabric, registers, the ring, faults and resets, latches. -/

/-- A chip without an ID whose version v has every entry at 7 and 7, not VALID. -/
def tabled (v : Nat) : State := { State.reset with regs := (List.range' 0 4096).map fun d => (0x21000 + 16384 * v + 4 * d, 63) }

theorem get_rows {b c k : Nat} (n a : Nat) (h1 : a ≤ k) (h2 : k < a + n) :
    SMap.get resetWord ((List.range' a n).map fun d => (b + 4 * d, c)) (b + 4 * k) = c := by
  induction n generalizing a with
  | zero => omega
  | succ m ih =>
    rw [List.range'_succ, List.map_cons]
    by_cases h : k = a
    · subst h; simp [SMap.get]
    · rw [SMap.get, if_neg (by omega)]
      exact ih (a + 1) (by omega) (by omega)

theorem tabled_passes (v dirs : Nat) (hv : v < 2) : (tabled v).tableFail dirs v = none := by
  have node : (tabled v).hasId = false := by
    have h : (tabled v).word Reg.RTB_NODE.OFF = resetWord Reg.RTB_NODE.OFF := SMap.get_of_notMem fun e he => by
      obtain ⟨d, _, rfl⟩ := List.mem_map.1 he
      show 0x21000 + 16384 * v + 4 * d ≠ 0x20040
      omega
    have h0 : resetWord Reg.RTB_NODE.OFF &&& 0x1000 = 0 := by decide +kernel
    have h1 : (tabled v).hasId = (bits (resetWord Reg.RTB_NODE.OFF) 12 12 != 0) := by
      rw [← h]; rfl
    rw [h1]; decide +kernel
  have row (d : Nat) (hd : d < 4096) : (tabled v).word (Reg.RTB_ROUTE.OFF v d) = 63 :=
    get_rows (b := 0x21000 + 16384 * v) 4096 0 (Nat.zero_le d) (by omega)
  simp only [State.tableFail, Option.map_eq_none_iff, List.find?_eq_none, List.mem_range]
  intro d hd
  have hp : (tabled v).f (Reg.RTB_ROUTE.PRIMARY v d) = 7 := by simp [State.f, Reg.RTB_ROUTE.PRIMARY, row d hd]
  have hs : (tabled v).f (Reg.RTB_ROUTE.SECONDARY v d) = 7 := by simp [State.f, Reg.RTB_ROUTE.SECONDARY, row d hd]
  have hv' : (tabled v).flag (Reg.RTB_ROUTE.VALID v d) = false := by simp [State.flag, State.f, Reg.RTB_ROUTE.VALID, row d hd]
  simp [State.entryRule, hp, hs, hv', node, codeDown]

/-- The chain head with ID 0x101, its chain port down; both table versions valid, version B not used for injection. -/
def chainHead : State :=
  ((net.setFlag Reg.RTB_ENUM_CTRL.CHAIN_HEAD true).setFlag Reg.RTB_TBL_STAT.VALID_A true).setFlag Reg.RTB_TBL_STAT.VALID_B true

theorem wit_FabricWritesAct :
    opens chainHead [Reg.RTB_TBL_CMD.OFF, Reg.RTB_MC_PORT.OFF 0, Reg.RTB_MC_PORT.OFF 255, Reg.RTB_ENUM_CTRL.OFF, Reg.RTB_NODE.OFF,
      Reg.RTB_TIME_SET.OFF] = true
    ∧ (chainHead.mayInvalidate 1 = true ∧ chainHead.mayInvalidate 0 = false)
    ∧ (chainHead.verValid 0 = true ∧ chainHead.verValid 1 = true ∧ chainHead.f Reg.RTB_CTRL.INJ_EPOCH = 0
      ∧ (chainHead.setF Reg.RTB_CTRL.INJ_EPOCH 1).verValid 0 = true ∧ (chainHead.setF Reg.RTB_CTRL.INJ_EPOCH 1).f Reg.RTB_CTRL.INJ_EPOCH = 1
      ∧ net.verValid 0 = false ∧ net.verValid 1 = false)
    ∧ (bit (chainHead.word (Reg.RTB_MC_PORT.OFF 255)) 31 = false ∧ bit (0x7FFFFFFF#32).toNat 31 = false)
    ∧ (chainHead.flag Reg.RTB_ENUM_CTRL.CHAIN_HEAD = true ∧ chainHead.hasId = true ∧ fresh.hasId = false ∧ fresh.regOpen .mmio Reg.RTB_NODE.OFF = true)
    ∧ (bits (0x101#32).toNat 11 0 = chainHead.ownId ∧ bits (0x102#32).toNat 11 0 ≠ chainHead.ownId
      ∧ (chainHead.part.hinge && chainHead.flag Reg.HPS_CTRL.PAIR_EN) = false)
    ∧ net.flag Reg.RTB_ENUM_CTRL.CHAIN_HEAD = false ∧ opens net [Reg.RTB_TIME_SET.OFF, Reg.RTB_TBL_CMD.OFF] = true := by decide +kernel

/-- A COMMIT that passes, of either version, and one whose entry 0x101 is this chip's own but not LOCAL. -/
theorem wit_FabricWritesAct_commit :
    (∀ v, v < 2 → (tabled v).tableFail (bits ((tabled v).word Reg.RTB_PORT_DIR.OFF) 4 0) v = none)
    ∧ (let s := net.setWord (Reg.RTB_ROUTE.OFF 0 0) 0
       s.regOpen .mmio Reg.RTB_TBL_CMD.OFF = true ∧ s.tableFail (bits (s.word Reg.RTB_PORT_DIR.OFF) 4 0) 0 = some (0, 3)) := by
  refine ⟨fun v hv => tabled_passes v _ hv, by decide +kernel⟩

/-- Enumeration waits for the chain port: at the head, and below it for the neighbour that asked. -/
def enumHead : State := chainHead.setF Reg.RTB_ENUM_STAT.STATE 2
def enumBelow : State := { net.setF Reg.RTB_ENUM_STAT.STATE 2 with rtb := { net.rtb with enumUp := some (0, enum 0 []) } }

theorem wit_FabricTimersAct :
    (enumHead.active = true ∧ enumHead.f Reg.RTB_ENUM_STAT.STATE = 2 ∧ enumHead.rtb.enumUp = none
      ∧ (((enumHead.setF Reg.RTB_ENUM_STAT.LAST_ID enumHead.ownId).setF Reg.RTB_ENUM_STAT.STATE 3).flag Reg.RTB_ENUM_CTRL.CHAIN_HEAD) = true)
    ∧ (enumBelow.active = true ∧ enumBelow.f Reg.RTB_ENUM_STAT.STATE = 2 ∧ enumBelow.rtb.enumUp = some (0, enum 0 []))
    ∧ (let s := net.setFlag Reg.RTB_ENUM_STAT.UP_VALID true
       s.active = true ∧ s.flag Reg.RTB_ENUM_STAT.UP_VALID = true ∧ s.linkUp (s.f Reg.RTB_ENUM_STAT.UPSTREAM) = true
       ∧ s.flag Reg.RTB_ENUM_CTRL.CHAIN_HEAD = false) := by decide +kernel

/-- What the write of 1 to a register that its page leaves to its access codes meets. -/
def plainReg (s : State) (o : Nat) : Bool :=
  s.clocked && s.mgmtServed && o % 4 == 0 && s.mayReach (s.priv .mmio) o true && o != Reg.GLB_MGR_NODE.OFF && o / 4096 * 4096 != Pg.FTM
    && (wideAt o).isNone && !(pageHeader o && decide (o % 4096 < 0x40)) && !s.resetting.contains (headOf o)
    && (s.cmdWrite .mmio o 1).isNone && (match findReg o with | some (r, false) => !r.wide && !r.cnt | _ => false) && o / 4096 != 0x60
    && (linkOff o).isNone && (arrIdx (Reg.SC_SCHED.OFF 0) 65536 12 o).isNone && o != Reg.FLT_RING_CTRL.OFF && o != Reg.FLT_RING_TAIL.OFF
    && o != Reg.RTB_CTRL.OFF

/-- The same of a register of 64 bits, written by its two words. -/
def plainWide (s : State) (o : Nat) : Bool :=
  s.clocked && s.mgmtServed && o % 8 == 0 && s.mayReach (s.priv .mmio) o true && s.mayReach (s.priv .mmio) (o + 4) true
    && o != Reg.GLB_MGR_NODE.OFF && o + 4 != Reg.GLB_MGR_NODE.OFF && o / 4096 * 4096 != Pg.FTM && wideAt o == some (o, false)
    && wideAt (o + 4) == some (o, true) && !(pageHeader (o + 4) && decide ((o + 4) % 4096 < 0x40)) && !s.resetting.contains (headOf o)
    && (s.cmdWrite .mmio o (wordOf [0, 0, 0, 1, 0, 0, 0, 1] 0 + wordOf [0, 0, 0, 1, 0, 0, 0, 1] 1 * 2 ^ 32)).isNone
    && (match findReg o with | some (r, false) => r.wide | _ => false) && o / 4096 != 0x60
    && (linkOff o).isNone && (arrIdx (Reg.SC_SCHED.OFF 0) 65536 12 o).isNone && o != Reg.FLT_RING_CTRL.OFF && o != Reg.FLT_RING_TAIL.OFF
    && o != Reg.RTB_CTRL.OFF

theorem wit_RegisterWritesAct :
    ([Reg.KTU_KW_SEL.OFF, Reg.LCH_ACC_SEL.OFF, Reg.LCH_ACC_VALUE.OFF, Pg.DBG + 0x40].all (plainReg net)) = true
    ∧ ([(Reg.WRD_RETRY_CNT.OFF, true), (Reg.LCH_TIMEOUT_CNT.OFF, true), (Reg.KTU_INV_START.OFF, false)].all fun x =>
        plainWide net x.1 && (match findReg x.1 with | some (r, _) => r.cnt == x.2 | none => false)) = true
    ∧ ([0, 0, 0, 1, 0, 0, 0, 1] : List Byte).length = 8 ∧ 0xFFF000 % 8 = 0 ∧ net.mayReach (net.priv .mmio) 0xFFF004 true = false
    ∧ ([0, 0, 0, 1] : List Byte).length = 4 ∧ net.mayReach (net.priv .mmio) 0xFFF000 true = false ∧ 0xFFF000 % 4 = 0
    ∧ ([0, 1] : List Byte).length ≠ 4 ∧ ([0, 1] : List Byte).length ≠ 8 := by decide +kernel

/-- HEAD 3 records past TAIL, and the ring not enabled. -/
def ring3 : State := (net.setF Reg.FLT_RING_HEAD.HEAD 3).setF Reg.FLT_RING_CTRL.ENABLE 0

theorem wit_RingWritesAct :
    opens ring3 [Reg.FLT_RING_TAIL.OFF, Reg.FLT_RING_CTRL.OFF] = true
    ∧ ([0, 3].all fun v => decide ((ring3.f Reg.FLT_RING_HEAD.HEAD + 4294967296 - v) % 4294967296 ≤ ring3.ringSize)) = true
    ∧ ring3.ringSize < (ring3.f Reg.FLT_RING_HEAD.HEAD + 4294967296 - 4) % 4294967296
    ∧ bits (ring3.f Reg.FLT_RING_CTRL.LOG2_SIZE * 256 + 1) 12 8 = ring3.f Reg.FLT_RING_CTRL.LOG2_SIZE
    ∧ ring3.flag Reg.FLT_RING_CTRL.ENABLE = false
    ∧ ([6, 16].any fun n => bits (n * 256) 12 8 != ring3.f Reg.FLT_RING_CTRL.LOG2_SIZE) = true ∧ bits (6 * 256) 12 8 = 6
    ∧ bits (16 * 256) 12 8 = 16 := by decide +kernel

/-- A NOTIFY for node 9 waits, and port 1 has credits. -/
def notice : Packet := ({ dest := 9, src := 0x101, vc := 6, opcode := 0x63 } : Form).packet
def noticeSelf : Packet := ({ dest := 0x101, src := 0x101, vc := 6, opcode := 0x63 } : Form).packet
def notifying : State :=
  { router.setLnk 1 { router.lnk 1 with limit := [(6, 100)] } with flt := { router.flt with notify := [notice] } }

theorem wit_CollectorCommandsAct :
    net.clocked = true ∧ opens net [Reg.FLT_ACK.OFF, Pg.GLB + 0x10, Reg.GLB_LAST_FATAL_V.OFF, Reg.GLB_CNT_CLR.OFF] = true
    ∧ (bit (0x80000000#32).toNat 31 = true ∧ bit (0#32).toNat 31 = false)
    ∧ (notifying.active = true ∧ notifying.flt.notify = [notice]
      ∧ (match (notifying.route (notifying.injected notice)).2 with
          | .send port q => port == 1 && decide (units q.packetLen ≤ notifying.creditLeft port 6)
          | _ => false) = true)
    ∧ (let s : State := { router with flt := { router.flt with notify := [notice] } }
       s.active = true ∧ (match (s.route (s.injected notice)).2 with
          | .send port q => port == 1 && decide (s.creditLeft port 6 < units q.packetLen)
          | _ => false) = true)
    ∧ (let p := noticeSelf
       let s : State := { router with flt := { router.flt with notify := [p] } }
       s.active = true ∧ (match (s.route (s.injected p)).2 with | .here _ => true | _ => false) = true)
    ∧ ([Pg.GLB, Pg.LCH, Pg.SC 11].all fun pg => headerPage pg && pageKind net.part pg == .present && pg != Pg.TSH
        && pg == bits (2 ^ 31 + pg / 4096) 15 0 * 4096 && bit (2 ^ 31 + pg / 4096) 31 && !bit (2 ^ 31 + pg / 4096) 30) = true
    ∧ (Pg.TSH = bits (2 ^ 31 + Pg.TSH / 4096) 15 0 * 4096 ∧ bit (2 ^ 31 + 2 ^ 30) 31 = true ∧ bit (2 ^ 31 + 2 ^ 30) 30 = true) := by decide +kernel

/-- READY after a first READY; a warm reset at steps 1 and 5; a halt that waits. -/
def again : State := { net with everReady := true }
def warmLow : State := { warm1 with pins := { net.pins with warmLow := true } }
def warm5 : State := { net with phase := .warm 5 }
def halting : State := { net with phase := .haltWait }

theorem wit_ResetCommandsAct :
    ([again, warm1, { net with everReady := false }].all fun s => s.regOpen .mmio Reg.GLB_RST.OFF) = true
    ∧ (again.phase = .ready ∧ again.everReady = true ∧ warm1.phase = .warm 1 ∧ warm1.init = none ∧ warm1.pins.warmLow = false
      ∧ warmLow.phase = .warm 1 ∧ warmLow.init = none ∧ warmLow.pins.warmLow = true)
    ∧ warm5.phase = .warm 5 ∧ halting.phase = .haltWait ∧ net.regOpen .mmio Reg.GLB_CTRL.OFF = true := by decide +kernel

/-- The stack control page, a port page and the other pages that a block reset takes. -/
def headed (s : State) (pg : Nat) : Bool :=
  s.headOpen .mmio (pg / 4096) && pg == pg / 4096 * 4096 && !resetIgnored pg && !s.resetting.contains pg && !s.resetRefused pg
    && !(pagePorts pg).any s.failedPorts.contains && pg != Pg.RTB

theorem wit_BlockCommandsAct :
    ([Pg.LCH, Pg.WRD, Pg.PTN, Pg.SC 11, 0x10000, 0x14000, Pg.KTU].all (headed stacked)) = true
    ∧ (ctrlStack (Pg.SC 11) = some 11 ∧ stacked.f (Reg.SC_CH_QSD.QSD 11) = 0xFFFFFFFF ∧ ctrlStack (Pg.SC 10) = some 10
      ∧ stacked.f (Reg.SC_CH_QSD.QSD 10) ≠ 0xFFFFFFFF ∧ [Pg.LCH, Pg.WRD, Pg.PTN, Pg.KTU, Pg.RTB].all (fun pg => ctrlStack pg == none
        && pagePorts pg == [] && stacked.headOpen .mmio (pg / 4096) && !resetIgnored pg && !stacked.resetting.contains pg) = true)
    ∧ ([Pg.GLB, Pg.KPR].all fun pg => stacked.headOpen .mmio (pg / 4096) && resetIgnored pg) = true
    ∧ (let s := { stacked with resetting := [Pg.LCH] }
       s.headOpen .mmio (Pg.LCH / 4096) = true ∧ s.resetting.contains Pg.LCH = true)
    ∧ (let s := { stacked with failedPorts := [4] }
       s.headOpen .mmio 0x14 = true ∧ (pagePorts 0x14000).any s.failedPorts.contains = true)
    ∧ ([0x10000, 0x14000, 0x90000, 0xEF000].all fun pg => stacked.headOpen .mmio (pg / 4096) && stacked.flag (Hdr.ENABLE pg)
        && !stacked.flag (Hdr.FREEZE pg)) = true
    ∧ (pagePorts 0x14000 ≠ [] ∧ (pagePorts 0x14000).any stacked.failedPorts.contains = false)
    ∧ (let s := stacked.setFlag (Hdr.FREEZE Pg.LCH) true
       s.headOpen .mmio (Pg.LCH / 4096) = true ∧ s.flag (Hdr.FREEZE Pg.LCH) = true) := by decide +kernel

theorem wit_FaultInjectionActs :
    ([0, 1, 2, 3, 4, 7].all fun k => let s := (net.setFlag Reg.GLB_STAT.FACTORY true).setF Reg.FTM_INJ_CTRL.KIND k
      s.regOpen .mmio Reg.FTM_INJ_CMD.OFF && s.factory && s.f Reg.FTM_INJ_CTRL.KIND == k) = true := by decide +kernel

/-- A wait of latch 9 is parked; long ago, with the detector on. -/
def parked1 : State := { net with lch := { net.lch with parks := [⟨false, rq (req 0x32 (5 * 2 ^ 32 + 9) []), 9, 5, false, 1, 0⟩] } }
def stuck : State := { parked1.setFlag Reg.LCH_CTRL.DL_EN true with time := 2 ^ 63 }

/-- Group 0 VALID and of a quiesced owner. -/
def grouped : State := still.setWord (Reg.LCH_GRP.OFF 255) (2 ^ 31)

theorem wit_LatchCommandsAct :
    (parked1.active = true ∧ parked1.parked[0]? ≠ none ∧ parked1.deadlocked = false ∧ stuck.active = true ∧ stuck.deadlocked = true
      ∧ stuck.flag Reg.LCH_DL_STAT.SNAP_VALID = false ∧ (stuck.setFlag Reg.LCH_DL_STAT.SNAP_VALID true).deadlocked = true)
    ∧ opens net [Reg.LCH_ACC_CMD.OFF, Reg.LCH_DL_STAT.OFF] = true
    ∧ ([Reg.LCH_GRP.OFF 0, Reg.LCH_GRP.OFF 255, Reg.LCH_GRP_SHARE.OFF 0, Reg.LCH_GRP_SHARE.OFF 255 + 4].all fun o =>
        grouped.clocked && grouped.mgmtServed && !grouped.resetting.contains Pg.LCH && grouped.mayReach .manager o true) = true
    ∧ (bit (grouped.word (Reg.LCH_GRP.OFF 255)) 31 = true ∧ grouped.quiesced (bits (grouped.word (Reg.LCH_GRP.OFF 255)) 5 0) = true
      ∧ bit (grouped.word (Reg.LCH_GRP.OFF 0)) 31 = false) := by decide +kernel

/-! Link ports. -/

/-- Port 0 in a state of R320. -/
def portIn (n : Nat) : State := net.setF (Reg.SWP_STAT.STATE 0) n

/-- A flit of idle or of packets with sequence number n, its CRC as R291 has it. -/
def flitOf (idle : Bool) (n : Nat) : Flit :=
  let b := zeros 240 ++ leBytes 8 (if idle then 2 ^ 37 else 0)
  ⟨b ++ leBytes 8 (crc64State (crc64State 0xFFFFFFFFFFFFFFFF b) (leBytes 2 n) ^^^ 0xFFFFFFFFFFFFFFFF)⟩

/-- A port that keeps one flit, asks for a retrain, replays. -/
def kept : State := net.setLnk 0 { net.lnk 0 with buf := [(0, zeros 256)] }
def lastSlot (n : Nat) : State := (portIn n).setLnk 0 { Lnk.none with slot := 15 }
def asking (n : Nat) : State := (portIn n).setLnk 0 { Lnk.none with askRetrain := true }

/-- The port after the slots of an empty flit. -/
def taking : State := ((net.setLnk 0 { net.lnk 0 with e := ((net.lnk 0).e + 1) % 65536, askReplay := false }).bump (Reg.SWP_RX_FLIT_CNT.OFF 0))

theorem wit_FlitCommandsAct :
    (net.active = true ∧ net.part.hasPort 0 = true ∧ net.part.hasPort 5 = true)
    ∧ ([2, 3, 4, 5].all fun n => (lastSlot n).active && (lastSlot n).portState 0 == n && ((lastSlot n).lnk 0).slot % 16 == 15) = true
    ∧ ([4, 5].all fun n => (asking n).portState 0 == n && ((asking n).lnk 0).slot % 16 != 15 && ((asking n).lnk 0).askRetrain) = true
    ∧ (net.portState 0 = 4 ∧ (net.lnk 0).askRetrain = false ∧ (net.lnk 0).rep = none ∧ (net.lnk 0).e = 0)
    ∧ (kept.portState 0 = 4 ∧ (kept.lnk 0).buf = [(0, zeros 256)])
    ∧ ((flitOf true 0).bytes.length = 256 ∧ flitDistance (flitOf true 0).bytes 0 = some 0 ∧ bit (leNat (slice (flitOf true 0).bytes 240 8)) 37 = true
      ∧ ((net.setLnk 0 { net.lnk 0 with askReplay := false }).bump (Reg.SWP_RX_FLIT_CNT.OFF 0)).portState 0 = 4)
    ∧ (flitDistance (flitOf false 0).bytes 0 = some 0 ∧ bit (leNat (slice (flitOf false 0).bytes 240 8)) 37 = false
      ∧ ((taking.takePhase 0 false 0).takeSlots 0 0 (flitOf false 0).bytes (List.range 15)).1.portState 0 = 4)
    ∧ flitDistance (flitOf false 1).bytes 0 = some 1 ∧ flitDistance (flitOf false 511).bytes 0 = some 511 := by and_intros <;> decide +kernel

/-- A duplicate at the far end of its range, and a flit whose CRC fails at every distance. -/
theorem wit_FlitCommandsAct_far : flitDistance (flitOf false 65535).bytes 0 = some 65535 ∧ flitDistance (zeros 256) 0 = none
    ∧ (zeros 256).length = 256 := by and_intros <;> decide +kernel

/-- A control block with a message of a type, numbered 1. -/
def blk (ty : Nat) (body : List Byte) : Lcb := ⟨lcbBytes ty 1 0 body⟩

/-- What a control block's message meets. -/
def blkTaken (s : State) (f : Lcb) : Bool :=
  let k := (s.lnk 0).acked' (lcbAck f.bytes)
  s.active && s.part.hasPort 0 && decide (2 ≤ s.portState 0) && lcbOk f.bytes && lcbSeq f.bytes == (k.inSeq + 1) % 65536

/-- The first of two IDENTITY pieces, and the only one of one. -/
def piece1 : Lcb := blk 2 ([0, 2] ++ zeros 230)
def piece2 : Lcb := blk 2 ([0, 1] ++ zeros 230)

/-- A port that is retraining, one in a rekey. -/
def retraining : State := portIn 5
def rekeying : State := net.setLnk 0 { net.lnk 0 with rekey := true }

/-- An ACTIVE port that has trained. -/
def upTrained : State := net.setLnk 0 { net.lnk 0 with trained := true }

/-- A retrain this port started, with its nonce 7 still to be acknowledged; a RETRAIN by its first byte, node and nonce. -/
def owning : State := retraining.setLnk 0 ({ retraining.lnk 0 with own := true, nonce := 7 }.say 5 [])
def asks (t node nonce : Nat) : Lcb := blk 5 (leBytes 2 t ++ leBytes 2 node ++ zeros 4 ++ leBytes 8 nonce)

/-- The case a RETRAIN falls under, once its block is taken. -/
def retrainCase (s : State) (f : Lcb) : Option Nat :=
  let k := (s.lnk 0).acked' (lcbAck f.bytes)
  let u := s.setLnk 0 { k with inSeq := lcbSeq f.bytes }
  let v := u.retrainStart 0 false false
  let m := v.lnk 0
  let node := leNat (slice (lcbBody f.bytes) 2 2)
  let nonce := leNat (slice (lcbBody f.bytes) 8 8)
  if !(blkTaken s f && lcbType f.bytes == 5) then none
  else if v.portState 0 != 5 then some 0
  else if bit (byteAt (lcbBody f.bytes) 0).toNat 4 then some 1
  else if !m.own || m.msgs.all fun y => y.1 != 5 then some 2
  else if node == u.ownId && nonce == m.nonce then some 3
  else if node < u.ownId ∨ node = u.ownId ∧ nonce < m.nonce then some 4
  else some 5

theorem wit_LinkMessagesAct :
    (blkTaken (portIn 2) (blk 1 []) = true ∧ lcbType (blk 1 []).bytes = 1 ∧ (portIn 2).portState 0 = 2)
    ∧ (blkTaken (portIn 3) piece1 = true ∧ lcbType piece1.bytes = 2 ∧ (portIn 3).portState 0 = 3 ∧ (byteAt (lcbBody piece1.bytes) 0).toNat = 0
      ∧ (byteAt (lcbBody piece1.bytes) 1).toNat = 2 ∧ leNat (slice (lcbBody piece1.bytes) 2 2) ≤ 3616
      ∧ (SMap.set (fun _ => []) ((portIn 3).lnk 0).pieces 0 (slice (lcbBody piece1.bytes) 6 226)).length < 2)
    ∧ (blkTaken (portIn 3) piece2 = true ∧ (byteAt (lcbBody piece2.bytes) 1).toNat = 1
      ∧ 1 ≤ (SMap.set (fun _ => []) ({ (portIn 3).lnk 0 with pieces := [(0, [1])] } : Lnk).pieces 0 (1 :: slice (lcbBody piece2.bytes) 6 226)).length)
    ∧ ([3, 4].all fun ty => blkTaken (portIn 3) (blk ty []) && lcbType (blk ty []).bytes == ty) = true
    ∧ ([blk 2 ([1, 1] ++ zeros 230), blk 2 ([0, 17] ++ zeros 230), blk 2 ([0, 1] ++ leBytes 2 3617 ++ zeros 228)].all fun f =>
        blkTaken (portIn 3) f && (decide ((byteAt (lcbBody f.bytes) 1).toNat ≤ (byteAt (lcbBody f.bytes) 0).toNat)
          || decide (16 < (byteAt (lcbBody f.bytes) 1).toNat) || decide (3616 < leNat (slice (lcbBody f.bytes) 2 2)))) = true
    ∧ (blkTaken net (blk 6 []) = true ∧ lcbType (blk 6 []).bytes = 6 ∧ net.linkUp 0 = true)
    ∧ (blkTaken rekeying (blk 7 []) = true ∧ lcbType (blk 7 []).bytes = 7 ∧ rekeying.linkUp 0 = true ∧ (rekeying.lnk 0).rekey = true)
    ∧ ([0, 8, 65535].all fun ty => blkTaken net (blk ty []) && lcbType (blk ty []).bytes == ty) = true := by and_intros <;> decide +kernel

/-- Every case of a RETRAIN is met. -/
theorem wit_LinkMessagesAct_retrain :
    retrainCase (portIn 3) (asks 0 5 0) = some 0 ∧ retrainCase upTrained (asks 16 5 0) = some 1 ∧ retrainCase upTrained (asks 3 5 0) = some 2
    ∧ retrainCase owning (asks 0 0x101 7) = some 3 ∧ retrainCase owning (asks 0 5 9) = some 4 ∧ retrainCase owning (asks 0 0x101 3) = some 4
    ∧ retrainCase owning (asks 0 0x200 3) = some 5 ∧ retrainCase owning (asks 0 0x101 9) = some 5
    ∧ retrainCase (retraining.setLnk 0 { retraining.lnk 0 with own := true }) (asks 0 5 0) = some 2 := by and_intros <;> decide +kernel

/-- A retrained port, by what its peer expects and what it keeps, with target x4 at speed code 1; one that retrains again. -/
def retrained (e : Option Nat) (buf : List (Nat × List Byte)) : State :=
  retraining.setLnk 0 { retraining.lnk 0 with peerE := e, buf := buf, target := 4 }
def chained (again : Bool) : State := retraining.setLnk 0 { retraining.lnk 0 with target := 4, chained := true, again := again, numK := 1 }

theorem wit_LinkEventsAct :
    (net.part.hasPort 0 = true ∧ net.active = true ∧ net.regOpen .mmio (Reg.SWP_CTRL.OFF 0) = true)
    ∧ (let old := net.word (Reg.SWP_CTRL.OFF 0)
       bit 128 7 = true ∧ bits (swpKeep old ((old + 1) % 128)) 3 0 ≠ bits old 3 0 ∧ bit (old % 128) 7 = false
       ∧ bits (swpKeep old (old % 128)) 3 0 = bits old 3 0)
    ∧ ([retrained (some 0) [], retrained (some 0) [(0, zeros 256)]].all fun s => let l := s.lnk 0
        s.active && s.portState 0 == 5 && !l.again && l.target == 4 && l.peerE == some 0
        && (l.buf.any (fun f => f.1 == 0) || 0 == l.next)) = true
    ∧ ((retrained (some 0) []).lnk 0).buf.dropWhile (fun f => f.1 != 0) = []
    ∧ ((retrained (some 0) [(0, zeros 256)]).lnk 0).buf.dropWhile (fun f => f.1 != 0) ≠ []
    ∧ (let l := (retrained (some 9) [(0, zeros 256)]).lnk 0
       l.peerE = some 9 ∧ (l.buf.any (fun f => f.1 == 9) || 9 == l.next) = false ∧ ((retrained none []).lnk 0).peerE = none)
    ∧ ((4 : Nat) % 4 < 1 ∧ ((retrained none []).lnk 0).chained = false ∧ (1 : Nat) ≠ (retrained none []).f (Reg.SWP_STAT.SPEED 0)
      ∧ ([false, true].all fun b => (chained b).active && (chained b).portState 0 == 5 && ((chained b).lnk 0).chained
        && ((chained b).lnk 0).again == b && ((chained b).lnk 0).cntK == 0 && ((chained b).lnk 0).numK == 1) = true)
    ∧ (net.portState 0 ≠ 5 ∧ (2 : Nat) ≠ ((chained false).lnk 0).target / 4
      ∧ (let s := retraining.setLnk 0 { retraining.lnk 0 with target := 6 }
         s.active = true ∧ 1 < (s.lnk 0).target % 4 ∧ 1 = (s.lnk 0).target / 4))
    ∧ ((retraining.lnk 0).tries ≤ 1 ∧ 2 ≤ ((retraining.setLnk 0 { retraining.lnk 0 with tries := 2 }).lnk 0).tries
      ∧ (retraining.setLnk 0 { retraining.lnk 0 with tries := 2 }).portState 0 = 5)
    ∧ ([1, 2, 3].all fun n => (portIn n).active && (portIn n).portState 0 == n && !((portIn n).lnk 0).trained) = true
    ∧ (net.linkUp 0 = true ∧ rekeying.active = true ∧ (rekeying.lnk 0).rekey = true ∧ net.flag Reg.KPR_STAT.RNG_OK = true
      ∧ (net.setFlag Reg.KPR_STAT.RNG_OK false).flag Reg.KPR_STAT.RNG_OK = false) := by decide +kernel

/-- A chip with an ID, a pair ID, a partner and a witness. -/
def paired0 : State := ((net.setF Reg.RTB_NODE.PAIR_ID 0x200).setF Reg.HPS_PARTNER.PARTNER 5).setF Reg.HPS_PARTNER.WITNESS 6

/-- A member in a state of R397. -/
def memberIn (n : Nat) : State := (pairOf 5 6).setF Reg.HPS_STAT.STATE n

/-- HPS_CTRL's other bits taken, and DUAL_ON shown again. -/
def ctrlTaken (s : State) (v : Word) : State :=
  (((s.setF Reg.HPS_CTRL.DUAL (bits v.toNat 1 1)).setF Reg.HPS_CTRL.AUTO_SWITCH (bits v.toNat 2 2)).setF
    Reg.HPS_CTRL.WITNESS_EN (bits v.toNat 4 4)).dualSet

/-- A pair is configured. -/
def pairReady (s : State) : Bool :=
  s.hasId && s.f Reg.RTB_NODE.PAIR_ID != 0xFFF && s.f Reg.HPS_PARTNER.PARTNER != 0xFFF && s.f Reg.HPS_PARTNER.WITNESS != 0xFFF

/-- The active with its switch-over under way. -/
def switching1 : State := { memberIn 2 with hps := { net.hps with switching := 1 } }

theorem wit_HingeWritesAct :
    ([paired0, paired0.setHpsState 8, net, memberIn 2, memberIn 4, switching1].all fun s => s.regOpen .mmio Reg.HPS_CTRL.OFF) = true
    ∧ (net.flag Reg.HPS_CTRL.PAIR_EN = false ∧ bit (1#32).toNat 0 = true ∧ pairReady net = false)
    ∧ (paired0.flag Reg.HPS_CTRL.PAIR_EN = false ∧ pairReady paired0 = true ∧ bit (1#32).toNat 3 = false ∧ (ctrlTaken paired0 1).hpsState ≠ 8
      ∧ (paired0.setHpsState 8).flag Reg.HPS_CTRL.PAIR_EN = false ∧ pairReady (paired0.setHpsState 8) = true
      ∧ (ctrlTaken (paired0.setHpsState 8) 1).hpsState = 8)
    ∧ ((memberIn 4).flag Reg.HPS_CTRL.PAIR_EN = true ∧ bit (0#32).toNat 0 = false)
    ∧ (bit (9#32).toNat 0 = true ∧ bit (9#32).toNat 3 = true ∧ (memberIn 2).flag Reg.HPS_CTRL.PAIR_EN = true ∧ (ctrlTaken (memberIn 2) 9).hpsState = 2
      ∧ (ctrlTaken (memberIn 2) 9).hps.switching = 0 ∧ (ctrlTaken switching1 9).hpsState = 2 ∧ (ctrlTaken switching1 9).hps.switching ≠ 0
      ∧ switching1.flag Reg.HPS_CTRL.PAIR_EN = true ∧ (ctrlTaken (memberIn 4) 9).hpsState ≠ 2)
    ∧ ((memberIn 2).hpsState = 2 ∧ (memberIn 2).hps.switching = 0 ∧ switching1.hpsState = 2 ∧ switching1.hps.switching ≠ 0
      ∧ (memberIn 4).hpsState ≠ 2) := by decide +kernel

/-- The active journals; the member takes over; the pair holds a packet; the chip serves its pair and has a manager. -/
def taking6 : State := { memberIn 6 with dir := { net.dir with ents := [] } }
def holding : State := { memberIn 4 with hps := { net.hps with hold := [(0, req 1 64 [], 0)] } }
def served : State := ((memberIn 3).setF Reg.GLB_MGR_NODE.NODE 7).setFlag Reg.GLB_MGR_NODE.VALID true

/-- A witness with a lease held, and with a request that waits at its pair's generation, and at an older one. -/
def held15 : State := witness.setFlag (Reg.HPS_WIT_HOLDER.HELD 15) true
def asked15 (gen : Nat) : State := { witness with hps := { net.hps with waits := [⟨15, 5, gen, 0⟩] } }

theorem wit_HingeTimersAct :
    ([memberIn 1, memberIn 2, memberIn 3, memberIn 4, memberIn 6, holding, switching1, served, held15, asked15 0].all fun s => s.active) = true
    ∧ ((memberIn 2).paired = true ∧ (memberIn 2).hps.mute = false ∧ (memberIn 2).journalling = true ∧ (memberIn 2).serving = true
      ∧ (memberIn 3).serving = true ∧ (memberIn 1).hpsState = 1)
    ∧ (let s := { memberIn 2 with hps := { net.hps with contAt := 1 }, time := 1 }
       s.flag Reg.HPS_STAT.CONT = false ∧ s.hps.contAt ≠ 0 ∧ s.time ≤ s.hps.contAt + 2000 * s.f Reg.HPS_TIMERS.HB_US)
    ∧ ((memberIn 2).flag Reg.HPS_STAT.CONT = false ∧ (memberIn 2).hps.contAt = 0
      ∧ ((memberIn 2).setFlag Reg.HPS_STAT.CONT true).flag Reg.HPS_STAT.CONT = true)
    ∧ ([2, 3, 4].all fun n => !(memberIn n).hps.lost && (memberIn n).hpsState == n) = true
    ∧ taking6.hpsState = 6 ∧ holding.hps.hold[0]? = some (0, req 1 64 [], 0) ∧ bit (holding.f (Hdr.EVT_STAT Pg.HPS)) 7 = false
    ∧ bit ((holding.setF (Hdr.EVT_STAT Pg.HPS) 128).f (Hdr.EVT_STAT Pg.HPS)) 7 = true
    ∧ (served.mgrNode = some 7 ∧ served.paired = true ∧ served.serving = true) ∧ switching1.hps.switching = 1
    ∧ (held15.flag (Reg.HPS_WIT_HOLDER.HELD 15) = true ∧ witness.flag (Reg.HPS_WIT_HOLDER.HELD 15) = false
      ∧ (asked15 0).hps.waits.find? (fun x => x.pair == 15) = some ⟨15, 5, 0, 0⟩ ∧ 0 = (asked15 0).f (Reg.HPS_WIT_GEN.GEN 15)
      ∧ 1 ≠ (asked15 1).f (Reg.HPS_WIT_GEN.GEN 15)) := by decide +kernel

/-! The Keeper. -/

/-- A session that is up; streams of contexts 0 and 255; a retiring context. -/
def session1 : Session := ⟨1, 0, true, true, []⟩
def keyed : State :=
  let s := (((net.setFlag Reg.KPR_STAT.READY true).setFlag (Reg.WRD_CTX.VALID 255) true).setF (Reg.PTN_NODE_SUBS.MASK 4095) 1)
  { s with kpr := { s.kpr with sessions := [session1], streams := [⟨0, 5, 0, none, [], []⟩, ⟨255, 5, 0, none, [], []⟩], retiring := [0, 255] } }

theorem wit_KeeperCommandsAct :
    ([net, keyed].all fun s => s.kprOpen .mmio) = true
    ∧ (net.f Reg.GLB_FW_STAT.STATE < 2 ∧ 2 ≤ (net.setF Reg.GLB_FW_STAT.STATE 2).f Reg.GLB_FW_STAT.STATE
      ∧ (net.setF Reg.GLB_FW_STAT.STATE 2).kprOpen .mmio = true)
    ∧ ([7, 65535 / 256 * 256 + 7].all fun x => decide (x < 65536) && decide (x % 256 < 8)) = true
    ∧ ([8, 65535].all fun x => decide (x < 65536) && decide (8 ≤ x % 256)) = true := by decide +kernel

theorem wit_KeeperEventsAct :
    net.clocked = true ∧ net.sidebandUp = true ∧ net.active = true ∧ ([0, 255].all fun c => keyed.kpr.retiring.contains c && keyed.ctxOps c == 0) = true
    ∧ keyed.active = true ∧ keyed.flag Reg.KPR_STAT.RNG_OK = true := by decide +kernel

/-- A stream request: its code, context, node, first number, subscriber, and byte 9. -/
def ask (code ctx node sub b9 : Nat) : SpdmMsg :=
  ⟨0, some 1, leBytes 1 code ++ [0] ++ leBytes 2 ctx ++ leBytes 2 node ++ leBytes 2 0 ++ leBytes 1 sub ++ leBytes 1 b9, []⟩

theorem wit_SpdmRequestsAct :
    ([0, 1].all fun via => keyed.spdmOpen via) = true
    ∧ (byteAt [0, 0, 0] 0 = (0 : Byte) ∧ keyed.flag Reg.KPR_STAT.RNG_OK = true ∧ keyed.kpr.sessions.length < 16)
    ∧ ([0, 1].any fun n => (byteAt (ask n 0 0 0 0).bytes 0).toNat != 255
        && !(keyed.measurements.filter fun e => e.1 == (byteAt (ask n 0 0 0 0).bytes 0).toNat).isEmpty) = true
    ∧ ((byteAt (ask 255 0 0 0 0).bytes 0).toNat = 255 ∧ keyed.measurements ≠ [] ∧ (byteAt (ask 200 0 0 0 0).bytes 0).toNat = 200
      ∧ keyed.measurements.filter (fun e => e.1 == 200) = [])
    ∧ ((keyed.setFlag Reg.KPR_STAT.RNG_OK false).spdmOpen 1 = true ∧ (keyed.setFlag Reg.KPR_STAT.RNG_OK false).flag Reg.KPR_STAT.RNG_OK = false
      ∧ ({ keyed with kpr := { keyed.kpr with sessions := List.replicate 16 session1 } } : State).spdmOpen 0 = true)
    ∧ (keyed.sessionOf (ask 1 255 4095 0 0) = some session1 ∧ session1.up = true ∧ session1.streamOk = true)
    ∧ ({ keyed with kpr := { keyed.kpr with retiring := [] } }).setupStatus (ask 1 255 4095 0 0) session1 = 0
    ∧ keyed.setupStatus (ask 1 255 4095 0 0) session1 = 4 ∧ keyed.setupStatus (ask 1 255 4095 0 1) session1 = 3
    ∧ keyed.setupStatus (ask 1 256 4095 0 0) session1 = 2 ∧ keyed.setupStatus (ask 0 255 4095 0 0) session1 = 1
    ∧ ([0, 255].all fun c => byteAt (ask 2 c 0 0 0).bytes 0 == 2 && rqCtx (ask 2 c 0 0 0) == c
        && keyed.kpr.streams.any (fun t => t.ctx == rqCtx (ask 2 c 0 0 0))) = true := by decide +kernel

/-! Mailboxes and the CXL port. -/

/-- The factory state, with keyways of devices 0 and 15; a device that acts for the manager. -/
def boxed : State :=
  ((((net.setFlag Reg.GLB_STAT.FACTORY true).setFlag (Reg.KTU_LD_KEYWAY.VALID 0) true).setFlag (Reg.KTU_LD_KEYWAY.VALID 15) true).setF
    Reg.PTN_SUB_QSD.QSD 0xFFFF)
def staging (s : State) (n : Nat) : State := s.setF Reg.GLB_FW_STAT.STATE n

theorem wit_MailboxReadsAnswer :
    ([0x5400, 0x5401, 0x5403, 0x5405, 0x5406, 0x5408].all fun o => net.boxOpen 16 o) = true
    ∧ ([0x0001, 0x0002, 0x0100, 0x0102, 0x0200, 0x0300, 0x0400, 0x0401, 0x4000, 0x4200, 0x4201].all fun o =>
        net.boxOpen 0 o && net.boxOpen 15 o && net.boxOpen 16 o) = true
    ∧ arg ⟨16, [15, 1], []⟩ 0 < 16 ∧ arg ⟨16, [16, 0], []⟩ 1 + arg ⟨16, [16, 0], []⟩ 0 ≤ 16 ∧ arg ⟨0, [3], []⟩ 0 ≤ 3
    ∧ net.cxl.bg.any (fun x => x.1 == 0) = false
    ∧ { net with cxl := { net.cxl with bg := [(0, 0)] } }.boxOpen 0 0x0002 = true := by decide +kernel

/-- An image in the staging slot, whose header passes. -/
def header1 (kind : Nat) : List Byte :=
  leBytes 4 0x4D495643 ++ leBytes 1 kind ++ [0, 0, 1] ++ zeros 4 ++ [7] ++ zeros 243
def inStaging (kind : Nat) (s : State) : State := { s with flash := SMap.setRun flashReset s.flash flStaging (header1 kind) }

/-- What a request of a mailbox is admitted as. -/
def boxTakes (b opcode dpa op : Nat) (payload : List Byte) : Bool :=
  let a := boxed.boxAdmit b opcode dpa op payload
  (a.1.req? a.2).isSome && boxed.flag (Reg.KTU_LD_KEYWAY.VALID b)

theorem wit_MailboxWritesAct :
    ([0x5402, 0x5404].all fun o => net.boxOpen 16 o) = true ∧ (net.phase = .ready ∧ net.cxlUp = true)
    ∧ ([0x0101, 0x0103, 0x0301, 0x4202, 0x4300, 0x4301, 0x4302, 0x4400].all fun o => boxed.boxOpen 0 o && boxed.boxOpen 15 o) = true
    ∧ ([0x0101, 0x0103, 0x0201, 0x0202, 0x0301, 0x4202].all fun o => boxed.boxOpen 16 o && boxed.boxOpen boxed.mgrLd o) = true
    ∧ ([(16, 0), (1, 15)].all fun x => let m : Mailbox := ⟨16, [x.1, x.2], []⟩
        arg m 0 != 0 && decide (arg m 1 + arg m 0 ≤ 16)) = true
    ∧ ((Mailbox.mk 16 [0, 4, 8, 12] []).args.drop 1 = [4, 8, 12] ∧ (Mailbox.mk 16 [0, 4, 8, 13] []).args.drop 1 ≠ [4, 8, 12])
    ∧ (arg ⟨0, [3, 1], []⟩ 1 = 1 ∧ (Mailbox.mk 0 [3, 0] []).args.drop 2 = ((net.evLog 0 3).recs.take 0).map (·.handle))
    ∧ (net.f Reg.GLB_FW_STAT.STATE < 3 ∧ net.flashBusy = false ∧ (staging boxed 1).boxOpen 16 0x0201 = true ∧ (staging boxed 1).flashBusy = false)
    ∧ ([(1, 0), (2, 0), (3, 0), (2, 131070), (3, 131071)].all fun x =>
        let s := (staging boxed 1).setF Reg.GLB_FW_NEXT.OFFSET (x.2 * 128)
        let m : Mailbox := ⟨16, [x.1, 1, x.2], [1]⟩
        arg m 2 * 128 == s.f Reg.GLB_FW_NEXT.OFFSET && s.f Reg.GLB_FW_STAT.STATE == 1 && s.boxOpen 16 0x0201 && !s.flashBusy
          && decide (arg m 2 * 128 + m.data.length ≤ 0x1000000)) = true
    ∧ ([1, 2].all fun k => let s := inStaging k (staging boxed 2)
        s.boxOpen 16 0x0202 && s.f Reg.GLB_FW_STAT.STATE == 2 && s.fw.check.isNone && !s.pairBars) = true
    ∧ (imgKind ((inStaging 1 (staging boxed 2)).imageAt flStaging) = 1 ∧ imgKind ((inStaging 2 (staging boxed 2)).imageAt flStaging) = 2)
    ∧ ([0, 15].all fun b => boxTakes b opPoisonList 0 (2 ^ 36) [] && boxTakes b opInject 64 0 [] && boxTakes b 2 64 0 (zeros 64)) = true
    ∧ ([0, 15].all fun b => boxed.quiesced b && !boxed.cxl.clear.any (fun c => c.1 == b)) = true := by and_intros <;> decide +kernel

/-- A Sanitize of a box runs; a reset's clear of a device is open; a vector is pending. -/
def clearing (box : Nat) (left : Nat := 0) : State :=
  { net with
    epl := { net.epl with maintLeft := left }
    cxl := { net.cxl with bg := [(box, 1)], clear := [(1, false), (15, true)], pend := [(15, 3)] } }

theorem wit_CxlEventsAct :
    net.clocked = true ∧ ([1, 15, 16, net.mgrLd].all fun b => (clearing b).clocked && (clearing b).cxl.bg == [(b, 1)]
      && !(clearing b).fillWaits && !(clearing b).maintAllowed && (clearing b 64).maintAllowed) = true
    ∧ (let s := (clearing 1).setF (Reg.SC_CH_QSC.QSC 11) 1
       s.clocked = true ∧ s.fillWaits = true ∧ s.cxl.bg = [(1, 1)] ∧ s.cxl.clear.contains (15, true) = true)
    ∧ (15 ≠ net.mgrLd ∧ net.mgrLd < 16)
    ∧ (net.cxl.locked.contains (15 * 4 + 3) = false ∧ net.hdmOk 15 3 ⟨0, 268435456, 1, 256, 0, false, true⟩ = true
      ∧ net.hdmOk 15 3 ⟨0, 268435456, 5, 256, 0, false, true⟩ = false)
    ∧ net.cxl.stopped = false ∧ net.cxlUp = true ∧ (clearing 1).cxl.clear.contains (15, true) = true
    ∧ (clearing 1).cxl.pend.contains (15, 3) = true ∧ (clearing 1).cxl.pend.contains (15, 4) = false
    ∧ net.ldAgent 15 = none ∧ (net.setFlag (Reg.CXP_LD_STAT.BI 0) true).clocked = true := by decide +kernel

/-! Pins, the package, settings and images. -/

/-- The supplies fail; RESET_N is low; warm resets at steps; recovery before a first READY. -/
def dark : State := { State.reset with pins := { State.reset.pins with pwrGood := false }, phase := .off }
def heldLow (p : Phase) : State := { net with phase := p, pins := { net.pins with resetLow := true, pwrGood := true } }
def powered : State := { again with pins := { net.pins with pwrGood := true } }
def recovering : State := { net with everReady := false, phase := .recovery }

theorem wit_PinCommandsAct :
    (dark.pins.pwrGood = false ∧ dark.pins.resetLow = false ∧ { dark with pins := { dark.pins with resetLow := true } }.pins.pwrGood = false)
    ∧ (let s := { dark with pins := { dark.pins with trip := true } }
       s.pins.pwrGood = false ∧ s.pins.trip = true ∧ s.pins.resetLow = false)
    ∧ ({ net with phase := .warm 4 } : State).phase = .warm 4 ∧ net.phase ≠ .warm 4
    ∧ (powered.pins.pwrGood = true ∧ powered.phase = .ready ∧ powered.everReady = true)
    ∧ ((heldLow .cold).pins.pwrGood = true ∧ (heldLow .cold).pins.resetLow = true ∧ (heldLow .cold).phase = .cold) := by decide +kernel

/-- The debug port is open to Vorer. -/
def debugged : State := { powered.setFlag Reg.KPR_STAT.DEBUG_VORER true with phase := .ready }

theorem wit_PackageEventsAct :
    (powered.clocked = true ∧ powered.pins.pwrGood = true ∧ powered.sidebandUp = true ∧ powered.flag Reg.KPR_STAT.DEBUG_VORER = false
      ∧ powered.flag Reg.KPR_STAT.DEBUG_KEEPER = false ∧ debugged.flag Reg.KPR_STAT.DEBUG_VORER = true ∧ debugged.clocked = true)
    ∧ ([114, 115, 255].all fun t => (List.replicate 16 t).length == 16 && (List.replicate 16 t).foldl max 0 == t
        && !tempBad t) = true
    ∧ ((List.range 16).map (fun _ => 300)).filter (fun t => !tempBad t) = []
    ∧ ([Reg.KPR_STAT.DEBUG_VORER, Reg.KPR_STAT.DEBUG_KEEPER].all fun g => (powered.setFlag g true).clocked && (powered.setFlag g true).sidebandUp
        && (powered.setFlag g true).flag g) = true := by decide +kernel

/-- A save of the settings runs. -/
def saving : State := { net.setFlag Reg.GLB_SET_STAT.BUSY true with fw := { net.fw with setJob := 1 } }

theorem wit_SettingsAct :
    opens net [Reg.GLB_SET_CMD.OFF, Reg.GLB_LOG_SEL.OFF] = true ∧ opens saving [Reg.GLB_SET_CMD.OFF] = true
    ∧ net.flag Reg.GLB_SET_STAT.BUSY = false ∧ saving.clocked = true ∧ saving.flag Reg.GLB_SET_STAT.BUSY = true ∧ saving.fw.setJob = 1
    ∧ { saving with fw := { net.fw with setJob := 2 } }.fw.setJob ≠ 1 ∧ { saving with fw := { net.fw with setJob := 2 } }.clocked = true := by
  decide +kernel

/-- Verification runs; a chunk is forwarded; a version read is open; the new image is healthy. -/
def verifying1 : State := { inStaging 1 net with fw := { net.fw with verifying := true } }
def checked (s : State) : State := { s with fw := { s.fw with check := some ⟨.mmio, false, none, [⟨5, 0⟩], false, false⟩ } }
def healthy1 : State := { staging net 4 with fw := { net.fw with planAt := net.f Reg.EPL_PLAN_SEQ.INTERVAL + 1, confirmed := true } }

theorem wit_ImageCommandsAct :
    (verifying1.clocked = true ∧ verifying1.fw.verifying = true)
    ∧ (let s := { net with fw := { net.fw with fwd := some (0, 256, 0) } }
       s.active = true ∧ s.fw.fwd = some (0, 256, 0))
    ∧ ([0, 1, 2, 3, 4, 5].all fun n => (staging net n).regOpen .mmio Reg.GLB_FW_CTRL.OFF && (staging net n).f Reg.GLB_FW_STAT.STATE == n
        && (staging net n).fw.check.isNone && !(staging net n).pairBars && (staging net n).clocked) = true
    ∧ ([1, 2].all fun k => let s := inStaging k (staging net 2)
        s.regOpen .mmio Reg.GLB_FW_CTRL.OFF && s.fw.check.isNone && !s.pairBars && s.phase != .recovery) = true
    ∧ (imgKind ((inStaging 1 (staging net 2)).imageAt flStaging) = 1 ∧ imgKind ((inStaging 2 (staging net 2)).imageAt flStaging) = 2)
    ∧ ((checked net).fw.check.map (·.asks) = some [⟨5, 0⟩] ∧ (checked net).clocked = true)
    ∧ (healthy1.clocked = true ∧ healthy1.f Reg.GLB_FW_STAT.STATE = 4 ∧ healthy1.healthy = true)
    ∧ ((staging net 5).fw.tries < 2 ∧ (let s := { staging net 5 with fw := { net.fw with tries := 2 } }
        s.clocked = true ∧ s.f Reg.GLB_FW_STAT.STATE = 5 ∧ 2 ≤ s.fw.tries)) := by and_intros <;> decide +kernel

/-! Memory and its code, latches, resets. -/

/-- Sector 63 of a granule decodes CLEAN: zeros with the check symbols of zeros. -/
def clean63 : State :=
  { net with chk := SMap.setRun chkReset net.chk (net.phys 4032 / 64 * 8) (zeros 8) }

theorem wit_PlacementIsOneToOne : 0 < 8 * 2 ^ 36 ∧ 12 * 2 ^ 36 - 1 < 12 * 2 ^ 36 ∧ 11 < 12 ∧ 2 ^ 36 - 1 < 2 ^ 36 := by decide

theorem wit_CodeWordsDecodeClean : (zeros 64).length = 64 ∧ 2 < poisonDistance (dataSymbols (zeros 64)) (rsEncode (dataSymbols (zeros 64))) := by
  decide +kernel

/-- Symbols 0 and 35 changed, by the least and the most. -/
theorem wit_OneSymbolErrorsAreCorrected :
    ([(0, 1), (0, 65535), (35, 1), (35, 65535)].all fun x =>
      let w := flipSym (wordSymbols (dataSymbols (zeros 64)) (rsEncode (dataSymbols (zeros 64)))) x.1 x.2
      decide (x.1 < 36 ∧ 0 < x.2 ∧ x.2 < 65536 ∧ 2 < poisonDistance (w.drop 4) (w.take 4))) = true := by decide +kernel

theorem wit_StoresLandWhereTheyGo :
    clean63.memWf = true ∧ 0 < 1 ∧ 4095 % 4096 + 1 ≤ 4096 ∧ 4095 / 64 = (4095 + 1 - 1) / 64 ∧ clean63.sectorClean (4095 / 64 * 64) = true
    ∧ wholeSector 4095 1 (fun _ => some 1) (4095 / 64) = false ∧ wholeSector 4032 64 (fun _ => some 1) (4032 / 64) = true := by decide +kernel

theorem wit_ReadsReturnWhatStands :
    clean63.sectorClean (4095 / 64 * 64) = true ∧ 4095 / 64 = (4095 + 1 - 1) / 64
    ∧ ((List.range 64).all fun i => net.byte (net.phys (4095 / 64 * 64) + i) == 0) = true
    ∧ ((List.range 8).all fun i => SMap.get chkReset net.chk (net.phys (4095 / 64 * 64) / 64 * 8 + i) == 0xFF) = true := by decide +kernel

/-- The owner of a partition, and another subscriber. -/
theorem wit_PermissionsComeFromOwnershipAndGrants : net.f (Reg.PTN_OWNER.OWNER 0) = net.f (Reg.PTN_OWNER.OWNER 0)
    ∧ net.f (Reg.PTN_OWNER.OWNER 0) ≠ net.f (Reg.PTN_OWNER.OWNER 0) + 1 := by decide +kernel

/-- Latches of group 0 that subscriber 0 of node 5 may use, one of them full. -/
def latched : State := ((host.setLatch 9 0xFFFFFFFF).setFlag (Reg.LCH_GRP.VALID 0) true).setF (Reg.LCH_GRP.OWNER 0) 0

theorem wit_LatchCountsNeverWrap :
    ([9, 10, 9 + 0xFFFFFFFF * 2 ^ 32].all fun w => latched.latchAllowed (rq (req 0x30 w []))) = true
    ∧ latchValue (req 0x30 (9 + 0xFFFFFFFF * 2 ^ 32) []) ≤ latched.latch 9 ∧ ([0, 0xFFFFFFFF].all fun t =>
      (Park.mk false (rq (req 0x32 9 [])) 9 t true 1 0).thr ≤ latched.latch 9) = true := by decide +kernel

theorem wit_WarmResetRequestsFollowThePhase :
    (recovering.everReady = false ∧ recovering.phase = .recovery ∧ recovering.regOpen .mmio Reg.GLB_RST.OFF = true)
    ∧ (warm1.phase = .warm 1 ∧ warm5.phase = .warm 5 ∧ warm1.regOpen .mmio Reg.GLB_RST.OFF = true)
    ∧ answers .warmResetN warm5 = true ∧ answers (.glbRstWarm .mmio) warm1 = true := by decide +kernel
end Sys2Proof.Tests
end

section
/-! Placement of a stored address on a stack (R36, R37): the slots of the interleave table and the stacks are numbered one to one, a row's fold
only rotates its slots, so `Part.storedGranule` inverts `Part.stackOf` and `Part.localOf`. -/

namespace Sys2Proof.Machine

open Sys2Proof

/-! ### The interleave table (R37) -/

theorem Part.stacks_eq (p : Part) : p.stacks = if p = .cv1269 then 8 else 12 := by cases p <;> rfl

theorem Part.stacks_pos (p : Part) : 0 < p.stacks := by cases p <;> decide

theorem Part.mod_stacks_lt (p : Part) (x : Nat) : x % p.stacks < p.stacks := Nat.mod_lt x p.stacks_pos

/-- The slots alternate between the lower and the upper half of the stacks, as R37 lists them. -/
theorem Part.sit_eq_table (p : Part) {slot : Nat} (h : slot < p.stacks) :
    p.sit slot = (if p = .cv1269 then [0, 4, 1, 5, 2, 6, 3, 7] else [0, 6, 1, 7, 2, 8, 3, 9, 4, 10, 5, 11]).getD slot 0 := by
  revert slot
  cases p <;> decide

theorem Part.sit_lt (p : Part) {slot : Nat} (h : slot < p.stacks) : p.sit slot < p.stacks := by
  revert slot
  cases p <;> decide

theorem Part.slotOf_lt (p : Part) {st : Nat} (h : st < p.stacks) : p.slotOf st < p.stacks := by
  revert st
  cases p <;> decide

theorem Part.slotOf_sit (p : Part) {slot : Nat} (h : slot < p.stacks) : p.slotOf (p.sit slot) = slot := by
  revert slot
  cases p <;> decide

theorem Part.sit_slotOf (p : Part) {st : Nat} (h : st < p.stacks) : p.sit (p.slotOf st) = st := by
  revert st
  cases p <;> decide

/-! ### Rotation by the fold -/

/-- A rotation of n slots by f, undone: first forward, then back. -/
theorem rotate_back {n x : Nat} (f : Nat) (hx : x < n) : ((x + f) % n + n - f % n) % n = x := by
  have hf : f % n ≤ n := (Nat.mod_lt _ (by omega)).le
  calc ((x + f) % n + n - f % n) % n = (x + f % n + (n - f % n)) % n := by
        rw [Nat.add_sub_assoc hf, Nat.mod_add_mod, Nat.add_right_comm, ← Nat.add_mod_mod, Nat.add_right_comm]
    _ = x := by rw [Nat.add_assoc, Nat.add_sub_cancel' hf, Nat.add_mod_right, Nat.mod_eq_of_lt hx]

/-- A rotation of n slots by f, undone: first back, then forward. -/
theorem rotate_forth {n x : Nat} (f : Nat) (hx : x < n) : ((x + n - f % n) % n + f) % n = x := by
  have hf : f % n < n := Nat.mod_lt _ (by omega)
  calc ((x + n - f % n) % n + f) % n = (x + n - f % n + f % n) % n := by rw [Nat.mod_add_mod, Nat.add_mod_mod]
    _ = x := by rw [Nat.sub_add_cancel (by omega), Nat.add_mod_right, Nat.mod_eq_of_lt hx]

/-! ### Placement and its inverse (R36) -/

theorem Part.stackOf_eq (p : Part) (a : Nat) :
    p.stackOf a = p.sit ((a / 4096 % p.stacks + rowFold (a / 4096 / p.stacks)) % p.stacks) := rfl

theorem Part.storedGranule_eq (p : Part) (st row : Nat) :
    p.storedGranule st row = row * p.stacks + (p.slotOf st + p.stacks - rowFold row % p.stacks) % p.stacks := rfl

/-- The stored address at a stack-local address of a stack. -/
def Part.storedAddr (p : Part) (st l : Nat) : Nat := p.storedGranule st (l / 4096) * 4096 + l % 4096

theorem Part.localOf_div (p : Part) (a : Nat) : p.localOf a / 4096 = a / 4096 / p.stacks := by
  unfold Part.localOf
  omega

theorem Part.localOf_mod (p : Part) (a : Nat) : p.localOf a % 4096 = a % 4096 := by
  unfold Part.localOf
  omega

theorem Part.stackOf_lt (p : Part) (a : Nat) : p.stackOf a < p.stacks := p.sit_lt (p.mod_stacks_lt _)

theorem Part.storedAddr_div (p : Part) (st l : Nat) : p.storedAddr st l / 4096 = p.storedGranule st (l / 4096) := by
  unfold Part.storedAddr
  omega

theorem Part.storedAddr_mod (p : Part) (st l : Nat) : p.storedAddr st l % 4096 = l % 4096 := by
  unfold Part.storedAddr
  omega

theorem Part.storedGranule_div (p : Part) (st row : Nat) : p.storedGranule st row / p.stacks = row := by
  rw [p.storedGranule_eq, Nat.mul_comm, Nat.mul_add_div p.stacks_pos, Nat.div_eq_of_lt (p.mod_stacks_lt _), Nat.add_zero]

theorem Part.storedGranule_mod (p : Part) (st row : Nat) :
    p.storedGranule st row % p.stacks = (p.slotOf st + p.stacks - rowFold row % p.stacks) % p.stacks := by
  rw [p.storedGranule_eq, Nat.mul_add_mod_self_right, Nat.mod_mod]

/-- The address a placement gives back is the address that was placed. -/
theorem Part.storedAddr_placement (p : Part) (a : Nat) : p.storedAddr (p.stackOf a) (p.localOf a) = a := by
  have hgranule : p.storedGranule (p.stackOf a) (a / 4096 / p.stacks) = a / 4096 := by
    rw [p.storedGranule_eq, p.stackOf_eq, p.slotOf_sit (p.mod_stacks_lt _), rotate_back _ (p.mod_stacks_lt _), Nat.div_add_mod']
  unfold Part.storedAddr
  rw [p.localOf_div, p.localOf_mod, hgranule, Nat.div_add_mod']

theorem Part.stackOf_storedAddr (p : Part) {st : Nat} (l : Nat) (h : st < p.stacks) : p.stackOf (p.storedAddr st l) = st := by
  rw [p.stackOf_eq, p.storedAddr_div, p.storedGranule_mod, p.storedGranule_div, rotate_forth _ (p.slotOf_lt h), p.sit_slotOf h]

theorem Part.localOf_storedAddr (p : Part) (st l : Nat) : p.localOf (p.storedAddr st l) = l := by
  unfold Part.localOf
  rw [p.storedAddr_div, p.storedAddr_mod, p.storedGranule_div, Nat.div_add_mod']

/-- PPA space is 64 GiB for each stack, and it is full exactly when every stack is. -/
theorem Part.localOf_lt_iff (p : Part) (a : Nat) : p.localOf a < 2 ^ 36 ↔ a < p.stacks * 2 ^ 36 := by
  calc p.localOf a < 2 ^ 36 ↔ a / 4096 / p.stacks < 2 ^ 24 := by unfold Part.localOf; omega
    _ ↔ a / 4096 < p.stacks * 2 ^ 24 := by rw [Nat.div_lt_iff_lt_mul p.stacks_pos, Nat.mul_comm]
    _ ↔ a < p.stacks * 2 ^ 36 := by omega

/-- Settles O53: `Part.storedAddr` is the inverse of the placement on both sides. -/
theorem placementIsOneToOne : Obligations.PlacementIsOneToOne := by
  unfold Obligations.PlacementIsOneToOne
  intro p n hn
  obtain rfl : n = p.stacks := hn.trans p.stacks_eq.symm
  refine ⟨?table, ?range, ?injective, ?surjective⟩
  case table =>
    rintro ppa row fold slot - rfl rfl rfl
    exact ⟨p.sit_eq_table (p.mod_stacks_lt _), rfl⟩
  case range => exact fun ppa h => ⟨p.stackOf_lt ppa, (p.localOf_lt_iff ppa).2 h⟩
  case injective =>
    intro a b _ _ hstack hlocal
    rw [← p.storedAddr_placement a, hstack, hlocal, p.storedAddr_placement]
  case surjective =>
    intro st l hst hl
    have hlocal := p.localOf_storedAddr st l
    exact ⟨p.storedAddr st l, (p.localOf_lt_iff _).1 (by rwa [hlocal]), p.stackOf_storedAddr l hst, hlocal⟩

end Sys2Proof.Machine
end

section
/-! Partition permissions (R33): what an owner holds, what another subscriber holds by its valid grants, and which accesses pass. -/

namespace Sys2Proof.Machine

open Sys2Proof

/-! ### Single bits -/

theorem bit_or (x y i : Nat) : bit (x ||| y) i = (bit x i || bit y i) := Nat.testBit_or x y i

/-- A bit of a field is the bit of the word that many places above the field's lowest. -/
theorem bit_bits {hi lo i : Nat} (x : Nat) (h : i < hi + 1 - lo) : bit (bits x hi lo) i = bit x (lo + i) := by
  simp [bit, bits, Nat.testBit_mod_two_pow, Nat.testBit_shiftRight, h]

/-- A bit of a union of masks is set where some mask, or the start, has it. -/
theorem bit_foldl_or (m : Nat → Nat) (ks : List Nat) (a i : Nat) :
    bit (ks.foldl (fun acc k => acc ||| m k) a) i = true ↔ bit a i = true ∨ ∃ k ∈ ks, bit (m k) i = true := by
  induction ks generalizing a with
  | nil => simp
  | cons k ks ih => simp [ih, bit_or, or_assoc]

/-! ### Permissions on a partition (R33) -/

/-- The valid grants of a subscriber on a partition, by their index. -/
def State.grantsOf (s : State) (sub n : Nat) : List Nat :=
  (List.range 256).filter fun k => s.flag (Reg.PTN_GNT.VALID k) && s.f (Reg.PTN_GNT.PARTITION k) == n
    && s.f (Reg.PTN_GNT.GRANTEE k) == sub

theorem State.mem_grantsOf (s : State) (sub n k : Nat) : k ∈ s.grantsOf sub n ↔
    k < 256 ∧ s.flag (Reg.PTN_GNT.VALID k) = true ∧ s.f (Reg.PTN_GNT.PARTITION k) = n ∧ s.f (Reg.PTN_GNT.GRANTEE k) = sub := by
  simp [State.grantsOf, and_assoc]

/-- The permission bits of the valid grants of a subscriber on a partition, together. -/
def State.grantedPerm (s : State) (sub n : Nat) : Nat :=
  (s.grantsOf sub n).foldl (fun acc k => acc ||| bits (s.word (Reg.PTN_GNT.OFF k)) 18 16) 0

theorem State.ptnPerm_of_owner (s : State) {sub n : Nat} (h : s.f (Reg.PTN_OWNER.OWNER n) = sub) : s.ptnPerm sub n = some 7 := if_pos h

theorem State.ptnPerm_of_not_owner (s : State) {sub n : Nat} (h : s.f (Reg.PTN_OWNER.OWNER n) ≠ sub) :
    s.ptnPerm sub n = if (s.grantsOf sub n).isEmpty then none else some (s.grantedPerm sub n) := if_neg h

/-- One of the three permission bits is granted where some valid grant carries it, at bit 16 and up of its word. -/
theorem State.bit_grantedPerm (s : State) (sub n : Nat) {i : Nat} (hi : i < 3) :
    bit (s.grantedPerm sub n) i = true ↔ ∃ k ∈ s.grantsOf sub n, bit (s.word (Reg.PTN_GNT.OFF k)) (16 + i) = true := by
  have hzero : bit 0 i = false := Nat.zero_testBit i
  simp [State.grantedPerm, bit_foldl_or, hzero, bit_bits (hi := 18) (lo := 16) _ hi]

/-- A subscriber without a grant holds nothing, which is what the union of no grants says. -/
theorem State.holds_bit_iff_of_not_owner (s : State) {sub n i : Nat} (h : s.f (Reg.PTN_OWNER.OWNER n) ≠ sub) (hi : i < 3) :
    (∃ x, s.ptnPerm sub n = some x ∧ bit x i = true) ↔
      ∃ k ∈ s.grantsOf sub n, bit (s.word (Reg.PTN_GNT.OFF k)) (16 + i) = true := by
  rw [s.ptnPerm_of_not_owner h, ← s.bit_grantedPerm sub n hi]
  split
  · next hnone => simp [State.bit_grantedPerm _ _ _ hi, List.isEmpty_iff.1 hnone]
  · simp

/-- An access passes where each bit it needs is held. -/
theorem permLacks_eq_none_iff (x : Nat) (n : Need) : permLacks x n = none ↔
    (n.r = true → bit x 0 = true) ∧ (n.w = true → bit x 1 = true) ∧ (n.ward = true → bit x 2 = true) := by
  unfold permLacks
  split
  case isTrue hreadWrite => grind
  case isFalse hreadWrite =>
    split
    case isTrue hward => grind
    case isFalse hward => grind

/-- Settles O58: owners by the first branch of `State.ptnPerm`, others by the bits of the union of their grants. -/
theorem permissionsComeFromOwnershipAndGrants : Obligations.PermissionsComeFromOwnershipAndGrants := by
  unfold Obligations.PermissionsComeFromOwnershipAndGrants
  refine ⟨fun s b n => ⟨s.ptnPerm_of_owner, fun hother i hi => ?_⟩, permLacks_eq_none_iff⟩
  simp only [s.holds_bit_iff_of_not_owner hother hi, s.mem_grantsOf, and_assoc]

end Sys2Proof.Machine
end

section
/-! What a latch request does beside its latch leaves the latch unit and the pool's memory alone: events and messages, the fault collector, charges,
responses, the end of a request. One lemma `_keeps` per operation, with both fields. -/

namespace Sys2Proof.Machine

open Sys2Proof

/-- A fold of steps each of which keeps the latch unit and the memory. -/
theorem foldl_keeps {α : Type} (g : State → α → State) (hg : ∀ u a, (g u a).lch = u.lch ∧ (g u a).mem = u.mem) (l : List α) (s : State) :
    (l.foldl g s).lch = s.lch ∧ (l.foldl g s).mem = s.mem := by
  induction l generalizing s with
  | nil => simp
  | cons a l ih => simpa [hg] using ih (g s a)

/-! ### Events and messages -/

@[simp] theorem State.msix_keeps (s : State) (ld vec : Nat) : (s.msix ld vec).lch = s.lch ∧ (s.msix ld vec).mem = s.mem := by
  unfold State.msix
  split
  · simp
  · split
    · split <;> simp
    · simp

@[simp] theorem State.notifyTo_keeps (s : State) (dst kind code op : Nat) (b : List Byte) :
    (s.notifyTo dst kind code op b).1.lch = s.lch ∧ (s.notifyTo dst kind code op b).1.mem = s.mem := by
  unfold State.notifyTo
  split
  · split
    · simp
    · split <;> simp
  · split <;> simp

@[simp] theorem State.notifyMgr_keeps (s : State) (kind code op : Nat) (b : List Byte) :
    (s.notifyMgr kind code op b).1.lch = s.lch ∧ (s.notifyMgr kind code op b).1.mem = s.mem := by
  unfold State.notifyMgr
  split
  · split <;> simp
  · simp
  · simp

@[simp] theorem State.deliverEvt_keeps (s : State) (pg : Nat) : (s.deliverEvt pg).1.lch = s.lch ∧ (s.deliverEvt pg).1.mem = s.mem := by
  unfold State.deliverEvt
  dsimp only
  split <;> split <;> simp

@[simp] theorem State.evtSet_keeps (s : State) (pg b : Nat) : (s.evtSet pg b).1.lch = s.lch ∧ (s.evtSet pg b).1.mem = s.mem := by
  unfold State.evtSet
  dsimp only
  split
  · simp
  · split <;> simp

@[simp] theorem State.notifyDropped_keeps (w : State × Bool) : (State.notifyDropped w).lch = w.1.lch ∧ (State.notifyDropped w).mem = w.1.mem := by
  unfold State.notifyDropped
  split <;> simp

@[simp] theorem State.evt_keeps (s : State) (pg b : Nat) : (s.evt pg b).lch = s.lch ∧ (s.evt pg b).mem = s.mem := by simp [State.evt]

theorem State.setWords_keeps (s : State) (o v : Nat → Nat) (ks : List Nat) :
    (ks.foldl (fun (u : State) i => u.setWord (o i) (v i)) s).lch = s.lch
    ∧ (ks.foldl (fun (u : State) i => u.setWord (o i) (v i)) s).mem = s.mem :=
  foldl_keeps _ (fun u _ => ⟨u.setWord_lch _ _, u.setWord_mem _ _⟩) ks s

@[simp] theorem State.boxDone_keeps (s : State) (box op ret : Nat) (o : BoxOut) :
    (s.boxDone box op ret o).lch = s.lch ∧ (s.boxDone box op ret o).mem = s.mem := by
  unfold State.boxDone
  dsimp only
  split
  · simp [State.setWords_keeps]
  · split <;> simp

/-! ### The fault collector -/

@[simp] theorem State.ringPut_keeps (s : State) (r : Rec) : (s.ringPut r).1.lch = s.lch ∧ (s.ringPut r).1.mem = s.mem := by
  unfold State.ringPut
  dsimp only
  split
  · simp
  · split
    · split <;> simp
    · split <;> simp

@[simp] theorem State.deliverRec_keeps (s : State) (r : Rec) (idx : Nat) (dropped : Bool) :
    (s.deliverRec r idx dropped).lch = s.lch ∧ (s.deliverRec r idx dropped).mem = s.mem := by
  unfold State.deliverRec
  dsimp only
  split <;> split <;> simp

@[simp] theorem State.countFault_keeps (s : State) (source k : Nat) (merged : Bool) :
    (s.countFault source k merged).lch = s.lch ∧ (s.countFault source k merged).mem = s.mem := by
  unfold State.countFault
  dsimp only
  split <;> simp

@[simp] theorem State.fatal_keeps (s : State) (r : Rec) : (s.fatal r).lch = s.lch ∧ (s.fatal r).mem = s.mem := by
  unfold State.fatal
  dsimp only
  split <;> simp

@[simp] theorem State.writeRec_keeps (s : State) (r : Rec) : (s.writeRec r).1.lch = s.lch ∧ (s.writeRec r).1.mem = s.mem := by
  unfold State.writeRec
  dsimp only
  split <;> simp

@[simp] theorem State.window_keeps (s : State) (r : Rec) : (s.window r).1.lch = s.lch ∧ (s.window r).1.mem = s.mem := by
  unfold State.window
  dsimp only
  split
  · simp
  · split <;> simp

@[simp] theorem State.escalated_keeps (s : State) (b : Bool) : (s.escalated b).lch = s.lch ∧ (s.escalated b).mem = s.mem := by
  cases b <;> simp [State.escalated]

@[simp] theorem State.storeTake_keeps (s : State) (i n k idx : Nat) (dropped : Bool) :
    (s.storeTake i n k idx dropped).lch = s.lch ∧ (s.storeTake i n k idx dropped).mem = s.mem := ⟨rfl, rfl⟩

@[simp] theorem State.storeCount_keeps (s : State) (i : Nat) (e : StoreEnt) :
    (s.storeCount i e).lch = s.lch ∧ (s.storeCount i e).mem = s.mem := ⟨rfl, rfl⟩

@[simp] theorem State.ringCount_keeps (s : State) (i : Nat) : (s.ringCount i).lch = s.lch ∧ (s.ringCount i).mem = s.mem := ⟨rfl, rfl⟩

@[simp] theorem State.store_keeps (s : State) (r : Rec) (raised : Bool) :
    (s.store r raised).1.lch = s.lch ∧ (s.store r raised).1.mem = s.mem := by
  unfold State.store
  dsimp only
  split
  · simp
  · split
    · simp
    · simp
    · split
      · simp
      · split <;> simp
    · split <;> simp

@[simp] theorem State.collect_keeps (s : State) (r : Rec) : (s.collect r).1.lch = s.lch ∧ (s.collect r).1.mem = s.mem := by
  simp [State.collect]

@[simp] theorem State.evAppend_keeps (s : State) (r : Rec) (ld : Nat) (media : Bool) :
    (s.evAppend r ld media).lch = s.lch ∧ (s.evAppend r ld media).mem = s.mem := by
  unfold State.evAppend State.setEvLog
  dsimp only
  split
  · split <;> simp
  · simp

@[simp] theorem State.evFeed_keeps (s : State) (r : Rec) : (s.evFeed r).lch = s.lch ∧ (s.evFeed r).mem = s.mem := by
  refine foldl_keeps _ (fun u ld => ?_) _ s
  split <;> simp

@[simp] theorem State.fault_keeps (s : State) (r : Rec) : (s.fault r).lch = s.lch ∧ (s.fault r).mem = s.mem := by
  unfold State.fault
  dsimp only
  split <;> simp

/-! ### Charges -/

@[simp] theorem State.chargeOne_keeps (s : State) (b k n : Nat) : (s.chargeOne b k n).lch = s.lch ∧ (s.chargeOne b k n).mem = s.mem := by
  unfold State.chargeOne State.setLvl
  split <;> simp

@[simp] theorem State.chargeLink_keeps (s : State) (b n : Nat) : (s.chargeLink b n).lch = s.lch ∧ (s.chargeLink b n).mem = s.mem := by
  simp [State.chargeLink]

@[simp] theorem State.classBytes_keeps (s : State) (k n : Nat) : (s.classBytes k n).lch = s.lch ∧ (s.classBytes k n).mem = s.mem := by
  simp [State.classBytes]

@[simp] theorem State.giveOne_keeps (s : State) (b k n : Nat) : (s.giveOne b k n).lch = s.lch ∧ (s.giveOne b k n).mem = s.mem := by
  unfold State.giveOne State.setLvl
  split <;> simp

@[simp] theorem State.takeBack_keeps (s : State) (o n : Nat) : (s.takeBack o n).lch = s.lch ∧ (s.takeBack o n).mem = s.mem := ⟨rfl, rfl⟩

@[simp] theorem State.uncharge_keeps (s : State) (r : Req) : (s.uncharge r).lch = s.lch ∧ (s.uncharge r).mem = s.mem := by
  unfold State.uncharge
  split <;> simp

/-! ### Responses -/

@[simp] theorem State.routeDrop_keeps (s : State) (p : Packet) (kind cnt : Nat) :
    (s.routeDrop p kind cnt).lch = s.lch ∧ (s.routeDrop p kind cnt).mem = s.mem := by
  unfold State.routeDrop
  dsimp only
  split <;> simp

@[simp] theorem State.fallback_keeps (s : State) (p : Packet) (kind cnt : Nat) :
    (s.fallback p kind cnt).1.lch = s.lch ∧ (s.fallback p kind cnt).1.mem = s.mem := by
  unfold State.fallback
  split <;> simp

@[simp] theorem State.fenceDrop_keeps (s : State) : s.fenceDrop.lch = s.lch ∧ s.fenceDrop.mem = s.mem := by
  simp [State.fenceDrop]

@[simp] theorem State.routeOn_keeps (s : State) (p : Packet) : (s.routeOn p).1.lch = s.lch ∧ (s.routeOn p).1.mem = s.mem := by
  unfold State.routeOn
  extract_lets +lift p' t v e1 e2 c send q
  have hsend (q : Nat) : (send q).1.lch = s.lch ∧ (send q).1.mem = s.mem := by
    simp only [send]
    split <;> simp
  split
  · simp
  · split
    · simp
    · split
      · simp
      · split
        · split
          · exact hsend q
          · simp
        · exact hsend c

@[simp] theorem State.route_keeps (s : State) (p : Packet) : (s.route p).1.lch = s.lch ∧ (s.route p).1.mem = s.mem := by
  unfold State.route
  split <;> simp

@[simp] theorem State.place_keeps (s : State) (t : TxPkt) : (s.place t).lch = s.lch ∧ (s.place t).mem = s.mem := by
  unfold State.place
  split <;> simp

@[simp] theorem State.queueFor_keeps (s : State) (port : Nat) (p : Packet) (who : Option Nat) (pay : Bool) :
    (s.queueFor port p who pay).lch = s.lch ∧ (s.queueFor port p who pay).mem = s.mem := by
  unfold State.queueFor
  dsimp only
  split
  · split <;> simp
  · simp

@[simp] theorem State.sendOn_keeps (w : State × Routed) (who : Option Nat) (pay : Bool) :
    (State.sendOn w who pay).lch = w.1.lch ∧ (State.sendOn w who pay).mem = w.1.mem := by
  unfold State.sendOn
  split <;> simp

@[simp] theorem State.sendRsp_keeps (s : State) (port : Nat) (q r : Packet) :
    (s.sendRsp port q r).lch = s.lch ∧ (s.sendRsp port q r).mem = s.mem := by
  unfold State.sendRsp State.injectFor
  dsimp only
  split
  · simp
  · split <;> split <;> simp

@[simp] theorem State.cxlAnswer_keeps (s : State) (c ld tag kind : Nat) (b : List Byte) :
    (s.cxlAnswer c ld tag kind b).lch = s.lch ∧ (s.cxlAnswer c ld tag kind b).mem = s.mem := by
  simp [State.cxlAnswer]

@[simp] theorem State.cxlSend_keeps (s : State) (c : Nat) (l : List (Nat × Nat × Nat × List Byte)) :
    (s.cxlSend c l).lch = s.lch ∧ (s.cxlSend c l).mem = s.mem :=
  foldl_keeps _ (fun u _ => u.cxlAnswer_keeps _ _ _ _ _) l s

@[simp] theorem State.reply_keeps (s : State) (r : Req) (st addr op : Nat) (b : List Byte) :
    (s.reply r st addr op b).lch = s.lch ∧ (s.reply r st addr op b).mem = s.mem := by
  unfold State.reply
  dsimp only
  split
  · split
    · simp
    · split <;> simp
  · split <;> simp

/-! ### The end of a request -/

@[simp] theorem State.seqCommit_keeps (s : State) (k n : Nat) (bad : Bool) :
    (s.seqCommit k n bad).lch = s.lch ∧ (s.seqCommit k n bad).mem = s.mem := by
  unfold State.seqCommit State.setSeq
  dsimp only
  split
  · simp
  · split <;> simp

@[simp] theorem State.dropReq_keeps (s : State) (id : Nat) : (s.dropReq id).lch = s.lch ∧ (s.dropReq id).mem = s.mem := ⟨rfl, rfl⟩

@[simp] theorem State.finish_keeps (s : State) (id st addr op : Nat) (b : List Byte) :
    (s.finish id st addr op b).lch = s.lch ∧ (s.finish id st addr op b).mem = s.mem := by
  unfold State.finish
  dsimp only
  split
  · simp
  · split <;> simp

@[simp] theorem State.finishRetry_keeps (s : State) (id h : Nat) :
    (s.finishRetry id h).lch = s.lch ∧ (s.finishRetry id h).mem = s.mem := by
  unfold State.finishRetry
  split <;> simp

end Sys2Proof.Machine
end

section
/-! Latch counts (R184, R188 to R192): what a count reads as after each operation on latches, and that none of them changes memory. -/

namespace Sys2Proof.Machine

open Sys2Proof

/-! ### Counts -/

@[simp] theorem State.journal_keeps (s : State) (r : JRec) : (s.journal r).lch = s.lch ∧ (s.journal r).mem = s.mem := by
  unfold State.journal
  split <;> simp

/-- Counts stand in the latch unit alone. -/
theorem State.latch_of_lch {s t : State} (h : t.lch = s.lch) (k : Nat) : t.latch k = s.latch k := by rw [State.latch, h, State.latch]

@[simp] theorem State.bump_latch (s : State) (o k : Nat) : (s.bump o).latch k = s.latch k := State.latch_of_lch (by simp) k

@[simp] theorem State.classBytes_latch (s : State) (c n k : Nat) : (s.classBytes c n).latch k = s.latch k := State.latch_of_lch (by simp) k

@[simp] theorem State.reply_latch (s : State) (r : Req) (st addr op : Nat) (b : List Byte) (k : Nat) :
    (s.reply r st addr op b).latch k = s.latch k := State.latch_of_lch (by simp) k

@[simp] theorem State.finish_latch (s : State) (id st addr op : Nat) (b : List Byte) (k : Nat) :
    (s.finish id st addr op b).latch k = s.latch k := State.latch_of_lch (by simp) k

/-- A count reads as it was set, and every other count stays. -/
@[simp] theorem State.setLatch_latch (s : State) (l n k : Nat) : (s.setLatch l n).latch k = if k = l then n else s.latch k := by
  unfold State.setLatch
  split
  case isTrue hsame =>
    split
    case isTrue hkey => rw [hkey, hsame]
    case isFalse => rfl
  case isFalse =>
    simp only [State.latch, State.journal_keeps]
    split
    case isTrue hkey => rw [hkey, SMap.get_set_same]
    case isFalse hkey => exact SMap.get_set_of_ne hkey

@[simp] theorem State.setLatch_mem (s : State) (l n : Nat) : (s.setLatch l n).mem = s.mem := by
  unfold State.setLatch
  split <;> simp

/-! ### Adds and subtracts (R184, R189) -/

theorem latchValue_lt (p : Packet) : latchValue p < 2 ^ 32 := Nat.mod_lt _ (by decide)

@[simp] theorem State.latchRange_keeps (s : State) (p : Packet) (l : Nat) :
    (s.latchRange p l).lch = s.lch ∧ (s.latchRange p l).mem = s.mem := by
  simp [State.latchRange]

@[simp] theorem State.latchRange_latch (s : State) (p : Packet) (l k : Nat) : (s.latchRange p l).latch k = s.latch k :=
  State.latch_of_lch (by simp) k

@[simp] theorem State.latchAdd_latch (s : State) (p : Packet) (l v k : Nat) :
    (s.latchAdd p l v).1.latch k = if k = l then min (s.latch l + v) 0xFFFFFFFF else s.latch k := by
  unfold State.latchAdd
  dsimp only
  split <;> simp

@[simp] theorem State.latchAdd_mem (s : State) (p : Packet) (l v : Nat) : (s.latchAdd p l v).1.mem = s.mem := by
  unfold State.latchAdd
  dsimp only
  split <;> simp

/-- The count a LATCH_SUB leaves: a subtract below zero is refused. -/
theorem State.runLatchSub_latch (s : State) (r : Req) (h : s.latchAllowed r = true) (k : Nat) :
    (s.runLatchSub r).latch k =
      if k = latchOf r.pkt ∧ latchValue r.pkt ≤ s.latch k then s.latch k - latchValue r.pkt else s.latch k := by
  unfold State.runLatchSub
  simp only [h, Bool.true_eq_false, if_false]
  split
  case isTrue hbelow =>
    rw [if_neg (by rintro ⟨rfl, hcovered⟩; omega)]
    simp
  case isFalse hcovered =>
    by_cases hk : k = latchOf r.pkt
    · subst hk
      simp [Nat.not_lt.1 hcovered]
    · simp [hk]

/-! ### Waits (R190, R191, R192) -/

/-- The count a wait leaves when it is satisfied: a consuming one subtracts its threshold. -/
def countAfterWait (consume : Bool) (count threshold : Nat) : Nat := if consume then count - threshold else count

/-- The state that a LATCH_WAIT satisfied on arrival is answered from. -/
def State.waitMet (s : State) (r : Req) : State :=
  let s0 := s.classBytes 10 1
  let s1 := if latchConsume r.pkt then s0.setLatch (latchOf r.pkt) (s.latch (latchOf r.pkt) - latchValue r.pkt) else s0
  s1.bump Reg.LCH_WAIT_CNT.OFF

theorem State.waitMet_latch (s : State) (r : Req) (k : Nat) : (s.waitMet r).latch k =
    if k = latchOf r.pkt then countAfterWait (latchConsume r.pkt) (s.latch k) (latchValue r.pkt) else s.latch k := by
  unfold State.waitMet countAfterWait
  dsimp only
  by_cases hk : k = latchOf r.pkt
  · subst hk
    split <;> simp
  · split <;> simp [hk]

/-- A wait satisfied on arrival answers the count that it leaves. -/
theorem State.runLatchWait_met (s : State) (r : Req) (h : s.latchAllowed r = true) (hmet : latchValue r.pkt ≤ s.latch (latchOf r.pkt)) :
    s.runLatchWait r = (s.waitMet r).finish r.id stOK 0 ((s.waitMet r).latch (latchOf r.pkt)) [] := by
  unfold State.runLatchWait State.waitMet
  simp [h, hmet]

@[simp] theorem State.modWop_latch (s : State) (id : Nat) (g : Wop → Wop) (k : Nat) : (s.modWop id g).latch k = s.latch k := rfl

@[simp] theorem State.unpark_latch (s : State) (p : Park) (k : Nat) : (s.unpark p).latch k = s.latch k := rfl

@[simp] theorem State.answerPark_latch (s : State) (p : Park) (st k : Nat) : (s.answerPark p st).latch k = s.latch k := by
  simp [State.answerPark]

/-- The count the release of a waiter leaves. -/
theorem State.release_latch (s : State) (p : Park) (k : Nat) :
    (s.release p).latch k = if k = p.latch then countAfterWait p.consume (s.latch k) p.thr else s.latch k := by
  unfold State.release countAfterWait
  dsimp only
  by_cases hk : k = p.latch
  · subst hk
    cases p.ward <;> cases p.consume <;> simp
  · cases p.ward <;> cases p.consume <;> simp [hk]

/-! ### Memory stays -/

@[simp] theorem State.modWop_mem (s : State) (id : Nat) (g : Wop → Wop) : (s.modWop id g).mem = s.mem := rfl

@[simp] theorem State.unpark_mem (s : State) (p : Park) : (s.unpark p).mem = s.mem := rfl

@[simp] theorem State.release_mem (s : State) (p : Park) : (s.release p).mem = s.mem := by
  unfold State.release State.answerPark
  dsimp only
  split <;> split <;> simp

@[simp] theorem State.examineOf_mem (ps : List Park) (s : State) : (State.examineOf ps s).mem = s.mem := by
  induction ps generalizing s with
  | nil => rfl
  | cons p ps ih =>
    rw [State.examineOf, ih]
    split <;> simp

@[simp] theorem State.examine_mem (s : State) (l : Nat) : (s.examine l).mem = s.mem := by simp [State.examine]

@[simp] theorem State.latchRefuse_mem (s : State) (r : Req) : (s.latchRefuse r).mem = s.mem := by
  simp [State.latchRefuse, State.latchViolation]

theorem State.runLatchAdd_mem (s : State) (r : Req) : (s.runLatchAdd r).mem = s.mem := by
  unfold State.runLatchAdd
  dsimp only
  split <;> simp

theorem State.runLatchSub_mem (s : State) (r : Req) : (s.runLatchSub r).mem = s.mem := by
  unfold State.runLatchSub
  dsimp only
  split
  · simp
  · split <;> simp

theorem State.runLatchWait_mem (s : State) (r : Req) : (s.runLatchWait r).mem = s.mem := by
  unfold State.runLatchWait
  dsimp only
  split
  case isTrue hrefused => simp
  case isFalse hallowed =>
    split
    case isTrue hmet => split <;> simp
    case isFalse hparks =>
      split
      case isTrue hfull => split <;> simp
      case isFalse hroom =>
        split
        case isTrue hquota => simp
        case isFalse => split <;> simp

theorem State.runLatchRead_mem (s : State) (r : Req) : (s.runLatchRead r).mem = s.mem := by
  unfold State.runLatchRead
  split <;> simp

theorem State.runLatchSet_mem (s : State) (r : Req) : (s.runLatchSet r).mem = s.mem := by
  unfold State.runLatchSet
  dsimp only
  split <;> simp

theorem State.byte_of_mem {s t : State} (h : t.mem = s.mem) (a : Nat) : t.byte a = s.byte a := by rw [State.byte, h, State.byte]

/-- Settles O59: each part is the lemma about that operation's counts; bytes stay as the whole memory does. -/
theorem latchCountsNeverWrap : Obligations.LatchCountsNeverWrap := by
  unfold Obligations.LatchCountsNeverWrap
  rintro s r l v hallowed rfl rfl
  refine ⟨latchValue_lt r.pkt, fun n => ⟨by simp, fun k hk => by simp [hk]⟩, ?add, ?sub, ?subOthers, ?wait, ?release, ?memory⟩
  case add => exact ⟨by simp, rfl, fun k hk => by simp [hk]⟩
  case sub => simp [s.runLatchSub_latch r hallowed]
  case subOthers => exact fun k hk => by simp [s.runLatchSub_latch r hallowed, hk]
  case wait =>
    intro hmet
    refine ⟨s.waitMet r, (s.waitMet r).latch (latchOf r.pkt), ?_, rfl, s.runLatchWait_met r hallowed hmet, ?_, fun k hk => ?_⟩
    · simp [s.waitMet_latch, countAfterWait]
    · simp [s.runLatchWait_met r hallowed hmet]
    · simp [s.runLatchWait_met r hallowed hmet, s.waitMet_latch, hk]
  case release => exact fun p _ => ⟨by simp [s.release_latch, countAfterWait], fun k hk => by simp [s.release_latch, hk]⟩
  case memory =>
    exact fun a => ⟨State.byte_of_mem (s.runLatchAdd_mem r) a, State.byte_of_mem (s.runLatchSub_mem r) a,
      State.byte_of_mem (s.runLatchWait_mem r) a, State.byte_of_mem (s.runLatchRead_mem r) a, State.byte_of_mem (s.runLatchSet_mem r) a⟩

end Sys2Proof.Machine
end

section
/-! Warm reset requests (R446, R449, R564): what a request leads to in each phase, and that both ways of asking come to the same request. -/

namespace Sys2Proof.Machine

open Sys2Proof

/-! ### The request by its phase (R449) -/

/-- The reset is recorded and the steps start again from the first. -/
def State.warmAgain (s : State) (last : Nat) : State := { s.setF Reg.GLB_STAT.LAST_RESET last with phase := .warm 1 }

theorem State.warmAgain_phase (s : State) (last : Nat) : (s.warmAgain last).phase = .warm 1 := rfl

theorem State.warmAsk_of_not_everReady (s : State) (last : Nat) (hready : s.everReady = false)
    (hphase : s.phase = .recovery ∨ s.phase = .noKeeper) : s.warmAsk last = s.coldRestart last := by
  unfold State.warmAsk
  obtain hrecovery | hnoKeeper := hphase
  · simp [hrecovery, hready]
  · simp [hnoKeeper, hready]

theorem State.warmAsk_of_warm (s : State) (last : Nat) {k : Nat} (hphase : s.phase = .warm k) : s.warmAsk last = s.warmAgain last := by
  unfold State.warmAsk
  simp only [hphase]
  rfl

/-! ### The two ways to ask (R446, R564) -/

/-- The state with WARM_RESET_N low. -/
def State.warmPinLow (s : State) : State := { s with pins := { s.pins with warmLow := true } }

theorem State.exec_warmResetN_eq (s : State) : exec .warmResetN s = .next (s.ended (s.warmPinLow.warmAsk 2)) := exec_warmResetN s

/-- The word that GLB_RST_WARM writes holds the key and WARM without COLD. -/
theorem State.rstWrite_warm (s : State) (a : Path) : s.rstWrite a 0x1A5 = s.warmAsk 3 := by
  have hkey : bits 0x1A5 7 0 = 0xA5 := by decide
  have hcold : bit 0x1A5 9 = false := by decide
  have hwarm : bit 0x1A5 8 = true := by decide
  simp [State.rstWrite, hkey, hcold, hwarm]

theorem State.exec_glbRstWarm_of_regOpen (s : State) {a : Path} (hopen : s.regOpen a Reg.GLB_RST.OFF = true) :
    exec (.glbRstWarm a) s = .next (s.ended (s.warmAsk 3)) := by
  rw [exec_glbRstWarm, execGlbRstWarm, regOpen_cmd s a _ _ hopen, s.rstWrite_warm]

/-- Settles O60: either way of asking comes to `State.warmAsk`, which restarts cold before the first READY and `State.warmAgain` during a
warm reset. -/
theorem warmResetRequestsFollowThePhase : Obligations.WarmResetRequestsFollowThePhase := by
  unfold Obligations.WarmResetRequestsFollowThePhase
  rintro s u rfl
  refine ⟨fun hready hphase => ⟨?pinBeforeReady, ?writeBeforeReady⟩, ?again⟩
  case pinBeforeReady => rw [s.exec_warmResetN_eq, s.warmPinLow.warmAsk_of_not_everReady 2 hready hphase, State.warmPinLow]
  case writeBeforeReady =>
    intro a hopen
    rw [s.exec_glbRstWarm_of_regOpen hopen, s.warmAsk_of_not_everReady 3 hready hphase]
  case again =>
    rintro k t hphase (hpin | ⟨a, hopen, hwrite⟩)
    · rw [s.exec_warmResetN_eq, s.warmPinLow.warmAsk_of_warm 2 hphase] at hpin
      exact ⟨s.warmPinLow.warmAgain 2, State.warmAgain_phase _ _, (Host.Outcome.next.inj hpin).symm⟩
    · rw [s.exec_glbRstWarm_of_regOpen hopen, s.warmAsk_of_warm 3 hphase] at hwrite
      exact ⟨s.warmAgain 3, s.warmAgain_phase 3, (Host.Outcome.next.inj hwrite).symm⟩

end Sys2Proof.Machine
end

section
/-! What any command does: its effect happens where what it needs runs, with the end of every command after it, and nothing happens elsewhere. -/

namespace Sys2Proof.Machine

open Sys2Proof

/-! ### The form of every command (log entry 7) -/

/-- What a command needs runs. -/
def State.has (s : State) (n : Needs) : Bool :=
  match n with
  | .service => s.active
  | .clocks => s.clocked
  | .pins => true

/-- A register command of an array's entry: out of the array's range it is no command. -/
theorem State.onReg_within (s : State) (p : Prop) [Decidable p] (a : Path) (o : Nat) (go : State → State) :
    (if p then s.onReg a o go else .next s) = .next s ∨
      ∃ u, (if p then s.onReg a o go else .next s) = .next (if s.has .clocks = true then s.ended u else s) := by
  by_cases h : p
  · exact .inr ⟨_, if_pos h⟩
  · exact .inl (if_neg h)

/-- Every command is an effect that happens where what the command needs runs, or names no entry of its register array and does nothing. -/
theorem exec_has (c : Instr) (s : State) :
    exec c s = .next s ∨ ∃ u, exec c s = .next (if s.has c.needs = true then s.ended u else s) := by
  cases c
  case ptnEntryWrite => exact s.onReg_within _ _ _ _
  case ptnGntWrite => exact s.onReg_within _ _ _ _
  case ktuLdKeywayWrite => exact s.onReg_within _ _ _ _
  case wrdCtxWrite => exact s.onReg_within _ _ _ _
  case dirAgentWrite => exact s.onReg_within _ _ _ _
  case rtbMcWrite => exact s.onReg_within _ _ _ _
  all_goals exact .inr ⟨_, rfl⟩

/-- A command leaves the state alone, or what it needs runs and its end follows an effect. -/
theorem exec_next (c : Instr) (s : State) : exec c s = .next s ∨ s.has c.needs = true ∧ ∃ u, exec c s = .next (s.ended u) := by
  obtain h | ⟨u, h⟩ := exec_has c s
  · exact .inl h
  · cases hn : s.has c.needs
    · exact .inl (by simpa [hn] using h)
    · exact .inr ⟨rfl, u, by simpa [hn] using h⟩

theorem exec_of_not_has {c : Instr} {s : State} (h : s.has c.needs = false) : exec c s = .next s := by
  obtain hs | ⟨hn, -⟩ := exec_next c s
  · exact hs
  · simp [h] at hn

/-! ### Steps -/

theorem step_cons {s : State} {c : Instr} {rest : List Instr} (h : s.pending = c :: rest) : step s = exec c { s with pending := rest } := by
  simp only [step, h]

theorem step_nil {s : State} (h : s.pending = []) : step s = .next s.idle := by simp only [step, h]

/-- Settles O1. -/
theorem stepRunsTheFrontCommand : Obligations.StepRunsTheFrontCommand := fun _ _ _ h => step_cons h

theorem State.idle_clocked {s : State} (h : s.clocked = true) : s.idle = s.tick := if_pos h

/-- A clock that gathers no millionths counts whole nanoseconds. -/
theorem State.tick_whole {s : State} (h : s.flag Reg.RTB_ENUM_CTRL.CHAIN_HEAD = true ∨ s.rtb.rate = 0 ∧ s.rtb.frac = 0) :
    s.tick = { s with time := (s.time + 1) % 18446744073709551616, rtb := { s.rtb with frac := 0 } } := by
  have hf : (if s.flag Reg.RTB_ENUM_CTRL.CHAIN_HEAD then 0 else s.rtb.frac + s.rtb.rate) = 0 := by
    obtain h | ⟨hr, hf⟩ := h
    · simp [h]
    · simp [hr, hf]
  have ht : (((s.time : Int) + 1 + 0) % 18446744073709551616).toNat = (s.time + 1) % 18446744073709551616 := by omega
  simp only [State.tick, hf, Int.zero_tdiv, Int.zero_tmod, ht]

/-- Settles O2: the three clauses are the three ways `State.idle` goes. -/
theorem stepWithoutCommandPassesTime : Obligations.StepWithoutCommandPassesTime := by
  intro s hp
  rw [step_nil hp]
  refine ⟨fun hc hw => ?_, fun hc hh => ?_, fun hc => ?_⟩
  · rw [State.idle_clocked hc, State.tick_whole hw]
  · simp [State.idle_clocked hc, State.tick, hh]
  · simp [State.idle, hc]

/-- Settles O3: both forms that a command's answer can have keep the queue and the part. -/
theorem commandsAnswerAndKeepTheQueue : Obligations.CommandsAnswerAndKeepTheQueue := by
  have answers (c : Instr) (s : State) : ∃ t, exec c s = .next t ∧ t.pending = s.pending ∧ t.part = s.part := by
    obtain h | ⟨-, u, h⟩ := exec_next c s
    · exact ⟨s, h, rfl, rfl⟩
    · exact ⟨s.ended u, h, rfl, rfl⟩
  intro s
  refine ⟨fun c => answers c s, ?_⟩
  cases hp : s.pending with
  | nil => exact ⟨_, step_nil hp⟩
  | cons c rest =>
    obtain ⟨t, ht, -⟩ := answers c { s with pending := rest }
    exact ⟨t, (step_cons hp).trans ht⟩

/-- Settles O6: a command that needs what does not run leaves the state alone. -/
theorem commandsActWhereTheirPartRuns : Obligations.CommandsActWhereTheirPartRuns := by
  refine fun c s => ⟨fun hc hn => exec_of_not_has ?_, fun ha hn => exec_of_not_has (by rw [hn]; exact ha)⟩
  have ha : s.active = false := by
    by_contra h
    simp [active_clocked s (by simpa using h)] at hc
  cases h : c.needs
  case pins => exact absurd h hn
  case clocks => exact hc
  case service => exact ha

/-! ### The invariant -/

theorem State.inv_iff (s : State) : s.inv = true ↔ s.memWf = true ∧ s.time < 18446744073709551616 ∧ s.pendingWf = true := by
  simp [State.inv, and_assoc]

@[simp] theorem State.ended_time_lt (s u : State) : (s.ended u).time < 18446744073709551616 := Nat.mod_lt _ (by decide)

/-- The end of a command leaves a state in order, whatever its effect, where the queue it started with is. -/
theorem State.ended_inv (s u : State) (h : s.pendingWf = true) : (s.ended u).inv = true :=
  (State.inv_iff _).2 ⟨s.ended_memWf u, s.ended_time_lt u, h⟩

theorem State.idle_inv {s : State} (h : s.inv = true) : s.idle.inv = true := by
  rw [State.inv_iff] at h ⊢
  cases hc : s.clocked
  · simpa [State.idle, hc] using h
  · rw [State.idle_clocked hc]
    refine ⟨h.1, ?_, h.2.2⟩
    simp only [State.tick]
    omega

theorem exec_inv {c : Instr} {s t : State} (h : s.inv = true) (he : exec c s = .next t) : t.inv = true := by
  obtain hs | ⟨-, u, hu⟩ := exec_next c s
  · rw [hs] at he
    rwa [← Host.Outcome.next.inj he]
  · rw [hu] at he
    rw [← Host.Outcome.next.inj he]
    exact s.ended_inv u ((State.inv_iff s).1 h).2.2

/-- Settles O4: time that passes keeps the order, and so does a command at the front of a queue that is well-formed. -/
theorem stepKeepsInvariant : Obligations.StepKeepsInvariant := by
  intro s t h he
  cases hp : s.pending with
  | nil =>
    rw [step_nil hp] at he
    rw [← Host.Outcome.next.inj he]
    exact State.idle_inv h
  | cons c rest =>
    rw [step_cons hp] at he
    refine exec_inv ?_ he
    rw [State.inv_iff] at h ⊢
    obtain ⟨hm, ht, hw⟩ := h
    simp only [State.pendingWf, hp, List.all_cons, Bool.and_eq_true] at hw
    exact ⟨hm, ht, hw.2⟩

end Sys2Proof.Machine
end

section
/-! The sector code (R263 to R266). Multiplication by a constant and by x are linear over exclusive or, so that two such maps agree where they
agree on the sixteen single bits; the syndromes of a code word are zero because the generator vanishes at its roots; and one wrong symbol is found
because no two powers of x below 36 act alike. -/

namespace Sys2Proof.Machine

open Sys2Proof

/-! ### Linear maps of symbols -/

/-- A map of 16-bit symbols that exclusive or passes through. -/
structure SymLinear (f : Nat → Nat) : Prop where
  lt : ∀ x, x < 65536 → f x < 65536
  xor : ∀ x y, x < 65536 → y < 65536 → f (x ^^^ y) = f x ^^^ f y

theorem sym_xor_lt {x y : Nat} (hx : x < 65536) (hy : y < 65536) : x ^^^ y < 65536 := Nat.xor_lt_two_pow (n := 16) hx hy

/-- A leading bit is added by exclusive or. -/
theorem two_pow_add_eq_xor {n x : Nat} (h : x < 2 ^ n) : 2 ^ n + x = 2 ^ n ^^^ x := by
  refine Nat.eq_of_testBit_eq fun i => ?_
  rw [Nat.testBit_xor, Nat.testBit_two_pow]
  obtain hi | rfl | hi := Nat.lt_trichotomy i n
  · simp [Nat.testBit_two_pow_add_gt hi, Nat.ne_of_gt hi]
  · simp [Nat.testBit_two_pow_add_eq]
  · have hp : 2 ^ n + x < 2 ^ i := calc
      2 ^ n + x < 2 ^ (n + 1) := by rw [Nat.pow_succ]; omega
      _ ≤ 2 ^ i := Nat.pow_le_pow_right (by decide) hi
    simp [Nat.testBit_lt_two_pow hp, Nat.testBit_lt_two_pow (x := x) (i := i) (by omega), Nat.ne_of_lt hi]

namespace SymLinear

variable {f g : Nat → Nat}

theorem zero (hf : SymLinear f) : f 0 = 0 := by simpa using hf.xor 0 0 (by decide) (by decide)

theorem id : SymLinear fun x => x := ⟨fun _ h => h, fun _ _ _ _ => rfl⟩

theorem const_zero : SymLinear fun _ => 0 := ⟨fun _ _ => by decide, fun _ _ _ _ => rfl⟩

theorem comp (hf : SymLinear f) (hg : SymLinear g) : SymLinear fun x => f (g x) :=
  ⟨fun x h => hf.lt _ (hg.lt x h), fun x y hx hy => by rw [hg.xor x y hx hy, hf.xor _ _ (hg.lt x hx) (hg.lt y hy)]⟩

theorem add (hf : SymLinear f) (hg : SymLinear g) : SymLinear fun x => f x ^^^ g x :=
  ⟨fun x h => sym_xor_lt (hf.lt x h) (hg.lt x h), fun x y hx hy => by
    rw [hf.xor x y hx hy, hg.xor x y hx hy]; ac_rfl⟩

theorem iterate (hf : SymLinear f) (n : Nat) : SymLinear f^[n] := by
  induction n with
  | zero => exact .id
  | succ n ih => exact ih.comp hf

/-- Linear maps that agree on the single bits agree. -/
theorem ext (hf : SymLinear f) (hg : SymLinear g) (h : ∀ i, i < 16 → f (2 ^ i) = g (2 ^ i)) {x : Nat} (hx : x < 65536) : f x = g x := by
  have below : ∀ n, n ≤ 16 → ∀ x, x < 2 ^ n → f x = g x := by
    intro n
    induction n with
    | zero =>
      intro _ x hx
      have h0 : x = 0 := by omega
      rw [h0, hf.zero, hg.zero]
    | succ n ih =>
      intro hn x hx
      by_cases hlt : x < 2 ^ n
      · exact ih (by omega) x hlt
      · have hp : 2 ^ n < 2 ^ 16 := Nat.pow_lt_pow_right (by decide) (by omega)
        have hr : x - 2 ^ n < 2 ^ n := by rw [Nat.pow_succ] at hx; omega
        have hsplit : x = 2 ^ n ^^^ (x - 2 ^ n) := by
          rw [← two_pow_add_eq_xor hr]; omega
        rw [hsplit, hf.xor _ _ hp (by omega), hg.xor _ _ hp (by omega), h n (by omega), ih (by omega) _ hr]
  exact below 16 le_rfl x hx

end SymLinear

/-! ### The field -/

theorem gfX_symLinear : SymLinear gfX := by
  have double (x y : Nat) : 2 * (x ^^^ y) = 2 * x ^^^ 2 * y := by
    simpa [Nat.shiftLeft_eq, Nat.mul_comm] using Nat.shiftLeft_xor_distrib (i := 1) (a := x) (b := y)
  have high (x : Nat) (hx : x < 65536) : x.testBit 15 = !decide (x < 32768) := by
    rw [Nat.testBit_eq_decide_div_mod_eq]
    by_cases h : x < 32768
    · simp only [h, decide_true, Bool.not_true, decide_eq_false_iff_not]
      omega
    · simp only [h, decide_false, Bool.not_false, decide_eq_true_eq]
      omega
  have form (x : Nat) (hx : x < 65536) : gfX x = 2 * x ^^^ (if x.testBit 15 then 0x1100B else 0) := by
    rw [high x hx, gfX]
    by_cases h : x < 32768 <;> simp [h]
  refine ⟨fun x hx => ?_, fun x y hx hy => ?_⟩
  · unfold gfX
    split
    · omega
    · obtain ⟨z, hz, h1⟩ : ∃ z, z < 65536 ∧ 2 * x = 65536 ^^^ z :=
        ⟨2 * x - 65536, by omega, (Nat.add_sub_cancel' (by omega)).symm.trans (two_pow_add_eq_xor (n := 16) (by omega))⟩
      have h3 : (0x1100B : Nat) = 0x100B ^^^ 65536 := by decide
      rw [h1, h3, ← Nat.xor_assoc, Nat.xor_right_comm, Nat.xor_right_comm 65536, Nat.xor_self, Nat.zero_xor]
      exact sym_xor_lt hz (by decide)
  · rw [form _ (sym_xor_lt hx hy), form x hx, form y hy, double, Nat.testBit_xor]
    cases x.testBit 15 <;> cases y.testBit 15 <;> simp [Nat.xor_assoc, Nat.xor_comm, Nat.xor_left_comm]

theorem gfMulN_symLinear (n b : Nat) : SymLinear fun a => gfMulN n a b := by
  induction n generalizing b with
  | zero => exact .const_zero
  | succ n ih =>
    have hbit : SymLinear fun a => if b % 2 = 1 then a else 0 := by
      by_cases hb : b % 2 = 1
      · simpa only [if_pos hb] using SymLinear.id
      · simpa only [if_neg hb] using SymLinear.const_zero
    exact hbit.add ((ih (b / 2)).comp gfX_symLinear)

/-- Multiplication by a constant is linear. -/
theorem gfMul_symLinear (b : Nat) : SymLinear fun a => gfMul a b := gfMulN_symLinear 16 b

/-- Multiplication by a power of x, for the powers that name a symbol's place. -/
theorem gfMul_alphaPow {j a : Nat} (hj : j < 36) (ha : a < 65536) : gfMul a (alphaPow j) = gfX^[j] a := by
  have hbits : ∀ j, j < 36 → ∀ i, i < 16 → gfMul (2 ^ i) (alphaPow j) = gfX^[j] (2 ^ i) := by decide +kernel
  exact (gfMul_symLinear _).ext (gfX_symLinear.iterate j) (hbits j hj) ha

theorem gfX_injective {a b : Nat} (ha : a < 65536) (hb : b < 65536) (h : gfX a = gfX b) : a = b := by
  have hinv {c : Nat} (hc : c < 65536) : gfMul (gfX c) (gfInv 2) = c :=
    ((gfMul_symLinear _).comp gfX_symLinear).ext .id (by decide +kernel) hc
  rw [← hinv ha, h, hinv hb]

theorem iterate_gfX_injective (n : Nat) {a b : Nat} (ha : a < 65536) (hb : b < 65536) (h : gfX^[n] a = gfX^[n] b) : a = b := by
  induction n generalizing a b with
  | zero => exact h
  | succ n ih => exact gfX_injective ha hb (ih (gfX_symLinear.lt a ha) (gfX_symLinear.lt b hb) h)

/-- No symbol but 0 is its own multiple by a power of x below 36. -/
theorem iterate_gfX_ne {d e : Nat} (hd : 0 < d) (hd36 : d < 36) (he : e < 65536) (h0 : e ≠ 0) : gfX^[d] e ≠ e := by
  intro h
  have hbits : ∀ d, d < 36 → 0 < d → ∀ i, i < 16 →
      gfMul (gfX^[d] (2 ^ i) ^^^ 2 ^ i) (gfInv (alphaPow d ^^^ 1)) = 2 ^ i := by decide +kernel
  have hinv : gfMul (gfX^[d] e ^^^ e) (gfInv (alphaPow d ^^^ 1)) = e :=
    ((gfMul_symLinear _).comp ((gfX_symLinear.iterate d).add .id)).ext .id (hbits d hd36 hd) he
  rw [h, Nat.xor_self, (gfMul_symLinear _).zero] at hinv
  exact h0 hinv.symm

/-- Different places below 36 turn a wrong symbol into different multiples. -/
theorem iterate_gfX_inj {i j e : Nat} (hij : i < j) (hj : j < 36) (he : e < 65536) (h0 : e ≠ 0) : gfX^[i] e ≠ gfX^[j] e := by
  intro h
  rw [show j = i + (j - i) by omega, Function.iterate_add_apply] at h
  exact iterate_gfX_ne (by omega) (by omega) he h0 (iterate_gfX_injective i he ((gfX_symLinear.iterate _).lt e he) h).symm

/-! ### Syndromes -/

/-- Every symbol of a word has 16 bits. -/
def symbolsOk (w : List Nat) : Prop := ∀ x ∈ w, x < 65536

/-- The value of a word at x^k, its constant symbol first. -/
def wordAt (k : Nat) : List Nat → Nat
  | [] => 0
  | c :: w => gfX^[k] (wordAt k w) ^^^ c

theorem wordAt_lt (k : Nat) {w : List Nat} (hw : symbolsOk w) : wordAt k w < 65536 := by
  induction w with
  | nil => exact Nat.zero_lt_succ _
  | cons c w ih =>
    have ⟨hc, hr⟩ := List.forall_mem_cons.1 hw
    exact sym_xor_lt ((gfX_symLinear.iterate k).lt _ (ih hr)) hc

/-- The value of a sum of words is the sum of their values. -/
theorem wordAt_zipWith (k : Nat) {u v : List Nat} (hu : symbolsOk u) (hv : symbolsOk v) (h : u.length = v.length) :
    wordAt k (List.zipWith (· ^^^ ·) u v) = wordAt k u ^^^ wordAt k v := by
  induction u generalizing v with
  | nil => cases v <;> simp_all [wordAt]
  | cons c u ih =>
    match v, h with
    | c' :: v, h =>
      have ⟨_, hu⟩ := List.forall_mem_cons.1 hu
      have ⟨_, hv⟩ := List.forall_mem_cons.1 hv
      rw [List.zipWith_cons_cons, wordAt, ih hu hv (by simpa using h),
        (gfX_symLinear.iterate k).xor _ _ (wordAt_lt k hu) (wordAt_lt k hv), wordAt, wordAt]
      ac_rfl

/-- A word's upper part counts from its place. -/
theorem wordAt_append (k : Nat) {u v : List Nat} (hu : symbolsOk u) (hv : symbolsOk v) :
    wordAt k (u ++ v) = wordAt k u ^^^ gfX^[k * u.length] (wordAt k v) := by
  have hX := gfX_symLinear.iterate
  induction u with
  | nil => simp [wordAt]
  | cons c u ih =>
    have ⟨_, hu⟩ := List.forall_mem_cons.1 hu
    rw [List.cons_append, wordAt, ih hu, (hX k).xor _ _ (wordAt_lt k hu) ((hX _).lt _ (wordAt_lt k hv)), wordAt,
      ← Function.iterate_add_apply, List.length_cons, Nat.mul_succ, Nat.add_comm k, Nat.xor_right_comm]

theorem syndrome_eq_wordAt {k : Nat} (hk : k < 36) {w : List Nat} (hw : symbolsOk w) : syndrome w k = wordAt k w := by
  unfold syndrome
  rw [List.foldl_reverse]
  induction w with
  | nil => rfl
  | cons c w ih =>
    have ⟨hc, hr⟩ := List.forall_mem_cons.1 hw
    rw [List.foldr_cons, ih hr, gfMul_alphaPow hk (wordAt_lt k hr), wordAt]

theorem flipSym_cons_succ (c : Nat) (w : List Nat) (j e : Nat) : flipSym (c :: w) (j + 1) e = c :: flipSym w j e := by
  simp [flipSym]

/-- A wrong symbol adds its multiple by the place's power. -/
theorem wordAt_flipSym (k : Nat) {w : List Nat} (hw : symbolsOk w) {j e : Nat} (hj : j < w.length) (he : e < 65536) :
    wordAt k (flipSym w j e) = wordAt k w ^^^ gfX^[k * j] e := by
  induction w generalizing j with
  | nil => simp at hj
  | cons c w ih =>
    have ⟨hc, hr⟩ := List.forall_mem_cons.1 hw
    cases j with
    | zero => simp [flipSym, wordAt, Nat.xor_assoc]
    | succ j =>
      have hj' : j < w.length := by simpa using hj
      rw [flipSym_cons_succ, wordAt, wordAt, ih hr hj',
        (gfX_symLinear.iterate k).xor _ _ (wordAt_lt k hr) ((gfX_symLinear.iterate _).lt e he), ← Function.iterate_add_apply,
        Nat.mul_succ, Nat.add_comm k (k * j), Nat.xor_right_comm]

/-! ### Encoding (R263) -/

/-- The four symbols of a remainder as a word. -/
def remWord (r : Nat × Nat × Nat × Nat) : List Nat := [r.1, r.2.1, r.2.2.1, r.2.2.2]

/-- The generator's low symbols, applied to a symbol. -/
def genWord (x : Nat) : List Nat := remWord (gfMul x rsGen.1, gfMul x rsGen.2.1, gfMul x rsGen.2.2.1, gfMul x rsGen.2.2.2)

theorem wordAt_remWord (k a b c d : Nat) :
    wordAt k (remWord (a, b, c, d)) = gfX^[k] (gfX^[k] (gfX^[k] d ^^^ c) ^^^ b) ^^^ a := by
  simp [remWord, wordAt, (gfX_symLinear.iterate k).zero]

/-- The generator vanishes at x^0 to x^3: there its low symbols come to its leading one (R263). -/
theorem wordAt_genWord {k x : Nat} (hk : k < 4) (hx : x < 65536) : wordAt k (genWord x) = gfX^[4 * k] x := by
  have hX := gfX_symLinear.iterate k
  have hg (c : Nat) := gfMul_symLinear c
  have hbits : ∀ k, k < 4 → ∀ i, i < 16 → wordAt k (genWord (2 ^ i)) = gfX^[4 * k] (2 ^ i) := by decide +kernel
  refine SymLinear.ext (f := fun x => wordAt k (genWord x)) ?_ (gfX_symLinear.iterate _) (hbits k hk) hx
  simp only [genWord, wordAt_remWord]
  exact (hX.comp ((hX.comp ((hX.comp (hg _)).add (hg _))).add (hg _))).add (hg _)

theorem rsStep_symbolsOk {r : Nat × Nat × Nat × Nat} {d : Nat} (hr : symbolsOk (remWord r)) (hd : d < 65536) :
    symbolsOk (remWord (rsStep rsGen r d)) := by
  obtain ⟨a, b, c, e⟩ := r
  simp only [symbolsOk, remWord, List.forall_mem_cons] at hr
  obtain ⟨ha, hb, hc, he, -⟩ := hr
  have hg (g : Nat) : gfMul (d ^^^ e) g < 65536 := (gfMul_symLinear g).lt _ (sym_xor_lt hd he)
  simp only [symbolsOk, remWord, rsStep, List.forall_mem_cons]
  exact ⟨hg _, sym_xor_lt ha (hg _), sym_xor_lt hb (hg _), sym_xor_lt hc (hg _), by simp⟩

/-- A step of the division shifts the remainder up and takes in a symbol, but for a multiple of the generator. -/
theorem wordAt_rsStep {k d : Nat} {r : Nat × Nat × Nat × Nat} (hk : k < 4) (hr : symbolsOk (remWord r)) (hd : d < 65536) :
    wordAt k (remWord (rsStep rsGen r d)) = gfX^[k] (wordAt k (remWord r)) ^^^ gfX^[4 * k] d := by
  obtain ⟨a, b, c, e⟩ := r
  simp only [symbolsOk, remWord, List.forall_mem_cons] at hr
  obtain ⟨ha, hb, hc, he, -⟩ := hr
  have hfb : d ^^^ e < 65536 := sym_xor_lt hd he
  have hgen : symbolsOk (genWord (d ^^^ e)) := by
    have hg (g : Nat) : gfMul (d ^^^ e) g < 65536 := (gfMul_symLinear g).lt _ hfb
    simp [symbolsOk, genWord, remWord, hg]
  have hsplit : remWord (rsStep rsGen (a, b, c, e) d) = List.zipWith (· ^^^ ·) [0, a, b, c] (genWord (d ^^^ e)) := by
    simp [rsStep, remWord, genWord]
  have hshift : gfX^[k] (wordAt k [a, b, c, e]) = wordAt k [0, a, b, c] ^^^ gfX^[4 * k] e := by
    have h5 := wordAt_flipSym k (w := [0, a, b, c, 0]) (by simp [symbolsOk, ha, hb, hc]) (j := 4) (by simp) he
    simpa [flipSym, wordAt, (gfX_symLinear.iterate k).zero, Nat.mul_comm k 4] using h5
  rw [hsplit, wordAt_zipWith k (u := [0, a, b, c]) (by simp [symbolsOk, ha, hb, hc]) hgen rfl, wordAt_genWord hk hfb,
    (gfX_symLinear.iterate _).xor _ _ hd he, remWord, hshift]
  ac_rfl

/-- The remainder of the data symbols, the lowest last to be taken in. -/
def rsRem : List Nat → Nat × Nat × Nat × Nat
  | [] => (0, 0, 0, 0)
  | d :: l => rsStep rsGen (rsRem l) d

theorem rsEncode_eq (l : List Nat) : rsEncode l = remWord (rsRem l) := by
  have h : l.reverse.foldl (rsStep rsGen) (0, 0, 0, 0) = rsRem l := by
    rw [List.foldl_reverse]
    induction l with
    | nil => rfl
    | cons d l ih => rw [List.foldr_cons, ih, rsRem]
  rw [rsEncode, h, remWord]

theorem rsRem_symbolsOk {l : List Nat} (hl : symbolsOk l) : symbolsOk (remWord (rsRem l)) := by
  induction l with
  | nil => simp [symbolsOk, remWord, rsRem]
  | cons d l ih =>
    have ⟨hd, hr⟩ := List.forall_mem_cons.1 hl
    exact rsStep_symbolsOk (ih hr) hd

theorem wordAt_rsRem {k : Nat} (hk : k < 4) {l : List Nat} (hl : symbolsOk l) :
    wordAt k (remWord (rsRem l)) = gfX^[4 * k] (wordAt k l) := by
  have hX := gfX_symLinear.iterate
  induction l with
  | nil => simp [rsRem, wordAt_remWord, wordAt, (hX _).zero]
  | cons d l ih =>
    have ⟨hd, hr⟩ := List.forall_mem_cons.1 hl
    rw [rsRem, wordAt_rsStep hk (rsRem_symbolsOk hr) hd, ih hr, wordAt, (hX _).xor _ _ ((hX _).lt _ (wordAt_lt k hr)) hd,
      ← Function.iterate_add_apply, ← Function.iterate_add_apply, Nat.add_comm]

/-- The word of 32 data symbols and their check symbols. -/
def codeWord (l : List Nat) : List Nat := wordSymbols l (rsEncode l)

theorem codeWord_eq (l : List Nat) : codeWord l = remWord (rsRem l) ++ l := by rw [codeWord, wordSymbols, rsEncode_eq]

theorem codeWord_symbolsOk {l : List Nat} (hl : symbolsOk l) : symbolsOk (codeWord l) := by
  rw [codeWord_eq]
  intro x hx
  exact (List.mem_append.1 hx).elim (rsRem_symbolsOk hl x) (hl x)

theorem codeWord_length (l : List Nat) : (codeWord l).length = l.length + 4 := by
  rw [codeWord_eq, List.length_append, Nat.add_comm]; rfl

/-- A code word vanishes at the generator's roots. -/
theorem wordAt_codeWord {k : Nat} (hk : k < 4) {l : List Nat} (hl : symbolsOk l) : wordAt k (codeWord l) = 0 := by
  rw [codeWord_eq, wordAt_append k (rsRem_symbolsOk hl) hl, wordAt_rsRem hk hl, show (remWord (rsRem l)).length = 4 from rfl,
    Nat.mul_comm, Nat.xor_self]

theorem syndrome_codeWord {k : Nat} (hk : k < 4) {l : List Nat} (hl : symbolsOk l) : syndrome (codeWord l) k = 0 := by
  rw [syndrome_eq_wordAt (by omega) (codeWord_symbolsOk hl), wordAt_codeWord hk hl]

/-! ### Correcting one symbol (R265) -/

theorem flipSym_length (w : List Nat) (j e : Nat) : (flipSym w j e).length = w.length := by simp [flipSym]

theorem flipSym_symbolsOk {w : List Nat} (hw : symbolsOk w) {j e : Nat} (hj : j < w.length) (he : e < 65536) : symbolsOk (flipSym w j e) := by
  intro x hx
  obtain hx | rfl := List.mem_or_eq_of_mem_set hx
  · exact hw x hx
  · rw [List.getD_eq_getElem _ _ hj]
    exact sym_xor_lt (hw _ (List.getElem_mem hj)) he

theorem flipSym_flipSym {w : List Nat} {j : Nat} (e : Nat) (hj : j < w.length) : flipSym (flipSym w j e) j e = w := by
  simp [flipSym, hj]

/-- The syndromes of a code word with one symbol wrong. -/
theorem syndrome_flipSym_codeWord {k : Nat} (hk : k < 4) {l : List Nat} (hl : symbolsOk l) {j e : Nat} (hj : j < l.length + 4)
    (he : e < 65536) : syndrome (flipSym (codeWord l) j e) k = gfX^[k * j] e := by
  have hw := codeWord_symbolsOk hl
  have hj' : j < (codeWord l).length := by rwa [codeWord_length]
  rw [syndrome_eq_wordAt (by omega) (flipSym_symbolsOk hw hj' he), wordAt_flipSym k hw hj' he, wordAt_codeWord hk hl, Nat.zero_xor]

/-- Syndromes that fit one symbol wrong at a place lead to that place. -/
theorem rsCorrect_one {w : List Nat} {j e : Nat} (hj : j < 36) (h0 : e ≠ 0) (he : e < 65536)
    (h : ∀ k, k < 4 → syndrome w k = gfX^[k * j] e) : rsCorrect w = some (flipSym w j e) := by
  have hX := gfX_symLinear.iterate
  have s0 : syndrome w 0 = e := by simpa using h 0 (by decide)
  have s1 : syndrome w 1 = gfX^[j] e := by simpa using h 1 (by decide)
  have s2 : syndrome w 2 = gfX^[j] (gfX^[j] e) := by rw [h 2 (by decide), Nat.two_mul, Function.iterate_add_apply]
  have s3 : syndrome w 3 = gfX^[j] (gfX^[j] (gfX^[j] e)) := by
    rw [h 3 (by decide), Nat.succ_mul, Nat.two_mul, Function.iterate_add_apply, Function.iterate_add_apply]
  have hfind : ((List.range 36).find? fun i => syndrome w 0 != 0 && gfMul (syndrome w 0) (alphaPow i) == syndrome w 1
      && gfMul (syndrome w 1) (alphaPow i) == syndrome w 2 && gfMul (syndrome w 2) (alphaPow i) == syndrome w 3) = some j := by
    rw [List.find?_range_eq_some]
    refine ⟨?_, List.mem_range.2 hj, fun i hi => ?_⟩
    · simp [s0, s1, s2, s3, h0, gfMul_alphaPow hj, he, (hX j).lt _ he, (hX j).lt _ ((hX j).lt _ he)]
    · simp [s0, s1, h0, gfMul_alphaPow (show i < 36 by omega) he, iterate_gfX_inj hi hj he h0]
  unfold rsCorrect
  simp only [hfind]
  rw [s0]

/-! ### Symbols and bytes (R264) -/

/-- The number whose low n bits a test gives. -/
def bitSum (n : Nat) (t : Nat → Bool) : Nat := (List.range n).foldl (fun acc b => acc + if t b then 2 ^ b else 0) 0

theorem bitSum_succ (n : Nat) (t : Nat → Bool) : bitSum (n + 1) t = bitSum n t + if t n then 2 ^ n else 0 := by
  simp [bitSum, List.range_succ]

theorem bitSum_lt (n : Nat) (t : Nat → Bool) : bitSum n t < 2 ^ n := by
  induction n with
  | zero => simp [bitSum]
  | succ n ih =>
    rw [bitSum_succ, Nat.pow_succ]
    split <;> omega

theorem testBit_bitSum (n : Nat) (t : Nat → Bool) (i : Nat) : (bitSum n t).testBit i = (decide (i < n) && t i) := by
  induction n with
  | zero => simp [bitSum]
  | succ n ih =>
    have hlt := bitSum_lt n t
    rw [bitSum_succ]
    cases ht : t n
    · rw [if_neg (by simp), Nat.add_zero, ih]
      by_cases hi : i = n
      · simp [hi, ht]
      · simp [show i < n + 1 ↔ i < n by omega]
    · rw [if_pos rfl, Nat.add_comm, two_pow_add_eq_xor hlt, Nat.testBit_xor, Nat.testBit_two_pow, ih]
      by_cases hi : i = n
      · simp [hi, ht]
      · simp [show i < n + 1 ↔ i < n by omega, Ne.symm hi]

theorem dataSymbol_eq (l : List Byte) (i : Nat) : dataSymbol l i = bitSum 16 fun b => (byteAt l (4 * b + i / 8)).getLsbD (i % 8) := rfl

theorem dataSymbols_length (l : List Byte) : (dataSymbols l).length = 32 := by simp [dataSymbols]

theorem dataSymbols_symbolsOk (l : List Byte) : symbolsOk (dataSymbols l) := by
  intro x hx
  obtain ⟨i, -, rfl⟩ := List.mem_map.1 hx
  exact bitSum_lt 16 _

theorem symbolBytes_length (d : List Nat) : (symbolBytes d).length = 64 := by simp [symbolBytes]

theorem symbolBytes_getElem (d : List Nat) (k : Nat) (hk : k < (symbolBytes d).length) :
    (symbolBytes d)[k] = BitVec.ofNat 8 (bitSum 8 fun b => (d.getD (8 * (k % 4) + b) 0).testBit (k / 4)) := by
  simp [symbolBytes, bitSum]

/-- Bytes laid out from symbols give the symbols back. -/
theorem dataSymbols_symbolBytes {d : List Nat} (hl : d.length = 32) (hd : symbolsOk d) : dataSymbols (symbolBytes d) = d := by
  refine List.ext_getElem (by rw [dataSymbols_length, hl]) fun i h1 h2 => Nat.eq_of_testBit_eq fun b => ?_
  have hi : i < 32 := by rwa [dataSymbols_length] at h1
  simp only [dataSymbols, List.getElem_map, List.getElem_range, dataSymbol_eq, testBit_bitSum]
  by_cases hb : b < 16
  · have hk : 4 * b + i / 8 < (symbolBytes d).length := by rw [symbolBytes_length]; omega
    have hplace : 8 * ((4 * b + i / 8) % 4) + i % 8 = i ∧ (4 * b + i / 8) / 4 = b := by omega
    rw [byteAt, List.getD_eq_getElem _ _ hk, symbolBytes_getElem, BitVec.getLsbD_ofNat, testBit_bitSum, hplace.1, hplace.2,
      List.getD_eq_getElem _ _ h2]
    simp [hb, Nat.mod_lt]
  · have hlt : d[i] < 2 ^ b := Nat.lt_of_lt_of_le (hd _ (List.getElem_mem h2)) (Nat.pow_le_pow_right (n := 2) (by decide) (by omega : 16 ≤ b))
    simp [hb, Nat.testBit_lt_two_pow hlt]

/-- Symbols taken from 64 bytes give the bytes back. -/
theorem symbolBytes_dataSymbols {l : List Byte} (hl : l.length = 64) : symbolBytes (dataSymbols l) = l := by
  refine List.ext_getElem (by rw [symbolBytes_length, hl]) fun k h1 h2 => BitVec.eq_of_getLsbD_eq fun b hb => ?_
  have hi : 8 * (k % 4) + b < (dataSymbols l).length := by rw [dataSymbols_length]; omega
  have hplace : 4 * (k / 4) + (8 * (k % 4) + b) / 8 = k ∧ (8 * (k % 4) + b) % 8 = b ∧ k / 4 < 16 := by omega
  rw [symbolBytes_getElem, BitVec.getLsbD_ofNat, testBit_bitSum, List.getD_eq_getElem _ _ hi]
  simp only [dataSymbols, List.getElem_map, List.getElem_range, dataSymbol_eq, testBit_bitSum, hplace.1, hplace.2.1]
  rw [byteAt, List.getD_eq_getElem _ _ h2]
  simp [hb, hplace.2.2]

/-! ### The decoder (R265, R266) -/

/-- Settles O54: all four syndromes of a code word are zero. -/
theorem codeWordsDecodeClean : Obligations.CodeWordsDecodeClean := by
  refine ⟨fun b _ hp => ?_, by decide +kernel⟩
  have hs (k : Nat) (hk : k < 4) : syndrome (wordSymbols (dataSymbols b) (rsEncode (dataSymbols b))) k = 0 :=
    syndrome_codeWord hk (dataSymbols_symbolsOk b)
  simp [rsDecode, Nat.not_le.2 hp, hs]

/-- Settles O55: the syndromes name the wrong symbol's place and value. -/
theorem oneSymbolErrorsAreCorrected : Obligations.OneSymbolErrorsAreCorrected := by
  intro b j e w hb hj h0 he hw hp
  have hd := dataSymbols_symbolsOk b
  have hlen : (codeWord (dataSymbols b)).length = 36 := by rw [codeWord_length, dataSymbols_length]
  have hj' : j < (codeWord (dataSymbols b)).length := by rwa [hlen]
  change w = flipSym (codeWord (dataSymbols b)) j e at hw
  have hwlen : w.length = 36 := by rw [hw, flipSym_length, hlen]
  have hwok : symbolsOk w := by rw [hw]; exact flipSym_symbolsOk (codeWord_symbolsOk hd) hj' he
  have hs (k : Nat) (hk : k < 4) : syndrome w k = gfX^[k * j] e := by
    rw [hw]; exact syndrome_flipSym_codeWord hk hd (by rw [dataSymbols_length]; omega) he
  have hdata : dataSymbols (symbolBytes (w.drop 4)) = w.drop 4 :=
    dataSymbols_symbolBytes (by simp [hwlen]) fun x hx => hwok x (List.mem_of_mem_drop hx)
  have hcorrect : rsCorrect w = some (codeWord (dataSymbols b)) := by
    rw [rsCorrect_one hj (by omega) he hs, hw, flipSym_flipSym e hj']
  have hback : (codeWord (dataSymbols b)).drop 4 = dataSymbols b := by rw [codeWord_eq]; rfl
  have hs0 : syndrome w 0 ≠ 0 := by rw [hs 0 (by decide)]; simpa using Nat.ne_of_gt h0
  simp only [rsDecode, hdata, Nat.not_le.2 hp, if_false, wordSymbols, List.take_append_drop, hs0, false_and, hcorrect, hback,
    symbolBytes_dataSymbols hb]

end Sys2Proof.Machine
end

section
/-! States at rest: what reset leaves, and commands in a state in which nothing waits for a command's end: such a command leaves its effect alone. -/

namespace Sys2Proof.Machine

open Sys2Proof

/-! ### Reset -/

theorem State.reset_inv : State.reset.inv = true := by decide +kernel
theorem State.cold_inv : State.cold.inv = true := by decide +kernel
theorem State.reset_quiet : State.reset.quiet = true := by decide +kernel

/-- Settles O5: reset is one state, and each part is read off it. -/
theorem resetLeavesTheStateInOrder : Obligations.ResetLeavesTheStateInOrder := by
  have hlfsr : ∀ n, n < 12 → State.reset.f (Reg.SC_ARB_LFSR.LFSR n) = 0xACE1 := by decide +kernel
  have hheld : State.reset.flag Reg.GLB_STAT.COH_HELD = false := by decide +kernel
  have hring : State.reset.ringUsed = 0 := by decide +kernel
  exact ⟨State.reset_inv, State.cold_inv, State.reset_quiet, rfl, rfl, fun _ => rfl, rfl, hring, hlfsr, hheld, rfl, rfl⟩

/-! ### The end of a command in a quiet state -/

/-- Nothing follows in a quiet state. -/
theorem State.follow_quiet {u : State} (h : u.quiet = true) : u.follow = u := by
  simp only [State.quiet, Bool.and_eq_true, Bool.not_eq_true', List.isEmpty_iff, beq_iff_eq, bne_iff_ne] at h
  obtain ⟨⟨⟨⟨⟨⟨⟨⟨⟨⟨⟨⟨⟨⟨⟨⟨⟨⟨⟨⟨⟨⟨hwalk, hatoms⟩, hheld⟩, hlate⟩, hfences⟩, -⟩, hwakes⟩, hpend⟩, hops⟩, hrtb⟩, henum⟩, hacts⟩, -⟩, -⟩, hpair⟩, hsw⟩, hhold⟩, -⟩, -⟩, -⟩,
    -⟩, -⟩, -⟩ := h
  unfold State.follow
  have hw : (u.walkerOn || (u.ktu.walks.isEmpty && u.ktu.missq.isEmpty)) = true := by simpa using hwalk
  simp only [walkerGone_idle u hw, atomsWake_idle u hatoms, heldGone_idle u hheld, lateGo_idle u hlate, poisonGo_idle u hfences,
    tellAll_idle 256 u hwakes, pendAll_idle 256 u hpend, wardSweep_idle u hops, fenceEnd_idle u hrtb, enumNext_idle u henum,
    fatalActs_idle 16 u hacts, switchClose_idle u hsw, excludeTest_idle u hpair, holdGo_idle u hhold]

/-- The end of a command does nothing in a quiet state. -/
theorem State.settle_quiet {u : State} (h : u.quiet = true) : u.settle = u := by
  have hfollow := State.follow_quiet h
  simp only [State.quiet, Bool.and_eq_true, Bool.not_eq_true', List.isEmpty_iff, beq_iff_eq, decide_eq_true_eq] at h
  obtain ⟨⟨⟨⟨⟨⟨⟨⟨⟨⟨⟨⟨⟨⟨⟨⟨⟨⟨⟨⟨⟨⟨-, -⟩, -⟩, -⟩, -⟩, hcxl⟩, hwakes⟩, hpend⟩, -⟩, -⟩, -⟩, hacts⟩, hlog⟩, hblk⟩, -⟩, -⟩, -⟩, huns⟩, hrep⟩, htch⟩, hbp⟩,
    hbytes⟩, hspill⟩ := h
  have hcalm : u.calm = true := by simp [State.calm, hwakes, hacts, hpend]
  have hback : u.backPressure = u := by simp [State.backPressure, hbp, hspill, Nat.not_lt.2 hbytes]
  have hall : State.followAll 4 u = u := by simp [State.followAll, hfollow, hcalm]
  unfold State.settle
  simp only [hall, cxlDrain_idle u hcxl, blockedOut_idle u hblk, hback, sendJournal_idle 64 u huns, askRepairs_idle u hrep, logFatals_idle u hlog]
  rw [← htch]

/-- A state in order is in its canonical form. -/
theorem State.tidy_of_order {u : State} (hm : u.memWf = true) (ht : u.time < 18446744073709551616) : u.tidy = u := by
  simp only [State.memWf, Bool.and_eq_true] at hm
  simp only [State.tidy, SMap.tidy_of_wf hm.1, SMap.tidy_of_wf hm.2, Nat.mod_eq_of_lt ht]

/-- Settles O7: neither the end's rounds nor its canonical form change such a state. -/
theorem quietEffectsStand : Obligations.QuietEffectsStand := by
  intro s u hq hm ht
  rw [State.ended, State.settle_quiet hq, ite_self, State.tidy_of_order hm ht]

/-! ### Which register words being quiet depends on -/

/-- The words that the end of a command looks at: those of the pages HPS and CXP, and KTU_CTRL. -/
def endWord (o : Nat) : Bool := decide (0x15000 ≤ o) && decide (o < 0x17000) || o == 0x30040

theorem endWord_iff (o : Nat) : endWord o = true ↔ 0x15000 ≤ o ∧ o < 0x17000 ∨ o = 0x30040 := by simp [endWord]

theorem State.f_of_words {s t : State} (x : Fld) (hlo : t.word x.off = s.word x.off)
    (hhi : x.lo + x.width ≤ 32 ∨ t.word (x.off + 4) = s.word (x.off + 4)) : t.f x = s.f x := by
  unfold State.f State.word64
  by_cases h : x.lo + x.width ≤ 32
  · simp only [if_pos h, hlo]
  · simp only [if_neg h, hlo, hhi.resolve_left h]

theorem State.quiet_of_words {s t : State} (h : t = { s with regs := t.regs }) (hw : ∀ o, endWord o = true → t.word o = s.word o) :
    t.quiet = s.quiet := by
  have hf (x : Fld) (hlo : endWord x.off = true) (hhi : x.lo + x.width ≤ 32 ∨ endWord (x.off + 4) = true) : t.f x = s.f x :=
    State.f_of_words x (hw _ hlo) (hhi.imp_right (hw _))
  have hld : t.f Reg.KTU_CTRL.WALK_LD = s.f Reg.KTU_CTRL.WALK_LD := hf _ (by decide) (by decide)
  have hlt : s.f Reg.KTU_CTRL.WALK_LD < 16 := Nat.mod_lt _ (by decide)
  have hbme : t.f (Reg.CXP_LD_STAT.BME (s.f Reg.KTU_CTRL.WALK_LD)) = s.f (Reg.CXP_LD_STAT.BME (s.f Reg.KTU_CTRL.WALK_LD)) :=
    hf _ ((endWord_iff _).2 (by simp only [Reg.CXP_LD_STAT.BME, Reg.CXP_LD_STAT.OFF]; omega)) (.inl (Nat.le_of_ble_eq_true rfl))
  have hwalk : t.walkerOn = s.walkerOn := by
    simp only [State.walkerOn, State.flag, State.bme, hld, hbme, hf Reg.KTU_CTRL.WALK_EN (by decide) (by decide)]
  have hpart : t.part = s.part := by rw [h]
  have hpair : t.paired = s.paired := by
    simp only [State.paired, State.flag, hpart, hf Reg.HPS_CTRL.PAIR_EN (by decide) (by decide)]
  have hhps : t.hps = s.hps := by rw [h]
  have hspill : t.spillFull = s.spillFull := by
    simp only [State.spillFull, State.hpsState, State.flag, hhps, hf Reg.HPS_STAT.STATE (by decide) (by decide),
      hf Reg.HPS_STAT.IN_SYNC (by decide) (by decide), hf Reg.HPS_ACKED.EPOCH (by decide) (by decide)]
  have hbp : t.flag Reg.HPS_STAT.BP = s.flag Reg.HPS_STAT.BP := by
    simp only [State.flag, hf Reg.HPS_STAT.BP (by decide) (by decide)]
  have htop : t.f Reg.HPS_JRNL_CTRL.BP_MIB = s.f Reg.HPS_JRNL_CTRL.BP_MIB := hf _ (by decide) (by decide)
  unfold State.quiet
  rw [hwalk, hpair, hspill, hbp, htop]
  rw [h]
  rfl

/-! ### Effects that change register words only -/

theorem State.onlyWords_refl (s : State) (offs : List Nat) : s.onlyWords s offs := ⟨rfl, fun _ _ => rfl⟩

theorem State.onlyWords.trans {s t u : State} {offs : List Nat} (h : s.onlyWords t offs) (h' : t.onlyWords u offs) : s.onlyWords u offs := by
  obtain ⟨hst, hw⟩ := h
  obtain ⟨htu, hw'⟩ := h'
  exact ⟨by rw [htu, hst], fun o ho => (hw' o ho).trans (hw o ho)⟩

theorem State.word_setWord_of_ne (s : State) {o o' : Nat} (v : Nat) (h : o' ≠ o) : (s.setWord o v).word o' = s.word o' :=
  SMap.get_set_of_ne h

theorem State.onlyWords_setWord (s : State) {o : Nat} (v : Nat) {offs : List Nat} (h : o ∈ offs) : s.onlyWords (s.setWord o v) offs :=
  ⟨rfl, fun _ ho => s.word_setWord_of_ne v fun he => ho (he ▸ h)⟩

theorem State.onlyWords_setF (s : State) {x : Fld} (v : Nat) (hx : x.lo + x.width ≤ 32) {offs : List Nat} (h : x.off ∈ offs) :
    s.onlyWords (s.setF x v) offs := by
  rw [State.setF, if_pos hx]
  exact s.onlyWords_setWord _ h

theorem State.onlyWords_foldl (g : State → Nat → State) {offs : List Nat} (ks : List Nat) (s : State)
    (h : ∀ k ∈ ks, ∀ u : State, u.onlyWords (g u k) offs) : s.onlyWords (ks.foldl g s) offs := by
  induction ks generalizing s with
  | nil => exact s.onlyWords_refl offs
  | cons k ks ih =>
    exact (h k (by simp) s).trans (ih (g s k) fun k' hk' => h k' (List.mem_cons_of_mem _ hk'))

/-- In a quiet state in order a command whose effect changes words that its end does not look at changes no more. -/
theorem State.onlyWords_ended {s u : State} {offs : List Nat} (hq : s.quiet = true) (hi : s.inv = true) (hu : s.onlyWords u offs)
    (hoffs : ∀ o ∈ offs, endWord o = false) : s.onlyWords (s.ended u) offs := by
  obtain ⟨hreg, hw⟩ := hu
  obtain ⟨hm, ht, -⟩ := (State.inv_iff s).1 hi
  have hqu : u.quiet = true := by
    rw [State.quiet_of_words hreg fun o ho => hw o fun hmem => by simp [hoffs o hmem] at ho]
    exact hq
  have hended : s.ended u = u := by
    rw [quietEffectsStand s u hqu (by rw [hreg]; exact hm) (by rw [hreg]; exact ht), hreg]
  rw [hended]
  exact ⟨hreg, hw⟩

/-- Settles O8: each effect writes the words listed, and none of them is a word that a command's end looks at. -/
theorem registerCommandsChangeTheirWordsOnly : Obligations.RegisterCommandsChangeTheirWordsOnly := by
  intro s t hq hi
  have frame {u : State} {offs : List Nat} {c : Instr} (ht : exec c s = .next t) (he : exec c s = .next (s.ended u))
      (hu : s.onlyWords u offs) (hoffs : ∀ o ∈ offs, endWord o = false) : s.onlyWords t offs := by
    rw [he] at ht
    rw [← Host.Outcome.next.inj ht]
    exact State.onlyWords_ended hq hi hu hoffs
  refine ⟨fun a ho ht => ?lchRead, fun a ho ht => ?kwLoad, fun a n v hn ho hqs ht => ?ldKeyway, fun n hn ht => ?window, fun a ho ht => ?cohResume⟩
  case lchRead => exact frame ht (regOpen_cmd s a _ _ ho) (s.onlyWords_setF (x := Reg.LCH_ACC_VALUE.VALUE) _ (by decide) (by decide)) (by decide)
  case kwLoad =>
    refine frame ht (regOpen_cmd s a _ _ ho) (State.onlyWords_foldl _ _ s fun k hk u => u.onlyWords_setWord _ (List.mem_map_of_mem hk)) (by decide)
  case ldKeyway =>
    have he : exec (.ktuLdKeywayWrite a n v) s = .next (s.ended (s.ldKeyway a n v.toNat)) := by
      rw [exec_ktuLdKeywayWrite, execKtuLdKeywayWrite, if_pos hn, regOpen_cmd s a _ _ ho]
    refine frame ht he ?_ (by simp [endWord, Reg.KTU_LD_KEYWAY.OFF]; omega)
    unfold State.ldKeyway
    dsimp only
    rw [if_pos hqs]
    split
    · exact s.onlyWords_refl _
    · exact s.onlyWords_setWord _ (by simp)
  case window =>
    cases hc : s.clocked with
    | false =>
      rw [exec_of_not_has (c := .escalationWindowClose n) hc] at ht
      rw [← Host.Outcome.next.inj ht]
      exact s.onlyWords_refl _
    | true =>
      have hw : s.windowClose n = s.setF (Reg.FLT_SRC_CNT.COUNT n) 0 := if_pos hn
      refine frame ht (clocked_event s (fun u => u.windowClose n) hc) ?_ (by simp [endWord, Reg.FLT_SRC_CNT.OFF]; omega)
      rw [hw]
      exact s.onlyWords_setF _ (Nat.le_of_ble_eq_true rfl) (by simp [Reg.FLT_SRC_CNT.COUNT])
  case cohResume => exact frame ht (regOpen_cmd s a _ _ ho) (s.onlyWords_setF (x := Reg.GLB_STAT.COH_HELD) _ (by decide) (by decide)) (by decide)

end Sys2Proof.Machine
end

section
/-! Requests that come in at a port: one that nothing holds back runs its opcode's operation or is admitted to the dispatcher, one for another chip
goes on, one that is malformed is dropped. -/

namespace Sys2Proof.Machine

open Sys2Proof

/-! ### A packet at an open port -/

/-- A packet that its command's test accepts reaches the header check, in the state that holds its buffer units (R302, R333). -/
theorem State.onPacket_landed {s : State} {port : Nat} {p : Packet} {t : Packet → Bool} (ho : s.portOpen port = true) (ht : t p = true) :
    s.onPacket t port p = .next (s.ended (s.afterPacket p ((s.landed port p).arrive port p))) := by
  simp only [State.portOpen, Bool.and_eq_true] at ho
  obtain ⟨⟨hact, hport⟩, hup⟩ := ho
  rw [State.onPacket, active_live s _ hact]
  simp only [State.packetOf?, ht, State.packetIn, hport, hup, State.packetAt, Bool.and_self, if_true]
  rfl

/-- A packet whose header is malformed stops at the header check (R330). -/
theorem State.arrive_malformed {s : State} {p : Packet} (port : Nat) (ht : s.takes p = true) (hid : s.hasId = true)
    (hm : headerMalformed p = true) : s.arrive port p = s.malformed p := by
  simp [State.arrive, ht, hid, hm]

/-- Settles O14: the header check comes before anything that depends on the opcode. -/
theorem malformedPacketsAreDropped : Obligations.MalformedPacketsAreDropped := by
  rintro s port p ho ht hid hm _ rfl
  have drop {t : Packet → Bool} (h : t p = true) : s.onPacket t port p = .next (s.ended (s.afterPacket p ((s.landed port p).malformed p))) := by
    rw [State.onPacket_landed ho h, State.arrive_malformed port ht hid hm]
  exact ⟨fun h => drop (by simp [h]), fun h => drop (by simp [h]), fun h => drop (by simp [h]), fun h => drop (by simp [h])⟩

/-- A well-formed packet for another chip is routed (R333). -/
theorem State.arrive_foreign {s : State} {p : Packet} (port : Nat) (ht : s.takes p = true) (hid : s.hasId = true)
    (hm : headerMalformed p = false) (hc : p.mcast = false) (hd : p.dest ≠ 0xFFE) (hp : s.forPair p = false) :
    s.arrive port p = s.passOn port p := by
  simp [State.arrive, ht, hid, hm, hc, hd, hp]

/-- Settles O13: the route is to send, and the packet's words are in order. -/
theorem transitPacketsGoOn : Obligations.TransitPacketsGoOn := by
  intro s port out p q u ho hf ht hid hm hw hc hd hp hr
  have hpass : (s.landed port p).passOn port p = (u.bump Reg.RTB_TRANSIT_CNT.OFF).queueTransit out q
      (if (s.landed port p).linkUp port then some (port, p.vc) else none) := by
    simp [State.passOn, hr, hw]
  rw [exec_transitForward, execTransitForward, State.onPacket_landed ho hf, State.arrive_foreign port ht hid hm hc hd hp, hpass]

/-! ### Running a request -/

/-- The operation of a plain request, by its opcode. -/
def State.runOp (s : State) (r : Req) : State :=
  let o := r.pkt.opcode
  if o = 1 then s.runRead r
  else if o = 2 then s.runWrite r
  else if o = 3 then s.runWriteMasked r
  else if o = 0x18 then s.runAtomic r
  else if o < 0x24 then s.runWard r
  else if o < 0x35 then s.runLatch r
  else if o < 0x44 then s.runCoh r
  else if o < 0x46 then s.runReturn r
  else if o = 0x61 then s.runMgtRead r
  else if o = 0x62 then s.runMgtWrite r
  else if o = 0x64 then s.runChunk r
  else if o = 0x65 then s.runRouteUpdate r
  else if o = 0x66 then s.runFence r
  else s

/-- A request of no logical device runs its opcode's operation, where the part has the opcode (R4). -/
theorem State.runReq_eq_runOp {s : State} {r : Req} (hu : s.untouched = s) (hc : r.cxl = none)
    (hf : s.part.full = true ∨ fullOnly r.pkt.opcode = false) : s.runReq r = s.runOp r := by
  have hfull : (!s.part.full && fullOnly r.pkt.opcode) = false := by
    obtain h | h := hf <;> simp [h]
  simp only [State.runReq, hu, hc, hfull, Option.isSome_none, Bool.false_eq_true, if_false, State.runOp]

section

variable {s : State} {port : Nat} {p : Packet} {n : Nat} {w : State} {r : Req}

/-- What holds of a request about to run: no record is journalled yet, and it is the packet's. -/
theorem State.running_facts (hx : State.running ((s.local port p).reqTaken port (s.asHere port p) n) = (w, r)) :
    w.untouched = w ∧ r.cxl = none ∧ r.pkt.opcode = p.opcode := by
  have hw : w = (State.running ((s.local port p).reqTaken port (s.asHere port p) n)).1 := by rw [hx]
  have hr : r = (State.running ((s.local port p).reqTaken port (s.asHere port p) n)).2 := by rw [hx]
  exact ⟨by rw [hw]; rfl, by rw [hr]; exact taken_cxl _ _ _ _, by rw [hr, taken_opcode, asHere_opcode]⟩

/-- The packet of a request that nothing holds back answers with its operation's effect. -/
theorem State.onPacket_runs (ho : s.portOpen port = true) (hm : (s.landed port p).mine p = true)
    (hk : (s.local port p).takesReq (s.asHere port p) n = true) (hr : State.runsNow ((s.local port p).reqTaken port (s.asHere port p) n) = true)
    (hx : State.running ((s.local port p).reqTaken port (s.asHere port p) n) = (w, r)) {t : Packet → Bool} {u : State} (ht : t p = true)
    (hq : 0x60 < p.opcode ∧ p.opcode < 0x63 ∨ p.opcode = 0x64 ∨ p.opcode = 0x65 ∨ p.opcode = 0x66 ∨ p.opcode < 0x22 ∨
      (0x24 ≤ p.opcode ∧ p.opcode < 0x48) ∨ p.opcode = 0x23 ∧ (s.asHere port p).vc < 4)
    (hf : w.part.full = true ∨ fullOnly p.opcode = false) (hu : w.runOp r = u) :
    s.onPacket t port p = .next (s.ended (s.afterPacket p u)) := by
  obtain ⟨hunt, hcxl, hop⟩ := State.running_facts hx
  rw [request_runs s port p n t ho hm ht hk hr hq, hx, State.runReq_eq_runOp hunt hcxl (by rwa [hop]), hu]

end

/-- Settles O9: `State.runOp` goes by the opcode to the operation each clause names. -/
theorem requestsRun : Obligations.RequestsRun := by
  intro s port p n ho hm hk hr w r hx
  obtain ⟨-, -, hop⟩ := State.running_facts hx
  have run {t : Packet → Bool} {u : State} (ht : t p = true) := State.onPacket_runs ho hm hk hr hx (t := t) (u := u) ht
  have free {o : Nat} (h : p.opcode = o) (hno : fullOnly o = false) : w.part.full = true ∨ fullOnly p.opcode = false := .inr (h ▸ hno)
  refine ⟨?read, ?write, ?masked, ?atomic, fun hb => ?latch, fun hf => ?coherence, ?mgtRead, ?mgtWrite, ?chunk, ?routes, ?fence, ?unfence⟩
  case latch =>
    refine ⟨fun h => ?_, fun h => ?_, fun h => ?_, fun h => ?_, fun h => ?_⟩ <;>
      exact run (by simp [h]) (by omega) (free h rfl) (by simp [State.runOp, State.runLatch, hop, h, hb])
  case coherence =>
    refine ⟨fun h => ?_, fun h => ?_, fun h => ?_, fun h => ?_, fun h => ?_, fun h => ?_⟩ <;>
      exact run (by simp [h]) (by omega) (.inl hf) (by simp [State.runOp, hop, h])
  case fence => exact fun h hb => run (by simp [h, hb]) (by omega) (free h rfl) (by simp [State.runOp, hop, h])
  case unfence => exact fun h hb => run (by simp [h, hb]) (by omega) (free h rfl) (by simp [State.runOp, hop, h])
  all_goals exact fun h => run (by simp [h]) (by omega) (free h rfl) (by simp [State.runOp, hop, h])

/-! ### Ward requests -/

/-- A ward request of a bound subscriber's valid context is admitted where the dispatcher has room (R93, R126). -/
theorem State.runWard_admits {s : State} {r : Req} (hb : s.basic = false) (hbnd : r.bnd = true) (hctx : s.ctxOk r.pkt = true)
    (hroom : s.dispatched.length < 1024) (hops : s.ctxOps r.pkt.ctx < 64)
    (hkv : r.pkt.opcode = 0x20 → s.kwLocal r.pkt.sub (kvKw r.pkt) (kvBlock r.pkt (s.kvSpan r.pkt) (apFirst r.pkt / 16)) ≠ .inl .foreignStripe) :
    s.runWard r = s.wardPut r (s.rootTree r.pkt) := by
  have hslot : s.slotHint r.pkt.ctx = none := by
    rw [State.slotHint, if_neg (by omega), if_neg (by omega)]
  simp only [State.runWard, hb, hbnd, hctx, hslot, Bool.false_and, Bool.not_true, Bool.or_self, Bool.false_eq_true, if_false]
  exact if_neg fun h => hkv h.1 h.2

/-- Settles O10: every opcode below 0x24 that is not a plain request's goes to the dispatcher. -/
theorem wardRequestsAreAdmitted : Obligations.WardRequestsAreAdmitted := by
  intro s port p n ho hm hk hr w r hx hb hbnd hctx hroom hops
  obtain ⟨-, -, hop⟩ := State.running_facts hx
  have run {t : Packet → Bool} {u : State} (ht : t p = true) := State.onPacket_runs ho hm hk hr hx (t := t) (u := u) ht
  have free {o : Nat} (h : p.opcode = o) (hno : fullOnly o = false) : w.part.full = true ∨ fullOnly p.opcode = false := .inr (h ▸ hno)
  have put {o : Nat} (h : p.opcode = o) (hw : 0x10 ≤ o ∧ o < 0x24 ∧ o ≠ 0x18)
      (hkv : o = 0x20 → w.kwLocal r.pkt.sub (kvKw r.pkt) (kvBlock r.pkt (w.kvSpan r.pkt) (apFirst r.pkt / 16)) ≠ .inl .foreignStripe) :
      w.runOp r = w.wardPut r (w.rootTree r.pkt) := by
    simp only [State.runOp, hop, h]
    rw [if_neg (by omega), if_neg (by omega), if_neg (by omega), if_neg (by omega), if_pos (by omega),
      State.runWard_admits hb hbnd hctx hroom hops (by rwa [hop, h])]
  refine ⟨?fill, ?copy, ?copyRemote, ?compare, ?reduce, ?gather, ?colReduce, ?attend, ?append⟩
  case colReduce => exact fun h hv hq => run (by simp [h, hv]) (by omega) (free h rfl) (put h (by decide) (by simp))
  case attend => exact fun hf h => run (by simp [h]) (by omega) (.inl hf) (put h (by decide) (by simp))
  case append => exact fun hf h hkv => run (by simp [h]) (by omega) (.inl hf) (put h (by decide) fun _ => hkv)
  all_goals exact fun h => run (by simp [h]) (by omega) (free h rfl) (put h (by decide) (by simp))

end Sys2Proof.Machine
end

section
/-! Answers and packets between chips that are for this chip: each reaches the operation that its opcode and kind name. -/

namespace Sys2Proof.Machine

open Sys2Proof

/-! ### The packet as this chip acts on it -/

theorem asHere_op (s : State) (port : Nat) (p : Packet) : (s.asHere port p).op = p.op := phaseStep_op _ _

theorem asHere_opw (s : State) (port : Nat) (p : Packet) : (s.asHere port p).opw = p.opw := by rw [Packet.opw, asHere_op, Packet.opw]

theorem asHere_mgKind (s : State) (port : Nat) (p : Packet) : mgKind (s.asHere port p) = mgKind p := by rw [mgKind, asHere_opw, mgKind]

theorem asHere_hbKind (s : State) (port : Nat) (p : Packet) : hbKind (s.asHere port p) = hbKind p := by rw [hbKind, asHere_opw, hbKind]

/-! ### Delivery by opcode -/

/-- A request packet of class COL goes to the tree operations. -/
theorem State.deliver_col (s : State) (port : Nat) {p : Packet} (h : p.opcode = 0x22 ∨ p.opcode = 0x23 ∧ 4 ≤ p.vc) :
    s.deliver port p = ((s.bump Reg.RTB_LOCAL_CNT.OFF).countTaken port p).colIn port p := by
  rw [deliver_request s port p (by simp [isResponse]; omega) (by omega) (by omega)]
  simp only [State.deliverOn]
  rw [if_neg (by simp [isResponse]; omega), if_neg (by omega), if_pos h]

theorem State.deliver_heartbeat (s : State) (port : Nat) {p : Packet} (h : p.opcode = 0x67) :
    s.deliver port p = ((s.bump Reg.RTB_LOCAL_CNT.OFF).countTaken port p).heartbeatIn p := by
  rw [deliver_request s port p (by simp [isResponse, h]) (by omega) (by omega)]
  simp [State.deliverOn, isResponse, h]

theorem State.deliver_enum (s : State) (port : Nat) {p : Packet} (h : p.opcode = 0x60) :
    s.deliver port p = ((s.bump Reg.RTB_LOCAL_CNT.OFF).countTaken port p).enumIn port p := by
  rw [deliver_request s port p (by simp [isResponse, h]) (by omega) (by omega)]
  simp [State.deliverOn, isResponse, h]

theorem State.deliverOn_answer (s : State) (port : Nat) {p : Packet} (h : 0x80 ≤ p.opcode ∨ p.opcode = 0x4C) :
    s.deliverOn port p = ((s.bump Reg.RTB_LOCAL_CNT.OFF).countTaken port p).rspIn port p := by
  simp only [State.deliverOn]
  exact if_pos (by simpa [isResponse] using h)

/-- A unit takes a neighbour's packet, one without an ID at a chain port only (R354). -/
theorem State.arrive_neighbour {s : State} {p : Packet} {port : Nat} (hd : p.dest = 0xFFE) (ht : s.takes p = true)
    (hid : s.hasId = true ∨ port < 4) (hm : headerMalformed p = false) (hc : p.mcast = false) (hf : s.fenced p.src = false)
    (ho : p.opcode = 0x60) : s.arrive port p = s.deliver port p := by
  have hin : (!s.hasId && !decide (port < 4)) = false := by
    obtain h | h := hid <;> simp [h]
  simp [State.arrive, ht, hm, hc, hd, hf, ho, hin]

section

variable {s : State} {port : Nat} {p : Packet} {t : Packet → Bool} {u : State}

/-- The packet of an answer that is well formed answers with what the answer does. -/
theorem State.onPacket_answer (ho : s.portOpen port = true) (hm : (s.landed port p).mine p = true) (hs : s.wellSaid port p = true)
    (ha : 0x80 ≤ p.opcode ∨ p.opcode = 0x4C) (ht : t p = true) (hu : (s.local port p).rspIn port (s.asHere port p) = u) :
    s.onPacket t port p = .next (s.ended (s.afterPacket p u)) := by
  rw [packet_arrives s port p t ho hm ht, deliver_said s port p hs, State.deliverOn_answer _ _ (by rwa [asHere_opcode]), ← hu]
  rfl

/-- The packet of a tree operation answers with what it does. -/
theorem State.onPacket_col (ho : s.portOpen port = true) (hm : (s.landed port p).mine p = true)
    (hc : p.opcode = 0x22 ∨ p.opcode = 0x23 ∧ 4 ≤ (s.asHere port p).vc) (ht : t p = true)
    (hu : (s.local port p).colIn port (s.asHere port p) = u) : s.onPacket t port p = .next (s.ended (s.afterPacket p u)) := by
  rw [packet_arrives s port p t ho hm ht, State.deliver_col _ _ (by rwa [asHere_opcode]), ← hu]
  rfl

/-- A HEARTBEAT packet answers with what it does. -/
theorem State.onPacket_heartbeat (ho : s.portOpen port = true) (hm : (s.landed port p).mine p = true) (hop : p.opcode = 0x67)
    (ht : t p = true) (hu : (s.local port p).heartbeatIn (s.asHere port p) = u) :
    s.onPacket t port p = .next (s.ended (s.afterPacket p u)) := by
  rw [packet_arrives s port p t ho hm ht, State.deliver_heartbeat _ _ (by rwa [asHere_opcode]), ← hu]
  rfl

end

/-- Settles O11: the neighbour's ENUM requests first, then answers, then tree packets. -/
theorem answersAndTreePacketsAct : Obligations.AnswersAndTreePacketsAct := by
  intro s port p ho
  refine ⟨?neighbour, ?mine⟩
  case neighbour =>
    rintro hd ht hid hm hc hf hop hbad _ rfl
    have enum {t : Packet → Bool} (h : t p = true) : s.onPacket t port p = .next (s.ended (s.afterPacket p
        ((((s.landed port p).bump Reg.RTB_LOCAL_CNT.OFF).countTaken port p).enumIn port p))) := by
      rw [State.onPacket_landed ho h, State.arrive_neighbour hd ht hid hm hc hf hop, State.deliver_enum _ _ hop]
    refine ⟨fun h => ?_, fun h => ?_⟩
    · rw [exec_enumAssign, execEnumAssign, enum (by simp [hop, h]), State.enumIn, hbad, if_neg (by simp), if_pos h]
    · rw [exec_timeReq, execTimeReq, enum (by simp [hop, h]), State.enumIn, hbad, if_neg (by simp), if_neg (by omega)]
  case mine =>
    rintro hm _ _ rfl rfl
    have hop := asHere_opcode s port p
    have hkind := asHere_mgKind s port p
    have col {t : Packet → Bool} {u : State} := State.onPacket_col ho hm (t := t) (u := u)
    refine ⟨fun hs => ?answers, ?down, ?up, ?descriptor, ?upward⟩
    case answers =>
      have answer {t : Packet → Bool} {u : State} := State.onPacket_answer ho hm hs (t := t) (u := u)
      have hopw := asHere_opw s port p
      refine ⟨fun hf h => ?_, fun hf hl hh => ?_, fun h => ?_, fun h => ?_, fun h => ?_, fun h hbad hb => ?_, fun h hbad hb => ?_⟩
      · exact answer (.inr h) (by simp [h]) (by simp [State.rspIn, hop, h, hf])
      · refine answer (.inl (by omega)) (by simp [hl, hh]) ?_
        simp only [State.rspIn, hop]
        rw [if_neg (by omega), if_neg (by omega), if_pos ⟨hl, hh⟩, if_pos hf]
      · exact answer (.inl (by omega)) (by simp [h]) (by simp [State.rspIn, hop, h])
      · exact answer (.inl (by omega)) (by simp [h]) (by simp [State.rspIn, hop, h])
      · exact answer (.inl (by omega)) (by simp [h]) (by simp [State.rspIn, hop, h])
      · exact answer (.inl (by omega)) (by simp [h, hb]) (by simp [State.rspIn, State.enumRsp, hop, hopw, h, hb, hbad])
      · exact answer (.inl (by omega)) (by simp [h, hb]) (by simp [State.rspIn, State.enumRsp, hop, hopw, h, hb, hbad])
    case down => exact fun hf h hk => col (.inl h) (by simp [h, hk]) (by simp [State.colIn, hop, h, hf, hkind, hk])
    case up => exact fun hf h hk => col (.inl h) (by simp [h, hk]) (by simp [State.colIn, hop, h, hf, hkind, hk])
    case descriptor =>
      exact fun h hq hv hc hcu htree => col (.inr ⟨h, hq⟩) (by simp [h, hv, hc]) (by simp [State.colIn, hop, h, hcu, htree])
    case upward =>
      exact fun h hq hv hc hcu => col (.inr ⟨h, hq⟩) (by simp [h, hv, Option.isSome_iff_ne_none, hc]) (by simp [State.colIn, hop, h, hcu])

/-- Settles O12: the kind of the HEARTBEAT names what it does, for a packet of the member or witness that the kind asks for. -/
theorem heartbeatPacketsAct : Obligations.HeartbeatPacketsAct := by
  rintro s port p ho hm hop _ _ rfl rfl hbad
  have hkind := asHere_hbKind s port p
  have beat {t : Packet → Bool} {u : State} := State.onPacket_heartbeat ho hm hop (t := t) (u := u)
  refine ⟨fun w hw => ⟨fun h => ?_, fun h => ?_⟩, fun hw => ⟨fun h => ?_, fun h => ?_⟩,
    fun hp => ⟨fun h => ?_, fun h => ?_, fun h => ?_, fun h => ?_, fun h => ?_⟩⟩
  · exact beat (by simp [hop, h]) (by simp [State.heartbeatIn, hbad, hkind, h, hw])
  · exact beat (by simp [hop, h]) (by simp [State.heartbeatIn, hbad, hkind, h, hw])
  · exact beat (by simp [hop, h]) (by simp [State.heartbeatIn, hbad, hkind, h, hw])
  · exact beat (by simp [hop, h]) (by simp [State.heartbeatIn, hbad, hkind, h, hw])
  all_goals exact beat (by simp [hop, h]) (by simp [State.heartbeatIn, hbad, hkind, h, hp])

end Sys2Proof.Machine
end

section
/-! Commands of the pool, of its partitions and of translation (R21 to R49, R60 to R77): what each accepted write and each event leaves. -/

namespace Sys2Proof.Machine

open Sys2Proof

/-! ### Commands that reach what they act on -/

section

variable {s u : State} {go : State → State}

/-- A register command answers its effect. -/
theorem State.reg_answers {a : Path} {o : Nat} (h : s.regOpen a o = true) (hu : go s = u) : s.onReg a o go = .next (s.ended u) := by
  rw [regOpen_cmd s a o go h, hu]

/-- An event of the data plane answers its effect. -/
theorem State.live_answers (h : s.active = true) (hu : go s = u) : s.live go = .next (s.ended u) := by rw [active_live s go h, hu]

/-- An event that needs the clocks answers its effect. -/
theorem State.event_answers (h : s.clocked = true) (hu : go s = u) : s.event go = .next (s.ended u) := by rw [clocked_event s go h, hu]

theorem State.regOpen_clocked {a : Path} {o : Nat} (h : s.regOpen a o = true) : s.clocked = true := by
  simp only [State.regOpen, Bool.and_eq_true] at h
  exact h.1.1.1

/-- A register command that is open does its effect wherever it is tested. -/
theorem State.regCmd_open {a : Path} {o : Nat} (h : s.regOpen a o = true) : s.regCmd a o go = go s := by
  simp only [State.regOpen, Bool.and_eq_true, Bool.not_eq_true'] at h
  obtain ⟨⟨⟨-, hserved⟩, hpriv⟩, hreset⟩ := h
  simp only [State.regCmd, hserved, hpriv, hreset, Bool.true_eq_false, Bool.false_eq_true, if_false]

end

/-- A fold that changes nothing at any of its steps changes nothing. -/
theorem foldl_of_stays {α β : Type} (g : α → β → α) (l : List β) (x : α) (h : ∀ b ∈ l, g x b = x) : l.foldl g x = x := by
  induction l with
  | nil => rfl
  | cons b l ih =>
    rw [List.foldl_cons, h b (by simp)]
    exact ih fun c hc => h c (List.mem_cons_of_mem _ hc)

/-! ### Partitions (R21 to R32) -/

theorem State.ptnWrite_accepted {s : State} {a : Path} {n reg v : Nat} (h : s.ptnAccepts n reg v = true) :
    s.ptnWrite a n reg v = s.ptnApply n reg v := if_pos h

/-- The quiesce of no subscriber starts where no new bit is set. -/
theorem State.qscWrite_old {s : State} {v : Nat} (h : ∀ b, b < 64 → bit v b = true → bit (s.f Reg.PTN_SUB_QSC.QSC) b = true) :
    s.qscWrite v = (s.setF Reg.PTN_SUB_QSC.QSC v).setF Reg.PTN_SUB_QSD.QSD (s.f Reg.PTN_SUB_QSD.QSD &&& v) := by
  refine foldl_of_stays _ _ _ fun b hb => if_neg ?_
  have hold := h b (List.mem_range.1 hb)
  cases hv : bit v b
  · simp
  · simp [hold hv]

/-- Settles O15: each write is accepted by its test, and leaves what the write of its register leaves. -/
theorem partitionWritesAct : Obligations.PartitionWritesAct := by
  intro s a n
  have entry {reg : Nat} {v : Word} {o : Nat} {u : State} (hn : n < 64) (hreg : reg < 4) (hoff : o = Reg.PTN_BASE.OFF n + 4 * reg)
      (ho : s.regOpen a o = true) (hok : s.ptnAccepts n reg v.toNat = true) (hu : s.ptnApply n reg v.toNat = u) :
      exec (.ptnEntryWrite a n reg v) s = .next (s.ended u) := by
    subst hoff
    rw [exec_ptnEntryWrite, execPtnEntryWrite, if_pos ⟨hn, hreg⟩]
    exact State.reg_answers ho (by rw [State.ptnWrite_accepted hok, hu])
  refine ⟨fun v hn ho hok hz => ?base, fun v hn ho hok hz => ?sizeFree, fun v hn ho hok hz hne => ?size, fun v hn ho hok => ?owner,
    fun v hn ho hok => ?flags, fun v hn ho hold hok => ?grant, fun v ho h => ?quiesce, fun v ho hi hz hq => ?init⟩
  case base => exact entry hn (by decide) rfl ho hok (by simp [State.ptnApply, hz])
  case sizeFree => exact entry hn (by decide) rfl ho hok (by simp [State.ptnApply, hz])
  case size => exact entry hn (by decide) rfl ho hok (by simp [State.ptnApply, hz, hne])
  case owner => exact entry hn (by decide) rfl ho hok (by simp [State.ptnApply])
  case flags => exact entry hn (by decide) rfl ho hok (by simp [State.ptnApply])
  case grant =>
    rw [exec_ptnGntWrite, execPtnGntWrite, if_pos hn]
    exact State.reg_answers ho (by simp [State.gntWrite, hold, hok])
  case quiesce => exact State.reg_answers ho (State.qscWrite_old h)
  case init => exact State.reg_answers ho (by simp [State.initWrite, hi, hz, hq])

/-! ### Events of the pool (R27, R30, R45 to R49) -/

theorem State.runReq_untouched (s : State) (r : Req) : s.untouched.runReq r = s.runReq r := by
  unfold State.runReq
  rw [untouched2]

/-- A waiting request comes to its start (R46, R49). -/
theorem State.orderedStart_starts {s : State} {key num : Nat} {r : Req} (hw : s.waiting key num = some r)
    (hd : r.cxl.isSome = true ∨ s.dualSilent r.pkt = false) : s.orderedStart key num = s.startReq r.id := by
  have hs : (r.cxl.isNone && s.dualSilent r.pkt) = false := by
    obtain h | h := hd
    · simp [← Option.not_isSome, h]
    · simp [h]
  simp [State.orderedStart, hw, hs]

/-- Settles O16: each event's precondition picks one branch of what the event does. -/
theorem poolEventsAct : Obligations.PoolEventsAct := by
  intro s hact
  refine ⟨fun b hb hq hbusy => ?quiesce, fun j hi hstop => ?stop, fun j hi hstop hw hm => ?held, fun j u hi hstop hw hm hu => ?filled,
    fun key num r hw hd hr => ?start, fun key num r e m l u hw he hg hm hu => ?gap, fun key e he => ?window⟩
  case quiesce => exact State.live_answers hact (by simp [hb, State.quiesceDone, hq, hbusy])
  case stop => exact State.live_answers hact (by simp [State.initStopped, hi, hstop])
  case held => exact State.live_answers hact (by simp [State.initDone, hi, hstop, hw, hm])
  case filled => exact State.live_answers hact (by simp [State.initDone, hi, hstop, hw, hm, hu])
  case start =>
    have start {u : State} (hu : s.startReq r.id = u) : exec (.orderedStart key num) s = .next (s.ended u) :=
      State.live_answers (go := (·.orderedStart key num)) hact ((State.orderedStart_starts hw hd).trans hu)
    refine ⟨fun hm hb hk => start ?_, fun hm hb hk => start ?_, fun hm hb => start ?_, fun hm hk => start ?_⟩
    · simp [State.startReq, hr, hm, hb, hk, State.running, State.runReq_untouched]
    · simp [State.startReq, hr, hm, hb, hk]
    · simp [State.startReq, hr, hm, hb]
    · simp [State.startReq, hr, hm, hk]
  case gap =>
    subst hu
    exact ⟨fun ho => State.live_answers (go := (·.gapTimeout key num)) hact (by simp only [State.gapTimeout, hw, he, hg, hm, ho, if_true]),
      fun ho => State.live_answers (go := (·.gapTimeout key num)) hact (by simp only [State.gapTimeout, hw, he, hg, hm, ho, Bool.false_eq_true, if_false])⟩
  case window => exact State.live_answers (go := (·.windowEnd key)) hact (by simp only [State.windowEnd, he])

/-! ### Keyways and translation (R60 to R77) -/

/-- Settles O17: a command of the keyway page reaches its register, and its test picks the branch. -/
theorem keywayWritesAct : Obligations.KeywayWritesAct := by
  intro s a
  refine ⟨fun ho => ?load, fun ho hok => ?stored, fun ho hok => ?refused, fun n v hn ho hq hne => ?ldKeyway, fun v ho hs hroom hpath => ?inv⟩
  case load => exact State.reg_answers ho rfl
  case stored => exact State.reg_answers ho (by simp only [State.kwStore, hok, if_true])
  case refused => exact State.reg_answers ho (by simp only [State.kwStore, hok, Bool.false_eq_true, if_false])
  case ldKeyway =>
    rw [exec_ktuLdKeywayWrite, execKtuLdKeywayWrite, if_pos hn]
    exact State.reg_answers ho (by simp only [State.ldKeyway, hq, if_neg hne, if_true])
  case inv =>
    refine State.reg_answers ho ?_
    simp only [State.invCmd, if_neg hs, if_neg (Nat.not_le.2 hroom)]

/-- Settles O18: each event finds the walk, miss, invalidation or chunk that it names. -/
theorem translationEventsAct : Obligations.TranslationEventsAct := by
  intro s hact
  refine ⟨fun i w data hw => ?fetched, fun i w data hw => ?failed, fun i w hw => ?timeout, fun i m n hm hn hany hlen => ?miss,
    fun x rest hi hwait hnot => ?invalidated, fun op k o r c ho hr hc hst => ?retry, fun op k o c ho hc hf => ?abort⟩
  case fetched => exact State.live_answers (go := (·.fetchDone i true data)) hact (by simp only [State.fetchDone, hw, if_true])
  case failed => exact State.live_answers (go := (·.fetchDone i false data)) hact (by simp only [State.fetchDone, hw, Bool.false_eq_true, if_false])
  case timeout => exact State.live_answers (go := (·.fetchDone i false [])) hact (by simp only [State.fetchDone, hw, Bool.false_eq_true, if_false])
  case miss => exact State.live_answers (go := (·.missResume i)) hact (by simp [State.missResume, hm, hany, Nat.not_le.2 hlen, hn])
  case invalidated => exact State.live_answers (go := (·.invFinish)) hact (by simp only [State.invFinish, hi, hwait, hnot, if_true])
  case retry => exact State.live_answers (go := (·.chunkRetry op k)) hact (by simp [State.chunkRetry, ho, hr, hc, hst])
  case abort => exact State.live_answers (go := (·.chunkAbort op k)) hact (by simp [State.chunkAbort, ho, hc, Option.isSome_iff_ne_none, hf])

end Sys2Proof.Machine
end

section
/-! Commands of the ward dispatcher and its timers (R90 to R136, R171): what each event leaves. -/

namespace Sys2Proof.Machine

open Sys2Proof

/-! ### Contexts (R127) -/

section

variable {s : State} {a : Path} {n v : Nat}

/-- A context write that keeps its context, or finds none, leaves the word alone changed. -/
theorem State.ctxWrite_kept {new : Nat} (hnew : new = bits v 5 0 + max 1 (bits v 15 8) * 2 ^ 8 + bits v 31 31 * 2 ^ 31)
    (h : bit (s.word (Reg.WRD_CTX.OFF n)) 31 = false ∨ bit new 31 = true ∧ bits (s.word (Reg.WRD_CTX.OFF n)) 5 0 = bits new 5 0) :
    s.ctxWrite a n v = s.setWord (Reg.WRD_CTX.OFF n) new := by
  subst hnew
  obtain h | ⟨hv, ho⟩ := h
  · simp only [State.ctxWrite, h, Bool.false_and, Bool.false_eq_true, if_false]
  · simp only [State.ctxWrite, hv, ho, bne_self_eq_false, Bool.and_false, Bool.not_true, Bool.false_eq_true, if_false]

/-- A context write that clears VALID aborts the context's operations. -/
theorem State.ctxWrite_cleared {new : Nat} (hnew : new = bits v 5 0 + max 1 (bits v 15 8) * 2 ^ 8 + bits v 31 31 * 2 ^ 31)
    (hold : bit (s.word (Reg.WRD_CTX.OFF n)) 31 = true) (hv : bit new 31 = false) :
    s.ctxWrite a n v = (s.setWord (Reg.WRD_CTX.OFF n) new).ctxAbort n := by
  subst hnew
  simp only [State.ctxWrite, hold, hv, Bool.and_false, Bool.false_and, Bool.not_false, Bool.and_self, Bool.false_eq_true, if_false, if_true]

/-- A context write that would change the owner of a valid context is rejected. -/
theorem State.ctxWrite_refused {new : Nat} (hnew : new = bits v 5 0 + max 1 (bits v 15 8) * 2 ^ 8 + bits v 31 31 * 2 ^ 31)
    (hold : bit (s.word (Reg.WRD_CTX.OFF n)) 31 = true) (hv : bit new 31 = true) (ho : bits (s.word (Reg.WRD_CTX.OFF n)) 5 0 ≠ bits new 5 0) :
    s.ctxWrite a n v = s.cfgReject a Pg.WRD 3 0x0308 (Reg.WRD_CTX.OFF n) none := by
  subst hnew
  simp only [State.ctxWrite, hold, hv, Bool.and_self, Bool.true_and, bne_iff_ne.2 ho, if_true]

end

/-! ### Quanta (R128) -/

/-- An engine whose context has used its weight while another waits is told so. -/
theorem State.quantumExpiry_counted {s u : State} {n : Nat} {e : Engine} (hu : u = s.snoopYield n) (he : e = u.engine n)
    (hheld : (e.held && u.heldCtxs.contains e.ctx) = false) (hany : u.readyCtxs.any (fun c => c != e.ctx) = true) :
    s.quantumExpiry n = u.setEngine n { e with
      quanta := e.quanta + 1, expired := decide (max 1 (u.f (Reg.WRD_CTX.WEIGHT e.ctx)) ≤ e.quanta + 1) || e.expired } := by
  subst hu he
  simp only [State.quantumExpiry, hheld, hany, Bool.not_false, Bool.true_and, if_true]
  split
  · next h => simp only [h, decide_true, Bool.true_or]
  · next h => simp only [h, decide_false, Bool.false_or]

/-- Settles O19: each event finds the operation, chunk, engine or context it names. -/
theorem wardEventsAct : Obligations.WardEventsAct := by
  intro s hact
  refine ⟨fun op k n o r ho hr hw he hd hmay hfree hdef hall htakes hc u o1 c hu ho1 hc1 htodo hst hrun => ?issue,
    fun op k o r c z ho hr hc hrun haway hheld hz u hu => ?complete, fun n u e hu he hheld hany => ?quantum, fun n hn => ?fault,
    fun op o r ho hr hw => ?wait, fun a n v old new hn ho hold hnew => ?context⟩
  case issue =>
    subst hu
    have hnew : k ∉ o.done := by simpa using hd
    refine State.live_answers (go := (·.chunkIssue op k n)) hact ?_
    simp [State.chunkIssue, ho, hr, hw, he, hnew, hmay, hfree, hdef, hall, htakes, hc, ho1, hc1, htodo, hst, hrun]
  case complete =>
    subst hu
    exact State.live_answers (go := (·.chunkComplete op k)) hact (by simp [State.chunkComplete, ho, hr, hc, hrun, haway, hheld, hz])
  case quantum => exact State.live_answers (go := (·.quantumExpiry n)) hact (State.quantumExpiry_counted hu he hheld hany)
  case fault => exact State.live_answers (go := (·.engineFault n)) hact (if_pos hn)
  case wait => exact State.live_answers (go := (·.wardWaitTimeout op)) hact (by simp only [State.wardWaitTimeout, ho, hr, hw, if_true])
  case context =>
    subst hold
    have write {u : State} (hu : s.ctxWrite a n v.toNat = u) : exec (.wrdCtxWrite a n v) s = .next (s.ended u) := by
      rw [exec_wrdCtxWrite, execWrdCtxWrite, if_pos hn]
      exact State.reg_answers ho hu
    exact ⟨fun h => write (State.ctxWrite_kept hnew h), fun h hv => write (State.ctxWrite_cleared hnew h hv),
      fun h hv hne => write (State.ctxWrite_refused hnew h hv hne)⟩

/-- Settles O20: a timer finds the remote WRITE or the child it names, of an operation that ends or goes on. -/
theorem treeAndRemoteTimersAct : Obligations.TreeAndRemoteTimersAct := by
  intro s hact op o r ho hr
  refine ⟨fun i w hw => ⟨fun he => ?resent, fun he => ?unsent⟩, fun i w hw => ⟨fun he => ?failed, fun he => ?ending⟩,
    fun n t ht hany => ⟨fun hop => ?child, fun hop => ?merge⟩⟩
  case resent => exact State.live_answers (go := (·.remoteResend op i)) hact (by simp [State.remoteResend, ho, hr, hw, he])
  case unsent => exact State.live_answers (go := (·.remoteResend op i)) hact (by simp [State.remoteResend, ho, hr, hw, Option.isSome_iff_ne_none, he])
  case failed => exact State.live_answers (go := (·.remoteTimeout op i)) hact (by simp [State.remoteTimeout, ho, hr, hw, he]; rfl)
  case ending => exact State.live_answers (go := (·.remoteTimeout op i)) hact (by simp [State.remoteTimeout, ho, hr, hw, Option.isSome_iff_ne_none, he])
  case child => exact State.live_answers (go := (·.colTimeout op n)) hact (by simp only [State.colTimeout, ho, hr, ht, hop, hany, and_self, if_true])
  case merge =>
    exact State.live_answers (go := (·.mergeTimeout op n)) hact (by simp only [State.mergeTimeout, ho, hr, ht, hop, hany, ne_eq, not_false_eq_true, and_self, if_true])

end Sys2Proof.Machine
end

section
/-! Commands of the coherent regions and of the CXL.mem port (R204 to R233, R365, R366, R513): what each leaves. -/

namespace Sys2Proof.Machine

open Sys2Proof

/-! ### The directory -/

/-- Settles O21: each register write passes its test. -/
theorem directoryWritesAct : Obligations.DirectoryWritesAct := by
  intro s a
  refine ⟨fun x v hx ho hn => ?agent, fun x hx ho hb hv => ?fence, fun x hx ho hb hv => ?unfence, fun ho hb => ?flush⟩
  case agent =>
    rw [exec_dirAgentWrite, execDirAgentWrite, if_pos hx]
    refine State.reg_answers ho ?_
    simp only [State.agentWrite, hn, Bool.and_false, Bool.false_eq_true, if_false]
  case fence =>
    refine State.reg_answers ho ?_
    simp [State.dirFenceGo, hb, hv, Nat.not_le.2 hx]
  case unfence =>
    refine State.reg_answers ho ?_
    obtain hb | hb := hb <;> simp [State.dirFenceGo, hb, hv, Nat.not_le.2 hx]
  case flush =>
    refine State.reg_answers ho ?_
    have h1 : bit 1 0 = true := rfl
    simp [State.dirFlushCmd, hb, h1]

/-- Settles O22: each event finds the snoop, fence or flush it ends. -/
theorem directoryEventsAct : Obligations.DirectoryEventsAct := by
  intro s hact
  refine ⟨fun line x t z hs hl => ?snoop, fun line u hu => ?hold, fun x j u v w hj htx hw hu hv hww => ?fence, fun hb ho => ?flush⟩
  case snoop => exact State.live_answers (go := (·.snoopLate line x)) hact (by simp only [State.snoopLate, hs, hl, Bool.false_eq_true, if_false])
  case hold => subst hu; exact State.live_answers (go := (·.holdEnd line)) hact rfl
  case fence =>
    subst hww hv hu
    refine State.live_answers (go := (·.fenceWalkEnd x)) hact ?_
    have hover : ¬ ((j.txns.any fun n => (s.txnOf n).isSome) || !j.wait.isEmpty) = true := by simp [htx, hw]
    rw [State.fenceWalkEnd, hj]
    exact if_neg hover
  case flush => exact State.live_answers (go := (·.flushEnd)) hact (by simp only [State.flushEnd, hb, ho, Bool.not_false, Bool.and_self, if_true])

/-! ### CXL.mem -/

section

variable {s t : State} {k : Nat} {r : CxlMem} {c : Instr} {id ld : Nat}

/-- The four requests of CXL.mem are one, told apart by a number. -/
theorem State.cxlMem_answers (hact : s.active = true)
    (hc : (k, c) ∈ [(0, Instr.cxlMemRd r), (1, Instr.cxlMemRdData r), (2, Instr.cxlMemInv r), (3, Instr.cxlMemWr r)]) {u : State}
    (hu : s.cxlGo k r = u) : exec c s = .next (s.ended u) := by
  simp only [List.mem_cons, Prod.mk.injEq, List.not_mem_nil, or_false] at hc
  obtain ⟨rfl, rfl⟩ | ⟨rfl, rfl⟩ | ⟨rfl, rfl⟩ | ⟨rfl, rfl⟩ := hc <;> exact State.live_answers (go := (·.cxlGo _ r)) hact hu

theorem State.cxlGo_starts (h : s.cxlArrive k r = (t, some id)) : s.cxlGo k r = t.startReq id := by simp only [State.cxlGo, h]

theorem State.cxlGo_rests (h : s.cxlArrive k r = (t, none)) : s.cxlGo k r = t := by simp only [State.cxlGo, h]

theorem State.cxlLetGo_starts (h : s.cxlRelease ld = (t, some id)) : s.cxlLetGo ld = t.startReq id := by simp only [State.cxlLetGo, h]

theorem State.cxlLetGo_rests (h : s.cxlRelease ld = (t, none)) : s.cxlLetGo ld = t := by simp only [State.cxlLetGo, h]

/-- A request that passes, or that finds neither a deficit nor another held, is taken as it arrives (R365). -/
theorem State.cxlArrive_taken {u : State} (ht : s.cxlTakes r.ld = true) (hu : u = s.bump (if k = 3 then Reg.CXP_M2S_RWD_CNT.OFF else Reg.CXP_M2S_REQ_CNT.OFF))
    (hp : u.cxlPasses k r = true ∨ (u.flag Reg.TSH_CTRL.POLICE_EN && u.peakDeficit r.ld) = false ∧ u.heldOf r.ld = []) :
    s.cxlArrive k r = u.cxlTake k r := by
  subst hu
  obtain hp | ⟨hd, hh⟩ := hp
  · simp only [State.cxlArrive, ht, hp, Bool.true_eq_false, if_false, if_true]
  · simp only [State.cxlArrive, ht, hd, hh, List.isEmpty_nil, Bool.not_true, Bool.true_eq_false, Bool.false_eq_true, if_false, ite_self]

/-- The final state of a line that a back-invalidate response names. -/
def biFinal : BiRsp → Nat
  | .rspI => 0
  | .rspS => 1
  | .rspE => 3

/-- A response to a back-invalidate snoop answers the snoop it finds (R513). -/
theorem State.biRsp_known {line x : Nat} {y : Txn} {z : Snoop} {b : BiRsp} (hx : s.ldAgent ld = some x) (hz : s.openSnoop line x = some (y, z)) :
    s.biRsp ld line b = s.snoopAnswered ⟨y.num, x, biFinal b, false, none, true, 4⟩ := by
  unfold State.biRsp
  rw [hx]
  dsimp only
  rw [hz]
  rfl

/-- The oldest request held is taken once its device is out of deficit (R366). -/
theorem State.cxlRelease_taken {h : Nat × CxlMem × Nat} {l : List (Nat × CxlMem × Nat)} (hl : s.heldOf ld = h :: l) (hd : s.peakDeficit ld = false)
    (ha : s.admitting = true) : s.cxlRelease ld = { s with tsh := { s.tsh with hold := s.tsh.hold.erase h } }.cxlTake h.1 h.2.1 := by
  simp only [State.cxlRelease, hl, hd, ha, Bool.not_true, Bool.or_self, Bool.false_eq_true, if_false]

end

/-- Settles O23: a request arrives and is taken, policed or held; a response finds its snoop; the oldest held request goes. -/
theorem cxlRequestsAct : Obligations.CxlRequestsAct := by
  intro s hact
  refine ⟨fun r k c ht hc u w hu hw => ?request, fun ld line x t z hx hz => ?response, fun ld line hup hld => ?conflict,
    fun ld h l u hl hd ha hu => ?release⟩
  case request =>
    refine ⟨fun hp => ?_, fun hp hd => ?_, fun hp hd hh => ?_⟩
    · have htake := State.cxlArrive_taken ht hu hp
      exact ⟨fun t id h => State.cxlMem_answers hact hc (State.cxlGo_starts (htake.trans h)),
        fun t h => State.cxlMem_answers hact hc (State.cxlGo_rests (htake.trans h))⟩
    · subst hw hu
      refine State.cxlMem_answers hact hc (State.cxlGo_rests ?_)
      simp only [State.cxlArrive, ht, hp, hd, Bool.true_eq_false, Bool.false_eq_true, if_false, if_true]
    · subst hw hu
      refine State.cxlMem_answers hact hc (State.cxlGo_rests ?_)
      simp only [State.cxlArrive, ht, hp, hd, List.isEmpty_eq_false_iff.2 hh, Bool.not_false, Bool.true_eq_false, Bool.false_eq_true, if_false, if_true]
  case response =>
    have answers (b : BiRsp) {u : State} (hu : s.biRsp ld line b = u) : exec (.cxlBiRsp ld line b) s = .next (s.ended u) :=
      State.live_answers (go := (·.biRsp ld line b)) hact hu
    exact ⟨answers .rspI (State.biRsp_known hx hz), answers .rspS (State.biRsp_known hx hz), answers .rspE (State.biRsp_known hx hz)⟩
  case conflict => exact State.live_answers (go := (·.biConflict ld line)) hact (by simp [State.biConflict, hup, hld])
  case release =>
    have htake := State.cxlRelease_taken hl hd ha
    subst hu
    have answers {v : State} (hv : s.cxlLetGo ld = v) : exec (.cxlHoldRelease ld) s = .next (s.ended v) :=
      State.live_answers (go := (·.cxlLetGo ld)) hact hv
    exact ⟨fun t id h => answers (State.cxlLetGo_starts (htake.trans h)), fun t h => answers (State.cxlLetGo_rests (htake.trans h))⟩

end Sys2Proof.Machine
end

section
/-! Commands of a stack controller (R243 to R284): what each register write and each event leaves. -/

namespace Sys2Proof.Machine

open Sys2Proof

section

variable {s u : State} {n : Nat}

/-- An event of a stack that the part has answers its effect. -/
theorem State.stack_answers {go : State → State} (hact : s.active = true) (hn : n < s.part.stacks) (hu : go s = u) :
    (s.live fun v => v.stackDo n go) = .next (s.ended u) := State.live_answers hact (by rw [State.stackDo, if_pos hn, hu])

/-- A register command of a stack that the part has answers its effect. -/
theorem State.stackReg_answers {a : Path} {o : Nat} {go : State → State} (hn : n < s.part.stacks) (ho : s.regOpen a o = true) (hu : go s = u) :
    (s.event fun v => v.stackDo n fun w => w.regCmd a o go) = .next (s.ended u) := by rw [regOpen_ev s n a o go ho hn, hu]

end

/-- Settles O24: a register write of a stack reaches its register, and its test picks the branch. -/
theorem stackWritesAct : Obligations.StackWritesAct := by
  intro s a n hn
  refine ⟨fun v ho => ?quiesce, fun off v ht ho => ?timing, fun v ho hb hf => ?offline⟩
  case quiesce => exact State.stackReg_answers (go := (·.chQscWrite n v.toNat)) hn ho rfl
  case timing =>
    have write {u : State} (hu : s.timingWrite a n off v.toNat = u) : exec (.scTimingWrite a n off v) s = .next (s.ended u) := by
      rw [exec_scTimingWrite, execScTimingWrite]
      simp only [ht, if_true]
      exact State.stackReg_answers (go := (·.timingWrite a n off v.toNat)) hn ho hu
    exact ⟨fun h => write (if_pos h), fun h => write (if_neg (by simp [h]))⟩
  case offline => exact State.stackReg_answers (go := (·.scCtrl n v.toNat)) hn ho (by simp [State.scCtrl, hb, hf])

/-! ### The arbiter and the commands of a pseudo-channel (R247, R255, R257) -/

section

variable {s u : State} {n : Nat} {heads : List (Nat × Access)}

/-- The starvation rule grants the longest waiting head (R257). -/
theorem State.arbitrate_starved {i : Nat} {x : Access} (hu : u = s.panicTest n)
    (hh : heads = (List.range 17).filterMap fun j => (u.headAccess n j).map fun y => (j, y)) (hs : u.f (Reg.SC_ARB_CTRL.STARV_N n) ≤ u.starv n + 1)
    (hl : longest (u.headSince n) heads = some (i, x)) :
    s.arbitrate n = ((u.setStarv n 0).bump (Reg.SC_ARB_STARV_CNT.OFF n)).grantAccess n i x := by
  unfold State.arbitrate
  dsimp only
  rw [← hu, ← hh, if_pos hs, hl]

/-- The lottery grants the head it draws, or the longest waiting one where no candidate has a ticket (R255). -/
theorem State.arbitrate_drawn {cand : List (Nat × Access)} {i t : Nat} {x : Access} (hu : u = s.panicTest n)
    (hh : heads = (List.range 17).filterMap fun j => (u.headAccess n j).map fun y => (j, y)) (hs : u.starv n + 1 < u.f (Reg.SC_ARB_CTRL.STARV_N n))
    (hc : cand = if u.panicking n then heads.filter fun h => u.inPanic n h.1 else heads) (hne : cand ≠ [])
    (ht : t = (cand.map fun h => u.f (Reg.SC_ARB_TKT.TICKETS n h.1)).foldl (· + ·) 0)
    (hp : (if t = 0 then longest (u.headSince n) cand
      else lottery (fun j => u.f (Reg.SC_ARB_TKT.TICKETS n j)) cand 0 (u.f (Reg.SC_ARB_LFSR.LFSR n) * t / 65536)) = some (i, x)) :
    s.arbitrate n = ((u.setF (Reg.SC_ARB_LFSR.LFSR n) (lfsrNext (u.f (Reg.SC_ARB_LFSR.LFSR n)))).setStarv n (u.starv n + 1)).grantAccess n i x := by
  have hempty : ¬cand.isEmpty = true := by simp [hne]
  unfold State.arbitrate
  dsimp only
  rw [← hu, ← hh, if_neg (Nat.not_le.2 hs), ← hc, if_neg hempty, ← ht, hp]

/-- The one command that waits is picked whatever its age and its row (R247). -/
theorem State.oneOf_single (s : State) (n q : Nat) (x : SecCmd) : s.oneOf n q [x] = some x := by
  unfold State.oneOf
  simp only [List.find?_cons, List.find?_nil, List.head?_cons]
  split
  · rfl
  · split <;> rfl

/-- The one read that waits is the next read. -/
theorem State.nextRead_single (s : State) (n q : Nat) (x : SecCmd) : s.nextRead n q [x] = some x := by
  have hone (p : SecCmd → Bool) : s.oneOf n q ([x].filter p) = if p x then some x else none := by
    cases hp : p x
    · rw [List.filter_cons_of_neg (by simp [hp]), List.filter_nil]
      rfl
    · rw [List.filter_cons_of_pos hp, List.filter_nil, State.oneOf_single]
      rfl
  unfold State.nextRead
  rw [hone, hone, State.oneOf_single]
  cases x.merge <;> cases x.rt <;> cases s.panicking n <;> rfl

/-- The one command of a pseudo-channel is issued, where the planner's cap does not hold it (R247, R386). -/
theorem State.issueNext_single {q : Nat} {x : SecCmd} (hu : u = (s.panicTest n).drainTest n q) (hx : u.sc.cmds.filter (fun y => y.q == q) = [x])
    (hst : u.f (Reg.SC_STAT.STATE n) = 1) (hcap : u.f Reg.EPL_PLAN_CMD.CAP = 0 ∨ x.exempt = true) :
    s.issueNext n q = (u.issueCmd n q x).drainTest n q := by
  subst hu
  obtain h | h := hcap <;> cases hw : x.write <;>
    simp [State.issueNext, hx, hst, h, hw, State.oneOf_single, State.nextRead_single]

end

/-! ### Refreshes and reads that return (R260, R267) -/

section

variable {s u : State} {q b k : Nat}

theorem State.refreshDue_ahead (hst : s.f (Reg.SC_STAT.STATE (q / 64)) = 1) (hk : k = q * 32 + b) (h : 0 < s.ahead k) :
    s.refreshDue q b = s.setAhead k (s.ahead k - 1) := by
  subst hk
  simp only [State.refreshDue, hst, ne_eq, not_true_eq_false, if_false, h, if_true]

theorem State.refreshDue_postponed (hst : s.f (Reg.SC_STAT.STATE (q / 64)) = 1) (hk : k = q * 32 + b) (h : s.ahead k = 0)
    (hd : s.refreshDeferrable q b = true) (hp : s.postponed k < 8) :
    s.refreshDue q b = (s.setPostponed k (s.postponed k + 1)).bump (Reg.SC_REF_POSTPONE_CNT.OFF (q / 64)) := by
  subst hk
  simp [State.refreshDue, hst, h, hd, hp]

/-- A refresh that is neither stood for nor postponed is issued, with more ahead of time on an idle bank. -/
theorem State.refreshDue_issued (hst : s.f (Reg.SC_STAT.STATE (q / 64)) = 1) (hk : k = q * 32 + b) (h : s.ahead k = 0)
    (hd : s.refreshDeferrable q b = false ∨ 8 ≤ s.postponed k) (hu : u = (s.setPostponed k 0).refresh k (1 + s.postponed k)) :
    s.refreshDue q b = if u.bankIdle q b then ((u.fresh 9).2.setAhead k (u.fresh 9).1).refresh k (u.fresh 9).1 else u := by
  subst hk hu
  have hgo : (s.refreshDeferrable q b && decide (s.postponed (q * 32 + b) < 8)) = false := by
    obtain h | h := hd
    · rw [h, Bool.false_and]
    · rw [decide_eq_false (Nat.not_lt.2 h), Bool.and_false]
  simp [State.refreshDue, hst, h, hgo]

/-- A read that is not on the pins returns what the stored word and its errors decode to. -/
theorem State.readReturns_unknown {ppa : Nat} {fl : List (Nat × Nat)} (hk : k = ppa / 64 * 64) (hx : s.sc.reads.find? (fun x => x.ppa == k) = none) :
    s.readReturns ppa fl = (s.demandSector k 0 0xFFF fl).1 := by
  subst hk
  simp only [State.readReturns, hx]

/-- A read that returns leaves the pins, and a merge read leaves its write (R249). -/
theorem State.readReturns_known {ppa : Nat} {fl : List (Nat × Nat)} {x : SecCmd} (hk : k = ppa / 64 * 64) (hx : s.sc.reads.find? (fun x => x.ppa == k) = some x)
    (hu : u = { s with sc := { s.sc with
      reads := dropOne x s.sc.reads
      cmds := if x.merge then s.sc.cmds ++ [{ x with write := true, merge := false, since := s.time }] else s.sc.cmds } }) :
    s.readReturns ppa fl = if fl.isEmpty then u else (u.demandSector k 0 0xFFF fl).1 := by
  subst hk hu
  simp only [State.readReturns, hx]

end

/-- A temperature below the trip's threshold only shows (R284, R571). -/
theorem State.stackSample_cool {s : State} {n t : Nat} (hn : n < s.part.stacks) (hclk : s.clocked = true) (ht : t < 105) :
    s.stackSample n t = (s.stackTemp n t).setF Reg.GLB_THERM.STACK_TEMP (s.stackTemp n t).hottestStack := by
  simp [State.stackSample, hn, hclk, Nat.not_le.2 ht]

/-- The scrubber reads the next scrubbable sector that it finds before the stack's end (R270). -/
theorem State.scrub_reads {s : State} {n l g : Nat} (hen : s.flag (Reg.SC_SCRUB_CTRL.EN n) = true) (hst : s.f (Reg.SC_STAT.STATE n) = 1)
    (hall : s.scrubAllowed = true) (hfrom : s.scrubFrom n 40000 (s.f (Reg.SC_SCRUB_POS.GRANULE n)) = some (l, g)) :
    s.scrub n = s.scrubSector n l g := by
  unfold State.scrub
  rw [if_neg (by simp [hen, hst]), if_neg (by simp [hall]), hfrom]

/-- Settles O25: each event finds what it ends or moves on. -/
theorem stackEventsAct : Obligations.StackEventsAct := by
  intro s n hact hn
  refine ⟨fun c hc hq hcmd hrd => ?quiesced, fun u heads i x hu hh hs hl => ?starved, fun u heads cand i x t hu hh hs hc hne ht hp => ?drawn,
    fun ch pc x q u hch hpc hq hu hx hst hcap => ?command, fun ch pc b q k hch hpc hb hq hk hst => ?refresh, fun m ppa fl k hm hp hk => ?read,
    fun l g hen hst hall hfrom => ?scrub, ?leak, fun g hg => ?retired, fun hf => ?failed, fun t ht => ?temperature⟩
  case quiesced => exact State.stack_answers hact hn (by simp [hc, State.chQuiesced, hq, hcmd, hrd])
  case starved => exact State.stack_answers (go := (·.arbitrate n)) hact hn (State.arbitrate_starved hu hh hs hl)
  case drawn => exact State.stack_answers (go := (·.arbitrate n)) hact hn (State.arbitrate_drawn hu hh hs hc hne ht hp)
  case command =>
    subst hq
    exact State.stack_answers hact hn (by rw [if_pos ⟨hch, hpc⟩, State.issueNext_single hu hx hst hcap])
  case refresh =>
    have due {u : State} (hu : s.refreshDue q b = u) : exec (.refreshDue n ch pc b) s = .next (s.ended u) :=
      State.stack_answers hact hn (by rw [if_pos ⟨hch, hpc, hb⟩, ← hq, hu])
    refine ⟨fun h => due (State.refreshDue_ahead hst hk h), fun h hd hp => due (State.refreshDue_postponed hst hk h hd hp), fun h hd u hu => ?_⟩
    have hissue := State.refreshDue_issued hst hk h hd hu
    exact ⟨fun hidle => due (by rw [hissue, hidle]; rfl), fun hidle m w hf => due (by rw [hissue, hidle, hf]; rfl)⟩
  case read =>
    have returns {u : State} (hu : s.readReturns ppa fl = u) : exec (.sectorReadComplete m ppa fl) s = .next (s.ended u) := by
      rw [exec_sectorReadComplete, execSectorReadComplete]
      exact State.live_answers hact (by rw [if_pos ⟨hm, hp⟩, hu])
    refine ⟨fun hx => returns ?_, fun x u hx hu => ⟨fun hfl => returns ?_, fun hfl => returns ?_⟩⟩
    · exact State.readReturns_unknown hk hx
    · rw [State.readReturns_known hk hx hu, if_pos (by simp [hfl])]
    · rw [State.readReturns_known hk hx hu, if_neg (by simp [hfl])]
  case scrub => exact State.stack_answers (go := (·.scrub n)) hact hn (State.scrub_reads hen hst hall hfrom)
  case leak => exact State.stack_answers (go := (·.bucketLeak n)) hact hn rfl
  case retired => exact State.stack_answers hact hn (if_pos hg)
  case failed => exact State.live_answers (go := (·.stackFault n)) hact (by simp [State.stackFault, hn, hf])
  case temperature =>
    have hclk := active_clocked s hact
    exact State.event_answers (go := (·.stackSample n t)) hclk (State.stackSample_cool hn hclk ht)

/-- Settles O26: the retirement is found, neither stack failed and neither granule quiesced. -/
theorem retirementsComplete : Obligations.RetirementsComplete := by
  intro s n g r hact hn hr hfail hspare hq hqs q u v w hqd hu hv hw
  refine State.stack_answers (go := (·.retireDone n g)) hact hn ?_
  unfold State.retireDone
  rw [hr]
  dsimp only
  rw [if_neg (by simp [hfail, hspare]), if_neg (by simp [hq, hqs]), ← hqd, ← hu, ← hv, ← hw]

end Sys2Proof.Machine
end

section
/-! Commands of the traffic shaper and of the energy planner (R362 to R391, R567): what each leaves. -/

namespace Sys2Proof.Machine

open Sys2Proof

/-- Settles O27: each of the shaper's events is its effect, and a frozen histogram takes no sample. -/
theorem shaperCommandsAct : Obligations.ShaperCommandsAct := by
  intro s
  refine ⟨fun hact => ⟨?refill, fun p => ?slot, ?congestion, fun hf => ?frozen, fun hf => ?sampled⟩, fun a ho => ?clear⟩
  case refill => exact State.live_answers (go := (·.refillAll)) hact rfl
  case slot => exact State.live_answers (go := (·.calendarSlot p)) hact rfl
  case congestion => exact State.live_answers (go := (·.sampleCongestion)) hact rfl
  case frozen => exact State.live_answers (go := (·.sampleHist)) hact (if_pos hf)
  case sampled => exact ⟨_, State.live_answers (go := (·.sampleHist)) hact (if_neg (by simp [hf])), rfl⟩
  case clear => exact State.reg_answers ho rfl

/-! ### Meters and intervals (R378 to R391) -/

section

variable {s u v w : State}

/-- A meter of the part counts what it reports, and its first fault is recorded (R378, R380). -/
theorem State.meter_counts {m uj : Nat} {faulty : Bool} (hm : s.part.meterPresent m = true)
    (hu : u = (s.addCnt (Reg.EPL_MTR_UJ.OFF m) uj).addCnt Reg.EPL_TOTAL_UJ.OFF uj)
    (hw : w = { u with epl := { u.epl with metered := addTally u.epl.metered m uj } }) :
    s.meter m uj faulty = if faulty && !w.epl.faulty.contains m && !w.epl.faultyNew.contains m then
      { w with epl := { w.epl with faultyNew := w.epl.faultyNew ++ [m] } }.fault (mkRec 135 2 0x0B04) else w := by
  subst hw hu
  simp only [State.meter, hm, Bool.true_eq_false, if_false]

/-- An interval ends: its energy is set against the budget and charged, firmware plans if it runs, and the tallies start again (R382 to R394). -/
theorem State.planBoundary_ends {s1 : State} (hplan : s.planning = true → s.service = 0 → s1 = s.publishEp (s.pressure s.intervalUj))
    (hheld : s.planning = false ∨ s.service ≠ 0 → s1 = s) (hu : u = ((s1.overBudget s.intervalUj).derate).chargeUj s.countedUj)
    (hv : u.planning = true → v = u.makePlan.bump Reg.EPL_INTERVAL_CNT.OFF)
    (hstale : u.planning = false → v = { u with epl := { u.epl with stale := u.epl.stale + 1 } }.bump Reg.EPL_STALE_CNT.OFF)
    (hw : v.f Reg.EPL_PLAN_CMD.CAP = 0 → w = v) (hcap : v.f Reg.EPL_PLAN_CMD.CAP ≠ 0 → w = v.bump Reg.EPL_CAP_CNT.OFF) :
    s.planBoundary = w.newInterval.openSlots := by
  have h1 : s1 = if s.planning && s.service == 0 then s.publishEp (s.pressure s.intervalUj) else s := by
    split
    · next h =>
      rw [Bool.and_eq_true, beq_iff_eq] at h
      exact hplan h.1 h.2
    · next h =>
      rw [Bool.and_eq_true, beq_iff_eq, Decidable.not_and_iff_or_not, Bool.not_eq_true] at h
      exact hheld h
  have h3 : v = if u.planning then u.makePlan.bump Reg.EPL_INTERVAL_CNT.OFF
      else { u with epl := { u.epl with stale := u.epl.stale + 1 } }.bump Reg.EPL_STALE_CNT.OFF := by
    split
    · next h => exact hv h
    · next h => exact hstale (Bool.eq_false_iff.2 h)
  have h4 : w = if v.f Reg.EPL_PLAN_CMD.CAP = 0 then v else v.bump Reg.EPL_CAP_CNT.OFF := by
    split
    · next h => exact hw h
    · next h => exact hcap h
  unfold State.planBoundary
  dsimp only
  rw [← h1, ← hu, ← h3, ← h4]

/-- What the sideband asks is done while it answers (R567). -/
theorem State.sideband_answers {go : State → State} (hclk : s.clocked = true) (hup : s.sidebandUp = true) (hu : go s = u) :
    (s.event fun v => v.sidebandDo go) = .next (s.ended u) := State.event_answers hclk (by rw [State.sidebandDo, if_pos hup, hu])

end

/-- Settles O28: each of the planner's events meets its conditions, and the sideband tells what stands. -/
theorem energyCommandsAct : Obligations.EnergyCommandsAct := by
  intro s
  refine ⟨fun hact => ⟨fun m uj u w hm hu hw => ?meter, fun s1 u v w hp hh hu hv hs hw hc => ?boundary, fun hs => ?slot,
    fun u hst hf hu => ?stale⟩, fun hclk hup => ⟨fun mw => ?limit, fun hp => ?power, fun k hp => ?busy, fun r hr => ?fatal, fun hr => ?noFatal⟩⟩
  case meter =>
    have counts (b : Bool) {x : State} (hx : (if b && !w.epl.faulty.contains m && !w.epl.faultyNew.contains m then
        { w with epl := { w.epl with faultyNew := w.epl.faultyNew ++ [m] } }.fault (mkRec 135 2 0x0B04) else w) = x) :
        exec (.meterUpdate m uj b) s = .next (s.ended x) :=
      State.live_answers (go := (·.meter m uj b)) hact ((State.meter_counts hm hu hw).trans hx)
    exact ⟨counts false rfl, fun hf hn => counts true (if_pos (by rw [hf, hn]; rfl))⟩
  case boundary => exact State.live_answers (go := (·.planBoundary)) hact (State.planBoundary_ends hp hh hu hv hs hw hc)
  case slot => exact State.live_answers (go := (·.subSlot)) hact (if_neg (Nat.not_le.2 hs))
  case stale =>
    subst hu
    exact State.live_answers (go := (·.planStale)) hact (if_neg (by simp [hf, hst]))
  case limit => exact State.sideband_answers (go := (·.setPower mw)) hclk hup rfl
  case power => exact State.sideband_answers hclk hup (by simp only [State.tellPower, hp, Bool.false_eq_true, if_false])
  case busy => exact State.sideband_answers hclk hup (by simp only [State.tellPower, hp, if_true])
  case fatal => exact State.sideband_answers hclk hup (by simp only [State.tellFatal, hr])
  case noFatal => exact State.sideband_answers hclk hup (by simp only [State.tellFatal, hr])

end Sys2Proof.Machine
end

section
/-! Commands of the router's page and of enumeration (R336 to R356): what each leaves. -/

namespace Sys2Proof.Machine

open Sys2Proof

/-! ### Numbers -/

theorem bits_one_of_bit_false {v i : Nat} (h : bit v i = false) : bits v i i = 0 := by
  rw [bit, Nat.testBit_eq_decide_div_mod_eq, decide_eq_false_iff_not] at h
  rw [bits, Nat.shiftRight_eq_div_pow]
  simp only [Nat.add_sub_cancel_left, pow_one]
  omega

/-- A multicast entry written without its VALID bit. -/
theorem mcWord_not_valid (v : Nat) : bit (bits v 14 0 + bits v 21 16 * 2 ^ 16) 31 = false := by
  have h1 : bits v 14 0 < 2 ^ 15 := Nat.mod_lt _ (by decide)
  have h2 : bits v 21 16 < 2 ^ 6 := Nat.mod_lt _ (by decide)
  exact Nat.testBit_lt_two_pow (by omega)

/-! ### Tables (R336, R337, R344) -/

section

variable {s u : State} {v : Nat}

theorem State.commit_valid_a (h : s.tableFail (bits (s.word Reg.RTB_PORT_DIR.OFF) 4 0) 0 = none)
    (hu : u = ((s.setVer 0 true).setF Reg.RTB_TBL_STAT.FAIL_INDEX 0).setF Reg.RTB_TBL_STAT.FAIL_RULE 0) :
    (s.cmdCommit 0).1 = { u with rtb := { u.rtb with dirA := bits (s.word Reg.RTB_PORT_DIR.OFF) 4 0 } } := by
  rw [State.cmdCommit, commit_none s 0 h, hu]
  rfl

theorem State.commit_valid_b (h : s.tableFail (bits (s.word Reg.RTB_PORT_DIR.OFF) 4 0) 1 = none)
    (hu : u = ((s.setVer 1 true).setF Reg.RTB_TBL_STAT.FAIL_INDEX 0).setF Reg.RTB_TBL_STAT.FAIL_RULE 0) :
    (s.cmdCommit 1).1 = { u with rtb := { u.rtb with dirB := bits (s.word Reg.RTB_PORT_DIR.OFF) 4 0 } } := by
  rw [State.cmdCommit, commit_none s 1 h, hu]
  rfl

theorem State.commit_fails {d k : Nat} (h : s.tableFail (bits (s.word Reg.RTB_PORT_DIR.OFF) 4 0) v = some (d, k)) :
    (s.cmdCommit v).1 = ((((s.setVer v false).setF Reg.RTB_TBL_STAT.FAIL_INDEX d).setF Reg.RTB_TBL_STAT.FAIL_RULE k).evt Pg.RTB 1).fault
      (mkRec 120 0 0x0905) := by
  rw [State.cmdCommit, commit_some s v d k h]
  rfl

theorem State.setEpoch_same (h : s.f Reg.RTB_CTRL.INJ_EPOCH = v) : s.setEpoch v = s := if_pos h

theorem State.setEpoch_a (h : s.f Reg.RTB_CTRL.INJ_EPOCH = 1) :
    s.setEpoch 0 = { s.setF Reg.RTB_CTRL.INJ_EPOCH 0 with rtb := { s.rtb with leftB := some s.time } } := by
  simp [State.setEpoch, h]

theorem State.setEpoch_b (h : s.f Reg.RTB_CTRL.INJ_EPOCH = 0) :
    s.setEpoch 1 = { s.setF Reg.RTB_CTRL.INJ_EPOCH 1 with rtb := { s.rtb with leftA := some s.time } } := by
  simp [State.setEpoch, h]

/-- A write of a multicast entry that is not VALID and does not make it so is taken. -/
theorem State.mcWrite_open {a : Path} {g : Nat} (hg : g < 256) (hold : bit (s.word (Reg.RTB_MC_PORT.OFF g)) 31 = false) (hv : bit v 31 = false) :
    s.mcWrite a (Reg.RTB_MC_PORT.OFF g) v = s.setWord (Reg.RTB_MC_PORT.OFF g) (bits v 14 0 + bits v 21 16 * 2 ^ 16) := by
  have htree : Reg.RTB_MC_PORT.OFF g < Reg.RTB_MC_TREE.OFF 0 := by
    simp only [Reg.RTB_MC_PORT.OFF, Reg.RTB_MC_TREE.OFF]
    omega
  unfold State.mcWrite
  dsimp only
  rw [if_pos htree, if_neg (by simp [hold]), bits_one_of_bit_false hv, Nat.zero_mul, Nat.add_zero, mcWord_not_valid]
  rfl

/-! ### Enumeration, identity and time (R352 to R356) -/

/-- A write of RTB_NODE that keeps a set ID, outside a pair, is taken. -/
theorem State.nodeWrite_taken {a : Path} (hid : s.hasId = false ∨ bits v 11 0 = s.ownId) (hpair : (s.part.hinge && s.flag Reg.HPS_CTRL.PAIR_EN) = false) :
    s.nodeWrite a v = s.setWord Reg.RTB_NODE.OFF (bits v 12 0 + bits v 27 16 * 2 ^ 16 + bits v 28 28 * 2 ^ 28) := by
  have hkeeps : (s.hasId && bits v 11 0 != s.ownId) = false := by
    obtain h | h := hid <;> simp [h]
  simp only [State.nodeWrite, hkeeps, hpair, Bool.false_and, Bool.false_eq_true, if_false]

theorem State.enumStart_head (hh : s.flag Reg.RTB_ENUM_CTRL.CHAIN_HEAD = true) (hid : s.hasId = true)
    (hu : u = (s.setF Reg.RTB_ENUM_HEAD.HEAD_ID s.ownId).setF Reg.RTB_ENUM_STAT.STATE 2) :
    s.enumStart = { u with rtb := { s.rtb with enumUp := none, enumWait := true } }.enumNext := by
  subst hu
  unfold State.enumStart
  rw [hh, hid]
  rfl

end

/-- Settles O29: each write of the router's page passes or fails its test. -/
theorem fabricWritesAct : Obligations.FabricWritesAct := by
  intro s a
  refine ⟨fun ho v hv => ?table, fun g v hg ho hold hb => ?multicast, fun ho hh hid u hu => ?start, fun v ho hid hp => ?node,
    fun v ho hid hne => ?nodeRefused, fun v ho => ⟨fun hh => ?time, fun hh => ?timeRefused⟩⟩
  case table =>
    have command {go : State → State} {u : State} (hu : go s = u) :
        (s.onReg a Reg.RTB_TBL_CMD.OFF fun w => if v < 2 then go w else w) = .next (s.ended u) :=
      State.reg_answers ho (by rw [if_pos hv, hu])
    have flip {u : State} (hvalid : s.verValid v = true) (hu : s.setEpoch v = u) : exec (.rtbFlip a v) s = .next (s.ended u) :=
      command (go := fun w => (w.cmdFlip a v).1) (by rw [State.cmdFlip, if_pos hvalid, hu])
    refine ⟨fun hf u hu => ⟨?_, ?_⟩, fun d k hf => ?_, fun hm => ?_, fun hm => ?_, fun hvalid he => flip hvalid (State.setEpoch_same he), fun hvalid he => ?_,
      fun hvalid he => ?_, fun hvalid => ?_⟩
    · rintro rfl
      exact command (go := fun w => (w.cmdCommit 0).1) (State.commit_valid_a hf hu)
    · rintro rfl
      exact command (go := fun w => (w.cmdCommit 1).1) (State.commit_valid_b hf hu)
    · exact command (go := fun w => (w.cmdCommit v).1) (State.commit_fails hf)
    · exact command (go := fun w => (w.cmdInvalidate a v).1) (by rw [State.cmdInvalidate, if_pos hm])
    · exact command (go := fun w => (w.cmdInvalidate a v).1) (by rw [State.cmdInvalidate, if_neg (by simp [hm])])
    · exact State.reg_answers ho (by rw [if_pos (by decide), State.cmdFlip, if_pos hvalid, State.setEpoch_a he])
    · exact State.reg_answers ho (by rw [if_pos (by decide), State.cmdFlip, if_pos hvalid, State.setEpoch_b he])
    · exact command (go := fun w => (w.cmdFlip a v).1) (by rw [State.cmdFlip, if_neg (by simp [hvalid])])
  case multicast =>
    have hoff : 0x20000 + (0x9000 + 4 * g) = Reg.RTB_MC_PORT.OFF g := by
      simp only [Reg.RTB_MC_PORT.OFF]
      omega
    have hpage : Reg.RTB_MC_PORT.OFF 0 ≤ 0x20000 + (0x9000 + 4 * g) ∧ 0x20000 + (0x9000 + 4 * g) < 0x2B000 ∧ (0x9000 + 4 * g) % 4 = 0 := by
      simp only [Reg.RTB_MC_PORT.OFF]
      omega
    rw [exec_rtbMcWrite, execRtbMcWrite, if_pos hpage, hoff]
    exact State.reg_answers ho (State.mcWrite_open hg hold hb)
  case start => exact State.reg_answers ho (State.enumStart_head hh hid hu)
  case node => exact State.reg_answers ho (State.nodeWrite_taken hid hp)
  case nodeRefused => exact State.reg_answers ho (if_pos (by simp [hid, hne]))
  case time => exact State.reg_answers ho (by rw [State.timeSet, if_pos hh, Nat.mod_eq_of_lt v.isLt])
  case timeRefused => exact State.reg_answers ho (if_neg (by simp [hh]))

/-- Settles O30: enumeration ends here, and a unit below the head asks for the time. -/
theorem fabricTimersAct : Obligations.FabricTimersAct := by
  intro s hact
  refine ⟨fun u w hst hu hw => ⟨fun port q hup => ?below, fun hup hh => ?head⟩, fun hvalid hlink hh => ?time⟩
  case below =>
    subst hw hu
    exact State.live_answers (go := (·.enumTimeout)) hact (by simp [State.enumTimeout, hst, State.enumFinish, hup, State.assignAnswer, b2n])
  case head =>
    subst hw hu
    exact State.live_answers (go := (·.enumTimeout)) hact (by simp only [State.enumTimeout, hst, State.enumFinish, hup, hh, if_true])
  case time => exact State.live_answers (go := (·.timeReqSend)) hact (by simp only [State.timeReqSend, hvalid, hlink, hh, Bool.not_false, Bool.and_self, if_true])

end Sys2Proof.Machine
end

section
/-! Writes of registers by MMIO (R529 to R536), and of the fault ring's registers (R84, R86). -/

namespace Sys2Proof.Machine

open Sys2Proof

/-! ### The words of an access -/

theorem bytesWords_of_length_four {d : List Byte} (h : d.length = 4) : bytesWords d = [wordOf d 0] := by
  rw [bytesWords, h]
  rfl

theorem bytesWords_of_length_eight {d : List Byte} (h : d.length = 8) : bytesWords d = [wordOf d 0, wordOf d 1] := by
  rw [bytesWords, h]
  rfl

section

variable {s : State} {o : Nat} {d : List Byte}

theorem State.mayWrite_mmio (pr : Priv) (v : Nat) (hm : o ≠ Reg.GLB_MGR_NODE.OFF) : s.mayWrite .mmio pr o v = s.mayReach pr o true := if_neg hm

/-- An aligned access of 4 bytes by MMIO is the access of its word. -/
theorem State.registerWrite_word (hs : s.mgmtServed = true) (hd : d.length = 4) (ho : o % 4 = 0) :
    s.registerWrite .mmio o d = { (s.accessWrite .mmio (s.priv .mmio) s.mmio o [wordOf d 0]).1 with
      mmio := (s.accessWrite .mmio (s.priv .mmio) s.mmio o [wordOf d 0]).2 } := by
  simp [State.registerWrite, hs, hd, ho, bytesWords_of_length_four hd]

/-- An aligned access of 8 bytes by MMIO is the access of its two words. -/
theorem State.registerWrite_pair (hs : s.mgmtServed = true) (hd : d.length = 8) (ho : o % 8 = 0) :
    s.registerWrite .mmio o d = { (s.accessWrite .mmio (s.priv .mmio) s.mmio o [wordOf d 0, wordOf d 1]).1 with
      mmio := (s.accessWrite .mmio (s.priv .mmio) s.mmio o [wordOf d 0, wordOf d 1]).2 } := by
  simp [State.registerWrite, hs, hd, ho, bytesWords_of_length_eight hd]

/-- An access of another size is a violation (R536). -/
theorem State.registerWrite_misfit (a : Path) (hs : s.mgmtServed = true) (h4 : d.length ≠ 4) (h8 : d.length ≠ 8) :
    s.registerWrite a o d = s.regViolation (s.pathWho a o) := by
  simp [State.registerWrite, hs, h4, h8]

variable {a : Path} {pr : Priv} {c : PathSt} {v w : Nat}

theorem State.accessWrite_word (h : s.mayWrite a pr o v = true) :
    s.accessWrite a pr c o [v] = ((s.pathWrite a c o v).1, (s.pathWrite a c o v).2.1) := by
  simp [State.accessWrite, h]

theorem State.accessWrite_word_refused (h : s.mayWrite a pr o v = false) : s.accessWrite a pr c o [v] = (s.regViolation (s.pathWho a o), c) := by
  simp [State.accessWrite, h]

theorem State.accessWrite_pair (h : s.mayWrite a pr o v = true) (h' : s.mayWrite a pr (o + 4) w = true) {t : State} {k : PathSt} {b : Bool}
    (ht : s.pathWrite a c o v = (t, k, b)) :
    s.accessWrite a pr c o [v, w] = ((t.pathWrite a k (o + 4) w).1, (t.pathWrite a k (o + 4) w).2.1) := by
  simp [State.accessWrite, h, h', ht]

theorem State.accessWrite_pair_refused (h : s.mayWrite a pr o v = false) (h' : s.mayWrite a pr (o + 4) w = false) :
    s.accessWrite a pr c o [v, w] = (s.regViolation (s.pathWho a o), c) := by
  simp [State.accessWrite, h, h']

end

/-! ### A register that its access codes alone govern (R11) -/

section

variable {s : State} {o v : Nat} {r : RegRow}

/-- Outside the ring, the router, the links, the shaper and the schedulers, a write leaves what the access codes say. -/
theorem State.plainWrite_by_codes {a : Path} {fw : Bool} (hpage : o / 4096 ≠ 0x60) (hlink : linkOff o = none)
    (hsched : arrIdx (Reg.SC_SCHED.OFF 0) 65536 12 o = none) (hctrl : o ≠ Reg.FLT_RING_CTRL.OFF) (htail : o ≠ Reg.FLT_RING_TAIL.OFF)
    (hrtb : o ≠ Reg.RTB_CTRL.OFF) : s.plainWrite a o r fw v = s.regPut o r fw v := by
  simp [State.plainWrite, hpage, hlink, hsched, hctrl, htail, hrtb]

/-- A register without a command of its own, outside the shaper's and the factory's pages, takes a plain write by MMIO. -/
theorem State.regApply_plain (hreset : s.resetting.contains (headOf o) = false) (hcmd : s.cmdWrite .mmio o v = none)
    (hrow : findReg o = some (r, false)) (hpage : o / 4096 ≠ 0x60) (hftm : o / 4096 * 4096 ≠ Pg.FTM) :
    s.regApply .mmio o v = (s.plainWrite .mmio o r false v, false) := by
  have hhist : o ≠ Reg.TSH_HIST_CTRL.OFF := by
    rintro rfl
    exact hpage rfl
  have hinj : o ≠ Reg.FTM_INJ_CMD.OFF := by
    rintro rfl
    exact hftm rfl
  unfold State.regApply
  rw [hcmd, hrow, hreset]
  simp only [hhist, hinj, false_and, if_false, Bool.false_eq_true]
  rfl

/-- A write of a word that is a whole register of its own. -/
theorem State.pathWrite_word {c : PathSt} (hftm : o / 4096 * 4096 ≠ Pg.FTM) (hwide : wideAt o = none)
    (hhead : (pageHeader o && decide (o % 4096 < 0x40)) = false) :
    s.pathWrite .mmio c o v = ((s.regApply .mmio o v).1, c, (s.regApply .mmio o v).2) := by
  unfold State.pathWrite
  dsimp only
  rw [if_neg (by simp [hftm]), hwide, hhead]
  rfl

/-- The LO word of a 64-bit register is staged (R537). -/
theorem State.pathWrite_low {c : PathSt} (hftm : o / 4096 * 4096 ≠ Pg.FTM) (hwide : wideAt o = some (o, false)) :
    s.pathWrite .mmio c o v = (s, { c with stage := some (o, v), hi := keepFor o c.hi }, false) := by
  unfold State.pathWrite
  dsimp only
  rw [if_neg (by simp [hftm]), hwide]

/-- The HI word of a 64-bit register writes it with the LO word staged (R537). -/
theorem State.pathWrite_high {c : PathSt} {w : Nat} (hftm : (o + 4) / 4096 * 4096 ≠ Pg.FTM) (hwide : wideAt (o + 4) = some (o, true))
    (hhead : (pageHeader (o + 4) && decide ((o + 4) % 4096 < 0x40)) = false) (hstage : c.stage = some (o, v)) :
    s.pathWrite .mmio c (o + 4) w =
      ((s.regApply .mmio o (v + w * 2 ^ 32)).1, { c with stage := none }, (s.regApply .mmio o (v + w * 2 ^ 32)).2) := by
  have hkeep : keepFor o c.stage = some (o, v) := by simp [keepFor, hstage]
  unfold State.pathWrite
  dsimp only
  rw [if_neg (by simp [hftm]), hwide]
  dsimp only
  rw [hhead, hkeep]
  rfl

end

/-- Settles O31: the access is cut into its words, each word is allowed or not, and the register takes what its row allows. -/
theorem registerWritesAct : Obligations.RegisterWritesAct := by
  intro s o d hclk hs
  have answers {u : State} (hu : s.registerWrite .mmio o d = u) : exec (.registerWrite .mmio o d) s = .next (s.ended u) :=
    State.event_answers (go := (·.registerWrite .mmio o d)) hclk hu
  refine ⟨fun b0 b1 b2 b3 r hd ho hmay hm hftm hwide hhead hreset hcmd hrow hpage hlink hsched hr hctrl htail hrtb hcnt => answers ?word,
    fun r v hd hv ho hmay hmay' hm hm' hftm hlo hhi hhead hreset hcmd hrow hpage hlink hsched hr hctrl htail hrtb u hu hu' => answers ?pair,
    fun hd ho hmay hm => answers ?refused, fun hd ho hmay hmay' hm hm' => answers ?pairRefused, fun h4 h8 => answers ?misfit⟩
  case word =>
    have hmay : s.mayWrite .mmio (s.priv .mmio) o (wordOf d 0) = true := (State.mayWrite_mmio _ _ hm).trans hmay
    rw [State.registerWrite_word hs (by rw [hd]; rfl) ho, State.accessWrite_word hmay, State.pathWrite_word hftm hwide hhead,
      State.regApply_plain hreset hcmd hrow hpage hftm, State.plainWrite_by_codes hpage hlink hsched hctrl htail hrtb, State.regPut, hcnt, hr]
    rfl
  case pair =>
    have hmay : s.mayWrite .mmio (s.priv .mmio) o (wordOf d 0) = true := (State.mayWrite_mmio _ _ hm).trans hmay
    have hmay' : s.mayWrite .mmio (s.priv .mmio) (o + 4) (wordOf d 1) = true := (State.mayWrite_mmio _ _ hm').trans hmay'
    have hftm' : (o + 4) / 4096 * 4096 ≠ Pg.FTM := by
      rwa [show (o + 4) / 4096 = o / 4096 by omega]
    rw [State.registerWrite_pair hs hd ho, State.accessWrite_pair hmay hmay' (State.pathWrite_low hftm hlo), State.pathWrite_high hftm' hhi hhead rfl, ← hv,
      State.regApply_plain hreset hcmd hrow hpage hftm, State.plainWrite_by_codes hpage hlink hsched hctrl htail hrtb, State.regPut, hr]
    cases hcnt : r.cnt
    case true => rw [hu hcnt]; rfl
    case false => rw [hu' hcnt]; rfl
  case refused => rw [State.registerWrite_word hs hd ho, State.accessWrite_word_refused ((State.mayWrite_mmio _ _ hm).trans hmay)]
  case pairRefused =>
    rw [State.registerWrite_pair hs hd ho,
      State.accessWrite_pair_refused ((State.mayWrite_mmio _ _ hm).trans hmay) ((State.mayWrite_mmio _ _ hm').trans hmay')]
  case misfit => exact State.registerWrite_misfit .mmio hs h4 h8

/-! ### The fault ring (R84, R86) -/

/-- Settles O32: the index written is within the records held or not; the size is kept, or changed while the ring is off. -/
theorem ringWritesAct : Obligations.RingWritesAct := by
  intro s a v
  have hv : v.toNat % 4294967296 = v.toNat := Nat.mod_eq_of_lt v.isLt
  refine ⟨fun ho h => ?tail, fun ho h => ?beyond, fun ho h => ?same, fun ho hne hoff hlo hhi u hu => ?resized⟩
  case tail => exact State.reg_answers ho (by rw [State.ringTailWrite, hv, if_neg (Nat.not_lt.2 h)])
  case beyond => exact State.reg_answers ho (by rw [State.ringTailWrite, hv, if_pos h])
  case same => exact State.reg_answers ho (if_pos h)
  case resized =>
    subst hu
    refine State.reg_answers ho ?_
    simp [State.ringCtrlWrite, hne, hoff, Nat.not_lt.2 hlo, Nat.not_lt.2 hhi]

end Sys2Proof.Machine
end

section
/-! Commands of the collector and of resets (R433 to R449): what each leaves. -/

namespace Sys2Proof.Machine

open Sys2Proof

/-! ### The collector (R433 to R444) -/

section

variable {s u : State}

theorem State.fltAck_all {v : Nat} (h : bit v 31 = true) : s.fltAck v = { s with flt := { s.flt with store := [] } } := by
  simp [State.fltAck, h]

theorem State.fltAck_named {v : Nat} (h : bit v 31 = false) : s.fltAck v =
    { s with flt := { s.flt with store := s.flt.store.filter fun e => !(e.2.source == bits v 7 0 && e.2.cls == bits v 9 8) } } := by
  simp only [State.fltAck, h, Bool.not_false, Bool.true_and]

/-- Where management is served the Keeper is there, so that the release of a FATAL event releases ALERT_N. -/
theorem State.fatalRelease_served (hs : s.mgmtServed = true) (hu : u = s.setF (Hdr.EVT_STAT Pg.GLB) (putBit (s.f (Hdr.EVT_STAT Pg.GLB)) 1 false)) :
    s.fatalRelease = { u with flt := { u.flt with alert := false } } := by
  have hkeeper : (s.phase == .noKeeper) = false := by
    rw [beq_eq_false_iff_ne]
    intro h
    simp [State.mgmtServed, h] at hs
  subst hu
  simp only [State.fatalRelease, hkeeper]

theorem State.regOpen_served {a : Path} {o : Nat} (h : s.regOpen a o = true) : s.mgmtServed = true := by
  simp only [State.regOpen, Bool.and_eq_true] at h
  exact h.1.1.2

/-! ### Clearing counters (R444) -/

theorem State.cntClr_page {v pg : Nat} (h31 : bit v 31 = true) (h30 : bit v 30 = false) (hpg : pg = bits v 15 0 * 4096) (hh : headerPage pg = true)
    (hk : pageKind s.part pg = .present) : s.cntClr v = s.clearPage pg := by
  subst hpg
  simp [State.cntClr, h31, h30, hh, hk]

theorem State.clearPage_plain {pg : Nat} (h : pg ≠ Pg.TSH) : s.clearPage pg = { s with
    cnts := s.cnts.filter fun e => decide (e.1 / 4096 ≠ pg / 4096)
    frozen := s.frozen.filter fun e => decide (e.1 ≠ pg) }.setFlag (Hdr.SAT pg) false := by
  simp only [State.clearPage, h, if_false]

theorem State.clearPage_shaper {pg : Nat} (h : pg = Pg.TSH) : s.clearPage pg = { s with
    cnts := s.cnts.filter fun e => decide (e.1 / 4096 ≠ pg / 4096)
    frozen := s.frozen.filter fun e => decide (e.1 ≠ pg)
    tsh := { s.tsh with hist := [] } }.setFlag (Hdr.SAT pg) false := by
  simp only [State.clearPage, h, if_true]
  rfl

/-- A state has no count: no counter, no frozen copy, no histogram bin. -/
def State.uncounted (s : State) : Prop := s.cnts = [] ∧ s.frozen = [] ∧ s.tsh.hist = []

theorem State.uncounted_setFlag (h : s.uncounted) (x : Fld) (b : Bool) : (s.setFlag x b).uncounted := by
  obtain ⟨hcnts, hfrozen, hhist⟩ := h
  exact ⟨by simp [hcnts], by simp [hfrozen], by simp [hhist]⟩

theorem State.uncounted_foldl (x : Nat → Fld) (pages : List Nat) (h : s.uncounted) :
    (pages.foldl (fun (w : State) pg => w.setFlag (x pg) false) s).uncounted := by
  induction pages generalizing s with
  | nil => exact h
  | cons pg pages ih => exact ih (State.uncounted_setFlag h _ _)

/-- The clear of all pages leaves no count. -/
theorem State.cntClr_all {v : Nat} (h31 : bit v 31 = true) (h30 : bit v 30 = true) : (s.cntClr v).uncounted := by
  rw [State.cntClr, h31, h30]
  exact State.uncounted_foldl _ _ ⟨rfl, rfl, rfl⟩

end

/-- Settles O33: each command of the collector meets its entry, its route or its page. -/
theorem collectorCommandsAct : Obligations.CollectorCommandsAct := by
  intro s
  refine ⟨fun n hclk hn => ?window, fun a v ho => ⟨fun h => ?all, fun h => ?named⟩, fun p rest u hact hn => ?notify,
    fun a u ho hu => ?release, fun a ho => ?lastFatal, fun a v pg ho h31 hpg => ⟨fun h30 hh hk hne => ?page, fun h30 he => ?shaper, fun h30 => ?clear⟩⟩
  case window => exact State.event_answers (go := (·.windowClose n)) hclk (if_pos hn)
  case all => exact State.reg_answers ho (State.fltAck_all h)
  case named => exact State.reg_answers ho (State.fltAck_named h)
  case notify =>
    have leaves {w : State} (hw : s.notifyOn rest (s.route (s.injected p)) = w) : exec .notifyDepart s = .next (s.ended w) :=
      State.live_answers (go := (·.notifyLeave)) hact ((State.notifyLeave_cons hn).trans hw)
    refine ⟨fun port q hr => ⟨fun hroom => leaves ?_, fun hroom => leaves ?_⟩, fun q hr => leaves ?_⟩
    · rw [hr, State.notifyOn_send, if_pos hroom]
    · rw [hr, State.notifyOn_send, if_neg (Nat.not_le.2 hroom)]
    · rw [hr, State.notifyOn_here]
  case release => exact State.reg_answers ho (State.fatalRelease_served (State.regOpen_served ho) hu)
  case lastFatal => exact State.reg_answers ho rfl
  case page => exact State.reg_answers ho ((State.cntClr_page h31 h30 hpg hh hk).trans (State.clearPage_plain hne))
  case shaper =>
    have hh : headerPage pg = true := by rw [he]; rfl
    have hk : pageKind s.part pg = .present := by rw [he]; rfl
    exact State.reg_answers ho ((State.cntClr_page h31 h30 hpg hh hk).trans (State.clearPage_shaper he))
  case clear => exact ⟨_, State.reg_answers ho rfl, State.cntClr_all h31 h30⟩

/-! ### Resets (R442, R446 to R449, R564) -/

section

variable {s u v w : State}

theorem State.rstWrite_cold (a : Path) : s.rstWrite a 0x2A5 = s.coldRestart 4 := rfl

theorem State.warmGo_first (hp : s.phase = .warm 1) (hi : s.init = none) :
    s.warmGo = if s.pins.warmLow then { s.warmPoison.stacksSleep with phase := .warm 4 } else s.warmPoison.stacksSleep.logicReset := by
  simp only [State.warmGo, hp, hi]

theorem State.clocked_of_phase {p : Phase} (hp : s.phase = p) (hoff : p ≠ .off) (hcold : p ≠ .cold) : s.clocked = true := by
  unfold State.clocked
  rw [hp]
  cases p <;> simp_all

/-- The last step of a warm reset, where the chip holds no lease to ask for. -/
theorem State.warmReady_last (hp : s.phase = .warm 5) (hu : u = s.commitFinish.boardLoad.stacksUp.makePlan)
    (hv : v = { u.setFlag Reg.GLB_STAT.COH_HELD true with phase := .ready })
    (hw : w = v.cxlStart.fault { mkRec 0 0 0x0D04 with addr := v.f Reg.GLB_STAT.LAST_RESET }) (hpair : (w.paired && w.hpsState == 7) = false) :
    s.warmReady = w := by
  unfold State.warmReady
  rw [hp]
  dsimp only
  rw [← hu, ← hv, ← hw, hpair]
  rfl

end

/-- Settles O34: the phase, with the pin of the warm reset, picks what the reset does next. -/
theorem resetCommandsAct : Obligations.ResetCommandsAct := by
  intro s
  refine ⟨fun a ho => ⟨fun hp he => ?warm, fun hp he => ?never, fun k hp => ?again, ?cold⟩, fun hp hi => ⟨fun hw => ?logic, fun hw => ?waits⟩,
    fun u v hp hu hv w hw hpair => ?ready, fun hp => ?halt, fun a ho => ?resume⟩
  case warm => exact State.reg_answers ho (by rw [State.rstWrite_warm, State.warmAsk, hp]; exact if_pos he)
  case never => exact State.reg_answers ho (by rw [State.rstWrite_warm, State.warmAsk, hp]; exact if_neg (by simp [he]))
  case again => exact State.reg_answers ho (by rw [State.rstWrite_warm, State.warmAsk, hp])
  case cold => exact State.reg_answers ho (State.rstWrite_cold a)
  case logic => exact State.event_answers (go := (·.warmGo)) (State.clocked_of_phase hp nofun nofun) (by rw [State.warmGo_first hp hi, if_neg (by simp [hw])])
  case waits => exact State.event_answers (go := (·.warmGo)) (State.clocked_of_phase hp nofun nofun) (by rw [State.warmGo_first hp hi, if_pos hw])
  case ready => exact State.event_answers (go := (·.warmReady)) (State.clocked_of_phase hp nofun nofun) (State.warmReady_last hp hu hv hw hpair)
  case halt => exact State.event_answers (go := (·.haltGo)) (State.clocked_of_phase hp nofun nofun) (if_pos hp)
  case resume => exact State.reg_answers ho rfl

end Sys2Proof.Machine
end

section
/-! Commands of the latches (R180, R193, R197, R198, R200): what each leaves, and the registers of latch groups as MMIO reaches them. -/

namespace Sys2Proof.Machine

open Sys2Proof

/-! ### Where a row of the register tables ends -/

/-- What the offsets of an array's words stay below. -/
def dimsEnd : List (Nat × Nat) → Nat
  | [] => 1
  | d :: _ => d.1 * d.2

/-- What the offsets of a row's words stay below. -/
def RegRow.top (r : RegRow) : Nat := r.base + dimsEnd r.dims + if r.wide then 4 else 0

theorem inDims_lt {dims : List (Nat × Nat)} {d : Nat} (hpos : ∀ x ∈ dims, 0 < x.2) (h : inDims dims d = true) : d < dimsEnd dims := by
  cases dims with
  | nil => simp_all [inDims, dimsEnd]
  | cons x dims =>
    simp only [inDims, Bool.and_eq_true, decide_eq_true_eq] at h
    exact (Nat.div_lt_iff_lt_mul (hpos x (by simp))).1 h.1

/-- No word of a row stands at or beyond its top. -/
theorem RegRow.part_beyond {r : RegRow} {o : Nat} (hpos : ∀ x ∈ r.dims, 0 < x.2) (h : r.top ≤ o) : r.part o = 0 := by
  have hlow : inDims r.dims (o - r.base) = false := by
    by_contra hin
    have := inDims_lt hpos (Bool.not_eq_false _ ▸ hin)
    simp only [RegRow.top] at h
    omega
  have hhigh : (r.wide && decide (r.base + 4 ≤ o) && inDims r.dims (o - r.base - 4)) = false := by
    by_contra hin
    simp only [Bool.not_eq_false, Bool.and_eq_true, decide_eq_true_eq] at hin
    have := inDims_lt hpos hin.2
    simp only [RegRow.top, hin.1.1, if_true] at h
    omega
  simp [RegRow.part, hlow, hhigh]

theorem findRow_skip {l rs : List RegRow} {o : Nat} (h : ∀ r ∈ l, r.part o = 0) : findRow (l ++ rs) o = findRow rs o := by
  induction l with
  | nil => rfl
  | cons r l ih =>
    rw [List.cons_append, findRow, h r (by simp)]
    exact ih fun x hx => h x (List.mem_cons_of_mem _ hx)

/-! ### The rows of a latch group's registers -/

/-- The row of LCH_GRP. -/
def grpRow : RegRow := ⟨0x70400, [(256, 4)], false, false, 0, 2147483711, 0, 0, 0, 0, []⟩

/-- The row of LCH_GRP_SHARE. -/
def shareRow : RegRow := ⟨0x70800, [(256, 8)], true, false, 0, 18446744073709551615, 0, 0, 0, 0, []⟩

theorem regGroups_latches {o : Nat} (hlo : 0x70000 ≤ o) (hhi : o ≤ 0x70FFF) :
    regGroups.find? (fun x => decide (x.1 ≤ o) && decide (o ≤ x.2.1)) = some (0x70000, 0x70FFF, regRowsLCH) := by
  simp (disch := omega) only [regGroups, List.find?, decide_eq_true, decide_eq_false, Bool.and_false, Bool.and_self]

/-- The rows of the latch page before those of the groups end before them. -/
theorem latchRows_end : ∀ r ∈ regRowsLCH.take 18, (∀ x ∈ r.dims, 0 < x.2) ∧ r.top ≤ 0x70400 := by decide

theorem findRow_latches {o : Nat} (ho : 0x70400 ≤ o) : findRow regRowsLCH o = findRow [grpRow, shareRow] o := by
  have hsplit : regRowsLCH = regRowsLCH.take 18 ++ [grpRow, shareRow] := rfl
  rw [hsplit]
  exact findRow_skip fun r hr => RegRow.part_beyond (latchRows_end r hr).1 ((latchRows_end r hr).2.trans ho)

section

variable {g : Nat}

theorem grp_off (g : Nat) : Reg.LCH_GRP.OFF g = 0x70400 + 4 * g := rfl

theorem share_off (g : Nat) : Reg.LCH_GRP_SHARE.OFF g = 0x70800 + 8 * g := rfl

theorem findReg_grp (hg : g < 256) : findReg (Reg.LCH_GRP.OFF g) = some (grpRow, false) := by
  have hrow : grpRow.part (0x70400 + 4 * g) = 1 := by
    simp [RegRow.part, grpRow, inDims, hg]
  rw [grp_off, findReg, regGroups_latches (by omega) (by omega)]
  dsimp only
  rw [findRow_latches (by omega), findRow, hrow]
  rfl

theorem findReg_share (hg : g < 256) : findReg (Reg.LCH_GRP_SHARE.OFF g) = some (shareRow, false) := by
  have hrow : shareRow.part (0x70800 + 8 * g) = 1 := by
    simp [RegRow.part, shareRow, inDims, hg]
  rw [share_off, findReg, regGroups_latches (by omega) (by omega)]
  dsimp only
  rw [findRow_latches (by omega), findRow, RegRow.part_beyond (by decide) (Nat.le_add_right 0x70800 _), findRow, hrow]
  rfl

theorem findReg_share_high (hg : g < 256) : findReg (Reg.LCH_GRP_SHARE.OFF g + 4) = some (shareRow, true) := by
  have hrow : shareRow.part (0x70800 + 8 * g + 4) = 2 := by
    have hd : 0x70800 + 8 * g + 4 - 0x70800 = 8 * g + 4 := by omega
    have hmod : (8 * g + 4) % 8 = 4 := by omega
    have hle : 0x70800 ≤ 0x70800 + 8 * g + 4 := by omega
    simp [RegRow.part, shareRow, inDims, hd, hmod, hg]
    omega
  rw [share_off, findReg, regGroups_latches (by omega) (by omega)]
  dsimp only
  rw [findRow_latches (by omega), findRow, RegRow.part_beyond (by decide) (by omega : 0x70800 ≤ _), findRow, hrow]
  rfl

/-- No word from 0x400 of the latch page on is the common header's. -/
theorem not_header_of_latch {o : Nat} (hlo : 0x70400 ≤ o) (hhi : o ≤ 0x70FFF) : (pageHeader o && decide (o % 4096 < 0x40)) = false := by
  rw [decide_eq_false (by omega), Bool.and_false]

theorem wideAt_grp (hg : g < 256) : wideAt (Reg.LCH_GRP.OFF g) = none := by
  have hhead := not_header_of_latch (o := Reg.LCH_GRP.OFF g) (by rw [grp_off]; omega) (by rw [grp_off]; omega)
  rw [wideAt, hhead, findReg_grp hg]
  rfl

theorem wideAt_share (hg : g < 256) : wideAt (Reg.LCH_GRP_SHARE.OFF g) = some (Reg.LCH_GRP_SHARE.OFF g, false) := by
  have hhead := not_header_of_latch (o := Reg.LCH_GRP_SHARE.OFF g) (by rw [share_off]; omega) (by rw [share_off]; omega)
  rw [wideAt, hhead, findReg_share hg]
  rfl

theorem wideAt_share_high (hg : g < 256) : wideAt (Reg.LCH_GRP_SHARE.OFF g + 4) = some (Reg.LCH_GRP_SHARE.OFF g, true) := by
  have hhead := not_header_of_latch (o := Reg.LCH_GRP_SHARE.OFF g + 4) (by rw [share_off]; omega) (by rw [share_off]; omega)
  rw [wideAt, hhead, findReg_share_high hg]
  rfl

/-! ### What a write of them reaches -/

/-- The element of an array at its offset. -/
theorem arrIdx_at {base stride count i : Nat} (hs : 0 < stride) (hi : i < count) : arrIdx base stride count (base + stride * i) = some i := by
  simp [arrIdx, Nat.mul_div_cancel_left _ hs, hi]

/-- An offset beyond an array is none of its elements. -/
theorem arrIdx_beyond {base stride count o : Nat} (hs : 0 < stride) (h : base + stride * count ≤ o) : arrIdx base stride count o = none := by
  refine if_neg fun ⟨_, _, hlt⟩ => ?_
  have := (Nat.div_lt_iff_lt_mul hs).1 hlt
  rw [Nat.mul_comm] at this
  omega

variable {s : State} {v : Nat}

theorem lch_page {o : Nat} (hlo : 0x70000 ≤ o) (hhi : o ≤ 0x70FFF) : o / 4096 = 0x70 := by omega

theorem headOf_lch {o : Nat} (hlo : 0x70000 ≤ o) (hhi : o ≤ 0x70FFF) : headOf o = Pg.LCH := by
  rw [headOf, lch_page hlo hhi]
  rfl

/-- A write of a word of the latch page is the page's to decide. -/
theorem State.cmdWrite_lch {a : Path} {o : Nat} (hlo : 0x70400 ≤ o) (hhi : o ≤ 0x70FFF) :
    s.cmdWrite a o v = (s.lchPage a o v).map fun u => (u, false) := by
  have hpage := lch_page (o := o) (by omega) hhi
  have hmgm : o ≠ Reg.MGM_CMD.OFF := by rw [Reg.MGM_CMD.OFF]; omega
  have hkpr : o ≠ Reg.KPR_CMD.OFF := by rw [Reg.KPR_CMD.OFF]; omega
  have hkw : o ≠ Reg.KTU_KW_CMD.OFF := by rw [Reg.KTU_KW_CMD.OFF]; omega
  have hinv : o ≠ Reg.KTU_INV_CMD.OFF := by rw [Reg.KTU_INV_CMD.OFF]; omega
  simp [State.cmdWrite, hpage, hmgm, hkpr, hkw, hinv]

theorem State.lchPage_grp {a : Path} (hg : g < 256) : s.lchPage a (Reg.LCH_GRP.OFF g) v = some (s.grpWrite a g v) := by
  have hacc : Reg.LCH_GRP.OFF g ≠ Reg.LCH_ACC_CMD.OFF := by rw [grp_off, Reg.LCH_ACC_CMD.OFF]; omega
  have hdl : Reg.LCH_GRP.OFF g ≠ Reg.LCH_DL_STAT.OFF := by rw [grp_off, Reg.LCH_DL_STAT.OFF]; omega
  have hidx : arrIdx (Reg.LCH_GRP.OFF 0) 4 256 (Reg.LCH_GRP.OFF g) = some g := arrIdx_at (by decide) hg
  rw [State.lchPage, if_neg hacc, if_neg hdl, hidx]

theorem State.lchPage_share {a : Path} (hg : g < 256) : s.lchPage a (Reg.LCH_GRP_SHARE.OFF g) v = some (s.shareWrite g v) := by
  have hacc : Reg.LCH_GRP_SHARE.OFF g ≠ Reg.LCH_ACC_CMD.OFF := by rw [share_off, Reg.LCH_ACC_CMD.OFF]; omega
  have hdl : Reg.LCH_GRP_SHARE.OFF g ≠ Reg.LCH_DL_STAT.OFF := by rw [share_off, Reg.LCH_DL_STAT.OFF]; omega
  have hgrp : arrIdx (Reg.LCH_GRP.OFF 0) 4 256 (Reg.LCH_GRP_SHARE.OFF g) = none :=
    arrIdx_beyond (by decide) (by rw [share_off, grp_off]; omega)
  have hidx : arrIdx (Reg.LCH_GRP_SHARE.OFF 0) 8 256 (Reg.LCH_GRP_SHARE.OFF g) = some g := arrIdx_at (by decide) hg
  rw [State.lchPage, if_neg hacc, if_neg hdl, hgrp, hidx]
  rfl

variable {o : Nat} {c : PathSt} {w : Nat}

/-- A word of the latch page whose page takes it is what the page makes of it. -/
theorem State.regApply_lch {u : State} (hlo : 0x70400 ≤ o) (hhi : o ≤ 0x70FFF) (hr : s.resetting.contains Pg.LCH = false)
    (hu : s.lchPage .mmio o v = some u) : s.regApply .mmio o v = (u, false) := by
  unfold State.regApply
  rw [headOf_lch (by omega) hhi, hr, State.cmdWrite_lch hlo hhi, hu]
  rfl

/-- The byte string of a word holds the word. -/
theorem wordOf_leBytes {v : Nat} (h : v < 2 ^ 32) : wordOf (leBytes 4 v) 0 = v := by
  simp [wordOf, slice, leBytes, byteAt, leNat, List.range_succ]
  omega

/-- A write of a word by MMIO that the manager may make, at an offset of the latch page. -/
theorem State.lchWord_write {v : Word} (hs : s.mgmtServed = true) (ho : o % 4 = 0) (hlo : 0x70400 ≤ o) (hmay : s.mayReach .manager o true = true) :
    s.registerWrite .mmio o (leBytes 4 v.toNat) = { (s.pathWrite .mmio s.mmio o v.toNat).1 with mmio := (s.pathWrite .mmio s.mmio o v.toNat).2.1 } := by
  have hm : o ≠ Reg.GLB_MGR_NODE.OFF := by rw [Reg.GLB_MGR_NODE.OFF]; omega
  rw [State.registerWrite_word hs (leBytes_length 4 _) ho, wordOf_leBytes v.isLt,
    State.accessWrite_word (pr := s.priv .mmio) ((State.mayWrite_mmio _ _ hm).trans hmay)]

theorem lch_not_ftm (hlo : 0x70000 ≤ o) (hhi : o ≤ 0x70FFF) : o / 4096 * 4096 ≠ Pg.FTM := by
  rw [lch_page hlo hhi]
  decide

/-- A latch group is written by MMIO. -/
theorem State.grp_write {v : Word} (hg : g < 256) (hs : s.mgmtServed = true) (hr : s.resetting.contains Pg.LCH = false)
    (hmay : s.mayReach .manager (Reg.LCH_GRP.OFF g) true = true) :
    s.registerWrite .mmio (Reg.LCH_GRP.OFF g) (leBytes 4 v.toNat) = { s.grpWrite .mmio g v.toNat with mmio := s.mmio } := by
  have hlo : 0x70400 ≤ Reg.LCH_GRP.OFF g := by rw [grp_off]; omega
  have hhi : Reg.LCH_GRP.OFF g ≤ 0x70FFF := by rw [grp_off]; omega
  rw [State.lchWord_write hs (by rw [grp_off]; omega) hlo hmay, State.pathWrite_word (lch_not_ftm (by omega) hhi) (wideAt_grp hg)
    (not_header_of_latch hlo hhi), State.regApply_lch hlo hhi hr (State.lchPage_grp hg)]

/-- The LO word of a group's sharers is staged. -/
theorem State.share_write_low {v : Word} (hg : g < 256) (hs : s.mgmtServed = true) (hmay : s.mayReach .manager (Reg.LCH_GRP_SHARE.OFF g) true = true) :
    s.registerWrite .mmio (Reg.LCH_GRP_SHARE.OFF g) (leBytes 4 v.toNat) =
      { s with mmio := { s.mmio with stage := some (Reg.LCH_GRP_SHARE.OFF g, v.toNat), hi := keepFor (Reg.LCH_GRP_SHARE.OFF g) s.mmio.hi } } := by
  have hlo : 0x70400 ≤ Reg.LCH_GRP_SHARE.OFF g := by rw [share_off]; omega
  have hhi : Reg.LCH_GRP_SHARE.OFF g ≤ 0x70FFF := by rw [share_off]; omega
  rw [State.lchWord_write hs (by rw [share_off]; omega) hlo hmay, State.pathWrite_low (lch_not_ftm (by omega) hhi) (wideAt_share hg)]

/-- The HI word of a group's sharers writes them, with the LO word staged. -/
theorem State.share_write_high {v : Word} {low : Nat} (hg : g < 256) (hs : s.mgmtServed = true) (hr : s.resetting.contains Pg.LCH = false)
    (hmay : s.mayReach .manager (Reg.LCH_GRP_SHARE.OFF g + 4) true = true) (hst : s.mmio.stage = some (Reg.LCH_GRP_SHARE.OFF g, low)) :
    s.registerWrite .mmio (Reg.LCH_GRP_SHARE.OFF g + 4) (leBytes 4 v.toNat) =
      { s.setWord64 (Reg.LCH_GRP_SHARE.OFF g) (low + v.toNat * 2 ^ 32) with mmio := { s.mmio with stage := none } } := by
  have hlo : 0x70400 ≤ Reg.LCH_GRP_SHARE.OFF g := by rw [share_off]; omega
  have hhi : Reg.LCH_GRP_SHARE.OFF g + 4 ≤ 0x70FFF := by rw [share_off]; omega
  rw [State.lchWord_write hs (by rw [share_off]; omega) (by omega) hmay, State.pathWrite_high (lch_not_ftm (by omega) hhi) (wideAt_share_high hg)
    (not_header_of_latch (by omega) hhi) hst, State.regApply_lch hlo (by omega) hr (State.lchPage_share hg), State.shareWrite]

/-! ### Groups (R180) -/

/-- A write of a group that is not valid, or stays valid while its owner is quiesced, leaves its word. -/
theorem State.grpWrite_kept {a : Path} {new : Nat} (hnew : new = bits v 5 0 + bits v 31 31 * 2 ^ 31)
    (hq : bit (s.word (Reg.LCH_GRP.OFF g)) 31 = false ∨ s.quiesced (bits (s.word (Reg.LCH_GRP.OFF g)) 5 0) = true)
    (h : bit (s.word (Reg.LCH_GRP.OFF g)) 31 = false ∨ bit new 31 = true) : s.grpWrite a g v = s.setWord (Reg.LCH_GRP.OFF g) new := by
  subst hnew
  obtain hold | hq := hq
  · simp only [State.grpWrite, hold, Bool.false_and, Bool.false_eq_true, if_false]
  · obtain hold | hv := h
    · simp only [State.grpWrite, hold, Bool.false_and, Bool.false_eq_true, if_false]
    · simp only [State.grpWrite, hq, hv, Bool.not_true, Bool.and_false, Bool.false_eq_true, if_false]

/-- A write that clears a valid group's VALID, while its owner is quiesced, clears the group. -/
theorem State.grpWrite_cleared {a : Path} {new : Nat} (hnew : new = bits v 5 0 + bits v 31 31 * 2 ^ 31)
    (hq : bit (s.word (Reg.LCH_GRP.OFF g)) 31 = false ∨ s.quiesced (bits (s.word (Reg.LCH_GRP.OFF g)) 5 0) = true)
    (hold : bit (s.word (Reg.LCH_GRP.OFF g)) 31 = true) (hv : bit new 31 = false) :
    s.grpWrite a g v = (s.setWord (Reg.LCH_GRP.OFF g) new).grpClear g := by
  subst hnew
  have hq : s.quiesced (bits (s.word (Reg.LCH_GRP.OFF g)) 5 0) = true := hq.resolve_left (by simp [hold])
  simp only [State.grpWrite, hq, hold, hv, Bool.not_true, Bool.and_false, Bool.not_false, Bool.and_self, Bool.false_eq_true, if_false, if_true]

/-- A latch group's command is the MMIO write of its word. -/
theorem State.lchGrpWrite_answers {u : State} {v : Word} (hclk : s.clocked = true) (hlo : Pg.LCH ≤ o)
    (hin : ((arrIdx (Reg.LCH_GRP.OFF 0) 4 256 o).isSome || (arrIdx (Reg.LCH_GRP_SHARE.OFF 0) 4 512 o).isSome) = true)
    (hu : s.registerWrite .mmio o (leBytes 4 v.toNat) = u) : exec (.lchGrpWrite .mmio (o - Pg.LCH) v) s = .next (s.ended u) := by
  have hoff : Pg.LCH + (o - Pg.LCH) = o := by omega
  rw [exec_lchGrpWrite, execLchGrpWrite, hoff]
  exact State.event_answers hclk (by rw [if_pos hin, hu])

end

/-- Settles O37: a wait is found, the deadlock's conditions hold or do not, and each register takes its write. -/
theorem latchCommandsAct : Obligations.LatchCommandsAct := by
  intro s
  refine ⟨fun i k hact hk => ?timeout, fun hact hd => ?alive, fun u hact hd hu => ⟨fun hsnap => ?held, fun hsnap => ?taken⟩,
    fun a ho => ⟨?read, ?set⟩, fun a u ho hu => ?release, fun g v o new hg hgo hclk hs hr hmay hnew hq => ?group,
    fun g v o hg hgo hclk hs hr hmay hmay' => ?share⟩
  case timeout => exact State.live_answers (go := (·.waitTimeout i)) hact (by simp [State.waitTimeout, hk, State.answerPark, State.latch])
  case alive => exact State.live_answers (go := (·.deadlockTest)) hact (if_pos hd)
  case held =>
    subst hu
    exact State.live_answers (go := (·.deadlockTest)) hact (by simp only [State.deadlockTest, hd, hsnap, Bool.true_eq_false, if_false, if_true])
  case taken =>
    subst hu
    exact State.live_answers (go := (·.deadlockTest)) hact
      (by simp only [State.deadlockTest, hd, hsnap, Bool.true_eq_false, Bool.false_eq_true, if_false, List.length_map])
  case read => exact State.reg_answers ho rfl
  case set => exact State.reg_answers ho rfl
  case release =>
    subst hu
    exact State.reg_answers ho rfl
  case group =>
    subst hgo
    have hin : ((arrIdx (Reg.LCH_GRP.OFF 0) 4 256 (Reg.LCH_GRP.OFF g)).isSome || (arrIdx (Reg.LCH_GRP_SHARE.OFF 0) 4 512 (Reg.LCH_GRP.OFF g)).isSome) = true := by
      rw [show arrIdx (Reg.LCH_GRP.OFF 0) 4 256 (Reg.LCH_GRP.OFF g) = some g from arrIdx_at (by decide) hg]
      rfl
    have write {u : State} (hu : { s.grpWrite .mmio g v.toNat with mmio := s.mmio } = u) :
        exec (.lchGrpWrite .mmio (Reg.LCH_GRP.OFF g - Pg.LCH) v) s = .next (s.ended u) :=
      State.lchGrpWrite_answers hclk (by rw [grp_off, Pg.LCH]; omega) hin ((State.grp_write hg hs hr hmay).trans hu)
    refine ⟨fun h => write ?_, fun hold hv u hu => write ?_⟩
    · rw [State.grpWrite_kept hnew hq h]
      rfl
    · rw [State.grpWrite_cleared hnew hq hold hv, hu]
  case share =>
    subst hgo
    have hin (k : Nat) (hk : k < 2) : ((arrIdx (Reg.LCH_GRP.OFF 0) 4 256 (Reg.LCH_GRP_SHARE.OFF g + 4 * k)).isSome
        || (arrIdx (Reg.LCH_GRP_SHARE.OFF 0) 4 512 (Reg.LCH_GRP_SHARE.OFF g + 4 * k)).isSome) = true := by
      have hoff : Reg.LCH_GRP_SHARE.OFF g + 4 * k = Reg.LCH_GRP_SHARE.OFF 0 + 4 * (2 * g + k) := by
        rw [share_off, share_off]
        omega
      rw [hoff, arrIdx_at (base := Reg.LCH_GRP_SHARE.OFF 0) (by decide : 0 < 4) (by omega : 2 * g + k < 512), Option.isSome_some, Bool.or_true]
    have hlo : Pg.LCH ≤ Reg.LCH_GRP_SHARE.OFF g := by rw [share_off, Pg.LCH]; omega
    refine ⟨State.lchGrpWrite_answers hclk hlo (hin 0 (by decide)) (State.share_write_low hg hs hmay), fun low hst u hu => ?_⟩
    subst hu
    exact State.lchGrpWrite_answers hclk (by omega) (hin 1 (by decide)) (State.share_write_high hg hs hr hmay' hst)

end Sys2Proof.Machine
end

section
/-! Flit slots, flits that come in and replays (R289 to R305): what each leaves. -/

namespace Sys2Proof.Machine

open Sys2Proof

/-! ### Sending (R289, R298) -/

section

variable {s u v : State} {p : Nat} {l : Lnk}

/-- An event of a link port that the part has answers its effect. -/
theorem State.port_answers {go : State → State} (hact : s.active = true) (hp : s.part.hasPort p = true) (hu : go s = u) :
    (s.live fun w => w.portDo p go) = .next (s.ended u) := State.live_answers hact (by rw [State.portDo, if_pos hp, hu])

/-- Every sixteenth slot carries a control block. -/
theorem State.flitSlot_block (hp : s.part.hasPort p = true) (hl : l = s.lnk p) (hu : u = s.setLnk p { l with slot := l.slot + 1 })
    (hst : 2 ≤ s.portState p) (hslot : l.slot % 16 = 15) : s.flitSlot p = u.emit (.linkMsg p l.block) := by
  subst hl hu
  unfold State.flitSlot
  rw [if_neg (by simp [hp]; omega)]
  dsimp only
  rw [if_pos hslot]

/-- Another slot of an ACTIVE port carries a flit. -/
theorem State.flitSlot_active (hp : s.part.hasPort p = true) (hl : l = s.lnk p) (hu : u = s.setLnk p { l with slot := l.slot + 1 })
    (hst : s.portState p = 4) (hslot : l.slot % 16 ≠ 15) : s.flitSlot p = if l.askRetrain then u.sendIdle p else
      match l.rep with
      | some k => u.sendReplay p k
      | none => u.sendNew p := by
  subst hl hu
  unfold State.flitSlot
  rw [if_neg (by simp [hp, hst])]
  exact (if_neg hslot).trans (if_pos hst)

/-- Another slot of a retraining port that asks for the retrain carries an idle flit. -/
theorem State.flitSlot_retraining (hp : s.part.hasPort p = true) (hl : l = s.lnk p) (hu : u = s.setLnk p { l with slot := l.slot + 1 })
    (hst : s.portState p = 5) (hslot : l.slot % 16 ≠ 15) (hask : l.askRetrain = true) : s.flitSlot p = u.sendIdle p := by
  subst hl hu
  unfold State.flitSlot
  rw [if_neg (by simp [hp, hst])]
  dsimp only
  rw [if_neg hslot, if_neg (by omega), if_pos ⟨hst, hask⟩]

/-! ### Receiving (R295, R296, R303, R305) -/

variable {f : Flit} {t : Nat}

/-- A whole flit on an ACTIVE port is looked at. -/
theorem State.flit_not_ignored (hp : s.part.hasPort p = true) (hst : s.portState p = 4) (hlen : f.bytes.length = 256) :
    ¬(s.part.hasPort p = false ∨ s.portState p ≠ 4 ∨ f.bytes.length ≠ 256) := by simp [hp, hst, hlen]

theorem State.flitReceive_bad (hp : s.part.hasPort p = true) (hst : s.portState p = 4) (hlen : f.bytes.length = 256)
    (hd : flitDistance f.bytes (s.lnk p).e = none) :
    s.flitReceive p f = ((s.bump (Reg.SWP_BAD_FLIT_CNT.OFF p)).askReplay p, []) := by
  unfold State.flitReceive
  rw [if_neg (State.flit_not_ignored hp hst hlen)]
  dsimp only
  rw [hd]

theorem State.flitReceive_ahead {d : Nat} (hp : s.part.hasPort p = true) (hst : s.portState p = 4) (hlen : f.bytes.length = 256)
    (hd : flitDistance f.bytes (s.lnk p).e = some d) (hlo : 1 ≤ d) (hhi : d < 512) :
    s.flitReceive p f = ((s.bump (Reg.SWP_DISCARD_CNT.OFF p)).askReplay p, []) := by
  unfold State.flitReceive
  rw [if_neg (State.flit_not_ignored hp hst hlen)]
  dsimp only
  rw [hd]
  dsimp only
  rw [if_neg (by omega), if_pos hhi]

theorem State.flitReceive_duplicate {d : Nat} (hp : s.part.hasPort p = true) (hst : s.portState p = 4) (hlen : f.bytes.length = 256)
    (hd : flitDistance f.bytes (s.lnk p).e = some d) (hlo : 512 ≤ d) :
    s.flitReceive p f = (s.bump (Reg.SWP_DUP_CNT.OFF p), []) := by
  unfold State.flitReceive
  rw [if_neg (State.flit_not_ignored hp hst hlen)]
  dsimp only
  rw [hd]
  dsimp only
  rw [if_neg (by omega), if_neg (by omega)]

/-- The flit expected, idle: only its trailer is taken. -/
theorem State.flitReceive_idle (hp : s.part.hasPort p = true) (hl : l = s.lnk p) (hst : s.portState p = 4) (hlen : f.bytes.length = 256)
    (hd : flitDistance f.bytes l.e = some 0) (ht : t = leNat (slice f.bytes 240 8)) (hidle : bit t 37 = true)
    (hu : u = (s.setLnk p { l with askReplay := false }).bump (Reg.SWP_RX_FLIT_CNT.OFF p)) (hus : u.portState p = 4) :
    s.flitReceive p f = (u.takeTrailer p t, []) := by
  subst hl
  unfold State.flitReceive
  rw [if_neg (State.flit_not_ignored hp hst hlen)]
  dsimp only
  rw [hd]
  dsimp only
  rw [if_pos rfl, ← ht, hidle]
  simp only [if_true]
  rw [← hu, if_pos (Or.inl hus)]

/-- The flit expected, with packets: its slots are taken, then its trailer. -/
theorem State.flitReceive_taken {pkts : List (Packet × Nat)} (hp : s.part.hasPort p = true) (hl : l = s.lnk p) (hst : s.portState p = 4)
    (hlen : f.bytes.length = 256) (hd : flitDistance f.bytes l.e = some 0) (ht : t = leNat (slice f.bytes 240 8)) (hidle : bit t 37 = false)
    (hu : u = (s.setLnk p { l with e := (l.e + 1) % 65536, askReplay := false }).bump (Reg.SWP_RX_FLIT_CNT.OFF p))
    (hv : (u.takePhase p (bit t 38) (bits t 53 39)).takeSlots p (bits t 53 39) f.bytes (List.range 15) = (v, pkts)) (hvs : v.portState p = 4) :
    s.flitReceive p f = (v.takeTrailer p t, pkts) := by
  subst hl
  unfold State.flitReceive
  rw [if_neg (State.flit_not_ignored hp hst hlen)]
  dsimp only
  rw [hd]
  dsimp only
  rw [if_pos rfl, ← ht, hidle]
  simp only [Bool.false_eq_true, if_false]
  rw [← hu, hv, if_pos (Or.inl hvs)]

end

/-- Settles O38: the slot's turn and the port's state say what is sent, the flit's distance what comes in. -/
theorem flitCommandsAct : Obligations.FlitCommandsAct := by
  intro s p hact hp l hl
  refine ⟨fun u hu => ?slot, fun f hst hlen => ?flit, fun f rest hst hb => ?replay⟩
  case slot =>
    have slot {v : State} (hv : s.flitSlot p = v) : exec (.flitSlot p) s = .next (s.ended v) := State.port_answers (go := (·.flitSlot p)) hact hp hv
    refine ⟨fun hst ht => slot (State.flitSlot_block hp hl hu hst ht), fun hst ht ha => slot ?_, fun hst ht ha hr => slot ?_,
      fun k hst ht ha hr => slot ?_, fun hst ht ha => slot (State.flitSlot_retraining hp hl hu hst ht ha)⟩
    · rw [State.flitSlot_active hp hl hu hst ht, if_pos ha]
    · rw [State.flitSlot_active hp hl hu hst ht, if_neg (by simp [ha]), hr]
    · rw [State.flitSlot_active hp hl hu hst ht, if_neg (by simp [ha]), hr]
  case flit =>
    have comes {v : State} {pkts : List (Packet × Nat)} (hv : s.flitReceive p f = (v, pkts)) :
        exec (.flitReceive p f) s = .next (s.ended (v.packetsIn p pkts)) :=
      State.live_answers (go := (·.flitIn p f)) hact (by rw [State.flitIn, if_pos hp, hv])
    refine ⟨fun hd => ?_, fun d hd hlo hhi => ?_, fun d hd hlo => ?_, fun t u hd ht hi hu hus => ?_,
      fun t u v pkts hd ht hi hu hv hvs => comes (State.flitReceive_taken hp hl hst hlen hd ht hi hu hv hvs)⟩
    · exact comes (State.flitReceive_bad hp hst hlen (hl ▸ hd))
    · exact comes (State.flitReceive_ahead hp hst hlen (hl ▸ hd) hlo hhi)
    · exact comes (State.flitReceive_duplicate hp hst hlen (hl ▸ hd) hlo)
    · exact comes (State.flitReceive_idle hp hl hst hlen hd ht hi hu hus)
  case replay =>
    subst hl
    exact State.port_answers (go := (·.replayTimeout p)) hact hp (by rw [State.replayTimeout, if_neg (by simp [hst]), hb])

end Sys2Proof.Machine
end

section
/-! Messages of link control blocks (R309 to R320, R466 to R468): what each leaves. -/

namespace Sys2Proof.Machine

open Sys2Proof

section

variable {s u v w x : State} {p : Nat} {b : List Byte}

/-! ### HELLO, IDENTITY and the shares of a bring-up (R320, R466) -/

theorem State.helloMsg_training (hst : s.portState p = 2) : s.helloMsg p b = (s.setLnk p { s.lnk p with
    hello := slice b 0 32, peerNonce := leNat (slice b 8 8)
    limit := (List.range 8).map fun v => (v, leNat (slice b (16 + 2 * v) 2)) }).enterAuth p := if_neg (by simp [hst])

section

variable {i n total : Nat} {pieces : List (Nat × List Byte)}

/-- A piece of an IDENTITY out of its bounds fails the authentication. -/
theorem State.identityMsg_refused (hst : s.portState p = 3) (hn : n = (byteAt b 1).toNat)
    (h : n ≤ (byteAt b 0).toNat ∨ 16 < n ∨ 3616 < leNat (slice b 2 2)) : s.identityMsg p b = s.authFail p := by
  subst hn
  unfold State.identityMsg
  rw [if_neg (by simp [hst])]
  exact if_pos (by omega)

/-- A piece of an IDENTITY is kept until the chain is whole, then the chain is judged. -/
theorem State.identityMsg_piece (hst : s.portState p = 3) (hi : i = (byteAt b 0).toNat) (hn : n = (byteAt b 1).toNat) (ht : total = leNat (slice b 2 2))
    (hin : i < n) (hn16 : n ≤ 16) (htotal : total ≤ 3616) (hp : pieces = SMap.set (fun _ => []) (s.lnk p).pieces i (slice b 6 226)) :
    s.identityMsg p b = if pieces.length < n then s.setLnk p { s.lnk p with pieces := pieces }
      else if s.rootAccepted ((pieces.flatMap (·.2)).take total) false then
        s.setLnk p { s.lnk p with pieces := pieces, chain := some ((pieces.flatMap (·.2)).take total) }
      else s.authFail p := by
  unfold State.identityMsg
  rw [if_neg (by simp [hst])]
  dsimp only
  rw [← hi, ← hn, ← ht, if_neg (by omega), ← hp]

end

theorem State.shareMsg_good (hst : s.portState p = 3) (hv : v = s.setLnk p { s.lnk p with peerShare := slice b 0 100 })
    (h : s.shareGood p false 0 b = true) : s.shareMsg p b = v.setLnk p ((v.lnk p).say 4 (v.confirmation p 0)) := by
  subst hv
  unfold State.shareMsg
  rw [if_neg (by simp [hst]), if_neg (by simp [h])]

theorem State.shareMsg_bad (hst : s.portState p = 3) (h : s.shareGood p false 0 b = false) : s.shareMsg p b = s.authFail p := by
  unfold State.shareMsg
  rw [if_neg (by simp [hst]), if_pos h]

/-- What a confirmation leaves, as it holds or not (R320). -/
theorem State.confirmMsg_checked (hst : s.portState p = 3)
    (hv : v = s.setLnk p { s.lnk p with txKey := (s.linkKeys p 0).1, rxKey := (s.linkKeys p 0).2.1, priv := 0, slow := false })
    (hw : w = (v.setF (Reg.SWP_STAT.STATE p) 4).setFlag (Reg.SWP_STAT.KEY_PHASE p) false)
    (hgood : (s.lnk p).peerShare ≠ [] → slice b 0 64 = s.confirmation p 0 → x = (w.bump Reg.KPR_AUTH_CNT.OFF).linkEvt p 1)
    (hbad : (s.lnk p).peerShare = [] ∨ slice b 0 64 ≠ s.confirmation p 0 → x = s.authFail p) : s.confirmMsg p b = x := by
  unfold State.confirmMsg
  rw [if_neg (by simp [hst])]
  by_cases h : (s.lnk p).peerShare = [] ∨ slice b 0 64 ≠ s.confirmation p 0
  · rw [if_pos (by simpa using h), hbad h]
  · rw [if_neg (by simpa using h)]
    rw [not_or, not_not] at h
    rw [hgood h.1 h.2, hw, hv]

/-! ### Rekeys (R317, R467) -/

/-- What the share of a rekey leaves, as it holds or not, and as the random source is well or not. -/
theorem State.rekeyShareMsg_checked {n : Nat} (hup : s.linkUp p = true) (hn : n = (s.lnk p).rekeyN + 1)
    (hv : v = if (s.lnk p).rekey then s else s.rekeyStart p) (hw : w = v.setLnk p { v.lnk p with peerShare := slice b 0 100 })
    (hgood : s.shareGood p true n b = true → v.flag Reg.KPR_STAT.RNG_OK = true →
      x = w.setLnk p ({ w.lnk p with newRx := some (w.linkKeys p n).2.1 }.say 7 (w.confirmation p n)))
    (hrng : s.shareGood p true n b = true → v.flag Reg.KPR_STAT.RNG_OK = false → x = v)
    (hbad : s.shareGood p true n b = false → x = s.rekeyFail p) : s.rekeyShareMsg p b = x := by
  unfold State.rekeyShareMsg
  rw [if_neg (by simp [hup])]
  dsimp only
  rw [← hn, ← hv]
  cases hg : s.shareGood p true n b
  case false => exact (hbad hg).symm
  case true =>
    rw [if_neg (by simp)]
    cases hr : v.flag Reg.KPR_STAT.RNG_OK
    case false => exact (hrng hg hr).symm
    case true => rw [if_neg (by simp), hgood hg hr, hw]

/-- What the confirmation of a rekey leaves, as it holds or not. -/
theorem State.rekeyConfirmMsg_checked {l : Lnk} {n : Nat} (hup : s.linkUp p = true) (hl : l = s.lnk p) (hr : l.rekey = true) (hn : n = l.rekeyN + 1)
    (hgood : l.peerShare ≠ [] → slice b 0 64 = s.confirmation p n → x = (s.setLnk p { l with
      newTx := some (s.linkKeys p n).1, rekey := false, rekeyN := n, priv := 0 }).bump (Reg.SWP_REKEY_CNT.OFF p))
    (hbad : l.peerShare = [] ∨ slice b 0 64 ≠ s.confirmation p n → x = s.rekeyFail p) : s.rekeyConfirmMsg p b = x := by
  unfold State.rekeyConfirmMsg
  dsimp only
  rw [← hl, ← hn, if_neg (by simp [hup, hr])]
  by_cases h : l.peerShare = [] ∨ slice b 0 64 ≠ s.confirmation p n
  · rw [if_pos (by simpa using h), hbad h]
  · rw [if_neg (by simpa using h)]
    rw [not_or, not_not] at h
    rw [hgood h.1 h.2]

/-! ### RETRAIN (R312, R313) -/

/-- The cases of a RETRAIN: what it meets, then whose target holds. -/
theorem State.retrainMsg_cases (m n : Lnk) (t node nonce : Nat) (hv : v = s.retrainStart p false false) (hm : m = v.lnk p)
    (ht : t = (byteAt b 0).toNat % 16) (hnode : node = leNat (slice b 2 2)) (hnonce : nonce = leNat (slice b 8 8))
    (hn : n = { m with peerE := some (leNat (slice b 4 2)), peerNonce := nonce }) :
    s.retrainMsg p b = if v.portState p ≠ 5 then v
      else if bit (byteAt b 0).toNat 4 then v.setLnk p n
      else if m.own = false ∨ m.msgs.all (fun y => y.1 != 5) then v.setLnk p { n with target := meetTarget m.target t }
      else if node = s.ownId ∧ nonce = m.nonce then (v.setLnk p n).sayRetrain p
      else if node < s.ownId ∨ (node = s.ownId ∧ nonce < m.nonce) then (v.setLnk p { n with follow := true, target := t }).sayRetrain p
      else v.setLnk p n := by
  subst hn hm hv
  unfold State.retrainMsg
  dsimp only
  rw [← ht, ← hnode, ← hnonce]

end

/-- Settles O39: the block is taken as new, and its message meets the port's state. -/
theorem linkMessagesAct : Obligations.LinkMessagesAct := by
  intro s p f b hact hp h2 hok hb k l u hk hl hseq hu
  have hstate : u.portState p = s.portState p := by
    subst hu
    rfl
  have hlink : u.linkUp p = s.linkUp p := by
    subst hu
    rfl
  have taken {ty : Nat} {go : State → Nat → List Byte → State} {x : State} (ht : lcbType f.bytes = ty) (h0 : ty ≠ 0) (hx : go u p b = x) :
      (s.live fun w => w.lcbIn p f ty go) = .next (s.ended x) :=
    State.live_answers hact (by rw [lcbIn_new s p f ty go k l u hp h2 hok hk hl hseq hu ht h0, ← hb, hx])
  refine ⟨fun ht hst => ?hello, fun i n total pieces ht hst hi hn htotal hin hn16 hle hpieces => ?identity, fun n ht hst hn h => ?refused,
    fun v w ht hst hv hgood hbad => ?share, fun v w x ht hst hv hw hgood hbad => ?confirm,
    fun v m n t node nonce ht hv hm htgt hnode hnonce hn => ?retrain, fun v w x n ht hup hn hv hw hgood hrng hbad => ?rekey,
    fun v n x ht hup hv hr hn hgood hbad => ?rekeyConfirm, fun ht => ?plain, fun ht => ?reserved⟩
  case hello => exact taken ht (by decide) (State.helloMsg_training (hstate.trans hst))
  case identity =>
    have hpiece := State.identityMsg_piece (hstate.trans hst) hi hn htotal hin hn16 hle hpieces
    refine ⟨fun hlen => taken ht (by decide) (hpiece.trans (if_pos hlen)), fun chain w hchain hlen hgood hbad => taken ht (by decide) ?_⟩
    rw [hpiece, if_neg (Nat.not_lt.2 hlen), ← hchain]
    cases hroot : u.rootAccepted chain false
    case true => rw [if_pos rfl, hgood hroot]
    case false => rw [if_neg (by simp), hbad hroot]
  case refused => exact taken ht (by decide) (State.identityMsg_refused (hstate.trans hst) hn h)
  case share =>
    refine taken ht (by decide) ?_
    cases hg : u.shareGood p false 0 b
    case true => rw [State.shareMsg_good (hstate.trans hst) hv hg, hgood hg]
    case false => rw [State.shareMsg_bad (hstate.trans hst) hg, hbad hg]
  case confirm => exact taken ht (by decide) (State.confirmMsg_checked (hstate.trans hst) hv hw hgood hbad)
  case retrain =>
    have hcases := State.retrainMsg_cases m n t node nonce hv hm htgt hnode hnonce hn
    have retrains {x : State} (hx : u.retrainMsg p b = x) : exec (.retrain p f) s = .next (s.ended x) := taken ht (by decide) hx
    refine ⟨fun hst => retrains (by rw [hcases, if_pos hst]), fun hst => ?_⟩
    rw [if_neg (by simp [hst])] at hcases
    refine ⟨fun hf => retrains (by rw [hcases, if_pos hf]), fun hf => ?_⟩
    rw [if_neg (by simp [hf])] at hcases
    refine ⟨fun hown => retrains (by rw [hcases, if_pos hown]), fun hown hall => ?_⟩
    rw [if_neg (by simp [hown, hall])] at hcases
    refine ⟨fun he hne => retrains (by rw [hcases, if_pos ⟨he, hne⟩]), fun hlow => retrains ?_, fun hhigh => retrains ?_⟩
    · rw [hcases, if_neg (by omega), if_pos hlow]
    · rw [hcases, if_neg (by omega), if_neg (by omega)]
  case rekey => exact taken ht (by decide) (State.rekeyShareMsg_checked (hlink.trans hup) hn hv hw hgood hrng hbad)
  case rekeyConfirm => exact taken ht (by decide) (State.rekeyConfirmMsg_checked (hlink.trans hup) hv hr hn hgood hbad)
  case plain =>
    refine State.live_answers (go := (·.lcbPlain p f)) hact ?_
    subst hk
    simp [State.lcbPlain, ht, State.takeBlock, hp, hok, Nat.not_lt.2 h2]
  case reserved =>
    have h0 : lcbType f.bytes ≠ 0 := by omega
    refine State.live_answers (go := (·.lcbPlain p f)) hact ?_
    subst hu hl hk
    rw [State.lcbPlain, if_neg (by omega)]
    simp [State.takeBlock, hp, hok, Nat.not_lt.2 h2, h0, hseq]

end Sys2Proof.Machine
end

section
/-! Port states (R309 to R321): what each event of a link port leaves. -/

namespace Sys2Proof.Machine

open Sys2Proof

section

variable {s u v x y z : State} {p : Nat} {l : Lnk}

/-! ### SWP_CTRL (R310, R321) -/

/-- A register command of a link port that the part has answers its effect. -/
theorem State.portReg_answers {a : Path} {o : Nat} {go : State → State} (hp : s.part.hasPort p = true) (ho : s.regOpen a o = true) (hu : go s = u) :
    (s.event fun w => w.portDo p fun t => t.regCmd a o go) = .next (s.ended u) :=
  State.event_answers (State.regOpen_clocked ho) (by rw [State.portDo, if_pos hp, State.regCmd_open ho, hu])

theorem State.swpCtrlWrite_eq {old n c : Nat} (hold : old = s.word (Reg.SWP_CTRL.OFF p)) (hn : n = swpKeep old c) :
    s.swpCtrlWrite p c = if bit c 7 || bits n 3 0 != bits old 3 0 then (s.regStore (Reg.SWP_CTRL.OFF p) n).retrainStart p true true
      else s.regStore (Reg.SWP_CTRL.OFF p) n := by
  subst hn hold
  rfl

/-! ### The end of a retrain (R300, R312, R313) -/

/-- The flit from which replay resumes. -/
theorem resumeAt_eq {k : Nat} (hheld : ∀ j, l.peerE = some j → (l.buf.any (fun f => f.1 == j) || j == l.next) = true → k = j)
    (hgone : ∀ j, l.peerE = some j → (l.buf.any (fun f => f.1 == j) || j == l.next) = false → k = (l.buf.headD (l.next, [])).1)
    (hnone : l.peerE = none → k = (l.buf.headD (l.next, [])).1) : l.resumeAt = k := by
  unfold Lnk.resumeAt
  cases he : l.peerE with
  | none => exact (hnone he).symm
  | some j =>
    dsimp only
    cases hb : l.buf.any (fun f => f.1 == j) || j == l.next
    case true => exact (hheld j he hb).symm
    case false => exact (hgone j he hb).symm

/-- A port whose retrain has ended, before the events of its end: ACTIVE at the width and speed, to replay what it keeps from flit k. -/
def State.retrained (s : State) (p w sp k : Nat) : State :=
  let l := s.lnk p
  let keep := l.buf.dropWhile fun f => f.1 != k
  let l1 := { l with
    buf := keep, acked := (k + 65535) % 65536, rep := (keep.head?).map (·.1), repK := k, cntK := k
    numK := if keep.isEmpty then 0 else if l.cntK = k ∧ l.numK ≠ 0 then l.numK + 1 else 1
    flying := l.flying.filter (fun f => keep.any fun b => b.1 == f), tries := 0, askRetrain := false, own := false
    follow := false, askReplay := false, chained := false }
  let s1 := (((s.setLnk p l1).setF (Reg.SWP_STAT.STATE p) 4).setF (Reg.SWP_STAT.WIDTH p) w).setF (Reg.SWP_STAT.SPEED p) sp
  let s2 := (s1.setFlag (Reg.SWP_STAT.WIDTH_REDUCED p) (decide (l.target % 4 < w))).bump (Reg.SWP_RETRAIN_CNT.OFF p)
  (if keep.isEmpty then s2 else s2.bump (Reg.SWP_REPLAY_CNT.OFF p)).linkEvt p 3

/-- What the lanes came to, told: narrower than the target, as before, or changed. -/
def State.retrainTold (s y : State) (p w sp : Nat) : State :=
  if (s.lnk p).target % 4 < w then ((y.linkFault p 0 0x0802).linkEvt p 4).linkFault p 0 0x0803
  else if (s.lnk p).chained = true ∨ w = s.f (Reg.SWP_STAT.WIDTH p) ∧ sp = s.f (Reg.SWP_STAT.SPEED p) then y.linkFault p 0 0x0802
  else y

/-- A retrain that was asked for again starts once more. -/
theorem State.retrainDone_ends {w sp : Nat} (hst : s.portState p = 5) (hsp : sp = (s.lnk p).target / 4) (hw : (s.lnk p).target % 4 ≤ w)
    (hz : z = s.retrainTold (s.retrained p w sp (s.lnk p).resumeAt) p w sp) :
    s.retrainDone p w sp = if (s.lnk p).again then
      (z.retrainStart p true false).setLnk p { (z.retrainStart p true false).lnk p with chained := true } else z := by
  unfold State.retrainDone
  dsimp only
  rw [if_neg (by simp [hst, hsp]; omega)]
  by_cases hr : (s.lnk p).target % 4 < w
  · simp only [State.retrainTold, hr, if_true] at hz
    subst hz
    simp only [hr, decide_true, Bool.not_true, Bool.false_and, Bool.false_eq_true, if_false, if_true, State.retrained]
  · simp only [State.retrainTold, hr, if_false] at hz
    by_cases hc : (s.lnk p).chained = true ∨ w = s.f (Reg.SWP_STAT.WIDTH p) ∧ sp = s.f (Reg.SWP_STAT.SPEED p)
    · have hsame : (!(s.lnk p).chained && (w != s.f (Reg.SWP_STAT.WIDTH p) || sp != s.f (Reg.SWP_STAT.SPEED p))) = false := by
        obtain h | ⟨h, h'⟩ := hc
        · simp [h]
        · simp [h, h']
      rw [if_pos hc] at hz
      subst hz
      simp only [hr, decide_false, Bool.not_false, Bool.true_and, hsame, Bool.false_eq_true, if_false, State.retrained]
    · have hnew : (!(s.lnk p).chained && (w != s.f (Reg.SWP_STAT.WIDTH p) || sp != s.f (Reg.SWP_STAT.SPEED p))) = true := by
        rw [not_or, not_and_or] at hc
        simpa using hc
      rw [if_neg hc] at hz
      subst hz
      simp only [hr, decide_false, Bool.not_false, Bool.true_and, hnew, Bool.false_eq_true, if_false, if_true, State.retrained]

/-- Lanes that come to anything else have not completed the retrain. -/
theorem State.retrainDone_not {w sp : Nat} (h : s.portState p ≠ 5 ∨ sp ≠ (s.lnk p).target / 4 ∨ w < (s.lnk p).target % 4) : s.retrainDone p w sp = s := by
  unfold State.retrainDone
  exact if_pos h

/-! ### Bring-up and rekeys (R309, R317, R319, R320) -/

theorem State.bringup_down {n : Nat} {alloc : List Nat} {h : List Byte} (hp : s.part.hasPort p = true) (hst : s.portState p = 1)
    (hn : s.fresh (2 ^ 64) = (n, u)) (ha : alloc = (List.range 8).map fun v => if v = 7 then 0 else s.f (Reg.SWP_VCBUF.UNITS p v))
    (hh : h = s.helloBody p n alloc) :
    s.bringup p = (u.setLnk p ({ Lnk.none with nonce := n, alloc := alloc, mine := h }.say 1 h)).setF (Reg.SWP_STAT.STATE p) 2 := by
  unfold State.bringup
  rw [if_neg (by simp [hp, hst]), hn, ← ha]
  dsimp only
  rw [← hh]

theorem State.rekeyStart_up (hup : s.linkUp p = true) (hu : u = s.setLnk p { s.lnk p with rekey := true, peerShare := [], newRx := none }) :
    s.rekeyStart p = if s.flag Reg.KPR_STAT.RNG_OK then u.sayShare p true ((s.lnk p).rekeyN + 1) else u := by
  subst hu
  unfold State.rekeyStart
  exact if_neg (by simp [hup])

end

/-- Settles O40: each event meets the port's state. -/
theorem linkEventsAct : Obligations.LinkEventsAct := by
  intro s p hp
  refine ⟨fun a v old x ho hold hx => ?control, fun hact => ⟨
    fun w sp l k keep n u v x y z hst hl hsp hw hheld hgone hnone hkeep hn hu hv hx hy hy' hz1 hz2 hz3 => ?done,
    fun w sp h => ?notDone, fun hst ht => ?retry, fun hst ht => ?down, fun n u alloc h hst hn ha hh => ?bringup, fun w sp u hst hu => ?lanes,
    fun hst ht => ?training, fun hst => ?auth, fun u hup hu => ?rekey, fun hr => ?late⟩⟩
  case control =>
    have write {u : State} (hu : s.swpCtrlWrite p v.toNat = u) : exec (.swpRetrainWrite a p v) s = .next (s.ended u) :=
      State.portReg_answers (go := (·.swpCtrlWrite p v.toNat)) hp ho hu
    refine ⟨fun h => write ?_, fun h he => write ?_⟩
    · rw [State.swpCtrlWrite_eq hold hx]
      exact if_pos (by simpa using h)
    · rw [State.swpCtrlWrite_eq hold hx]
      exact if_neg (by simp [h, he])
  case done =>
    have hk : (s.lnk p).resumeAt = k := hl ▸ resumeAt_eq hheld hgone hnone
    have hy : y = s.retrained p w sp k := by
      have hyx : y = (if keep.isEmpty then x else x.bump (Reg.SWP_REPLAY_CNT.OFF p)).linkEvt p 3 := by
        by_cases he : keep = []
        · rw [hy he, he]
          rfl
        · rw [hy' he, if_neg (by simp [he])]
      unfold State.retrained
      dsimp only
      rw [← hl, ← hkeep, ← hn, ← hu, ← hv, ← hx, hyx]
    have hz : z = s.retrainTold y p w sp := by
      unfold State.retrainTold
      rw [← hl]
      by_cases hr : l.target % 4 < w
      · rw [if_pos hr, hz1 hr]
      · have hwt : w = l.target % 4 := by omega
        rw [if_neg hr]
        by_cases hc : l.chained = true ∨ w = s.f (Reg.SWP_STAT.WIDTH p) ∧ sp = s.f (Reg.SWP_STAT.SPEED p)
        · rw [if_pos hc, hz2 hwt hc]
        · rw [if_neg hc]
          rw [not_or, not_and_or, Bool.not_eq_true] at hc
          exact hz3 hwt hc.1 hc.2
    have hends := State.retrainDone_ends (z := z) hst (hl ▸ hsp) (hl ▸ hw) (by rw [hk, ← hy, hz])
    rw [← hl] at hends
    have done {q : State} (hq : s.retrainDone p w sp = q) : exec (.retrainComplete p w sp) s = .next (s.ended q) :=
      State.port_answers (go := (·.retrainDone p w sp)) hact hp hq
    exact ⟨fun ha => done (hends.trans (if_neg (by simp [ha]))), fun ha => done (hends.trans (if_pos ha))⟩
  case notDone => exact State.port_answers (go := (·.retrainDone p w sp)) hact hp (State.retrainDone_not h)
  case retry => exact State.port_answers (go := (·.retrainFail p)) hact hp (by rw [State.retrainFail, if_neg (by simp [hst])]; exact if_pos ht)
  case down => exact State.port_answers (go := (·.retrainFail p)) hact hp (by rw [State.retrainFail, if_neg (by simp [hst])]; exact if_neg (by omega))
  case bringup => exact State.port_answers (go := (·.bringup p)) hact hp (State.bringup_down hp hst hn ha hh)
  case lanes =>
    subst hu
    exact State.port_answers (go := (·.lanesTrained p w sp)) hact hp (if_neg (by simp [hst]))
  case training => exact State.port_answers hact hp (if_pos ⟨hst, by simp [ht]⟩)
  case auth => exact State.port_answers hact hp (if_pos hst)
  case rekey =>
    have start {q : State} (hq : s.rekeyStart p = q) : exec (.rekeyStart p) s = .next (s.ended q) :=
      State.port_answers (go := (·.rekeyStart p)) hact hp hq
    exact ⟨fun hr => start ((State.rekeyStart_up hup hu).trans (if_pos hr)), fun hr => start ((State.rekeyStart_up hup hu).trans (if_neg (by simp [hr])))⟩
  case late => exact State.port_answers (go := (·.rekeyLate p)) hact hp (if_pos hr)

end Sys2Proof.Machine
end

section
/-! HPS_CTRL and the timers of a hinge pair (R398 to R427): what each leaves. -/

namespace Sys2Proof.Machine

open Sys2Proof

section

variable {s u v w x : State}

/-! ### HPS_CTRL (R398, R419, R427) -/

theorem State.switchWrite_active (a : Path) (hst : s.hpsState = 2) (h : s.hps.switching = 0) :
    s.switchWrite a = { s with hps := { s.hps with switching := 1 } } := by
  simp only [State.switchWrite, hst, h, ne_eq, not_true_eq_false, if_false, if_true, State.switchStart]

theorem State.switchWrite_switching (a : Path) (hst : s.hpsState = 2) (h : s.hps.switching ≠ 0) : s.switchWrite a = s := by
  simp only [State.switchWrite, hst, h, ne_eq, not_true_eq_false, if_false]

theorem State.switchWrite_refused (a : Path) (hst : s.hpsState ≠ 2) : s.switchWrite a = s.hpsReject a Reg.HPS_CTRL.OFF := if_pos hst

/-- The settings of HPS_CTRL before a member joins or leaves its pair. -/
def State.pairSet (s : State) (n : Nat) : State :=
  ((s.setF Reg.HPS_CTRL.DUAL (bits n 1 1)).setF Reg.HPS_CTRL.AUTO_SWITCH (bits n 2 2)).setF Reg.HPS_CTRL.WITNESS_EN (bits n 4 4)

/-- The member has what a pair needs: its ID, the pair's, its partner and its witness. -/
def State.pairable (s : State) : Bool :=
  s.hasId && s.f Reg.RTB_NODE.PAIR_ID != 0xFFF && s.f Reg.HPS_PARTNER.PARTNER != 0xFFF && s.f Reg.HPS_PARTNER.WITNESS != 0xFFF

theorem State.hpsCtrlWrite_refused {a : Path} {n : Nat} (hon : s.flag Reg.HPS_CTRL.PAIR_EN = false) (hn : bit n 0 = true) (hok : s.pairable = false) :
    s.hpsCtrlWrite a n = s.hpsReject a Reg.HPS_CTRL.OFF := by
  unfold State.pairable at hok
  simp only [State.hpsCtrlWrite, hon, hn, hok, Bool.not_false, Bool.and_self, if_true]

/-- A member joins its pair, leaves it or stays, and what its settings give holds then. -/
theorem State.hpsCtrlWrite_taken {a : Path} {n : Nat} (hu : u = s.pairSet n)
    (hjoin : s.flag Reg.HPS_CTRL.PAIR_EN = false → bit n 0 = true → u.hpsState ≠ 8 →
      w = ((u.setFlag Reg.HPS_CTRL.PAIR_EN true).setHpsState 1).leaseSend false)
    (hout : s.flag Reg.HPS_CTRL.PAIR_EN = false → bit n 0 = true → u.hpsState = 8 → w = u.setFlag Reg.HPS_CTRL.PAIR_EN true)
    (hleave : s.flag Reg.HPS_CTRL.PAIR_EN = true → bit n 0 = false → w = u.pairLeave)
    (hstay : s.flag Reg.HPS_CTRL.PAIR_EN = bit n 0 → w = u)
    (hok : s.flag Reg.HPS_CTRL.PAIR_EN = true ∨ bit n 0 = false ∨ s.pairable = true) :
    s.hpsCtrlWrite a n = if bit n 3 then w.dualSet.switchWrite a else w.dualSet := by
  have htaken : (bit n 0 && !s.flag Reg.HPS_CTRL.PAIR_EN && !s.pairable) = false := by
    obtain h | h | h := hok <;> simp [h]
  have hw : w = if bit n 0 && !s.flag Reg.HPS_CTRL.PAIR_EN then u.pairJoin
      else if !bit n 0 && s.flag Reg.HPS_CTRL.PAIR_EN then u.pairLeave else u := by
    cases hon : s.flag Reg.HPS_CTRL.PAIR_EN <;> cases hn : bit n 0
    · exact hstay (hon.trans hn.symm)
    · by_cases h8 : u.hpsState = 8
      · simp [State.pairJoin, h8, hout hon hn h8]
      · simp [State.pairJoin, h8, hjoin hon hn h8]
    · simp [hleave hon hn]
    · exact hstay (hon.trans hn.symm)
  unfold State.pairable at htaken
  unfold State.pairSet at hu
  unfold State.hpsCtrlWrite
  dsimp only
  rw [if_neg (Bool.eq_false_iff.1 htaken), ← hu, ← hw]

end

/-- Settles O41: the write is refused, or taken by its bits and the member's state. -/
theorem hingeWritesAct : Obligations.HingeWritesAct := by
  intro s a ho
  refine ⟨fun v ok u w hok hu => ⟨fun hon hv hno => ?refused, fun hjoin hout hleave hstay htaken x hx => ?taken⟩, fun hst hsw => ?switch,
    fun hst hsw => ?switching, fun hst => ?notActive⟩
  case refused =>
    have hno : s.pairable = false := hok.symm.trans hno
    exact State.reg_answers ho (State.hpsCtrlWrite_refused hon hv hno)
  case taken =>
    have hok : s.flag Reg.HPS_CTRL.PAIR_EN = true ∨ bit v.toNat 0 = false ∨ s.pairable = true := htaken.imp_right (Or.imp_right (hok.symm.trans ·))
    have write {y : State} (hy : (if bit v.toNat 3 then w.dualSet.switchWrite a else w.dualSet) = y) :
        exec (.pairEnWrite a v) s = .next (s.ended y) :=
      State.reg_answers ho ((State.hpsCtrlWrite_taken hu hjoin hout hleave hstay hok).trans hy)
    subst hx
    refine ⟨fun h3 => write (if_neg (by simp [h3])), fun h3 hst hsw => write ?_, fun h3 hst hsw => write ?_, fun h3 hst => write ?_⟩
    · rw [if_pos h3, State.switchWrite_active a hst hsw]
    · rw [if_pos h3, State.switchWrite_switching a hst hsw]
    · rw [if_pos h3, State.switchWrite_refused a hst]
  case switch => exact State.reg_answers ho (State.switchWrite_active a hst hsw)
  case switching => exact State.reg_answers ho (State.switchWrite_switching a hst hsw)
  case notActive => exact State.reg_answers ho (State.switchWrite_refused a hst)

/-! ### The timers (R404 to R419) -/

section

variable {s u v w x : State}

/-- A request for the lease. -/
theorem State.leaseSend_joint (hu : u = { s with hps := { s.hps with reqAt := s.time, reqSince := s.hps.reqSince || s.hpsState == 4 } }) :
    s.leaseSend false = u.toWitness 5 0 := by
  subst hu
  rfl

theorem State.epochClose_journalling {e : Nat} {recs : List JRec} {fin : JRec} (hj : s.journalling = true) (he : e = s.epochNow)
    (hrecs : recs = s.hps.cur ++ s.seqRecs) (hfin : fin = JRec.epochEnd e recs.length)
    (hu : u = { s with hps := { s.hps with
      cur := [], seqTouched := [], spill := s.hps.spill ++ [(e, recs ++ [fin])]
      unsent := if s.journalSends then s.hps.unsent ++ (s.seqRecs ++ [fin]).map (fun r => (e, r)) else s.hps.unsent } }.setF
        Reg.HPS_EPOCH_NUM.EPOCH ((e + 1) % 2 ^ 48)) :
    s.epochClose = (u.trimSpill u.hps.spill.length).showSpill := by
  unfold State.epochClose
  rw [if_neg (by simp [hj])]
  dsimp only
  rw [← he, ← hrecs, ← hfin, ← hu]

/-- The loss of the lease. -/
theorem State.yieldLease_eq (hu : u = (((s.setLease false).stopServing.setHpsState 7).setFlag Reg.HPS_STAT.CONT false).setFlag Reg.HPS_STAT.IN_SYNC false)
    (hv : v = (u.dualSet.evt Pg.HPS 3).fault (mkRec 118 2 0x0C03)) : s.yieldLease = v := by
  subst hv hu
  rfl

/-- MISS BEATs in a row are missed: what it is for a standby, an active and others. -/
theorem State.partnerLost_missed (hp : s.paired = true) (hl : s.hps.lost = false)
    (hu : u = (s.setFlag Reg.HPS_STAT.PARTNER_UP false).addCnt Reg.HPS_HB_MISS_CNT.OFF (s.f Reg.HPS_TIMERS.MISS))
    (hv : v = ({ u with hps := { s.hps with lost := true } }.evt Pg.HPS 1).fault (mkRec 118 2 0x0C01)) :
    s.partnerLost = if s.hpsState = 4 then v.leaseSend false
      else if s.hpsState = 2 then
        ({ (v.setHpsState 3).outOfSync with hps := { v.hps with held := [], unsent := [], resync := none } }.leaseSend true).evt Pg.HPS 4
      else v := by
  subst hv hu
  unfold State.partnerLost
  exact if_neg (by simp [hp, hl])

theorem State.takeoverDone_taking (hst : s.hpsState = 6)
    (hu : u = if s.hps.spill.any (fun e => e.1 == s.epochNow) then s else s.setF Reg.HPS_EPOCH_NUM.EPOCH ((s.epochNow + 1) % 2 ^ 48))
    (hv : v = ((u.setLease true).setHpsState 3).setFlag Reg.HPS_STAT.IN_SYNC false)
    (hw : w = { v with hps := { v.hps with gapUntil := s.time + 10000000, loadUntil := s.time + 1000000, switching := 0 } })
    (hx : x = (((w.evt Pg.HPS 2).bump Reg.HPS_SWITCH_CNT.OFF).fault (mkRec 118 0 0x0C02)).pairStatus) :
    s.takeoverDone = ((x.dir.ents.filter fun e => e.2.pin && x.mirrored e.2.line).map (·.2.line)).foldl (fun acc l => acc.recall l .cleanup) x := by
  unfold State.takeoverDone
  rw [if_pos hst]
  dsimp only
  rw [← hu, ← hv, ← hw, ← hx]

theorem State.holdDrop_held {i port t : Nat} {p : Packet} (h : s.hps.hold[i]? = some (port, p, t))
    (hu : u = ({ s with hps := { s.hps with hold := s.hps.hold.eraseIdx i } }.holdFreed port p.vc).bump Reg.HPS_HOLD_DROP_CNT.OFF) :
    s.holdDrop i = if bit (u.f (Hdr.EVT_STAT Pg.HPS)) 7 then u else (u.evt Pg.HPS 7).fault { mkRec 118 0 0x0C07 with node := p.src } := by
  subst hu
  simp only [State.holdDrop, h]

theorem State.switchDrain_first (h : s.hps.switching = 1)
    (hu : u = (s.wrd.ops.filter fun o => (s.req? o.id).any fun r => s.toPair r.pkt).foldl (fun acc o => acc.abortWop o.id) s)
    (hv : v = u.abortParks (fun k => k.r.cxl.isNone && u.toPair k.r.pkt)) :
    s.switchDrain = { v with hps := { v.hps with switching := 2 } } := by
  unfold State.switchDrain
  rw [if_pos h]
  dsimp only
  rw [← hu, ← hv]

end

/-- Settles O42: each timer meets the member's state, or the entry it names. -/
theorem hingeTimersAct : Obligations.HingeTimersAct := by
  intro s hact
  refine ⟨fun hp hm => ?beat, fun e recs fin u hj he hr hf hu => ?epoch, fun u hp hu => ⟨fun hs => ?renew, fun hs => ?retry⟩,
    fun u v hp hs hu hv => ⟨fun hc hat ht => ?continued, fun hc h => ?expired, fun hc => ?lapsed⟩,
    fun u v hp hl hu hv => ⟨fun hst => ?standby, fun w hst hw => ?active, fun h4 h2 => ?other⟩,
    fun u v w x hst hu hv hw hx => ?takeover, ?window, fun i port p t u hi hu => ⟨fun hb => ?noted, fun hb => ?drop⟩,
    fun n hn hp hs => ?status, fun u v hsw hu hv => ?drain, fun k hk => ⟨?witness, fun hh => ?held, fun w u hh hw hu =>
      ⟨fun hg => ?grant, fun hg => ?refuse⟩⟩⟩
  case beat => exact State.live_answers (go := (·.beatSend)) hact (by simp only [State.beatSend, hp, hm, Bool.not_false, Bool.and_self, if_true, State.beatOut])
  case epoch => exact State.live_answers (go := (·.epochClose)) hact (State.epochClose_journalling hj he hr hf hu)
  case renew => exact State.live_answers (go := (·.leaseRenew)) hact (by rw [State.leaseRenew, if_pos (by simp [hp, hs]), State.leaseSend_joint hu])
  case retry => exact State.live_answers (go := (·.joiningRetry)) hact (by rw [State.joiningRetry, if_pos (by simp [hp, hs]), State.leaseSend_joint hu])
  case continued => exact State.live_answers (go := (·.leaseExpiry)) hact (by simp [State.leaseExpiry, hp, hs, hc, hat, ht])
  case expired =>
    refine State.live_answers (go := (·.leaseExpiry)) hact ?_
    rw [State.leaseExpiry, if_pos (by simp [hp, hs, hc]), if_neg (by simp; omega), State.yieldLease_eq hu hv]
  case lapsed => exact State.live_answers (go := (·.contTimeout)) hact (by rw [State.contTimeout, if_pos (by simp [hp, hs, hc]), State.yieldLease_eq hu hv])
  case standby => exact State.live_answers (go := (·.partnerLost)) hact (by rw [State.partnerLost_missed hp hl hu hv, if_pos hst])
  case active =>
    subst hw
    exact State.live_answers (go := (·.partnerLost)) hact (by rw [State.partnerLost_missed hp hl hu hv, if_neg (by omega), if_pos hst])
  case other => exact State.live_answers (go := (·.partnerLost)) hact (by rw [State.partnerLost_missed hp hl hu hv, if_neg h4, if_neg h2])
  case takeover => exact State.live_answers (go := (·.takeoverDone)) hact (State.takeoverDone_taking hst hu hv hw hx)
  case window => exact State.live_answers (go := (·.takeoverWindowEnd)) hact rfl
  case noted => exact State.live_answers (go := (·.holdDrop i)) hact (by rw [State.holdDrop_held hi hu, if_pos hb])
  case drop => exact State.live_answers (go := (·.holdDrop i)) hact (by rw [State.holdDrop_held hi hu, if_neg (by simp [hb])])
  case status => exact State.live_answers (go := (·.pairStatus)) hact (by simp only [State.pairStatus, hn, hp, hs, Bool.and_self, if_true])
  case drain => exact State.live_answers (go := (·.switchDrain)) hact (State.switchDrain_first hsw hu hv)
  case witness => exact State.live_answers hact (if_pos hk)
  case held => exact State.live_answers hact (by rw [if_pos hk, State.witDue, if_pos hh])
  case grant => exact State.live_answers hact (by simp only [if_pos hk, State.witDue, hh, Bool.false_eq_true, if_false, State.witServe, hw, hg, if_true, hu])
  case refuse => exact State.live_answers hact (by simp only [if_pos hk, State.witDue, hh, Bool.false_eq_true, if_false, State.witServe, hw, hg, hu])

end Sys2Proof.Machine
end

section
/-! The Keeper's commands and what else reaches it (R464 to R482): what each leaves. -/

namespace Sys2Proof.Machine

open Sys2Proof

/-- What a Keeper command does, by its opcode and its argument (R482). -/
def State.kprDo (s : State) (a : Path) (op arg : Nat) : State :=
  match op with
  | 1 => s.kprValidate
  | 2 => s.kprAdvance
  | 3 => s.kprRevoke
  | 4 => s.kprRetire arg
  | 5 => s.kprRetireSub arg
  | 6 => s.kprAnchorSet arg
  | 7 => s.kprAnchorClear arg
  | 8 => s.kprChallenge
  | _ => s.kprReject a Reg.KPR_CMD.OFF

section

variable {s u : State} {a : Path}

/-- A command that the Keeper takes does what its opcode asks. -/
theorem State.kprCmdWrite_taken {op x : Nat} (hb : s.flag Reg.KPR_CMD_STAT.BUSY = false) (hop : op < 256) :
    s.kprCmdWrite a (op + x % 65536 * 2 ^ 8 + 2 ^ 31) = s.kprDo a op (x % 65536) := by
  obtain ⟨hcode, harg, hgo⟩ := kprBits op x hop
  unfold State.kprCmdWrite
  rw [hgo, if_neg (by decide), if_neg (by simp [hb]), hcode, harg]
  rfl

/-- A command of the Keeper answers its effect. -/
theorem State.kpr_answers {op x : Nat} (h : s.kprOpen a = true) (hop : op < 256) (hu : s.kprDo a op (x % 65536) = u) :
    s.kprOp a op x = .next (s.ended u) := by
  have hb : s.flag Reg.KPR_CMD_STAT.BUSY = false := by
    simp only [State.kprOpen, Bool.and_eq_true, Bool.not_eq_true'] at h
    exact h.2
  rw [kprOp_open s a op x h hop, State.kprCmdWrite_taken hb hop, hu]

/-- A token is tried: it acts, or its failure is counted and recorded (R480). -/
theorem State.tokenTry_eq {b : List Byte} (hgood : s.tokenResult b = 0 → u = s.newChallenge.tokenAct b)
    (hbad : s.tokenResult b ≠ 0 → u = ((s.newChallenge.bump Reg.KPR_TOKEN_FAIL_CNT.OFF).evt Pg.KPR 5).fault (mkRec 138 0 0x0E02)) :
    s.tokenTry b = (u, s.tokenResult b) := by
  unfold State.tokenTry
  by_cases h : s.tokenResult b = 0
  · rw [hgood h, h]
    exact if_pos rfl
  · rw [hbad h]
    exact if_neg h

/-- A revocation that is not valid, or whose signer cannot sign. -/
theorem State.kprRevoke_unsigned {slot signer : Nat} (hr : Config.revocation s.kprBuf = some (slot, signer))
    (h : 4 ≤ slot ∨ 4 ≤ signer ∨ bit (s.f Reg.KPR_SLOTS.REVOKED) signer = true) : s.kprRevoke = s.kprEnd 2 := by
  simp only [State.kprRevoke, hr]
  exact if_pos h

/-- A signed revocation is taken, but not of the slot that runs or of its own signer's (R464). -/
theorem State.kprRevoke_signed {slot signer : Nat} (hr : Config.revocation s.kprBuf = some (slot, signer)) (hslot : slot < 4) (hsigner : signer < 4)
    (hb : bit (s.f Reg.KPR_SLOTS.REVOKED) signer = false) :
    s.kprRevoke = if slot = s.f Reg.KPR_SLOTS.RUN_SLOT ∨ signer = slot then (s.fault (mkRec 138 0 0x0E07)).kprEnd 3
      else (s.setF Reg.KPR_SLOTS.REVOKED (putBit (s.f Reg.KPR_SLOTS.REVOKED) slot true)).kprEnd 0 := by
  have hsome (hne : signer ≠ slot) : ((List.range 4).all fun i => i == slot || bit (s.f Reg.KPR_SLOTS.REVOKED) i) = false :=
    List.all_eq_false.2 ⟨signer, List.mem_range.2 hsigner, by simp [hne, hb]⟩
  simp only [State.kprRevoke, hr]
  rw [if_neg (by simp [hb]; omega)]
  by_cases h : slot = s.f Reg.KPR_SLOTS.RUN_SLOT ∨ signer = slot
  · rw [if_pos h, if_pos (h.imp_right Or.inl)]
  · rw [if_neg h, if_neg]
    rw [not_or] at h
    simp [h.1, h.2, hsome h.2]

end

/-- Settles O43: the Keeper takes each command, and its test picks the RESULT. -/
theorem keeperCommandsAct : Obligations.KeeperCommandsAct := by
  intro s a h
  have command {op x : Nat} {u : State} (hop : op < 256) (hx : x < 65536) (hu : s.kprDo a op x = u) : s.kprOp a op x = .next (s.ended u) :=
    State.kpr_answers h hop (by rw [Nat.mod_eq_of_lt hx, hu])
  refine ⟨fun u hgood hbad => ?token, fun hst => ?advance, fun hst => ?held, fun x u hnone h2 h30 => ?revoke, fun x hx => ?retire, fun x hx hx' => ?retireNone,
    fun x hx => ?retireSub, fun x hx hx' => ?retireSubNone, fun x n u hx hn hlt hu => ?anchor, fun x n u hx hn hlt hu => ?clear,
    fun x hx hn => ⟨?noAnchor, ?noClear⟩, ?challenge⟩
  case token => exact command (by decide) (by decide) (by simp only [State.kprDo, State.kprValidate, State.tokenTry_eq hgood hbad])
  case advance => exact command (by decide) (by decide) (if_neg (by simp [State.stagingHeld, hst]))
  case held => exact command (by decide) (by decide) (if_pos (by simp [State.stagingHeld, hst]))
  case revoke =>
    suffices hu : s.kprRevoke = u by
      exact State.kpr_answers h (by decide) hu
    cases hr : Config.revocation s.kprBuf with
    | none =>
      rw [hnone hr]
      simp only [State.kprRevoke, hr]
    | some e =>
      obtain ⟨slot, signer⟩ := e
      by_cases hbad : 4 ≤ slot ∨ 4 ≤ signer ∨ bit (s.f Reg.KPR_SLOTS.REVOKED) signer = true
      · rw [State.kprRevoke_unsigned hr hbad, h2 slot signer hr hbad]
      · rw [not_or, not_or, Nat.not_le, Nat.not_le, Bool.not_eq_true] at hbad
        obtain ⟨hslot, hsigner, hb⟩ := hbad
        obtain ⟨h3, h0⟩ := h30 slot signer hr hslot hsigner hb
        rw [State.kprRevoke_signed hr hslot hsigner hb]
        by_cases hself : slot = s.f Reg.KPR_SLOTS.RUN_SLOT ∨ signer = slot
        · rw [if_pos hself, h3 hself]
        · rw [if_neg hself]
          rw [not_or] at hself
          rw [h0 hself.1 hself.2]
  case retire => exact command (by decide) (by omega) (if_neg (by omega))
  case retireNone => exact command (by decide) hx' (if_pos hx)
  case retireSub => exact command (by decide) (by omega) (if_neg (by omega))
  case retireSubNone => exact command (by decide) hx' (if_pos hx)
  case anchor =>
    subst hu hn
    exact command (by decide) hx (if_neg (by omega))
  case clear =>
    subst hu hn
    exact command (by decide) hx (if_neg (by omega))
  case noAnchor => exact command (by decide) hx (if_pos hn)
  case noClear => exact command (by decide) hx (if_pos hn)
  case challenge => exact command (by decide) (by decide) rfl

/-- Settles O44: a token is tried, a retirement found over, the random source's health noted. -/
theorem keeperEventsAct : Obligations.KeeperEventsAct := by
  intro s hclk
  refine ⟨fun b u n hup ht => ?token, fun c hact hc ho => ?retired, fun hr => ?fail, ?recover⟩
  case token => exact State.event_answers (go := (·.tokenIn b)) hclk (by rw [State.tokenIn, if_pos hup, ht])
  case retired => exact State.live_answers (go := (·.streamRetireDone c)) hact (by rw [State.streamRetireDone, hc, ho]; rfl)
  case fail => exact State.event_answers (go := (·.rngFail)) hclk (if_pos hr)
  case recover => exact State.event_answers (go := (·.rngRecover)) hclk rfl

end Sys2Proof.Machine
end

section
/-! SPDM requests (R458 to R474): what the Keeper answers, and what each request leaves. -/

namespace Sys2Proof.Machine

open Sys2Proof

section

variable {s u : State} {m : SpdmMsg} {x : Session}

/-- A request on a transport that the Keeper serves answers its effect. -/
theorem State.spdm_answers {eff go : State → State} (ho : s.spdmOpen m.via = true) (heff : eff s = s.spdm m go) (hu : go s = u) :
    s.event eff = .next (s.ended u) := by
  simp only [State.spdmOpen, Bool.and_eq_true] at ho
  exact State.event_answers ho.1 (by rw [heff, State.spdm, if_pos ho.2, hu])

/-- A request in a finished session on a transport that the Keeper serves answers its effect. -/
theorem State.session_answers {eff : State → State} {go : State → Session → State} (ho : s.spdmOpen m.via = true) (hx : s.sessionOf m = some x)
    (hup : x.up = true) (heff : eff s = s.spdmInSession m go) (hu : go s x = u) : s.event eff = .next (s.ended u) := by
  refine State.spdm_answers ho heff ?_
  simp only [hx, hup, if_true]
  exact hu

/-! ### Certificates and measurements (R458 to R460) -/

/-- A certificate of slot 0, from an offset within the chain or not. -/
theorem State.spdmCertificate_eq {chain : List Byte} {off n : Nat} (hchain : chain = Config.ownChain s.identity) (hoff : off = leNat (slice m.bytes 1 2))
    (hn : n = min (leNat (slice m.bytes 3 2)) (chain.length - off)) (hslot : byteAt m.bytes 0 = 0)
    (hin : off < chain.length → u = s.spdmSay m (.certificate (slice chain off n) (chain.length - off - n)))
    (hout : chain.length ≤ off → u = s.spdmSay m (.error 1)) : s.spdmCertificate m = s.spdm m fun _ => u := by
  unfold State.spdmCertificate State.spdm
  congr 1
  dsimp only
  rw [← hchain, ← hoff, ← hn]
  by_cases h : chain.length ≤ off
  · rw [if_pos (Or.inr h), hout h]
  · rw [if_neg (by simp [hslot]; omega), hin (by omega)]

/-- The measurements of an index, signed where a signature is asked for. -/
theorem State.spdmMeasurements_eq {i : Nat} {l : List (Nat × List Byte)} (hi : i = (byteAt m.bytes 0).toNat) (hall : i = 255 → l = s.measurements)
    (hone : i ≠ 255 → l = s.measurements.filter fun e => e.1 == i) :
    s.spdmMeasurements m = s.spdm m fun _ => if l = [] ∧ i ≠ 0 then s.spdmSay m (.error 1)
      else s.spdmSay m (.measurements l (if byteAt m.bytes 1 = 0 then [] else s.spdmSign m)) := by
  have hl : l = if i = 255 then s.measurements else s.measurements.filter fun e => e.1 == i := by
    by_cases h : i = 255
    · rw [if_pos h, hall h]
    · rw [if_neg h, hone h]
  unfold State.spdmMeasurements State.spdm
  congr 1
  dsimp only
  rw [← hi, ← hl]

/-! ### Sessions and streams (R461, R470, R471, R474) -/

/-- FINISH brings a session up, or ends it. -/
theorem State.spdmFinish_eq (hx : s.sessionOf m = some x)
    (hgood : Config.spdmVerify (x.secret ++ s.transcript m) m.chain = true → u = { s with kpr := { s.kpr with
      sessions := mapIf (fun y => y.id == x.id)
        (fun y => { y with up := true, streamOk := m.chain != [] && s.rootAccepted m.chain true }) s.kpr.sessions } }.spdmSay m .finish)
    (hbad : Config.spdmVerify (x.secret ++ s.transcript m) m.chain = false → u = { s with kpr := { s.kpr with
      sessions := s.kpr.sessions.filter fun y => y.id != x.id } }.spdmSay m (.error 6)) :
    s.spdmFinish m = s.spdm m fun _ => u := by
  unfold State.spdmFinish State.spdm
  congr 1
  dsimp only
  rw [hx]
  dsimp only
  cases h : Config.spdmVerify (x.secret ++ s.transcript m) m.chain
  case true => rw [if_neg (by simp), hgood h]
  case false => rw [if_pos (by simp), hbad h]

end

/-- Settles O45: the request is served, its session found, and its test picks the answer. -/
theorem spdmRequestsAct : Obligations.SpdmRequestsAct := by
  intro s m ho
  refine ⟨fun u hu => ?version, ?capabilities, ?algorithms, ?digests, fun chain off n u hchain hoff hn hslot hin hout => ?certificate, ?challenge,
    fun i l hi hall hone => ⟨fun h => ?measured, fun hl h0 => ?unmeasured⟩, fun hr => ?noRandom, fun hr hl => ?full, fun r u hr hl hf => ?exchange,
    fun x hx => ⟨fun u hgood hbad => ?finish, fun hup => ⟨?update, ?beat, ?ending, fun k base hst hk hbase u hu => ?setup, fun hst => ?noSetup,
      fun hok hb hc hany => ?retire⟩⟩⟩
  case version =>
    subst hu
    exact State.spdm_answers (eff := (·.spdmVersion m)) ho rfl rfl
  case capabilities => exact State.spdm_answers (eff := (·.spdmCapable m)) ho rfl rfl
  case algorithms => exact State.spdm_answers (eff := (·.spdmAlgorithms m)) ho rfl rfl
  case digests => exact State.spdm_answers (eff := (·.spdmDigests m)) ho rfl rfl
  case certificate => exact State.spdm_answers (eff := (·.spdmCertificate m)) ho (State.spdmCertificate_eq hchain hoff hn hslot hin hout) rfl
  case challenge => exact State.spdm_answers (eff := (·.spdmChallenge m)) ho rfl rfl
  case measured =>
    exact State.spdm_answers (eff := (·.spdmMeasurements m)) ho (State.spdmMeasurements_eq hi hall hone) (if_neg (by tauto))
  case unmeasured => exact State.spdm_answers (eff := (·.spdmMeasurements m)) ho (State.spdmMeasurements_eq hi hall hone) (if_pos ⟨hl, h0⟩)
  case noRandom => exact State.spdm_answers (eff := (·.spdmExchange m)) ho rfl (if_pos (by simp [hr]))
  case full => exact State.spdm_answers (eff := (·.spdmExchange m)) ho rfl (by rw [if_neg (by simp [hr]), if_pos hl])
  case exchange =>
    refine State.spdm_answers (eff := (·.spdmExchange m)) ho rfl ?_
    rw [if_neg (by simp [hr]), if_neg (by omega)]
    dsimp only
    rw [hf]
  case finish => exact State.spdm_answers (eff := (·.spdmFinish m)) ho (State.spdmFinish_eq hx hgood hbad) rfl
  case update => exact State.session_answers (eff := (·.spdmUpdate m)) ho hx hup rfl rfl
  case beat => exact State.session_answers (eff := (·.spdmBeat m)) ho hx hup rfl rfl
  case ending => exact State.session_answers (eff := (·.spdmEnd m)) ho hx hup rfl rfl
  case setup =>
    refine State.session_answers (eff := (·.streamSetup m)) ho hx hup rfl ?_
    dsimp only
    rw [if_neg (by simp [hst]), ← hk, ← hbase, ← hu]
  case noSetup => exact State.session_answers (eff := (·.streamSetup m)) ho hx hup rfl (if_pos hst)
  case retire =>
    refine State.session_answers (eff := (·.streamRetireReq m)) ho hx hup rfl ?_
    dsimp only
    rw [if_neg (by simp [hok, hb]), if_neg (by simp [hany]; omega)]

end Sys2Proof.Machine
end

section
/-! Mailbox commands (R514, R519 to R522): what each answers, and what each leaves. -/

namespace Sys2Proof.Machine

open Sys2Proof

section

variable {s u : State} {m : Mailbox} {op : Nat} {go : State → State}

/-- A mailbox command that the mailbox serves answers its effect. -/
theorem State.box_answers (ho : s.boxOpen m.ld op = true) (hu : go s = u) : s.onBox m op go = .next (s.ended u) := by
  rw [boxOpen_go s m m.ld op go rfl ho, hu]

/-- Mailboxes are served while the chip is READY. -/
theorem State.boxOpen_ready {b : Nat} (ho : s.boxOpen b op = true) : s.phase = .ready := by
  simp only [State.boxOpen, Bool.and_eq_true, beq_iff_eq] at ho
  exact ho.1.1.1.2

end

/-- Settles O46: the mailbox serves the command, whose answer is what the device holds. -/
theorem mailboxReadsAnswer : Obligations.MailboxReadsAnswer := by
  rintro s m b rfl
  refine ⟨fun ho => ?ldInfo, fun first n ho hf hlt hn => ?allocations, fun ho => ?qosControl, fun v u ho hv => ?qosStatus,
    fun ho hr => ?allocatedBw, fun ho hr => ?bwLimit, fun ho => ?identify, fun ho hbg => ?noBackground, fun v u ho hbg hv => ?background,
    fun l ho hk hl => ?events, fun ho => ?policy, fun ho => ?firmware, fun ho => ?timestamp, fun ho => ?logs, fun ho => ?log,
    fun c ho hc => ?memory, fun h ho hh => ?health, fun ho => ?alert⟩
  case ldInfo => exact State.box_answers (go := (·.boxLdInfo m.ld)) ho rfl
  case allocations =>
    subst hf hn
    exact State.box_answers (go := (·.boxGetAlloc m.ld m)) ho (if_neg (by omega))
  case qosControl => exact State.box_answers (go := (·.boxGetQos m.ld)) ho rfl
  case qosStatus => exact State.box_answers (go := (·.boxQosStatus m.ld)) ho (by rw [State.boxQosStatus, hv])
  case allocatedBw => exact State.box_answers (go := (·.boxBw m.ld 0x5406 m)) ho (if_neg (by omega))
  case bwLimit => exact State.box_answers (go := (·.boxBw m.ld 0x5408 m)) ho (if_neg (by omega))
  case identify => exact State.box_answers (go := (·.boxIdentify m.ld)) ho rfl
  case noBackground => exact State.box_answers (go := (·.boxBgStatus m.ld)) ho (if_neg (by simp [hbg]))
  case background => exact State.box_answers (go := (·.boxBgStatus m.ld)) ho (by rw [State.boxBgStatus, if_pos hbg, hv])
  case events =>
    subst hl
    exact State.box_answers (go := (·.boxGetEvents m.ld m)) ho (if_neg (by omega))
  case policy => exact State.box_answers (go := (·.boxGetPolicy m.ld)) ho rfl
  case firmware => exact State.box_answers (go := (·.boxFwInfo m.ld)) ho rfl
  case timestamp => exact State.box_answers (go := (·.boxGetTime m.ld)) ho rfl
  case logs => exact State.box_answers (go := (·.boxLogs m.ld)) ho rfl
  case log => exact State.box_answers (go := (·.boxLog m.ld)) ho rfl
  case memory =>
    subst hc
    exact State.box_answers (go := (·.boxMemory m.ld)) ho rfl
  case health =>
    subst hh
    refine State.box_answers (go := (·.boxHealth m.ld)) ho ?_
    unfold State.boxHealth
    dsimp only
    rw [if_neg (not_not.2 (State.boxOpen_ready ho)), State.hottestStack]
  case alert => exact State.box_answers (go := (·.boxGetAlert m.ld)) ho rfl

end Sys2Proof.Machine
end

section
/-! Mailbox commands that change the device (R514, R519 to R522): what each leaves. -/

namespace Sys2Proof.Machine

open Sys2Proof

section

variable {s u : State} {m : Mailbox} {b : Nat}

/-- What a served mailbox tells a transfer that staging is free for: the case of each action. -/
theorem State.boxTransfer_open (hst : s.f Reg.GLB_FW_STAT.STATE < 3) (hbusy : s.flashBusy = false) (hact : arg m 0 ≤ 4) :
    s.boxTransfer b m = if arg m 0 = 4 then s.xferAbort.boxDone b 0x0201 0 .nothing
      else if arg m 2 * 128 ≠ (if arg m 0 = 0 ∨ arg m 0 = 1 then 0 else s.f Reg.GLB_FW_NEXT.OFFSET)
          ∨ (¬ (arg m 0 = 0 ∨ arg m 0 = 1) ∧ s.f Reg.GLB_FW_STAT.STATE ≠ 1) ∨ m.data = [] ∨ 0x1000000 < arg m 2 * 128 + m.data.length then
        s.boxDone b 0x0201 2 .nothing
      else if arg m 0 = 0 ∨ arg m 0 = 3 then
        let v := (if arg m 0 = 0 ∨ arg m 0 = 1 then s.xferStart ((s.f Reg.GLB_FW_XFER.XFER_ID + 1) % 65536) else s).stagePut
          (arg m 2 * 128) m.data true
        { v with fw := { v.fw with lastBox := some b } }
      else ((if arg m 0 = 0 ∨ arg m 0 = 1 then s.xferStart ((s.f Reg.GLB_FW_XFER.XFER_ID + 1) % 65536) else s).stagePut
          (arg m 2 * 128) m.data false).boxDone b 0x0201 0 .nothing := by
  unfold State.boxTransfer
  dsimp only
  rw [if_neg (by omega), if_neg (by omega), if_neg (by simp [hbusy])]
  by_cases hlast : arg m 0 = 0 ∨ arg m 0 = 3
  · simp [hlast]
  · simp [hlast]

/-- Activation of a staged image while the chip is not in recovery: a Keeper's image is put in place, any other is asked about. -/
theorem State.activate_open {box : Option Nat} {a : Path} (hst : s.f Reg.GLB_FW_STAT.STATE = 2) (hcheck : s.fw.check = none)
    (hpair : s.pairBars = false) (hp : imgKind (s.imageAt flStaging) = 2 ∨ s.phase ≠ .recovery) :
    s.activate a box = if imgKind (s.imageAt flStaging) = 2 then s.keeperPut (s.imageAt flStaging) box else (s.askAll a false box).checkEnd := by
  unfold State.activate
  dsimp only
  rw [if_neg (by simp [hst, hcheck]), if_neg (by simp [hpair])]
  by_cases hkind : imgKind (s.imageAt flStaging) = 2
  · rw [if_pos hkind, if_pos hkind]
  · rw [if_neg hkind, if_neg hkind, if_neg (hp.resolve_left hkind)]

/-- A mailbox command that translates, of a logical device with a keyway, goes on with its request. -/
theorem State.boxXlate_goes {op opcode dpa opw id : Nat} {payload : List Byte} {o : BoxOut} {go : State → Req → State} {r : Req} (hb : b < 16)
    (hv : s.flag (Reg.KTU_LD_KEYWAY.VALID b) = true) (ha : s.boxAdmit b opcode dpa opw payload = (u, id)) (hr : u.req? id = some r) :
    s.boxXlate b op opcode dpa opw payload o go = go u r := by
  have hld : s.boxLd b = b := if_neg (by omega)
  unfold State.boxXlate
  rw [hld, if_neg (by simp [hv])]
  dsimp only
  rw [ha, hr]

/-- A mailbox answers Unsupported to a command it does not serve. -/
theorem State.unserved_answers {op : Nat} {go : State → State} (hb : m.ld ≤ 16) (hp : s.phase = .ready) (hup : s.cxlUp = true)
    (hs : s.boxServes m.ld op = false) : s.onBox m op go = .next (s.ended (s.boxDone m.ld op 3 .nothing)) := by
  refine State.event_answers (by simp [State.clocked, hp]) ?_
  rw [if_pos hb, State.boxGo, if_neg (by simp [hp, hup]; omega), if_pos (by simp [hs])]

end

/-- Settles O47: the mailbox serves the command, and its arguments pick what it leaves. -/
theorem mailboxWritesAct : Obligations.MailboxWritesAct := by
  rintro s m b rfl
  refine ⟨fun kv u ho h0 hr hkv hu => ?allocate, fun ho hq => ?qos, fun ho hq => ?thresholds, fun hb hp hup => ⟨?allocatedBw, ?bwLimit⟩,
    fun l n ho hk hl hn => ⟨fun hall => ?clearAll, fun hall hh => ?clear⟩, fun kv u ho hkv hu => ?policy,
    fun ho hst hbusy => ⟨fun h4 => ?abort, fun u h1 h2 hd hlen hu => ?begin, fun off h1 hoff hnext hs hd hlen => ?piece,
      fun off u h1 hoff hnext hs hd hlen hu => ?last⟩,
    fun img c u ho h0 h1 hst hcheck hpair himg hkind hc hu => ?keeper, fun ho h0 h1 hst hcheck hpair hkind => ?activate, fun off u ho hoff hu => ?time,
    fun kv u ho hkv hu => ?alert, fun u id r ho hlen hv hb ha hr => ?poisonList, fun u id r ho hv hb ha hr => ?inject,
    fun u id r ho hv hb ha hr => ?clearPoison, fun u ho hb hq hc hu => ?sanitize⟩
  case allocate =>
    subst hkv hu
    exact State.box_answers (go := (·.boxSetAlloc m.ld m)) ho (if_neg (by omega))
  case qos => exact State.box_answers (go := (·.boxSetQos m.ld m)) ho (if_pos hq)
  case thresholds => exact State.box_answers (go := (·.boxSetQos m.ld m)) ho (if_neg hq)
  case allocatedBw => exact State.unserved_answers (op := 0x5407) hb hp hup (by simp [State.boxServes])
  case bwLimit => exact State.unserved_answers (op := 0x5409) hb hp hup (by simp [State.boxServes])
  case clearAll =>
    subst hl
    refine State.box_answers (go := (·.boxClearEvents m.ld m)) ho ?_
    unfold State.boxClearEvents
    dsimp only
    rw [if_neg (by omega), if_pos hall]
  case clear =>
    subst hl hn
    refine State.box_answers (go := (·.boxClearEvents m.ld m)) ho ?_
    unfold State.boxClearEvents
    dsimp only
    rw [if_neg (by omega), if_neg hall, if_pos hh]
  case policy =>
    subst hkv hu
    exact State.box_answers (go := (·.boxSetPolicy m.ld m)) ho rfl
  case abort =>
    exact State.box_answers (go := (·.boxTransfer m.ld m)) ho (by rw [State.boxTransfer_open hst hbusy (by omega), if_pos h4])
  case begin =>
    subst hu
    refine State.box_answers (go := (·.boxTransfer m.ld m)) ho ?_
    rw [State.boxTransfer_open hst hbusy (by omega), if_neg (by omega), if_neg (by simp [h1, h2, hd]; omega), if_neg (by omega), if_pos (Or.inr h1), h2]
  case piece =>
    subst hoff
    refine State.box_answers (go := (·.boxTransfer m.ld m)) ho ?_
    rw [State.boxTransfer_open hst hbusy (by omega), if_neg (by omega), if_neg (by simp [h1, hnext, hs, hd]; omega), if_neg (by omega),
      if_neg (by omega)]
  case last =>
    subst hoff hu
    refine State.box_answers (go := (·.boxTransfer m.ld m)) ho ?_
    dsimp only
    rw [State.boxTransfer_open hst hbusy (by omega), if_neg (by omega), if_neg (by simp [h1, hnext, hs, hd]; omega), if_pos (Or.inr h1),
      if_neg (by omega)]
  case keeper =>
    subst himg hc hu
    refine State.box_answers (go := (·.boxActivate m.ld m)) ho ?_
    rw [State.boxActivate, if_neg (not_not.2 h0), if_neg (not_not.2 h1), State.activate_open hst hcheck hpair (Or.inl hkind), if_pos hkind]
    rfl
  case activate =>
    have hready : s.phase ≠ .recovery := by simp [State.boxOpen_ready ho]
    refine State.box_answers (go := (·.boxActivate m.ld m)) ho ?_
    rw [State.boxActivate, if_neg (not_not.2 h0), if_neg (not_not.2 h1), State.activate_open hst hcheck hpair (Or.inr hready), if_neg (by omega)]
  case time =>
    subst hoff hu
    exact State.box_answers (go := (·.boxSetTime m.ld m)) ho rfl
  case alert =>
    subst hkv hu
    exact State.box_answers (go := (·.boxSetAlert m.ld m)) ho rfl
  case poisonList =>
    refine State.box_answers (go := (·.boxPoisonList m.ld m)) ho ?_
    rw [State.boxPoisonList, if_neg (by omega), State.boxXlate_goes hb hv ha hr]
  case inject => exact State.box_answers (go := (·.boxInject m.ld m)) ho (State.boxXlate_goes hb hv ha hr)
  case clearPoison => exact State.box_answers (go := (·.boxClear m.ld m)) ho (State.boxXlate_goes hb hv ha hr)
  case sanitize =>
    subst hu
    have hld : s.boxLd m.ld = m.ld := if_neg (by omega)
    refine State.box_answers (go := (·.boxSanitize m.ld)) ho ?_
    unfold State.boxSanitize
    rw [hld, if_neg (by simp [hq, hc])]

end Sys2Proof.Machine
end

section
/-! Events of the CXL port (R515 to R525): what each leaves. -/

namespace Sys2Proof.Machine

open Sys2Proof

section

variable {s u : State} {ld box : Nat} {l : List (Nat × Nat)}

/-- A fill in the background that channels, or the maintenance allowance, or nothing holds (R244, R387, R519). -/
theorem State.sanitizeDone_cons (hbg : s.cxl.bg = (box, ld) :: l) (hu : u = s.fillOwned ld) :
    s.sanitizeDone = if s.fillWaits = true then s else if s.maintAllowed = false then s.noteMaintHeld else
      let v := { u with cxl := { u.cxl with
        clear := u.cxl.clear.filter fun c => c != (ld, false)
        bg := l
        bgLast := SMap.set (fun _ => 0) u.cxl.bgLast box 0 } }.evt Pg.CXP 5
      if box < 16 ∧ box ≠ s.mgrLd then v.msix box 0 else v := by
  subst hu
  unfold State.sanitizeDone
  rw [hbg]

/-- A decoder that is not locked is committed or refused (R515). -/
theorem State.hdmCommit_open {i k : Nat} {d : HdmDecoder} (hld : ld < 16) (hi : i < 4) (hk : k = ld * 4 + i) (hl : s.cxl.locked.contains k = false)
    (hu : u = { s with cxl := { s.cxl with decoders := SMap.set (fun _ => noDecoder) s.cxl.decoders k d } }) :
    s.hdmCommit ld i d = if s.hdmOk ld i d = true then State.showDecoders { u with cxl := { u.cxl with
        committed := k :: u.cxl.committed.filter fun x => x != k
        errNot := u.cxl.errNot.filter fun x => x != k
        locked := if d.lock then k :: u.cxl.locked else u.cxl.locked } } ld
      else ((u.hdmFail k).evt Pg.CXP 0).showDecoders ld := by
  subst hk hu
  unfold State.hdmCommit
  dsimp only
  rw [if_neg (by simp only [hl]; simp; omega)]

/-- A reset of a port that trains again in flits of 256 bytes (R517). -/
theorem State.cxlTrained_256 {w sp : Nat} (hs : s.cxl.stopped = false) :
    s.cxlTrained w sp false = (s.setWord Reg.CXP_STAT.OFF (w % 16 + sp % 8 * 16 + 128 + 256)).liftLink.evt Pg.CXP 1 := by
  unfold State.cxlTrained
  rw [if_neg (by simp [hs])]
  rfl

/-- A port that trains in flits of 68 bytes fences the agents and commits no back-invalidating decoder (R517). -/
theorem State.cxlTrained_68 {w sp : Nat} {bad : List Nat} (hs : s.cxl.stopped = false) (hsp : sp ≤ 3)
    (hu : u = (s.setWord Reg.CXP_STAT.OFF (w % 16 + sp % 8 * 16 + 256)).liftLink.evt Pg.CXP 1)
    (hbad : bad = u.cxl.committed.filter fun k => (u.decoder (k / 4) (k % 4)).bi) :
    s.cxlTrained w sp true =
      (List.range 16).foldl (fun (x : State) ld => x.showDecoders ld) (bad.foldl (fun (x : State) k => x.hdmFail k) u.fenceCxl) := by
  have hword : w % 16 + sp % 8 * 16 + b2n (!true) * 128 + 256 = w % 16 + sp % 8 * 16 + 256 := by simp [b2n]
  unfold State.cxlTrained
  rw [if_neg (by simp [hs]; omega)]
  dsimp only
  rw [hword, ← hu, ← hbad, if_pos rfl]

/-- A link that is up goes down (R525). -/
theorem State.cxlDown_up (hup : s.cxlUp = true) (hu : u = (s.setWord Reg.CXP_STAT.OFF 0).fenceCxl) :
    s.cxlDown = (({ u with tsh := { u.tsh with hold := [] }, txq := u.txq.filter fun t => t.port != 6 }.bump Reg.CXP_LINK_DOWN_CNT.OFF).evt
      Pg.CXP 2).fault (mkRec 119 2 0x1001) := by
  unfold State.cxlDown
  rw [if_neg (by simp [hup])]
  dsimp only
  rw [← hu]

/-- A function-level reset drops the requests of the device but those of the management page (R525). -/
theorem State.cxlFlr_eq (hu : u = (s.ldReqs ld true).foldl (fun (x : State) r =>
      if r.cxl = some (ld, 2 ^ 32 + 17) then x else x.dropReq r.id) s) :
    s.cxlFlr ld = { u with fw := { u.fw with
      lastBox := if u.fw.lastBox = some ld then none else u.fw.lastBox
      check := u.fw.check.map fun c => if c.mailbox = some ld then { c with mailbox := none } else c } } := by
  unfold State.cxlFlr
  dsimp only
  rw [← hu]

/-- A CXL reset ends the requests of the device with poison, fences its agents, and forgets its decoders and logs (R525). -/
theorem State.cxlReset_eq {v : State} {clr : Bool} (hld : ld < 16)
    (hu : u = (s.ldReqs ld false).foldl (fun (x : State) r => x.finish r.id stPOISON 0 0 (zeros 64)) s)
    (hv : v = ((List.range 512).filter fun a => u.flag (Reg.DIR_AGENT.VALID a) && u.agentCxl a && u.f (Reg.DIR_AGENT.LD a) == ld).foldl
      (fun (x : State) a => x.fenceAgent a) u) :
    s.cxlReset ld clr = (State.showDecoders { v with cxl := { v.cxl with
        committed := v.cxl.committed.filter fun k => k / 4 != ld
        locked := v.cxl.locked.filter fun k => k / 4 != ld
        errNot := v.cxl.errNot.filter fun k => k / 4 != ld
        logs := SMap.drop v.cxl.logs fun k => k / 4 == ld
        clear := (v.cxl.clear.filter fun c => c.1 != ld) ++ (if clr then [(ld, true)] else [])
        bg := v.cxl.bg.filter fun b => b.2 != ld
        bgLast := (v.cxl.bg.filter fun b => b.2 == ld).foldl (fun x b => SMap.set (fun _ => 0) x b.1 0x12) v.cxl.bgLast } } ld).fault
          (mkRec 119 0 0x1005) := by
  unfold State.cxlReset
  rw [if_neg (by omega)]
  dsimp only
  rw [← hu, ← hv]

/-- A clearing after a reset that channels, or the maintenance allowance, or nothing holds (R244, R387, R525). -/
theorem State.clearDone_waiting (hc : s.cxl.clear.contains (ld, true) = true) :
    s.clearDone ld = if s.fillWaits = true then s else if s.maintAllowed = false then s.noteMaintHeld else
      { s.fillOwned ld with cxl := { (s.fillOwned ld).cxl with clear := (s.fillOwned ld).cxl.clear.filter fun c => c != (ld, true) } } := by
  unfold State.clearDone
  rw [if_pos hc]

/-- A vector that is unmasked tells what was pending (R523). -/
theorem State.unmask_eq {vec : Nat} (hu : u = { s with cxl := { s.cxl with
      unmasked := (ld, vec) :: s.cxl.unmasked.filter fun x => x != (ld, vec)
      pend := s.cxl.pend.filter fun x => x != (ld, vec) } }) :
    s.unmask ld vec = if s.cxl.pend.contains (ld, vec) = true then u.msix ld vec else u := by
  subst hu
  rfl

end

/-- Settles O48: the clocks run, and what holds the event decides its effect. -/
theorem cxlEventsAct : Obligations.CxlEventsAct := by
  intro s hclk
  have dev {go : State → State} {ld : Nat} (h : ld < 16) {u : State} (hu : go s = u) :
      s.event (fun x => if ld < 16 then go x else x) = .next (s.ended u) := State.event_answers hclk (by rw [if_pos h, hu])
  refine ⟨fun box ld l u v hbg hu hv => ⟨fun hw => ?sanitizeWaits, fun hw hm => ?sanitizeHeld,
      fun hw hm => ⟨fun hb hmgr => ?sanitizedTold, fun hb => ?sanitized⟩⟩,
    fun ld i d k u hld hi hk hl hu => ⟨fun hok => ?committed, fun hok => ?refused⟩,
    fun w sp u hs => ⟨fun hu => ?trained, fun hsp hu bad hbad => ?trainedShort⟩, fun u hup hu v hv => ⟨?down, ?busReset⟩,
    fun ld u hld hu => ?flr, fun ld clr u v hld hu hv => ?reset,
    fun ld u hc hu => ⟨fun hw => ?clearWaits, fun hw hm => ?clearHeld, fun hw hm => ?cleared⟩, fun ld on hld => ?busMaster,
    fun ld vec u hu => ⟨fun hp => ?unmaskPending, fun hp => ?unmask⟩⟩
  case sanitizeWaits => exact State.event_answers (go := (·.sanitizeDone)) hclk (by rw [State.sanitizeDone_cons hbg hu, if_pos hw])
  case sanitizeHeld =>
    exact State.event_answers (go := (·.sanitizeDone)) hclk (by rw [State.sanitizeDone_cons hbg hu, if_neg (by simp [hw]), if_pos hm])
  case sanitizedTold =>
    refine State.event_answers (go := (·.sanitizeDone)) hclk ?_
    rw [State.sanitizeDone_cons hbg hu, if_neg (by simp [hw]), if_neg (by simp [hm])]
    dsimp only
    rw [if_pos ⟨hb, hmgr⟩, hv]
  case sanitized =>
    refine State.event_answers (go := (·.sanitizeDone)) hclk ?_
    rw [State.sanitizeDone_cons hbg hu, if_neg (by simp [hw]), if_neg (by simp [hm])]
    dsimp only
    rw [if_neg (by omega), hv]
  case committed =>
    refine State.event_answers (go := fun x => if ld < 16 ∧ i < 4 then x.hdmCommit ld i d else x) hclk ?_
    rw [if_pos ⟨hld, hi⟩, State.hdmCommit_open hld hi hk hl hu, if_pos hok]
  case refused =>
    refine State.event_answers (go := fun x => if ld < 16 ∧ i < 4 then x.hdmCommit ld i d else x) hclk ?_
    rw [if_pos ⟨hld, hi⟩, State.hdmCommit_open hld hi hk hl hu, if_neg (by simp [hok])]
  case trained => exact State.event_answers (go := (·.cxlTrained w sp false)) hclk (by rw [State.cxlTrained_256 hs, hu])
  case trainedShort => exact State.event_answers (go := (·.cxlTrained w sp true)) hclk (State.cxlTrained_68 hs hsp hu hbad)
  case down => exact State.event_answers (go := (·.cxlDown)) hclk (by rw [State.cxlDown_up hup hu, hv])
  case busReset => exact State.event_answers (go := (·.cxlDown)) hclk (by rw [State.cxlDown_up hup hu, hv])
  case flr => exact dev (go := (·.cxlFlr ld)) hld (State.cxlFlr_eq hu)
  case reset => exact dev (go := (·.cxlReset ld clr)) hld (State.cxlReset_eq hld hu hv)
  case clearWaits => exact State.event_answers (go := (·.clearDone ld)) hclk (by rw [State.clearDone_waiting hc, if_pos hw])
  case clearHeld =>
    exact State.event_answers (go := (·.clearDone ld)) hclk (by rw [State.clearDone_waiting hc, if_neg (by simp [hw]), if_pos hm])
  case cleared =>
    refine State.event_answers (go := (·.clearDone ld)) hclk ?_
    rw [State.clearDone_waiting hc, if_neg (by simp [hw]), if_neg (by simp [hm]), hu]
  case busMaster => exact State.event_answers (go := (·.bmeWrite ld on)) hclk (if_pos hld)
  case unmaskPending => exact State.event_answers (go := (·.unmask ld vec)) hclk (by rw [State.unmask_eq hu, if_pos hp])
  case unmask => exact State.event_answers (go := (·.unmask ld vec)) hclk (by rw [State.unmask_eq hu, if_neg (Bool.eq_false_iff.1 hp)])

end Sys2Proof.Machine
end

section
/-! Pins, supplies and the debug port (R454, R478 to R480, R558 to R572): what each leaves. -/

namespace Sys2Proof.Machine

open Sys2Proof

section

variable {s u v : State}

/-- A pin acts at any time. -/
theorem State.pin_answers {go : State → State} (hu : go s = u) : s.always go = .next (s.ended u) := by rw [State.always, hu]

/-- PWR_GOOD rises: a cold reset that shows a latched trip, and a cold start unless RESET_N is low (R497, R562, R571, R572). -/
theorem State.powerRise_low {b : BoardInputs} (hp : s.pins.pwrGood = false) (hu : u = { s with pins := { s.pins with pwrGood := true, trip := false } })
    (hno : s.pins.trip = false → v = u.coldReset 0)
    (htrip : s.pins.trip = true → v = (u.coldReset 5).setFlag Reg.GLB_THERM.THERMTRIP_SEEN true) :
    s.powerRise b = if s.pins.resetLow = true then v else v.coldStart b := by
  have hv : v = if s.pins.trip = true then (u.coldReset (if s.pins.trip = true then 5 else 0)).setFlag Reg.GLB_THERM.THERMTRIP_SEEN true
      else u.coldReset (if s.pins.trip = true then 5 else 0) := by
    by_cases h : s.pins.trip = true
    · rw [if_pos h, if_pos h, htrip h]
    · rw [if_neg h, if_neg h, hno (Bool.eq_false_iff.2 h)]
  unfold State.powerRise
  rw [if_neg (by simp [hp])]
  dsimp only
  rw [← hu, ← hv]

/-- PWR_GOOD falls (R560). -/
theorem State.powerFall_high (hp : s.pins.pwrGood = true) (hu : u = s.flashCut) :
    s.powerFall = { u with phase := .off, pins := { u.pins with pwrGood := false, i3c := none }, mem := [], chk := [], txq := [] } := by
  unfold State.powerFall
  rw [if_neg (by simp [hp])]
  dsimp only
  rw [← hu]

/-- The thermal trip stops what is supplied (R571). -/
theorem State.tripGo_on (hp : s.pins.pwrGood = true) (hon : s.phase ≠ .off) (hu : u = s.flashCut) :
    s.tripGo = { u with phase := .off, pins := { u.pins with trip := true } } := by
  unfold State.tripGo
  rw [if_pos (by simp [hp, hon])]
  dsimp only
  rw [← hu]

/-- WARM_RESET_N rises: a warm reset that waits for it goes on (R564). -/
theorem State.warmRise_eq (hu : u = { s with pins := { s.pins with warmLow := false } }) :
    s.warmRise = if s.phase = .warm 4 then u.logicReset else u := by
  subst hu
  unfold State.warmRise
  dsimp only
  split
  · next h => rw [if_pos h]
  · next h => rw [if_neg h]

end

/-- Settles O49: what is supplied and what the phase is decide each pin's effect. -/
theorem pinCommandsAct : Obligations.PinCommandsAct := by
  intro s
  refine ⟨fun b u v hp hu hno htrip => ⟨fun hr => ?start, fun hr => ?held⟩, fun u hp hu => ?fall, fun u hp hon hu => ?reset,
    fun b u hp hr hc hu => ?resetRise, fun u hu => ⟨fun hrd he => ?warm, fun k v hw hv => ?again⟩, fun u hu => ⟨fun hw => ?goOn, fun hw => ?noWait⟩,
    fun u hp hon hu => ?trip, fun u hu => ?standby⟩
  case start =>
    exact State.pin_answers (go := (·.powerRise b)) (by rw [State.powerRise_low hp hu hno htrip, if_neg (by simp [hr])])
  case held => exact State.pin_answers (go := (·.powerRise b)) (by rw [State.powerRise_low hp hu hno htrip, if_pos hr])
  case fall => exact State.pin_answers (go := (·.powerFall)) (State.powerFall_high hp hu)
  case reset =>
    refine State.pin_answers (go := (·.resetFall)) ?_
    rw [State.resetFall, if_pos (by simp [hp, hon]), hu]
  case resetRise =>
    refine State.pin_answers (go := (·.resetRise b)) ?_
    rw [State.resetRise, if_pos (by simp [hp, hr, hc]), hu]
  case warm =>
    subst hu
    exact State.pin_answers (go := (·.warmFall)) (by simp only [State.warmFall, State.warmAsk, hrd, he, if_true])
  case again =>
    subst hu hv
    exact State.pin_answers (go := (·.warmFall)) (by simp only [State.warmFall, State.warmAsk, hw])
  case goOn => exact State.pin_answers (go := (·.warmRise)) (by rw [State.warmRise_eq hu, if_pos hw])
  case noWait => exact State.pin_answers (go := (·.warmRise)) (by rw [State.warmRise_eq hu, if_neg hw])
  case trip => exact State.pin_answers (go := (·.tripGo)) (State.tripGo_on hp hon hu)
  case standby =>
    subst hu
    exact State.pin_answers (go := (·.standbyLost)) rfl

/-! ### Clocks, sensors and the debug port -/

section

variable {s u : State}

/-- A sample of the controller sensors: the first bad reading of each is a fault, and the hottest good one shows, or trips (R569, R571). -/
theorem State.tempSample_eq {l ts good bad : List Nat} (hclk : s.clocked = true) (hts : ts = l.take 16) (hgood : good = ts.filter fun t => !tempBad t)
    (hbad : bad = (List.range ts.length).filter fun i => tempBad (ts.getD i 0) && !tempBad (s.epl.temps.getD i 0))
    (hu : u = bad.foldl (fun (x : State) _ => x.fault (mkRec 156 0 0x1109)) { s with epl := { s.epl with temps := ts } }) :
    s.tempSample l = if good = [] then u
      else if 115 ≤ good.foldl max 0 then (u.setF Reg.GLB_THERM.CTRL_TEMP (good.foldl max 0)).tripGo
      else u.setF Reg.GLB_THERM.CTRL_TEMP (good.foldl max 0) := by
  unfold State.tempSample
  rw [if_neg (by simp [hclk])]
  dsimp only
  rw [← hts, ← hgood, ← hbad, ← hu]
  cases good <;> rfl

/-- A core is open to the debug port (R478). -/
def State.coreOpen (s : State) (core : Nat) : Bool :=
  s.flag (if core = 0 then Reg.KPR_STAT.DEBUG_VORER else Reg.KPR_STAT.DEBUG_KEEPER)

/-- What the debug port answers of a core that is open to it (R478, R480). -/
theorem State.debugDo_core {core kind value : Nat} (hc : core < 2) (hup : s.sidebandUp = true) :
    s.debugDo core kind value = if s.coreOpen core = false then s.emit (.tdo (leBytes 4 0))
      else if kind = 0 ∧ core = 0 then
        (State.evt { s.setFlag Reg.DBG_STAT.VORER_HALTED true with fwDown := true } Pg.DBG 0).emit (.tdo (leBytes 4 0))
      else if kind = 2 ∧ core = 0 then State.emit { s.setFlag Reg.DBG_STAT.VORER_HALTED false with fwDown := false } (.tdo (leBytes 4 0))
      else if kind = 3 then
        (s.setF Reg.DBG_STAT.BREAKPOINTS (if value % 2 = 1 then min 15 (s.f Reg.DBG_STAT.BREAKPOINTS + 1)
          else s.f Reg.DBG_STAT.BREAKPOINTS - 1)).emit (.tdo (leBytes 4 0))
      else if kind = 4 then (s.fresh (2 ^ 32)).2.emit (.tdo (leBytes 4 (s.fresh (2 ^ 32)).1))
      else s.emit (.tdo (leBytes 4 0)) := by
  unfold State.debugDo State.coreOpen
  dsimp only
  rw [apply_ite s.flag, if_neg (by omega), if_neg (by simp [hup]; omega)]

end

/-- Settles O50: the clocks run, and what the sensors and the debug port show decides the effect. -/
theorem packageEventsAct : Obligations.PackageEventsAct := by
  intro s hclk
  refine ⟨fun hp => ?clock, fun i => ?pll, fun hp => ?rail,
    fun l ts good bad u m hts hgood hm hbad hu => ⟨fun hg => ?noneGood, fun hg hcool => ?cool, fun hg hhot => ?hot⟩, ?watchdog, ?trap,
    fun hup => ⟨fun a => ?address, fun a v => ?idcode, fun k a v hk => ?bypass, fun k a v hf => ?vorerShut, fun k a v hf => ?keeperShut,
      fun c a v n hc hf hn => ?breakpoint, fun hf => ⟨fun a v u hu => ?halt, fun a v u hu => ?run, fun a v x u hx => ?read⟩⟩⟩
  case clock => exact State.pin_answers (go := (·.clockLost)) (if_pos (by simp [hp, hclk]))
  case pll => exact State.pin_answers (go := (·.pllRelock i)) (if_pos hclk)
  case rail => exact State.pin_answers (go := (·.railOut)) (if_pos (by simp [hp, hclk]))
  case noneGood =>
    exact State.event_answers (go := (·.tempSample l)) hclk (by rw [State.tempSample_eq hclk hts hgood hbad hu, if_pos hg])
  case cool =>
    refine State.event_answers (go := (·.tempSample l)) hclk ?_
    rw [State.tempSample_eq hclk hts hgood hbad hu, if_neg hg, ← hm, if_neg (by omega)]
  case hot =>
    refine State.event_answers (go := (·.tempSample l)) hclk ?_
    rw [State.tempSample_eq hclk hts hgood hbad hu, if_neg hg, ← hm, if_pos hhot]
  case watchdog => exact State.pin_answers (go := (·.watchdog)) (if_pos hclk)
  case trap => exact State.pin_answers (go := (·.vorerTrap)) (if_pos hclk)
  case address => exact State.pin_answers (go := (·.sidebandDo (·.assignAddress a))) (if_pos hup)
  case idcode => exact State.pin_answers (go := (·.debugDo 2 1 v)) rfl
  case bypass => exact State.pin_answers (go := (·.debugDo 2 k v)) (by rw [State.debugDo, if_pos rfl, if_neg hk])
  case vorerShut => exact State.pin_answers (go := (·.debugDo 0 k v)) (by rw [State.debugDo_core (by omega) hup, if_pos (show s.coreOpen 0 = false from hf)])
  case keeperShut => exact State.pin_answers (go := (·.debugDo 1 k v)) (by rw [State.debugDo_core (by omega) hup, if_pos (show s.coreOpen 1 = false from hf)])
  case breakpoint =>
    refine State.pin_answers (go := (·.debugDo c 3 v)) ?_
    rw [State.debugDo_core hc hup, if_neg (by rw [State.coreOpen, hf]; decide), if_neg (by omega), if_neg (by omega), if_pos rfl, hn]
  case halt =>
    refine State.pin_answers (go := (·.debugDo 0 0 v)) ?_
    rw [State.debugDo_core (by omega) hup, if_neg (ne_false_of_eq_true (show s.coreOpen 0 = true from hf)), if_pos ⟨rfl, rfl⟩, hu]
  case run =>
    refine State.pin_answers (go := (·.debugDo 0 2 v)) ?_
    rw [State.debugDo_core (by omega) hup, if_neg (ne_false_of_eq_true (show s.coreOpen 0 = true from hf)), if_neg (by omega), if_pos ⟨rfl, rfl⟩, hu]
  case read =>
    refine State.pin_answers (go := (·.debugDo 0 4 v)) ?_
    rw [State.debugDo_core (by omega) hup, if_neg (ne_false_of_eq_true (show s.coreOpen 0 = true from hf)), if_neg (by omega),
      if_neg (by omega), if_neg (by omega), if_pos rfl, hx]

end Sys2Proof.Machine
end

section
/-! Settings, the log and firmware images (R494 to R509): what each command leaves. -/

namespace Sys2Proof.Machine

open Sys2Proof

section

variable {s u v : State}

/-- The end of a settings job (R494). -/
theorem State.settingsDone_busy {ok : Bool} {c : Nat} (hb : s.flag Reg.GLB_SET_STAT.BUSY = true)
    (hu : u = (s.setFlag Reg.GLB_SET_STAT.BUSY false).setFlag Reg.GLB_SET_STAT.DONE true) (hv : v = { u with fw := { u.fw with setJob := 0 } })
    (hc : c = 1 - s.f Reg.GLB_SET_STAT.IN_USE) :
    s.settingsDone ok = if s.fw.setJob = 1 then
        if ok = true then
          { (v.setF Reg.GLB_SET_STAT.IN_USE c).setF Reg.GLB_SET_SEQ.SEQ ((s.f Reg.GLB_SET_SEQ.SEQ + 1) % 2 ^ 32) with
            fw := { ((v.setF Reg.GLB_SET_STAT.IN_USE c).setF Reg.GLB_SET_SEQ.SEQ ((s.f Reg.GLB_SET_SEQ.SEQ + 1) % 2 ^ 32)).fw with
              setDigest := sha512 ((s.settingsAt c).getD []) } }
        else (v.flashScramble (flSettings c) 64).flashErr
      else if ok = true then v else v.flashErr := by
  unfold State.settingsDone
  rw [if_neg (by simp [hb])]
  dsimp only
  rw [← hu, ← hv, ← hc]

/-- An entry of the log that is selected shows in the log window (R496). -/
theorem State.logSelect_eq {i : Nat} {b : List Byte} (hb : b = s.logEntry (bits i 15 0))
    (hu : u = (s.setF Reg.GLB_LOG_SEL.INDEX (bits i 15 0)).setFlag Reg.GLB_LOG_SEL.VALID true) :
    s.logSelect i = (List.range 16).foldl (fun (w : State) k => w.setWord (Reg.GLB_LOG_DATA.OFF k) (leNat (slice b (4 * k) 4))) u := by
  unfold State.logSelect
  dsimp only
  rw [← hu, ← hb]

end

/-- Settles O51: SAVE and ERASE wait for no job, and the job that ends decides what its end leaves. -/
theorem settingsAct : Obligations.SettingsAct := by
  intro s a
  refine ⟨fun ho => ⟨fun hb => ⟨?save, ?erase⟩, fun hb u hu => ⟨?saveBusy, ?eraseBusy⟩⟩, fun v u b ho hb hu => ?log,
    fun hclk hb u v c hu hv hc => ⟨fun w hj hw => ?saved, fun hj => ?notSaved, fun hj => ?erased, fun hj => ?notErased⟩⟩
  case save =>
    refine State.reg_answers (go := (·.setCmd a 1)) ho ?_
    rw [State.setCmd, if_pos (by decide), State.settingsCmd, if_neg (by simp [hb])]
  case erase =>
    refine State.reg_answers (go := (·.setCmd a 2)) ho ?_
    rw [State.setCmd, if_neg (by decide), if_pos (by decide), State.settingsCmd, if_neg (by simp [hb])]
  case saveBusy =>
    subst hu
    refine State.reg_answers (go := (·.setCmd a 1)) ho ?_
    rw [State.setCmd, if_pos (by decide), State.settingsCmd, if_pos hb, State.glbReject]
  case eraseBusy =>
    subst hu
    refine State.reg_answers (go := (·.setCmd a 2)) ho ?_
    rw [State.setCmd, if_neg (by decide), if_pos (by decide), State.settingsCmd, if_pos hb, State.glbReject]
  case log => exact State.reg_answers (go := (·.logSelect v.toNat)) ho (State.logSelect_eq hb hu)
  case saved =>
    refine State.event_answers (go := (·.settingsDone true)) hclk ?_
    rw [State.settingsDone_busy hb hu hv hc, if_pos hj, if_pos rfl, hw]
  case notSaved =>
    refine State.event_answers (go := (·.settingsDone false)) hclk ?_
    rw [State.settingsDone_busy hb hu hv hc, if_pos hj, if_neg (by decide)]
  case erased =>
    refine State.event_answers (go := (·.settingsDone true)) hclk ?_
    rw [State.settingsDone_busy hb hu hv hc, if_neg hj, if_pos rfl]
  case notErased =>
    refine State.event_answers (go := (·.settingsDone false)) hclk ?_
    rw [State.settingsDone_busy hb hu hv hc, if_neg hj, if_neg (by decide)]

/-! ### Images (R502 to R509) -/

section

variable {s u v : State}

/-- The verification of a staged image: refused, the version that runs, or staged and forwarded (R502, R503). -/
theorem State.verifyDone_eq {b : List Byte} {r : Nat} {w x : State} (hf : s.fw.verifying = true) (hb : b = s.imageAt flStaging)
    (hr : r = s.imageResult b) (hu : u = { s with fw := { s.fw with verifying := false, lastReq := none, lastBox := none } })
    (hv : v = (((u.fwRefused r).flashErase flStaging 0x1000000).showStaging 0 []).lastAnswer s.fw.lastReq s.fw.lastBox r)
    (hw : w = u.setF Reg.GLB_FW_XFER.RESULT 0) (hbad : r ≠ 0 → x = v)
    (hnew : r = 0 → imgKind b ≠ 1 ∨ imgVersion b ≠ s.word64 Reg.GLB_FW_RUN_VER.OFF →
      x = ((((w.showStaging 2 b).evt Pg.GLB 4).logUpdate (imgVersion b) 0 1).lastAnswer s.fw.lastReq s.fw.lastBox 0).fwdStart)
    (hsame : r = 0 → imgKind b = 1 → imgVersion b = s.word64 Reg.GLB_FW_RUN_VER.OFF →
      x = (w.showStaging 0 []).lastAnswer s.fw.lastReq s.fw.lastBox 0) : s.verifyDone = x := by
  unfold State.verifyDone
  rw [if_neg (by simp [hf])]
  dsimp only
  rw [← hb, ← hr, ← hu, ← hw, ← hv]
  by_cases h : r = 0
  · rw [if_neg (not_not.2 h)]
    by_cases h2 : imgKind b = 1 ∧ imgVersion b = s.word64 Reg.GLB_FW_RUN_VER.OFF
    · rw [if_pos h2, hsame h h2.1 h2.2]
    · rw [if_neg h2, hnew h (not_and_or.1 h2)]
  · rw [if_pos h, hbad h]

/-- The preload of an activation: its body is what was staged, or it is refused (R505). -/
theorem State.preloadDone_eq {b : List Byte} (hst : s.f Reg.GLB_FW_STAT.STATE = 3) (hb : b = s.imageAt flStaging)
    (hu : u = (s.runImage b false).setF Reg.GLB_FW_STAT.STATE 4)
    (hgood : sha512 (imgBody b) = imgDigest b → v = State.logUpdate
      { u with fw := { u.fw with stagedCopy := b, planAt := s.f Reg.EPL_PLAN_SEQ.INTERVAL } } (imgVersion b) 0 2)
    (hbad : sha512 (imgBody b) ≠ imgDigest b → v = (s.setF Reg.GLB_FW_STAT.STATE 2).fwRefused 3) : s.preloadDone = v := by
  unfold State.preloadDone
  rw [if_neg (by simp [hst])]
  dsimp only
  rw [← hb, ← hu]
  by_cases h : sha512 (imgBody b) = imgDigest b
  · rw [if_neg (not_not.2 h), hgood h]
  · rw [if_pos h, hbad h]

/-- A trial that ends without confirmation falls back (R507). -/
theorem State.fallBack_trial (hst : s.f Reg.GLB_FW_STAT.STATE = 4)
    (hu : u = (s.runImage s.fw.slotCopy (s.flag Reg.GLB_FW_STAT.RAISED)).setF Reg.GLB_FW_STAT.STATE 2)
    (hv : v = ((u.setF Reg.GLB_FW_XFER.RESULT 10).bump Reg.GLB_FW_FALLBACK_CNT.OFF).evt Pg.GLB 6) :
    s.fallBack = (v.glbFault 2 0x0F04).logUpdate (s.word64 Reg.GLB_FW_STG_VER.OFF) 10 4 := by
  unfold State.fallBack
  rw [if_pos hst]
  dsimp only
  rw [← hu, ← hv]

/-- A commit whose copy is read back (R509). -/
theorem State.commitDone_good {b : List Byte} (hst : s.f Reg.GLB_FW_STAT.STATE = 5) (hb : b = s.imageAt flStaging)
    (hu : u = ((s.storeImage b).setDescriptor s.descriptor.2.1 false).showStaging 0 [])
    (hv : v = { u with fw := { u.fw with slotCopy := u.fw.stagedCopy, stagedCopy := [] } }) :
    s.commitDone true = ((v.bump Reg.GLB_FW_COMMIT_CNT.OFF).evt Pg.GLB 5).logUpdate (imgVersion b) 0 3 := by
  unfold State.commitDone
  rw [if_neg (not_not.2 hst), if_pos rfl]
  dsimp only
  rw [← hb, ← hu, ← hv]

/-- A commit whose copy fails is tried again, three times in all (R509). -/
theorem State.commitDone_bad (hst : s.f Reg.GLB_FW_STAT.STATE = 5) (hu : u = (s.bump Reg.GLB_FLASH_ERR_CNT.OFF).flashScramble flImage 256) :
    s.commitDone false = if s.fw.tries < 2 then { u with fw := { u.fw with tries := s.fw.tries + 1 } }
      else (((u.setDescriptor s.descriptor.2.1 false).setF Reg.GLB_FW_STAT.STATE 2).setF Reg.GLB_FW_XFER.RESULT 9).glbFault 2 0x0F05 := by
  unfold State.commitDone
  rw [if_neg (not_not.2 hst), if_neg (by decide)]
  dsimp only
  rw [← hu]

/-- A partner that is not asked in time counts as unchecked (R504). -/
theorem State.compatUnchecked_cons {c : Check} {x : Ask} {l : List Ask} (hc : s.fw.check = some c) (hl : c.asks = x :: l)
    (hu : u = { s with fw := { s.fw with check := some { c with asks := l } } }) : s.compatUnchecked = (u.glbFault 0 0x0F07).checkEnd := by
  subst hu
  simp only [State.compatUnchecked, hc, hl]

end

/-- Settles O52: what is staged, verified or on trial decides each command's effect. -/
theorem imageCommandsAct : Obligations.ImageCommandsAct := by
  intro s hclk
  refine ⟨fun b u v w x r hf hb hr hu hv hw hbad hnew hsame => ?verified, fun k u hact hk hu => ?forward,
    fun a ho => ⟨fun hst => ?activateRefused, fun hst hcheck hpair => ⟨fun hkind => ?keeper, fun hkind hp => ?activate⟩, fun hst => ?confirm,
      fun hst hcheck => ?raise, fun hst => ?raiseRefused⟩,
    fun c x l u hc hl hu => ?unchecked, fun b u v hst hb hu hgood hbad => ?preload, fun u hst hh hu => ?healthy, fun u v hst hu hv => ?fallBack,
    fun hst => ⟨fun b u v hb hu hv => ?commit, fun u hu ht => ?again, fun u hu ht => ?givenUp⟩⟩
  case verified => exact State.event_answers (go := (·.verifyDone)) hclk (State.verifyDone_eq hf hb hr hu hv hw hbad hnew hsame)
  case forward =>
    subst hu
    exact State.live_answers (go := (·.fwdTimeout)) hact (if_pos (by simp [hk]))
  case activateRefused => exact State.reg_answers (go := (·.activate a none)) ho (if_pos (Or.inl hst))
  case keeper => exact State.reg_answers (go := (·.activate a none)) ho (by rw [State.activate_open hst hcheck hpair (Or.inl hkind), if_pos hkind])
  case activate =>
    exact State.reg_answers (go := (·.activate a none)) ho (by rw [State.activate_open hst hcheck hpair (Or.inr hp), if_neg hkind])
  case confirm => exact State.reg_answers (go := (·.fwConfirm)) ho (if_pos hst)
  case raise => exact State.reg_answers (go := (·.raise a)) ho (if_neg (by simp [hst, hcheck]))
  case raiseRefused => exact State.reg_answers (go := (·.raise a)) ho (if_pos (Or.inl hst))
  case unchecked => exact State.event_answers (go := (·.compatUnchecked)) hclk (State.compatUnchecked_cons hc hl hu)
  case preload => exact State.event_answers (go := (·.preloadDone)) hclk (State.preloadDone_eq hst hb hu hgood hbad)
  case healthy =>
    subst hu
    exact State.event_answers (go := (·.healthConfirmed)) hclk (if_pos ⟨hst, hh⟩)
  case fallBack => exact State.event_answers (go := (·.healthTimeout)) hclk (State.fallBack_trial hst hu hv)
  case commit => exact State.event_answers (go := (·.commitDone true)) hclk (State.commitDone_good hst hb hu hv)
  case again => exact State.event_answers (go := (·.commitDone false)) hclk (by rw [State.commitDone_bad hst hu, if_pos ht])
  case givenUp => exact State.event_answers (go := (·.commitDone false)) hclk (by rw [State.commitDone_bad hst hu, if_neg (by omega)])

end Sys2Proof.Machine
end

section
/-! Where a PPA is stored (R36, R278): the part and the remap table give it, and events, messages and the fault collector leave both alone. -/

namespace Sys2Proof.Machine

open Sys2Proof

/-! ### The place of a PPA -/

/-- What decides where a PPA is stored: the part and the remap table (R278). -/
def State.placing (s : State) : Part × List (Nat × Nat × Nat) := (s.part, s.sc.remap)

theorem State.phys_of_placing {s t : State} (h : t.placing = s.placing) (ppa : Nat) : t.phys ppa = s.phys ppa := by
  obtain ⟨hp, hr⟩ := Prod.mk.inj h
  simp only [State.phys, State.spareOf, hp, hr]

theorem Part.sparePpa_mod (p : Part) (k : Nat) : p.sparePpa k % 4096 = 0 := by
  have hc : p.carve % 4096 = 0 := by cases p <;> decide
  simp only [Part.sparePpa, Part.regionPpa, carveRegions, List.getD_cons_succ, List.getD_cons_zero]
  omega

/-- A PPA keeps its place within its granule. -/
theorem State.phys_mod (s : State) (ppa : Nat) : s.phys ppa % 4096 = ppa % 4096 := by
  have h := s.part.sparePpa_mod
  unfold State.phys
  split
  · next k _ =>
    have := h k
    omega
  · rfl

/-- A granule is stored in one piece. -/
theorem State.phys_add (s : State) {x y : Nat} (h : x / 4096 = y / 4096) : s.phys x + y = s.phys y + x := by
  unfold State.phys
  rw [h]
  split <;> omega

section

variable (s : State)

@[simp] theorem State.setF_placing (x : Fld) (v : Nat) : (s.setF x v).placing = s.placing := by simp [State.placing]

@[simp] theorem State.setFlag_placing (x : Fld) (v : Bool) : (s.setFlag x v).placing = s.placing := by simp [State.placing]

@[simp] theorem State.bump_placing (o : Nat) : (s.bump o).placing = s.placing := by simp [State.placing]

/-- A fold of steps each of which keeps what an observation shows. -/
theorem foldl_observed {α β : Type} (obs : State → β) (g : State → α → State) (hg : ∀ u a, obs (g u a) = obs u) (l : List α) :
    obs (l.foldl g s) = obs s := by
  induction l generalizing s with
  | nil => rfl
  | cons a l ih => rw [List.foldl_cons, ih, hg]

/-! ### Events and messages -/

@[simp] theorem State.msix_placing (ld vec : Nat) : (s.msix ld vec).placing = s.placing := by
  unfold State.msix
  split
  · rfl
  · split
    · split <;> rfl
    · rfl

@[simp] theorem State.notifyTo_placing (dst kind code op : Nat) (b : List Byte) : (s.notifyTo dst kind code op b).1.placing = s.placing := by
  have full (t : State × Bool) (ht : t.1.placing = s.placing) :
      (if 64 ≤ s.flt.notify.length then (s.bump Reg.FLT_NOTIFY_DROP_CNT.OFF, true) else t).1.placing = s.placing := by
    split
    · simp
    · exact ht
  unfold State.notifyTo
  split
  · split
    · rfl
    · exact full _ rfl
  · exact full _ rfl

@[simp] theorem State.notifyMgr_placing (kind code op : Nat) (b : List Byte) : (s.notifyMgr kind code op b).1.placing = s.placing := by
  unfold State.notifyMgr
  split
  · split <;> simp
  · simp
  · simp

@[simp] theorem State.evtSet_placing (pg b : Nat) : (s.evtSet pg b).1.placing = s.placing := by
  have deliver (u : State) : (u.deliverEvt pg).1.placing = u.placing := by
    unfold State.deliverEvt
    dsimp only
    split <;> split <;> simp
  unfold State.evtSet
  dsimp only
  split
  · rfl
  · split
    · simp [deliver]
    · simp

@[simp] theorem State.notifyDropped_placing (w : State × Bool) : (State.notifyDropped w).placing = w.1.placing := by
  unfold State.notifyDropped
  split <;> simp

@[simp] theorem State.evt_placing (pg b : Nat) : (s.evt pg b).placing = s.placing := by simp [State.evt]

/-! ### The fault collector -/

@[simp] theorem State.ringPut_placing (r : Rec) : (s.ringPut r).1.placing = s.placing := by
  unfold State.ringPut
  dsimp only
  split
  · simp
  · split
    · split <;> simp
    · split
      · rw [State.evt_placing, State.setF_placing]; rfl
      · rw [State.setF_placing]; rfl

@[simp] theorem State.countFault_placing (source k : Nat) (merged : Bool) : (s.countFault source k merged).placing = s.placing := by
  unfold State.countFault
  dsimp only
  split <;> simp

@[simp] theorem State.deliverRec_placing (r : Rec) (idx : Nat) (dropped : Bool) : (s.deliverRec r idx dropped).placing = s.placing := by
  unfold State.deliverRec
  dsimp only
  split <;> split <;> simp

@[simp] theorem State.fatal_placing (r : Rec) : (s.fatal r).placing = s.placing := by
  have kept : State.placing { s with flt := { s.flt with lastFatal := some r } } = s.placing := rfl
  unfold State.fatal
  dsimp only
  rw [State.evt_placing]
  split
  · rfl
  · exact (State.setFlag_placing _ _ _).trans kept

@[simp] theorem State.writeRec_placing (r : Rec) : (s.writeRec r).1.placing = s.placing := by
  unfold State.writeRec
  dsimp only
  split <;> simp

@[simp] theorem State.escalated_placing (b : Bool) : (s.escalated b).placing = s.placing := by cases b <;> simp [State.escalated]

@[simp] theorem State.storeTake_placing (i n k idx : Nat) (dropped : Bool) : (s.storeTake i n k idx dropped).placing = s.placing := rfl

@[simp] theorem State.storeCount_placing (i : Nat) (e : StoreEnt) : (s.storeCount i e).placing = s.placing := rfl

@[simp] theorem State.ringCount_placing (i : Nat) : (s.ringCount i).placing = s.placing := rfl

@[simp] theorem State.store_placing (r : Rec) (raised : Bool) : (s.store r raised).1.placing = s.placing := by
  unfold State.store
  dsimp only
  split
  · simp
  · split
    · simp
    · simp
    · split
      · simp
      · split <;> simp
    · split <;> simp

@[simp] theorem State.collect_placing (r : Rec) : (s.collect r).1.placing = s.placing := by
  have window (u : State) (x : Rec) : (u.window x).1.placing = u.placing := by
    unfold State.window
    dsimp only
    split
    · rfl
    · split <;> simp
  simp [State.collect, window]

@[simp] theorem State.fault_placing (r : Rec) : (s.fault r).placing = s.placing := by
  have log (u : State) (ld k : Nat) (l : EvLog) : (u.setEvLog ld k l).placing = u.placing := rfl
  have append (u : State) (x : Rec) (ld : Nat) (media : Bool) : (u.evAppend x ld media).placing = u.placing := by
    unfold State.evAppend
    dsimp only
    split
    · split <;> simp [log]
    · simp [log]
  have feed (u : State) (x : Rec) : (u.evFeed x).placing = u.placing := foldl_observed u State.placing _ (fun w ld => by
    split
    · rfl
    · exact append w x ld _) _
  unfold State.fault
  dsimp only
  split
  · simp
  · simp [feed]

/-! ### Counting, retiring and failing -/

/-- What the memory's bytes are and where they stand. -/
def State.media (s : State) : (Part × List (Nat × Nat × Nat)) × List Host.Cell := (s.placing, s.mem)

@[simp] theorem State.setF_media (x : Fld) (v : Nat) : (s.setF x v).media = s.media := by simp [State.media]

@[simp] theorem State.setFlag_media (x : Fld) (v : Bool) : (s.setFlag x v).media = s.media := by simp [State.media]

@[simp] theorem State.bump_media (o : Nat) : (s.bump o).media = s.media := by simp [State.media]

@[simp] theorem State.evt_media (pg b : Nat) : (s.evt pg b).media = s.media := by simp [State.media]

@[simp] theorem State.fault_media (r : Rec) : (s.fault r).media = s.media := by simp [State.media]

@[simp] theorem State.journal_media (r : JRec) : (s.journal r).media = s.media := by
  unfold State.journal
  split <;> rfl

@[simp] theorem State.unpoisonList_media (ppa : Nat) : (s.unpoisonList ppa).media = s.media := rfl

@[simp] theorem State.poisonList_media (ppa : Nat) (injected : Bool) : (s.poisonList ppa injected).media = s.media := by
  unfold State.poisonList
  dsimp only
  split
  · rfl
  · split
    · split <;> simp
    · rfl

@[simp] theorem State.retireStart_media (ppa : Nat) : (s.retireStart ppa).media = s.media := by
  unfold State.retireStart
  dsimp only
  split
  · rfl
  · split
    · rw [State.fault_media, foldl_observed s State.media _ fun u n => State.evt_media u _ _]
    · rfl

@[simp] theorem State.trackCorrection_media (ppa : Nat) : (s.trackCorrection ppa).media = s.media := by
  unfold State.trackCorrection
  dsimp only
  split
  · split
    · rw [State.retireStart_media]; rfl
    · rfl
  · split
    · rfl
    · split <;> rfl

@[simp] theorem State.countCorrected_media (n : Nat) : (s.countCorrected n).media = s.media := by
  unfold State.countCorrected
  dsimp only
  split <;> simp

@[simp] theorem State.failStack_media (n cause : Nat) : (s.failStack n cause).media = s.media := by
  unfold State.failStack
  split
  · rfl
  · dsimp only
    rw [State.fault_media, State.evt_media]
    exact (State.setF_media _ _ _).trans (State.setF_media _ _ _)

@[simp] theorem State.noteUe_media (n : Nat) : (s.noteUe n).media = s.media := by
  unfold State.noteUe
  dsimp only
  split
  · rw [State.failStack_media]; rfl
  · rfl

end

end Sys2Proof.Machine
end

section
/-! Reads and writes of sectors (R249, R265 to R269): whatever a sector holds, only its own bytes change; and a sector that decodes CLEAN reads as
it stands. -/

namespace Sys2Proof.Machine

open Sys2Proof

/-! ### What an operation on a sector changes -/

/-- Between two states no byte changed but those of the sector that holds a PPA, and every PPA is stored where it was. -/
structure OnlySector (s t : State) (ppa : Nat) : Prop where
  placing : t.placing = s.placing
  byte : ∀ a, a < s.phys ppa / 64 * 64 ∨ s.phys ppa / 64 * 64 + 64 ≤ a → t.byte a = s.byte a

namespace OnlySector

variable {s t u : State} {ppa : Nat}

theorem of_media (h : t.media = s.media) : OnlySector s t ppa := by
  obtain ⟨hp, hm⟩ := Prod.mk.inj h
  exact ⟨hp, fun a _ => State.byte_of_mem hm a⟩

theorem refl : OnlySector s s ppa := of_media rfl

theorem trans (h1 : OnlySector s t ppa) (h2 : OnlySector t u ppa) : OnlySector s u ppa :=
  ⟨h2.placing.trans h1.placing, fun a ha => (h2.byte a (by rwa [State.phys_of_placing h1.placing])).trans (h1.byte a ha)⟩

theorem phys (h : OnlySector s t ppa) (x : Nat) : t.phys x = s.phys x := State.phys_of_placing h.placing x

theorem putSector {data : List Byte} (hd : data.length = 64) (c : List Nat) : OnlySector s (s.putSector (s.phys ppa) data c) ppa :=
  ⟨rfl, fun a ha => State.putSector_byte_outside s _ a data c (by rwa [hd])⟩

theorem storeSector {data : List Byte} (hd : data.length = 64) : OnlySector s (s.storeSector ppa data) ppa := putSector hd _

theorem poisonSector : OnlySector s (s.poisonSector ppa) ppa := by
  have hput : OnlySector s (s.putSector (s.phys ppa) (zeros 64) poisonChecks) ppa := putSector (by simp [zeros]) _
  unfold State.poisonSector
  dsimp only
  split
  · exact hput.trans (of_media (by simp))
  · exact hput

theorem writeSector {data : List Byte} (hd : data.length = 64) : OnlySector s (s.writeSector ppa data) ppa := by
  have hput : OnlySector s ((s.storeSector ppa data).unpoisonList ppa) ppa := (storeSector hd).trans (of_media (by simp))
  unfold State.writeSector
  dsimp only
  split
  · exact hput.trans (of_media (by simp))
  · exact hput

theorem corrected {data : List Byte} (hd : data.length = 64) : OnlySector s (s.corrected ppa data) ppa :=
  (storeSector hd).trans (of_media (by rw [State.corrected, State.trackCorrection_media, State.countCorrected_media]))

theorem uncorrectable (code b node : Nat) : OnlySector s (s.uncorrectable ppa code b node) ppa := by
  have repairs (v : State) (g : Nat) : State.media { v with hps := { v.hps with repairAsk := v.hps.repairAsk ++ [g] } } = v.media := rfl
  unfold State.uncorrectable
  dsimp only
  refine poisonSector.trans (of_media ?_)
  split
  · rw [repairs]
    simp
  · simp

end OnlySector

/-! ### Decoding -/

/-- What stands in a sector is decoded. -/
theorem State.decodeSector_nil (s : State) (ppa : Nat) :
    s.decodeSector ppa [] = rsDecode (s.sectorData (s.phys ppa)) (s.sectorChk (s.phys ppa)) := by
  have hl : (s.sectorData (s.phys ppa)).length = 64 := SMap.length_getRun _ _ _
  simp [State.decodeSector, symbolBytes_dataSymbols hl]

/-- Corrected data is a sector's. -/
theorem rsDecode_corrected_length {l d : List Byte} {c : List Nat} (h : rsDecode l c = .corrected d) : d.length = 64 := by
  unfold rsDecode at h
  dsimp only at h
  split at h
  · cases h
  · split at h
    · cases h
    · split at h
      · cases h
        exact symbolBytes_length _
      · cases h

/-- A demand read changes the sector it reads at most. -/
theorem OnlySector.demandSector {s : State} {ppa b node : Nat} : OnlySector s (s.demandSector ppa b node []).1 ppa := by
  unfold State.demandSector
  split
  · exact .refl
  · next d h =>
    dsimp only
    exact .corrected (rsDecode_corrected_length (s.decodeSector_nil ppa ▸ h))
  · dsimp only
    split
    · exact .of_media (by simp)
    · have hb : OnlySector s (s.bump (Reg.SC_POISON_RD_CNT.OFF (s.stackAt ppa))) ppa := .of_media (by simp)
      exact hb.trans (.putSector (by simp [zeros]) _)
  · dsimp only
    exact .uncorrectable _ _ _

/-- A merge changes the sector it writes at most (R249). -/
theorem OnlySector.mergeSector {s : State} {ppa b node : Nat} {put : Nat → Option Byte} : OnlySector s (s.mergeSector ppa b node put).1 ppa := by
  unfold State.mergeSector
  dsimp only
  split
  · dsimp only
    exact OnlySector.demandSector.trans .poisonSector
  · dsimp only
    exact OnlySector.demandSector.trans (.writeSector (by simp))

section

variable {s : State} {ppa b node : Nat}

/-- A sector that decodes CLEAN reads as it stands, and stays as it is. -/
theorem State.demandSector_clean (h : s.sectorClean ppa = true) : s.demandSector ppa b node [] = (s, s.sectorData (s.phys ppa), false) := by
  simp only [State.sectorClean, decide_eq_true_eq] at h
  simp only [State.demandSector, h]

/-- A merge into a sector that decodes CLEAN writes the bytes that are enabled over those that stand (R249). -/
theorem State.mergeSector_clean {put : Nat → Option Byte} (h : s.sectorClean ppa = true) : s.mergeSector ppa b node put =
    (s.writeSector ppa ((List.range 64).map fun i => (put i).getD (byteAt (s.sectorData (s.phys ppa)) i)), false) := by
  simp only [State.mergeSector, State.demandSector_clean h, Bool.false_eq_true, if_false]

theorem State.byteAt_sectorData {a i : Nat} (hi : i < 64) : byteAt (s.sectorData a) i = s.byte (a / 64 * 64 + i) := by
  simp [byteAt, State.sectorData, SMap.getRun_eq, hi, State.byte]

theorem State.sectorData_of_mem {t : State} (h : t.mem = s.mem) (a : Nat) : t.sectorData a = s.sectorData a := by
  rw [State.sectorData, h, State.sectorData]

theorem State.sectorChk_of_chk {t : State} (h : t.chk = s.chk) (a : Nat) : t.sectorChk a = s.sectorChk a := by
  rw [State.sectorChk, h, State.sectorChk]

theorem State.writeSector_mem (s : State) (ppa : Nat) (data : List Byte) : (s.writeSector ppa data).mem = (s.storeSector ppa data).mem := by
  unfold State.writeSector
  dsimp only
  split
  · exact (Prod.mk.inj (State.journal_media _ _)).2
  · rfl

/-- A sector that is written holds the bytes written, and no other byte changes. -/
theorem State.writeSector_byte {f : Nat → Byte} (a : Nat) : (s.writeSector ppa ((List.range 64).map f)).byte a =
    if s.phys ppa / 64 * 64 ≤ a ∧ a < s.phys ppa / 64 * 64 + 64 then f (a - s.phys ppa / 64 * 64) else s.byte a := by
  split
  · next h =>
    have hi : a - s.phys ppa / 64 * 64 < ((List.range 64).map f).length := by
      rw [List.length_map, List.length_range]
      omega
    have hput := State.putSector_byte_inside s (s.phys ppa) _ _ (rsEncode (dataSymbols ((List.range 64).map f))) hi
    rw [Nat.add_sub_cancel' h.1] at hput
    rw [State.byte_of_mem (s.writeSector_mem ppa _), State.storeSector, hput]
    simp
  · next h => exact (OnlySector.writeSector (by simp)).byte a (by omega)

/-- A write leaves the decoding of another sector as it was. -/
theorem State.writeSector_sectorClean_other {x y : Nat} {data : List Byte} (hd : data.length = 64) (hxy : s.phys x / 64 ≠ s.phys y / 64) :
    (s.writeSector x data).sectorClean y = s.sectorClean y := by
  have hchk : (s.writeSector x data).chk = (s.storeSector x data).chk := by
    unfold State.writeSector
    dsimp only
    split
    · unfold State.journal
      split <;> rfl
    · rfl
  have hphys := (OnlySector.writeSector (s := s) (ppa := x) hd).phys y
  have hdata : (s.writeSector x data).sectorData (s.phys y) = s.sectorData (s.phys y) := by
    rw [State.sectorData_of_mem (s.writeSector_mem x data), State.storeSector, State.putSector_sectorData_other _ _ _ _ _ hd hxy]
  have hchecks : (s.writeSector x data).sectorChk (s.phys y) = s.sectorChk (s.phys y) := by
    rw [State.sectorChk_of_chk hchk, State.storeSector, State.putSector_sectorChk_other _ _ _ _ _ (by rw [rsEncode_eq]; rfl) hxy]
  simp only [State.sectorClean, State.decodeSector_nil, hphys, hdata, hchecks]

end

end Sys2Proof.Machine
end

section
/-! Writes and reads of a range within a granule, sector by sector (R18, R19, R28, R249, R267). -/

namespace Sys2Proof.Machine

open Sys2Proof

theorem mem_upTo {lo hi k : Nat} : k ∈ upTo lo hi ↔ lo ≤ k ∧ k < hi := by
  simp only [upTo, List.mem_map, List.mem_range]
  exact ⟨fun ⟨i, hi, h⟩ => by omega, fun h => ⟨k - lo, by omega, by omega⟩⟩

theorem nodup_upTo (lo hi : Nat) : (upTo lo hi).Nodup := List.nodup_range.map fun _ _ h => by omega

/-- Sectors of a stretch within a granule are stored side by side. -/
theorem State.phys_sector (s : State) {ppa len k : Nat} (h0 : 0 < len) (hg : ppa % 4096 + len ≤ 4096) (hk : k ∈ upTo (ppa / 64) ((ppa + len - 1) / 64 + 1)) :
    s.phys (k * 64) + ppa = s.phys ppa + k * 64 := by
  rw [mem_upTo] at hk
  exact s.phys_add (by omega)

/-! ### Writes (R249) -/

/-- The byte that a write of a range puts at a PPA, if any. -/
def putAt (ppa len : Nat) (v : Nat → Option Byte) (x : Nat) : Option Byte := if ppa ≤ x ∧ x < ppa + len then v (x - ppa) else none

/-- What a write of a range does to sector k. -/
def State.writeStep (ppa len b node : Nat) (v : Nat → Option Byte) (acc : State × Bool) (k : Nat) : State × Bool :=
  if (List.range 64).all fun i => (putAt ppa len v (k * 64 + i)).isNone then acc
  else if (List.range 64).all fun i => (putAt ppa len v (k * 64 + i)).isSome then
    (acc.1.writeSector (k * 64) ((List.range 64).map fun i => (putAt ppa len v (k * 64 + i)).getD 0), acc.2)
  else
    let m := acc.1.mergeSector (k * 64) b node fun i => putAt ppa len v (k * 64 + i)
    (m.1, acc.2 || m.2)

section

variable {s : State} {ppa len b node : Nat} {v : Nat → Option Byte}

/-- A write of a range writes its sectors in order. -/
theorem State.writeRange_eq (h0 : 0 < len) :
    s.writeRange ppa len b node v = (upTo (ppa / 64) ((ppa + len - 1) / 64 + 1)).foldl (State.writeStep ppa len b node v) (s, false) := by
  unfold State.writeRange
  exact if_neg (by omega)

theorem State.writeStep_onlySector (acc : State × Bool) (k : Nat) : OnlySector acc.1 (State.writeStep ppa len b node v acc k).1 (k * 64) := by
  unfold State.writeStep
  split
  · exact .refl
  · split
    · exact .writeSector (by simp)
    · exact .mergeSector

/-- A byte outside the sectors written stays. -/
theorem State.writeSteps_byte_outside (ks : List Nat) (acc : State × Bool) (a : Nat)
    (h : ∀ k ∈ ks, a < acc.1.phys (k * 64) / 64 * 64 ∨ acc.1.phys (k * 64) / 64 * 64 + 64 ≤ a) :
    (ks.foldl (State.writeStep ppa len b node v) acc).1.byte a = acc.1.byte a := by
  induction ks generalizing acc with
  | nil => rfl
  | cons k ks ih =>
    have hstep := State.writeStep_onlySector (ppa := ppa) (len := len) (b := b) (node := node) (v := v) acc k
    rw [List.foldl_cons, ih _ fun j hj => by rw [hstep.phys]; exact h j (List.mem_cons_of_mem _ hj)]
    exact hstep.byte a (h k List.mem_cons_self)

/-- Whole sectors are those whose every byte is written. -/
theorem wholeSector_eq (k : Nat) : wholeSector ppa len v k = (List.range 64).all fun i => (putAt ppa len v (k * 64 + i)).isSome := by
  unfold wholeSector putAt
  congr 1
  funext i
  split
  · next h => simp [h.1, h.2]
  · next h => simpa using fun h1 h2 => absurd ⟨h1, h2⟩ h

/-- What a sector holds after a write of a range. -/
def State.putOver (s : State) (ppa len : Nat) (v : Nat → Option Byte) (k i : Nat) : Byte :=
  (putAt ppa len v (k * 64 + i)).getD (s.byte (s.phys (k * 64) / 64 * 64 + i))

/-- A sector that is CLEAN where it is written in part takes the bytes written. -/
theorem State.writeStep_clean {k : Nat} (hc : wholeSector ppa len v k = false → s.sectorClean (k * 64) = true) :
    State.writeStep ppa len b node v (s, false) k =
      (if (List.range 64).all fun i => (putAt ppa len v (k * 64 + i)).isNone then s
        else s.writeSector (k * 64) ((List.range 64).map (s.putOver ppa len v k)), false) := by
  unfold State.writeStep
  split
  · rfl
  · split
    · next hall =>
      have hput : ((List.range 64).map fun i => (putAt ppa len v (k * 64 + i)).getD 0) = (List.range 64).map (s.putOver ppa len v k) := by
        refine List.map_congr_left fun i hi => ?_
        obtain ⟨x, hx⟩ := Option.isSome_iff_exists.1 (List.all_eq_true.1 hall i hi)
        simp [State.putOver, hx]
      rw [hput]
    · next hall =>
      have hput : ((List.range 64).map fun i => (putAt ppa len v (k * 64 + i)).getD (byteAt (s.sectorData (s.phys (k * 64))) i))
          = (List.range 64).map (s.putOver ppa len v k) :=
        List.map_congr_left fun i hi => by rw [State.byteAt_sectorData (List.mem_range.1 hi), State.putOver]
      rw [State.mergeSector_clean (hc (by rw [wholeSector_eq]; simpa using hall)), hput]
      rfl

/-- The bytes after such a write of a sector. -/
theorem State.writeStep_clean_byte {k : Nat} (hc : wholeSector ppa len v k = false → s.sectorClean (k * 64) = true) (a : Nat) :
    (State.writeStep ppa len b node v (s, false) k).1.byte a =
      if s.phys (k * 64) / 64 * 64 ≤ a ∧ a < s.phys (k * 64) / 64 * 64 + 64 then
        (putAt ppa len v (k * 64 + (a - s.phys (k * 64) / 64 * 64))).getD (s.byte a)
      else s.byte a := by
  rw [State.writeStep_clean hc]
  split
  · next hnone =>
    split
    · next h =>
      have hi := List.all_eq_true.1 hnone (a - s.phys (k * 64) / 64 * 64) (List.mem_range.2 (by omega))
      rw [Option.isNone_iff_eq_none.1 hi]
      rfl
    · rfl
  · rw [State.writeSector_byte]
    split
    · next h => rw [State.putOver, Nat.add_sub_cancel' h.1]
    · rfl

/-- Such a write of a sector leaves the decoding of another as it was. -/
theorem State.writeStep_clean_other {j k : Nat} (hc : wholeSector ppa len v k = false → s.sectorClean (k * 64) = true)
    (hjk : s.phys (k * 64) / 64 ≠ s.phys (j * 64) / 64) :
    (State.writeStep ppa len b node v (s, false) k).1.sectorClean (j * 64) = s.sectorClean (j * 64) := by
  rw [State.writeStep_clean hc]
  split
  · rfl
  · exact State.writeSector_sectorClean_other (by simp) hjk

/-- Writes of sectors that stand side by side from a place on. -/
theorem State.writeSteps_clean {ks : List Nat} {place : Nat} (hnodup : ks.Nodup) (hplace : ∀ k ∈ ks, s.phys (k * 64) + ppa = place + k * 64)
    (hc : ∀ k ∈ ks, wholeSector ppa len v k = false → s.sectorClean (k * 64) = true) :
    (ks.foldl (State.writeStep ppa len b node v) (s, false)).2 = false ∧ ∀ a,
      (ks.foldl (State.writeStep ppa len b node v) (s, false)).1.byte a =
        if ∃ k ∈ ks, s.phys (k * 64) ≤ a ∧ a < s.phys (k * 64) + 64 then (putAt ppa len v (a + ppa - place)).getD (s.byte a) else s.byte a := by
  induction ks generalizing s with
  | nil => simp
  | cons k ks ih =>
    obtain ⟨hk, hnodup⟩ := List.nodup_cons.1 hnodup
    obtain ⟨hpk, hplace⟩ := List.forall_mem_cons.1 hplace
    obtain ⟨hck, hc⟩ := List.forall_mem_cons.1 hc
    have hmod (j : Nat) : s.phys (j * 64) % 64 = 0 := by
      have := s.phys_mod (j * 64)
      omega
    have hstep := State.writeStep_onlySector (ppa := ppa) (len := len) (b := b) (node := node) (v := v) (s, false) k
    have happly := State.writeStep_clean (b := b) (node := node) hck
    have hbyte := State.writeStep_clean_byte (b := b) (node := node) hck
    have hother (j : Nat) (hj : j ∈ ks) : s.phys (k * 64) / 64 ≠ s.phys (j * 64) / 64 := by
      have hjk : j ≠ k := fun h => hk (h ▸ hj)
      have := hplace j hj
      have := hmod j
      have := hmod k
      omega
    obtain ⟨t, ht⟩ : ∃ t, State.writeStep ppa len b node v (s, false) k = (t, false) := ⟨_, happly⟩
    have hrest := ih (s := t) hnodup
    rw [ht] at hstep hbyte
    have hphys (x : Nat) : t.phys x = s.phys x := hstep.phys x
    simp only [hphys] at hrest
    have hgo := hrest hplace fun j hj hw => by
      have hkeep := State.writeStep_clean_other (b := b) (node := node) hck (hother j hj)
      rw [ht] at hkeep
      rw [hkeep]
      exact hc j hj hw
    rw [List.foldl_cons, ht]
    refine ⟨hgo.1, fun a => ?_⟩
    have hround : s.phys (k * 64) / 64 * 64 = s.phys (k * 64) := by
      have := hmod k
      omega
    have hhere := hbyte a
    rw [hround] at hhere
    rw [hgo.2 a]
    by_cases hin : s.phys (k * 64) ≤ a ∧ a < s.phys (k * 64) + 64
    · have hlater : ¬ ∃ j ∈ ks, s.phys (j * 64) ≤ a ∧ a < s.phys (j * 64) + 64 := by
        rintro ⟨j, hj, h⟩
        have := hother j hj
        have := hmod j
        have := hmod k
        omega
      rw [if_neg hlater, if_pos ⟨k, List.mem_cons_self, hin⟩]
      rw [if_pos hin, show k * 64 + (a - s.phys (k * 64)) = a + ppa - place by omega] at hhere
      exact hhere
    · rw [if_neg hin] at hhere
      dsimp only at hhere
      rw [hhere]
      simp only [List.exists_mem_cons_iff, hin, false_or]

end

/-- Settles O56: by sectors, each of which changes alone and takes what is written where it decodes CLEAN. -/
theorem storesLandWhereTheyGo : Obligations.StoresLandWhereTheyGo := by
  intro u ppa len b node v _ h0 hg
  have hplace (k : Nat) (hk : k ∈ upTo (ppa / 64) ((ppa + len - 1) / 64 + 1)) := u.phys_sector h0 hg hk
  have hmod := u.phys_mod ppa
  refine ⟨fun a ha => ?_, fun hc => ?_⟩
  · rw [State.writeRange_eq h0]
    refine State.writeSteps_byte_outside _ _ a fun k hk => ?_
    have hp := hplace k hk
    rw [mem_upTo] at hk
    dsimp only
    omega
  · rw [State.writeRange_eq h0]
    obtain ⟨hflag, hbyte⟩ := State.writeSteps_clean (b := b) (node := node) (v := v) (nodup_upTo _ _) hplace fun k hk =>
      hc k (mem_upTo.1 hk).1 (Nat.lt_succ_iff.1 (mem_upTo.1 hk).2)
    refine ⟨hflag, fun a => ?_⟩
    rw [hbyte a]
    by_cases hin : u.phys ppa ≤ a ∧ a < u.phys ppa + len
    · have hk : (a + ppa - u.phys ppa) / 64 ∈ upTo (ppa / 64) ((ppa + len - 1) / 64 + 1) := mem_upTo.2 (by omega)
      have hp := hplace _ hk
      rw [if_pos hin, if_pos ⟨_, hk, by omega⟩, putAt, if_pos (by omega), show a + ppa - u.phys ppa - ppa = a - u.phys ppa by omega]
    · rw [if_neg hin]
      split
      · next h =>
        obtain ⟨k, hk, hbounds⟩ := h
        have hp := hplace k hk
        rw [mem_upTo] at hk
        rw [putAt, if_neg (by omega)]
        rfl
      · rfl

/-! ### Reads (R18, R28, R267) -/

/-- What a read of a range does with sector k. -/
def State.readStep (ppa len b node : Nat) (acc : State × List Byte × Nat) (k : Nat) : State × List Byte × Nat :=
  let d := acc.1.demandSector (k * 64) b node []
  let lo := max ppa (k * 64)
  let hi := min (ppa + len) (k * 64 + 64)
  (d.1, acc.2.1 ++ slice d.2.1 (lo - k * 64) (hi - lo), if d.2.2 then acc.2.2 + 2 ^ (k % 64) else acc.2.2)

section

variable {s : State} {ppa len b node : Nat}

/-- A read of a range reads its sectors in order. -/
theorem State.readRange_eq (h0 : 0 < len) :
    s.readRange ppa len b node = (upTo (ppa / 64) ((ppa + len - 1) / 64 + 1)).foldl (State.readStep ppa len b node) (s, [], 0) := by
  unfold State.readRange
  exact if_neg (by omega)

/-- A sector that decodes CLEAN adds its bytes. -/
theorem State.readStep_clean {l : List Byte} {k : Nat} (hplace : s.phys (k * 64) + ppa = s.phys ppa + k * 64) (hc : s.sectorClean (k * 64) = true) :
    State.readStep ppa len b node (s, l, 0) k = (s, l ++ (List.range (min (ppa + len) (k * 64 + 64) - max ppa (k * 64))).map fun i =>
      s.byte (s.phys ppa + (max ppa (k * 64) - ppa + i)), 0) := by
  have hmod := s.phys_mod (k * 64)
  have hbytes : slice (s.sectorData (s.phys (k * 64))) (max ppa (k * 64) - k * 64) (min (ppa + len) (k * 64 + 64) - max ppa (k * 64))
      = (List.range (min (ppa + len) (k * 64 + 64) - max ppa (k * 64))).map fun i => s.byte (s.phys ppa + (max ppa (k * 64) - ppa + i)) := by
    refine List.map_congr_left fun i hi => ?_
    rw [List.mem_range] at hi
    rw [State.byteAt_sectorData (by omega)]
    congr 1
    omega
  unfold State.readStep
  rw [State.demandSector_clean hc]
  dsimp only
  rw [hbytes, if_neg (by decide)]

/-- The first sectors of a range, all CLEAN, give its first bytes. -/
theorem State.readSteps_clean (hplace : ∀ k, ppa / 64 ≤ k → k ≤ (ppa + len - 1) / 64 → s.phys (k * 64) + ppa = s.phys ppa + k * 64)
    (hc : ∀ k, ppa / 64 ≤ k → k ≤ (ppa + len - 1) / 64 → s.sectorClean (k * 64) = true) (n : Nat) (hn : ppa / 64 + n ≤ (ppa + len - 1) / 64 + 1) :
    ((List.range n).map (ppa / 64 + ·)).foldl (State.readStep ppa len b node) (s, [], 0) =
      (s, (List.range (min len ((ppa / 64 + n) * 64 - ppa))).map fun i => s.byte (s.phys ppa + i), 0) := by
  induction n with
  | zero =>
    have hnone : min len ((ppa / 64 + 0) * 64 - ppa) = 0 := by omega
    rw [hnone]
    rfl
  | succ n ih =>
    have hk : ppa / 64 + n ≤ (ppa + len - 1) / 64 := by omega
    rw [List.range_succ, List.map_append, List.foldl_append, ih (by omega)]
    have hstep := State.readStep_clean (len := len) (b := b) (node := node)
      (l := (List.range (min len ((ppa / 64 + n) * 64 - ppa))).map fun i => s.byte (s.phys ppa + i))
      (hplace _ (Nat.le_add_right _ n) hk) (hc _ (Nat.le_add_right _ n) hk)
    have hlo : max ppa ((ppa / 64 + n) * 64) - ppa = min len ((ppa / 64 + n) * 64 - ppa) := by omega
    have hsum : min len ((ppa / 64 + (n + 1)) * 64 - ppa) = min len ((ppa / 64 + n) * 64 - ppa)
        + (min (ppa + len) ((ppa / 64 + n) * 64 + 64) - max ppa ((ppa / 64 + n) * 64)) := by omega
    rw [hlo] at hstep
    rw [List.map_singleton, List.foldl_cons, List.foldl_nil, hstep, hsum, List.range_add, List.map_append, List.map_map]
    rfl

theorem getRun_replicate {d : Nat → Byte} {m : List (Nat × Byte)} {x : Byte} {k n : Nat} (h : ∀ i, i < n → SMap.get d m (k + i) = x) :
    SMap.getRun d m k n = List.replicate n x := by
  rw [SMap.getRun_eq, List.eq_replicate_iff]
  refine ⟨by simp, fun y hy => ?_⟩
  obtain ⟨i, hi, rfl⟩ := List.mem_map.1 hy
  exact h i (List.mem_range.1 hi)

theorem slice_zeros (m i n : Nat) : slice (zeros m) i n = zeros n := by
  rw [zeros, zeros, List.eq_replicate_iff]
  refine ⟨by simp [slice], fun y hy => ?_⟩
  obtain ⟨j, -, rfl⟩ := List.mem_map.1 hy
  simp only [byteAt, List.getD_eq_getElem?_getD, List.getElem?_replicate]
  split <;> rfl

/-- A sector of zeros with check bytes of ones, as it stands before the first write, is read as poison (R28, R267). -/
theorem State.demandSector_unwritten (hdata : s.sectorData (s.phys ppa) = zeros 64) (hchk : s.sectorChk (s.phys ppa) = List.replicate 4 0xFFFF) :
    (s.demandSector ppa b node []).2 = (zeros 64, true) := by
  have hdec : rsDecode (zeros 64) (List.replicate 4 0xFFFF) = .uncorrectable := by decide +kernel
  unfold State.demandSector
  rw [State.decodeSector_nil, hdata, hchk, hdec]

end

/-- Settles O57: sectors that decode CLEAN add their bytes in turn, and one that was never written adds zeros and its bit. -/
theorem readsReturnWhatStands : Obligations.ReadsReturnWhatStands := by
  intro u ppa len b node h0 hg
  refine ⟨fun hc => ?clean, fun hone hdata hchk => ?unwritten⟩
  case clean =>
    have hplace (k : Nat) (h1 : ppa / 64 ≤ k) (h2 : k ≤ (ppa + len - 1) / 64) := u.phys_sector h0 hg (mem_upTo.2 ⟨h1, Nat.lt_succ_of_le h2⟩)
    have hall := State.readSteps_clean (b := b) (node := node) hplace hc ((ppa + len - 1) / 64 + 1 - ppa / 64) (by omega)
    have hlen : min len ((ppa / 64 + ((ppa + len - 1) / 64 + 1 - ppa / 64)) * 64 - ppa) = len := by omega
    rw [hlen] at hall
    rw [State.readRange_eq h0]
    exact hall
  case unwritten =>
    have hmod := u.phys_mod (ppa / 64 * 64)
    have hround : u.phys (ppa / 64 * 64) / 64 * 64 = u.phys (ppa / 64 * 64) := by omega
    have hzero : u.sectorData (u.phys (ppa / 64 * 64)) = zeros 64 := by
      rw [State.sectorData, hround]
      exact getRun_replicate hdata
    have hones : u.sectorChk (u.phys (ppa / 64 * 64)) = List.replicate 4 0xFFFF := by
      have hrun : SMap.getRun chkReset u.chk (u.phys (ppa / 64 * 64) / 64 * 8) 8 = List.replicate 8 0xFF := getRun_replicate hchk
      rw [State.sectorChk, hrun]
      decide
    have hd := State.demandSector_unwritten (b := b) (node := node) hzero hones
    have hk : upTo (ppa / 64) ((ppa + len - 1) / 64 + 1) = [ppa / 64] := by
      rw [hone, upTo, Nat.add_sub_cancel_left]
      simp
    rw [State.readRange_eq h0, hk, List.foldl_cons, List.foldl_nil, State.readStep]
    dsimp only
    rw [hd, slice_zeros, show min (ppa + len) (ppa / 64 * 64 + 64) - max ppa (ppa / 64 * 64) = len by omega, if_pos rfl, List.nil_append, Nat.zero_add]

end Sys2Proof.Machine
end
